-- ==== Sys2Proof/Word.lean ====
section
/-!
DEFINITION. The native word of the KZ72 (spec/00_scope.md R2, R3) and the plainest accessors of its two views.
-/
namespace Sys2Proof

/-- A word is 72 bits (R2). -/
abbrev Word := BitVec 72
/-- The value part of a word, bits [63:0] (R3). -/
abbrev Value := BitVec 64
/-- The provenance byte, bits [71:64] (R3, R33). -/
abbrev Prov := BitVec 8

end Sys2Proof
end

