-- ==== Sys2Proof/Syntax.lean ====
section
/-!
DEFINITION. The commands of the KZ72 block and the shapes of their operands. A command is what reaches the block from
outside, an instruction one of its cores or cataloguers executes, or an event of its own engines whose condition the
command's meaning checks in the state.
-/
namespace Sys2Proof

/-- A ledger register number (R94). -/
abbrev Reg := BitVec 6

/-- Who executes a Yilfixa-72 instruction: core 2p + k of pair p, or a cataloguer (R39, R144). -/
inductive Exu where
  | core (c : Fin 16)
  | cu (n : Fin 64)
  deriving DecidableEq, Repr

/-- The identities of a transaction and the CRIT it carries (R38, R474). -/
structure Ident where
  master : BitVec 6 := 0
  carrel : BitVec 9 := 0
  lib : Bool := true
  crit : BitVec 2 := 0b11#2
  deriving DecidableEq, Repr

/-- The kinds of transaction (R468). -/
inductive TKind where
  | read | write | cas | fetch | walk
  deriving DecidableEq, Repr

/-- A transaction as it reaches a target (R468): kind, word address, identities, data, CASW's expected word, whether it
covers a whole word (R465), and whether its master number matches its port of entry (R29). -/
structure Txn where
  kind : TKind := .read
  addr : BitVec 48 := 0
  id : Ident := {}
  data : Word := 0
  expect : Word := 0
  whole : Bool := true
  portOk : Bool := true
  deriving DecidableEq, Repr

/-- The tiles of R11 and R12. -/
inductive Tile where
  | pair (p : Fin 8) | l2 (c : Fin 4)
  | catMem (t : Fin 4) | cataloguer (t : Fin 8) | collation
  | switchCore | cellMem | macsec | t1s | serdes | uplinks
  | can (k : Fin 4) | lin | netSleep
  | sram (t : Fin 8) | mram | xspi | fillScrub | archive
  | time | ioc | carrelTable | strongroom | twinBridge | debug
  | aon | sequencer | switches | gates (g : Fin 3) | measurement
  deriving DecidableEq, Repr

/-- A frame as the switch, the controllers and the twin bring it: its octets. -/
abbrev Octets := List (BitVec 8)

/-- What is still to come of a frame when bits of it arrive (R203, R306): for CAN the bits left at the nominal bit time and
at the data bit time, those of each that are dynamically stuffed, and the bits left at the CAN XL data bit time; for LIN
the response octets left. -/
structure Left where
  nom : Nat := 0
  data : Nat := 0
  stNom : Nat := 0
  stData : Nat := 0
  xl : Nat := 0
  octets : Nat := 0
  deriving DecidableEq, Repr

/-- What MACsec sees of a received frame (R281): the secure channel and association it names, its packet number, and
whether its ICV is good. -/
structure SecIn where
  sc : Fin 8
  an : Fin 4
  pn : BitVec 64
  icv : Bool
  deriving DecidableEq, Repr

/-- Where a frame that enters the switch comes from: octets from a wire (from the destination address to the last payload
octet; a frame may come in several pieces, `fin` marks the last one and `bad` a failed check), the next descriptor of a
transmit ring, or what an internal port has to send. -/
inductive FrameIn where
  | wire (octets : Octets) (fin bad : Bool) (sec : Option SecIn)
  | ring (r : Fin 64)
  | internal
  deriving DecidableEq, Repr

/-- What answers an outbound twin-window transaction (R484): nothing yet, a completion, a word, or an error. -/
inductive TwinAns where
  | none | done
  | word (w : Word)
  | err (r : BitVec 3)
  deriving DecidableEq, Repr

/-- Where a channel command comes from (R362): the reflex queue's oldest LOAD slip, or a write of LOAD_CHc_CMD of channel c by
a transaction with an identity (software, or the twin's over the bridge). -/
inductive CmdSrc where
  | slip
  | write (id : Ident) (c : Fin 32) (w : BitVec 64)
  deriving DecidableEq, Repr

/-- The commands: one constructor for each row of spec/opcode_table.json. -/
inductive Instr where
  /-- REGISTER_WRITE (R7): A write to an MMIO register that has no row of its own is checked against reserved bits, encodings and ranges, then applied or refused whole. -/
  | registerWrite (id : Ident) (a : BitVec 48) (w : Word)
  /-- SYS_FAULT_CTL_WRITE (R51): A librarian write to SYS_FAULT_CTL sets FAULT_LEVEL, SAFE_IN_EN, FAULT_TEST or the WONCE LOCK, which may start or end SAFE_N forcing. -/
  | sysFaultCtlWrite (id : Ident) (w : BitVec 64)
  /-- SAFE_N_FALL (R48): A low level appears on SAFE_N and the 2 µs recognition filter starts. -/
  | safeNFall
  /-- SAFE_N_RECOGNISED (R48): SAFE_N has been low for 2 µs; it is recognised, archived and noticed, and forces every channel's demand to its safe state when SAFE_IN_EN = 1. -/
  | safeNRecognised
  /-- SAFE_N_RISE (R49): SAFE_N returns high; forcing ends, commands are accepted again and the return is archived and noticed. -/
  | safeNRise
  /-- D2D_LINK_DOWN (R15): The die-to-die link goes down on an uncorrectable word; the power die treats the compute die as absent and applies leases, and a device-class fault is raised. -/
  | d2dLinkDown
  /-- D2D_LINK_UP (R15): The die-to-die link finishes retraining; the compute die resends every channel's command and held power-die events are delivered. -/
  | d2dLinkUp
  /-- PARITY_MISMATCH (R17): A parity or duplication mismatch in flip-flop state is detected as a contained-class fault of its tile. -/
  | parityMismatch (t : Tile) (u : BitVec 6)
  /-- TILE_RESET (R27): A tile closes its ports, drains accepted transactions, resets its units and reopens its ports. -/
  | tileReset (t : Tile)
  /-- UNIT_RESET (R23): A unit returns its registers to reset values and discards its queued work without touching other units. -/
  | unitReset (t : Tile) (u : BitVec 6)
  /-- TRANSACTION_CHECK (R470): A fabric transaction reaching a target is checked in order for narrowness, decode, identity, port, lockstep, permit, floor, withdrawal, tag and target rules, then performed or refused. -/
  | transactionCheck (t : Txn)
  /-- TRANSACTION_TIMEOUT (R481): A transaction with no response after PERM_CTL.TMO receives FAILED and raises a contained fault in the target's tile. -/
  | transactionTimeout (t : Txn)
  /-- GTC_COUNTER_MISMATCH (R55): The two GTC counters differ, which is a device-class GTC fault. -/
  | gtcCounterMismatch (flip : BitVec 64)
  /-- PLL_LOSS_OF_LOCK (R584): A PLL in use loses lock, which is a device-class fault. -/
  | pllLossOfLock (p : Fin 3)
  /-- REFERENCE_CLOCK_LOSS (R584): No edge of the 25 MHz reference arrives for 200 ns, which is a device-class fault. -/
  | referenceClockLoss
  /-- ALIGNMENT_WORD (R56): The power die receives a GTC alignment word every 1,024 ns and corrects its copy, raising a GTC fault beyond 8 ns. -/
  | alignmentWord (dev : BitVec 8)
  /-- PWR_COPY_HOLD_END (R57): The compute-die GTC reaches the held power-die copy, which resumes advancing and clears PWR_HELD. -/
  | pwrCopyHoldEnd
  /-- NIGHT_CRYSTAL_FAIL (R61): The 32.768 kHz crystal fails and the night clock falls back to the RC oscillator. -/
  | nightCrystalFail
  /-- GTC_RECONCILE (R60): At the first night-clock edge after PLL_TIME lock the fine GTC on both dies is loaded from the coarse count. -/
  | gtcReconcile
  /-- EVENT_RELEASE (R66): An ordered stream releases an event once the GTC reaches its stamp plus the ordering or twin hold, queuing it if its source is enabled. -/
  | eventRelease (c : BitVec 9)
  /-- WAITE_DEADLINE (R140): The GTC passes a WAITE deadline with no notice and WAITE returns the 0xFFF header. -/
  | waiteDeadline (c : Fin 16)
  /-- NOTICE_TRAP (R143): A NOTICE trap is taken at an instruction boundary when TRAP_EN, PENDING and TE are 1 and the core is not in supervisor WAITE. -/
  | noticeTrap (c : Fin 16)
  /-- ALMANAC_STEP (R73): A write to TIME_ALM_STEP adds a signed offset to the almanac at the next cycle, or is refused if out of range. -/
  | almanacStep (id : Ident) (w : BitVec 64)
  /-- SYNC_LOSS_TIMEOUT (R74): The working domain's Sync messages stop for LOSS_MS and HOLDOVER is set. -/
  | syncLossTimeout
  /-- SYNC_RELAY (R263): A gPTP Sync arriving on SLAVE_PORT goes to the management ring and is relayed with an updated correctionField. -/
  | syncRelay (d : Fin 2) (x : Octets) (ago : BitVec 32)
  /-- PPS_CAPTURE (R80): The selected PPS_IN edge captures the almanac and GTC and raises source 0xC42. -/
  | ppsCapture (rising : Bool)
  /-- TRIGGER_CTL_WRITE (R84): A write to a time-trigger slot's registers is checked against the enable rules and may arm or disarm the slot. -/
  | triggerCtlWrite (id : Ident) (n : Fin 64) (k : Fin 16) (w : BitVec 64)
  /-- TRIGGER_FIRE (R81): An enabled slot's base reaches its compare value; the slot fires, performs its actions and computes its next compare value. -/
  | triggerFire (n : Fin 64)
  /-- PULSE_END (R82): A slot's pulse of WID ns ends and its pin returns to the inactive level. -/
  | pulseEnd (n : Fin 64)
  /-- TIME_LATE_CLR (R89): A write of 1 to TIME_LATE_CNT.CLR sets the late-event count to zero. -/
  | timeLateClr (id : Ident)
  /-- ADD (R149): Adds two registers with merged provenance. -/
  | add (x : Exu) (rd : Reg) (ra : Reg) (rb : Reg)
  /-- SUB (R149): Subtracts two registers with merged provenance. -/
  | sub (x : Exu) (rd : Reg) (ra : Reg) (rb : Reg)
  /-- AND (R149): Bitwise AND of two registers with merged provenance. -/
  | and (x : Exu) (rd : Reg) (ra : Reg) (rb : Reg)
  /-- OR (R149): Bitwise OR of two registers with merged provenance. -/
  | or (x : Exu) (rd : Reg) (ra : Reg) (rb : Reg)
  /-- XOR (R149): Bitwise XOR of two registers with merged provenance. -/
  | xor (x : Exu) (rd : Reg) (ra : Reg) (rb : Reg)
  /-- ANDN (R149): AND of a register with the complement of another. -/
  | andn (x : Exu) (rd : Reg) (ra : Reg) (rb : Reg)
  /-- SHL (R149): Shifts left by a register amount, keeping a.p. -/
  | shl (x : Exu) (rd : Reg) (ra : Reg) (rb : Reg)
  /-- SHR (R149): Logical shift right by a register amount. -/
  | shr (x : Exu) (rd : Reg) (ra : Reg) (rb : Reg)
  /-- SAR (R149): Arithmetic shift right by a register amount. -/
  | sar (x : Exu) (rd : Reg) (ra : Reg) (rb : Reg)
  /-- ROT (R149): Rotates left by a register amount. -/
  | rot (x : Exu) (rd : Reg) (ra : Reg) (rb : Reg)
  /-- MIN (R149): Signed minimum with merged provenance. -/
  | min (x : Exu) (rd : Reg) (ra : Reg) (rb : Reg)
  /-- MAX (R149): Signed maximum with merged provenance. -/
  | max (x : Exu) (rd : Reg) (ra : Reg) (rb : Reg)
  /-- MINU (R149): Unsigned minimum with merged provenance. -/
  | minu (x : Exu) (rd : Reg) (ra : Reg) (rb : Reg)
  /-- MAXU (R149): Unsigned maximum with merged provenance. -/
  | maxu (x : Exu) (rd : Reg) (ra : Reg) (rb : Reg)
  /-- CMPEQ (R149): Sets 1 if two registers are equal. -/
  | cmpeq (x : Exu) (rd : Reg) (ra : Reg) (rb : Reg)
  /-- CMPNE (R149): Sets 1 if two registers differ. -/
  | cmpne (x : Exu) (rd : Reg) (ra : Reg) (rb : Reg)
  /-- CMPLT (R149): Sets 1 if a is signed less than b. -/
  | cmplt (x : Exu) (rd : Reg) (ra : Reg) (rb : Reg)
  /-- CMPLTU (R149): Sets 1 if a is unsigned less than b. -/
  | cmpltu (x : Exu) (rd : Reg) (ra : Reg) (rb : Reg)
  /-- CMPLE (R149): Sets 1 if a is signed at most b. -/
  | cmple (x : Exu) (rd : Reg) (ra : Reg) (rb : Reg)
  /-- CMPLEU (R149): Sets 1 if a is unsigned at most b. -/
  | cmpleu (x : Exu) (rd : Reg) (ra : Reg) (rb : Reg)
  /-- MUL (R150): Low 64 bits of the product. -/
  | mul (x : Exu) (rd : Reg) (ra : Reg) (rb : Reg)
  /-- MULH (R150): High 64 bits of the signed product. -/
  | mulh (x : Exu) (rd : Reg) (ra : Reg) (rb : Reg)
  /-- MULHU (R150): High 64 bits of the unsigned product. -/
  | mulhu (x : Exu) (rd : Reg) (ra : Reg) (rb : Reg)
  /-- DIV (R150): Signed quotient, with VAL raised on division by zero. -/
  | div (x : Exu) (rd : Reg) (ra : Reg) (rb : Reg)
  /-- DIVU (R150): Unsigned quotient, with VAL raised on division by zero. -/
  | divu (x : Exu) (rd : Reg) (ra : Reg) (rb : Reg)
  /-- REM (R150): Signed remainder, with VAL raised on division by zero. -/
  | rem (x : Exu) (rd : Reg) (ra : Reg) (rb : Reg)
  /-- REMU (R150): Unsigned remainder, with VAL raised on division by zero. -/
  | remu (x : Exu) (rd : Reg) (ra : Reg) (rb : Reg)
  /-- FADD (R158): Binary64 addition under DK_FCSR.RM. -/
  | fadd (x : Exu) (rd : Reg) (ra : Reg) (rb : Reg)
  /-- FSUB (R158): Binary64 subtraction. -/
  | fsub (x : Exu) (rd : Reg) (ra : Reg) (rb : Reg)
  /-- FMUL (R158): Binary64 multiplication. -/
  | fmul (x : Exu) (rd : Reg) (ra : Reg) (rb : Reg)
  /-- FDIV (R158): Binary64 division. -/
  | fdiv (x : Exu) (rd : Reg) (ra : Reg) (rb : Reg)
  /-- FSQRT (R158): Binary64 square root. -/
  | fsqrt (x : Exu) (rd : Reg) (ra : Reg) (rb : Reg)
  /-- FMIN (R158): Smaller binary64 operand. -/
  | fmin (x : Exu) (rd : Reg) (ra : Reg) (rb : Reg)
  /-- FMAX (R158): Larger binary64 operand. -/
  | fmax (x : Exu) (rd : Reg) (ra : Reg) (rb : Reg)
  /-- FCMPEQ (R158): Binary64 equality compare. -/
  | fcmpeq (x : Exu) (rd : Reg) (ra : Reg) (rb : Reg)
  /-- FCMPLT (R158): Binary64 less-than compare. -/
  | fcmplt (x : Exu) (rd : Reg) (ra : Reg) (rb : Reg)
  /-- FCMPLE (R158): Binary64 less-or-equal compare. -/
  | fcmple (x : Exu) (rd : Reg) (ra : Reg) (rb : Reg)
  /-- FNEG (R158): Inverts the sign bit. -/
  | fneg (x : Exu) (rd : Reg) (ra : Reg) (rb : Reg)
  /-- FABS (R158): Clears the sign bit. -/
  | fabs (x : Exu) (rd : Reg) (ra : Reg) (rb : Reg)
  /-- FCVTDL (R158): Signed integer to binary64. -/
  | fcvtdl (x : Exu) (rd : Reg) (ra : Reg) (rb : Reg)
  /-- FCVTDLU (R158): Unsigned integer to binary64. -/
  | fcvtdlu (x : Exu) (rd : Reg) (ra : Reg) (rb : Reg)
  /-- FCVTLD (R159): Binary64 to signed integer with saturation. -/
  | fcvtld (x : Exu) (rd : Reg) (ra : Reg) (rb : Reg)
  /-- FCVTLUD (R159): Binary64 to unsigned integer with saturation. -/
  | fcvtlud (x : Exu) (rd : Reg) (ra : Reg) (rb : Reg)
  /-- FMA (R160): Fused a × b + c. -/
  | fma (x : Exu) (rd : Reg) (ra : Reg) (rb : Reg) (rc : Reg)
  /-- FMS (R160): Fused a × b − c. -/
  | fms (x : Exu) (rd : Reg) (ra : Reg) (rb : Reg) (rc : Reg)
  /-- FNMA (R160): Fused −(a × b) + c. -/
  | fnma (x : Exu) (rd : Reg) (ra : Reg) (rb : Reg) (rc : Reg)
  /-- XBF (R153): Extracts a zero-extended bit field. -/
  | xbf (x : Exu) (rd : Reg) (ra : Reg) (rb : Reg) (pos : BitVec 6) (wm : BitVec 6)
  /-- XBFS (R153): Extracts a sign-extended bit field. -/
  | xbfs (x : Exu) (rd : Reg) (ra : Reg) (rb : Reg) (pos : BitVec 6) (wm : BitVec 6)
  /-- IBF (R153): Inserts a bit field into rd with merged provenance. -/
  | ibf (x : Exu) (rd : Reg) (ra : Reg) (rb : Reg) (pos : BitVec 6) (wm : BitVec 6)
  /-- XOCT (R154): Extracts one octet in the octet view. -/
  | xoct (x : Exu) (rd : Reg) (ra : Reg) (rb : Reg) (fn : BitVec 12)
  /-- IOCT (R154): Inserts one octet in the octet view, position 0 setting the provenance byte. -/
  | ioct (x : Exu) (rd : Reg) (ra : Reg) (rb : Reg) (fn : BitVec 12)
  /-- PGET (R155): Returns a register's provenance byte as a value. -/
  | pget (x : Exu) (rd : Reg) (ra : Reg) (rb : Reg)
  /-- PSET (R155): Sets a register's provenance from another register. -/
  | pset (x : Exu) (rd : Reg) (ra : Reg) (rb : Reg)
  /-- PMRG (R155): Merges two provenance bytes onto a's value. -/
  | pmrg (x : Exu) (rd : Reg) (ra : Reg) (rb : Reg)
  /-- ADDI (R151): Adds a sign-extended immediate. -/
  | addi (x : Exu) (rd : Reg) (ra : Reg) (imm : BitVec 18)
  /-- ANDI (R151): ANDs a zero-extended immediate. -/
  | andi (x : Exu) (rd : Reg) (ra : Reg) (imm : BitVec 18)
  /-- ORI (R151): ORs a zero-extended immediate. -/
  | ori (x : Exu) (rd : Reg) (ra : Reg) (imm : BitVec 18)
  /-- XORI (R151): XORs a zero-extended immediate. -/
  | xori (x : Exu) (rd : Reg) (ra : Reg) (imm : BitVec 18)
  /-- SHLI (R151): Shifts left by an immediate amount. -/
  | shli (x : Exu) (rd : Reg) (ra : Reg) (hi : BitVec 10) (amt : BitVec 6)
  /-- SHRI (R151): Logical shift right by an immediate amount. -/
  | shri (x : Exu) (rd : Reg) (ra : Reg) (hi : BitVec 10) (amt : BitVec 6)
  /-- SARI (R151): Arithmetic shift right by an immediate amount. -/
  | sari (x : Exu) (rd : Reg) (ra : Reg) (hi : BitVec 10) (amt : BitVec 6)
  /-- ROTI (R151): Rotates left by an immediate amount. -/
  | roti (x : Exu) (rd : Reg) (ra : Reg) (hi : BitVec 10) (amt : BitVec 6)
  /-- CMPEQI (R151): Compares a register with an immediate for equality. -/
  | cmpeqi (x : Exu) (rd : Reg) (ra : Reg) (imm : BitVec 18)
  /-- CMPLTI (R151): Signed less-than compare with an immediate. -/
  | cmplti (x : Exu) (rd : Reg) (ra : Reg) (imm : BitVec 18)
  /-- PSETI (R155): Sets a register's provenance from an immediate. -/
  | pseti (x : Exu) (rd : Reg) (ra : Reg) (imm : BitVec 18)
  /-- PCHK (R155): Traps PROVENANCE if a provenance byte does not meet the mask. -/
  | pchk (x : Exu) (rd : Reg) (ra : Reg) (imm : BitVec 18)
  /-- PTST (R155): Returns 1 if a provenance byte meets the mask. -/
  | ptst (x : Exu) (rd : Reg) (ra : Reg) (imm : BitVec 18)
  /-- LDW (R161): Loads a word through translation, caches and the fabric. -/
  | ldw (x : Exu) (rd : Reg) (ra : Reg) (imm : BitVec 18)
  /-- STW (R161): Stores a word with CRIT clamped to the carrel's ceiling. -/
  | stw (x : Exu) (rd : Reg) (ra : Reg) (imm : BitVec 18)
  /-- CASW (R162): Compares a whole word and writes a new word if equal, returning the old word. -/
  | casw (x : Exu) (rd : Reg) (ra : Reg) (rb : Reg) (fn : BitVec 12)
  /-- CATR (R163): Returns an entry's confirmed word with computed staleness. -/
  | catr (x : Exu) (rd : Reg) (ra : Reg) (imm : BitVec 18)
  /-- CATRP (R163): Returns an entry's current word, provisional flag shown. -/
  | catrp (x : Exu) (rd : Reg) (ra : Reg) (imm : BitVec 18)
  /-- CATW (R163): Writes a software value into a software entry and accessions it at once. -/
  | catw (x : Exu) (rd : Reg) (ra : Reg) (imm : BitVec 18)
  /-- CATW_SLIP_WALK (R186): After a CATW commits, the entry's slip list is walked as at accession. -/
  | catwSlipWalk
  /-- EMIT (R225): A cataloguer hands a word with the run's mask to an output-map slip list. -/
  | emit (x : Exu) (rd : Reg) (ra : Reg) (imm : BitVec 18)
  /-- WAITE (R164): Takes the oldest released notice, or on a cataloguer the next trigger, or waits for one. -/
  | waite (x : Exu) (rd : Reg) (ra : Reg) (rb : Reg) (fn : BitVec 12)
  /-- BEQ (R166): Branches if two registers are equal. -/
  | beq (x : Exu) (ra : Reg) (rb : Reg) (disp : BitVec 12)
  /-- BNE (R166): Branches if two registers differ. -/
  | bne (x : Exu) (ra : Reg) (rb : Reg) (disp : BitVec 12)
  /-- BLT (R166): Branches if signed less than. -/
  | blt (x : Exu) (ra : Reg) (rb : Reg) (disp : BitVec 12)
  /-- BGE (R166): Branches if signed greater or equal. -/
  | bge (x : Exu) (ra : Reg) (rb : Reg) (disp : BitVec 12)
  /-- BLTU (R166): Branches if unsigned less than. -/
  | bltu (x : Exu) (ra : Reg) (rb : Reg) (disp : BitVec 12)
  /-- BGEU (R166): Branches if unsigned greater or equal. -/
  | bgeu (x : Exu) (ra : Reg) (rb : Reg) (disp : BitVec 12)
  /-- CALL (R167): Writes a link word and jumps by a 24-bit displacement. -/
  | call (x : Exu) (rd : Reg) (imm : BitVec 24)
  /-- CALLR (R167): Writes a link word and jumps to a register plus offset. -/
  | callr (x : Exu) (rd : Reg) (ra : Reg) (imm : BitVec 18)
  /-- LI (R152): Loads a sign-extended 24-bit immediate. -/
  | li (x : Exu) (rd : Reg) (imm : BitVec 24)
  /-- LSH (R152): Shifts a register left by 24 and ORs in a 24-bit immediate. -/
  | lsh (x : Exu) (rd : Reg) (imm : BitVec 24)
  /-- BRK (R103): Enters debug or raises BREAKPOINT, SERVICE or LIB_SERVICE according to its code. -/
  | brk (x : Exu) (rd : Reg) (imm : BitVec 24)
  /-- DRD (R104): Copies a desk register into a ledger register. -/
  | drd (x : Exu) (rd : Reg) (ra : Reg) (rb : Reg) (hi : BitVec 8)
  /-- DWR (R104): Writes a ledger register to a desk register. -/
  | dwr (x : Exu) (rd : Reg) (ra : Reg) (rb : Reg) (hi : BitVec 8)
  /-- TLB_FLUSH (R117): A DWR to LK_TLBFL fences, removes a carrel's or all translations from every core and commits when they are gone. -/
  | tlbFlush (x : Exu) (ra : Reg)
  /-- MBX_PUT (R506): Writes a word into the sender's desk direction while it is EMPTY and sets its DIRTY bit. -/
  | mbxPut (x : Exu) (rd : Reg) (ra : Reg) (rb : Reg) (hi : BitVec 8)
  /-- MBX_GET (R506): Reads a word of the receiving desk direction. -/
  | mbxGet (x : Exu) (rd : Reg) (ra : Reg) (rb : Reg) (hi : BitVec 8)
  /-- MBX_RING (R506): Releases the ringer's receiving direction, hands over its sending direction and rings the other side's doorbell. -/
  | mbxRing (x : Exu) (rd : Reg) (ra : Reg) (rb : Reg) (hi : BitVec 8)
  /-- CSW (R171): The librarian saves the current carrel's context and switches in another carrel. -/
  | csw (x : Exu) (rd : Reg) (ra : Reg) (rb : Reg) (hi : BitVec 8)
  /-- FENCE (R123): Waits until the core's earlier memory, CATW, MMIO and MBX operations are visible. -/
  | fence (x : Exu) (rd : Reg) (ra : Reg) (rb : Reg) (hi : BitVec 8)
  /-- SYNC (R124): Commits after all earlier instructions and refetches later ones. -/
  | sync (x : Exu) (rd : Reg) (ra : Reg) (rb : Reg) (hi : BitVec 8)
  /-- RETT (R135): Returns from a trap, restoring mode, TE and the program counter. -/
  | rett (x : Exu) (rd : Reg) (ra : Reg) (rb : Reg) (hi : BitVec 8)
  /-- CATALOGUE_MEMORY_WRITE (R181): A fabric write to catalogue memory or the slip store is accepted or refused under the entry's state. -/
  | catalogueMemoryWrite (id : Ident) (a : BitVec 48) (w : Word)
  /-- RECEPTION_CONTEXT_OPEN (R202): A frame matching a directory word with COUNT ≠ 0 opens its source's reception context. -/
  | receptionContextOpen (p : Fin 48) (left : Left)
  /-- FIELD_UNPACK (R191): A field's last bit arrives; it is unpacked, written provisionally and its slips that act provisionally are walked. -/
  | fieldUnpack (p : Fin 48) (i : BitVec 8) (frame : Octets) (left : Left)
  /-- DUE_TIME_EXPIRY (R204): A context with no verdict when the GTC reaches its due time fails. -/
  | dueTimeExpiry (p : Fin 48)
  /-- PASS_VERDICT (R209): A pass verdict accessions the context's values, walks their slips, offers them to the mirror and retires ledger items. -/
  | passVerdict (p : Fin 48)
  /-- FAIL_VERDICT (R210): A fail verdict discards the context's values, restores provisional effects, withdraws frame copies and sends errata. -/
  | failVerdict (p : Fin 48)
  /-- LEDGER_STALL_END (R213): A ledger item frees and a cataloguer stalled for one resumes. -/
  | ledgerStallEnd (n : Fin 64)
  /-- TRIGGER_DELIVERY (R223): A trigger reaches a cataloguer waiting in WAITE and starts a run. -/
  | triggerDelivery (n : Fin 64)
  /-- TEMPLATE_SEND (R201): A gather's HOLD ends and the template body is copied to CATP or to a CAN or LIN buffer. -/
  | templateSend (n : BitVec 12)
  /-- TEMPLATE_PERIOD_EXPIRY (R201): At a multiple of PERIOD a periodic template is sent. -/
  | templatePeriodExpiry (n : BitVec 12)
  /-- TIMEOUT_ACTION (R216): The sweeper finds an expired entry, sets TOFIRED and acts under SUBST. -/
  | timeoutAction (sm : BitVec 20)
  /-- CATALOGUER_START (R221): Setting RUN clears the trigger queue and registers and starts the program at ENTRY. -/
  | cataloguerStart (id : Ident) (n : Fin 64) (w : BitVec 64)
  /-- CATALOGUER_STOP (R221): Clearing RUN stops the cataloguer between instructions and discards its queue. -/
  | cataloguerStop (id : Ident) (n : Fin 64)
  /-- CAT_CNT_CLR (R246): A write of 1 zeroes the catalogue statistics and error counters. -/
  | catCntClr (id : Ident)
  /-- COLLATION_START (R232): START begins a scan or stream operation, loading the initial value unless RESUME = 1. -/
  | collationStart (id : Ident) (u : Fin 16) (w : BitVec 64)
  /-- COLLATION_STOP (R233): STOP halts a unit at a word boundary with its position saved. -/
  | collationStop (id : Ident) (u : Fin 16)
  /-- COLLATION_DONE (R233): A unit completes, errs or mismatches and raises source 0x440 + u. -/
  | collationDone (u : Fin 16) (stream : Octets)
  /-- FRAME_CLASSIFICATION (R259): An Ethernet frame is classified at ingress by VLAN, lookup, destination set, class and stream, or dropped. -/
  | frameClassification (p : Fin 24) (src : FrameIn)
  /-- CELL_ADMISSION (R254): An input admits its oldest allowed staged cell into an intermediate buffer and stamps it. -/
  | cellAdmission (i : Fin 24)
  /-- CELL_RELEASE (R257): A cell reaches its release time and is released at its output; a FIRST cell queues its copy. -/
  | cellRelease (o : Fin 24) (i : Fin 24)
  /-- FRAME_TRANSMIT_START (R267): An output starts the highest eligible head copy under gates, cut-through and R207. -/
  | frameTransmitStart (o : Fin 24)
  /-- DEP_COPY_START (R269): A waiting DEP copy's start time is reached at a 2 ns evaluation and it begins transmission. -/
  | depCopyStart (o : Fin 24)
  /-- FRAME_TRANSMIT_END (R265): A copy leaves the egress MAC, with a good or bad colophon, and its records and descriptors are completed. -/
  | frameTransmitEnd (o : Fin 24)
  /-- AGING_PROMOTION (R270): A copy not started by its class deadline is promoted to the next class. -/
  | agingPromotion (o : Fin 24) (tc : Fin 7)
  /-- GATE_CHANGE_REQUEST (R268): Writing CHANGE requests adoption of the administrative gate list at its base time. -/
  | gateChangeRequest (id : Ident) (p : Fin 24) (w : BitVec 64)
  /-- GATE_LIST_CHANGE (R268): The administrative gate list becomes operational at its base time. -/
  | gateListChange (p : Fin 24)
  /-- GATE_ENTRY_ADVANCE (R268): An operational gate entry's interval ends and the next entry's gates apply. -/
  | gateEntryAdvance (p : Fin 24)
  /-- ETH_LINK_LOSS (R273): A port loses its link and goes from UP to GRACE, abandoning the frame on the wire. -/
  | ethLinkLoss (p : Fin 12)
  /-- ETH_LINK_UP (R273): A port's link comes up and the port returns to UP. -/
  | ethLinkUp (p : Fin 12) (speed : Fin 6)
  /-- PORT_ENABLE (R273): Setting a port's EN returns it to UP when its link is up. -/
  | portEnable (id : Ident) (p : Fin 24) (w : BitVec 64)
  /-- PORT_DISABLE (R273): Clearing a port's EN ends the frame on the wire with a bad colophon and enters GRACE. -/
  | portDisable (id : Ident) (p : Fin 24) (w : BitVec 64)
  /-- GRACE_EXPIRY (R273): GRACE µs pass and the port goes DOWN, flushing its queues. -/
  | graceExpiry (p : Fin 23)
  /-- FDB_WRITE (R261): CIRC_FDB_CMD.WRITE replaces a forwarding entry's key and result words in one step. -/
  | fdbWrite (id : Ident) (i : BitVec 16)
  /-- FDB_READ (R261): CIRC_FDB_CMD.READ loads a forwarding entry into KEY and RES. -/
  | fdbRead (id : Ident) (i : BitVec 16)
  /-- PLCA_BEACON (R280): A PLCA beacon is heard and PLCA_LOST clears. -/
  | plcaBeacon (p : Fin 4)
  /-- PLCA_BEACON_TIMEOUT (R280): A follower hears no beacon for 4 × TO timer × node count and sets PLCA_LOST. -/
  | plcaBeaconTimeout (p : Fin 4)
  /-- ENCAP_MESSAGE (R284): A CAN or LIN message is handed to an encapsulation context and sent when MAXMSG is reached. -/
  | encapMessage
  /-- ENCAP_GATHER_EXPIRY (R284): GATHER × 100 ns after its first message an encapsulation context sends its NTSCF frame. -/
  | encapGatherExpiry (e : Fin 64)
  /-- DECAP_MESSAGE (R284): A received AVTP message is matched to a decapsulation context and passed to its controller, or discarded. -/
  | decapMessage (stream : BitVec 64) (ty : BitVec 7) (bus : BitVec 5) (id : BitVec 52) (data : Octets)
  /-- RING_TAIL_WRITE (R286): Software advances a ring's TAIL and hands descriptors to hardware. -/
  | ringTailWrite (id : Ident) (r : Fin 64) (tail : BitVec 16)
  /-- MDIO_START (R290): START begins a clause 22 or clause 45 management frame. -/
  | mdioStart (id : Ident) (n : Fin 2) (w : BitVec 64)
  /-- MDIO_FRAME_DONE (R290): A management frame completes, clearing BUSY and providing read data. -/
  | mdioFrameDone (n : Fin 2) (rdata : BitVec 16)
  /-- ETH_CNTCLR (R290): A write of 1 zeroes every counter of a port. -/
  | ethCntclr (id : Ident) (p : Fin 24)
  /-- MACSEC_CNTCLR (R291): A write of 1 zeroes a MACsec instance's counters. -/
  | macsecCntclr (id : Ident) (u : Fin 4)
  /-- COPY_RECORD_WAIT_END (R275): A send waiting at CATP for a copy record sees its contexts close and is discarded or sent with DEP = 0. -/
  | copyRecordWaitEnd
  /-- CAN_CTL_WRITE (R296): A write to CANn_CTL is checked against bit timing and MODE and may put the controller on the bus. -/
  | canCtlWrite (id : Ident) (n : Fin 16) (w : BitVec 64)
  /-- CAN_DISABLE (R651): Clearing EN finishes any frame on the bus and then takes the controller off the bus. -/
  | canDisable (id : Ident) (n : Fin 16) (w : BitVec 64)
  /-- CAN_FRAME_MATCH (R304): At the last filtered bit a received frame is matched to the lowest enabled receive buffer. -/
  | canFrameMatch (n : Fin 16) (id : BitVec 52) (ago : BitVec 32)
  /-- CAN_FRAME_END (R307): A CAN frame ends validly or in error; a matched STORE buffer receives it in one pass. -/
  | canFrameEnd (n : Fin 16) (ok : Bool) (data : Octets) (rlen : BitVec 12) (af : BitVec 32)
  /-- CAN_ERROR_DETECTED (R314): A bus error changes the error counters and possibly the error state, failing the open context. -/
  | canErrorDetected (n : Fin 16) (kind : BitVec 3) (tx : Bool) (strong : Bool)
  /-- BUS_OFF_RECOVERY_DONE (R315): The 128th run of 11 recessive bits returns the controller to error-active. -/
  | busOffRecoveryDone (n : Fin 16)
  /-- BUS_OFF_RESTART (R315): A write of RESTART starts bus-off recovery when BO_AUTO = 0. -/
  | busOffRestart (id : Ident) (n : Fin 16)
  /-- NOACK_RESUME (R316): A write of RESUME returns NOACK to 0 and resumes attempts. -/
  | noackResume (id : Ident) (n : Fin 16)
  /-- TX_REQUEST (R309): TXREQ is set for a transmit buffer and the request is checked and joins arbitration. -/
  | txRequest (id : Ident) (n : Fin 16) (b : BitVec 8)
  /-- CAN_TX_ATTEMPT_START (R309): The highest-priority pending request or tunnel head begins arbitration and its data is copied into the transmitter. -/
  | canTxAttemptStart (n : Fin 16)
  /-- CAN_TX_ATTEMPT_END (R309): A transmit attempt ends in success or failure, setting TXOK or retrying or setting TXFAIL. -/
  | canTxAttemptEnd (n : Fin 16) (ok : Bool)
  /-- CAN_DEFERRED_COPY (R312): A copy that waited for an attempt on the bus is written once the attempt ends. -/
  | canDeferredCopy (n : Fin 16) (b : BitVec 8)
  /-- CAN_ABORT (R310): Writing ABORT clears TXREQ and stops retries of the attempt on the bus. -/
  | canAbort (id : Ident) (n : Fin 16) (b : BitVec 8)
  /-- CAN_ESCALATION (R313): A request's DEADLINE passes unfinished and the buffer escalates to ESC_ID. -/
  | canEscalation (n : Fin 16) (b : BitVec 8)
  /-- MB_DISABLE (R303): A CFG write that only clears EN takes the buffer out of matching and arbitration. -/
  | mbDisable (id : Ident) (n : Fin 16) (b : BitVec 8)
  /-- CAN_CNTCLR (R332): A write of 1 zeroes every counter of a CAN controller. -/
  | canCntclr (id : Ident) (n : Fin 16)
  /-- LIN_SCHEDULE_RUN (R323): Setting RUN starts the commander's schedule at START. -/
  | linScheduleRun (id : Ident) (m : Fin 8) (w : BitVec 64)
  /-- LIN_SWITCH (R323): Writing SWITCH makes the commander continue at NEXT when the slot ends. -/
  | linSwitch (id : Ident) (m : Fin 8) (w : BitVec 64)
  /-- LIN_SLOT_START (R323): A schedule slot ends and the commander sends the next entry's header. -/
  | linSlotStart (m : Fin 8)
  /-- LIN_BREAK_RECEIVED (R326): A responder recognises a break and sync field and answers or receives the identified frame. -/
  | linBreakReceived (m : Fin 8) (i : BitVec 6) (ago : BitVec 32) (rate : BitVec 21)
  /-- LIN_RESPONSE_END (R327): A LIN response completes and is stored, published or judged in error. -/
  | linResponseEnd (m : Fin 8) (err : BitVec 3) (data : Octets)
  /-- LIN_RESPONSE_TIMEOUT (R325): A subscribed response is absent or late at the frame-time limit. -/
  | linResponseTimeout (m : Fin 8)
  /-- LIN_IDLE_TIMEOUT (R326): 4 s of bus inactivity raises the idle timeout. -/
  | linIdleTimeout (m : Fin 8)
  /-- LIN_CNTCLR (R334): A write of 1 zeroes every counter of a LIN controller. -/
  | linCntclr (id : Ident) (m : Fin 8)
  /-- WING_ENABLE (R336): Setting NM_WINGw_CFG.EN is checked and puts the wing in AWAKE. -/
  | wingEnable (id : Ident) (g : Fin 16) (w : BitVec 64)
  /-- WING_DISABLE (R338): Clearing EN takes a wing to DISABLED from any state. -/
  | wingDisable (id : Ident) (g : Fin 16) (w : BitVec 64)
  /-- WING_READY (R338): Setting or clearing READY may start or abort a closing round. -/
  | wingReady (id : Ident) (g : Fin 16) (ready : Bool)
  /-- MIN_AWAKE_EXPIRY (R338): MIN_AWAKE elapses and a READY wing enters CLOSING. -/
  | minAwakeExpiry (w : Fin 16)
  /-- TOKEN_RECEIVED (R344): The coordinator receives a closing-round token and judges the round. -/
  | tokenReceived (g : Fin 36) (node : BitVec 4) (body : BitVec 64)
  /-- HOP_TIMEOUT (R344): The addressed node sends nothing within HOP_TMO and the round fails. -/
  | hopTimeout (g : Fin 36)
  /-- RETRY_EXPIRY (R344): RETRY ms after a failed round the next round may start. -/
  | retryExpiry (w : Fin 16)
  /-- LOCKUP_INSTANT (R347): After the ordering hold past the lock-up instant the wing raises 0x1FF and enters ASLEEP. -/
  | lockupInstant (w : Fin 16)
  /-- WAKE_REQUEST (R349): A wake event enabled for a wing cancels its sleep or wakes it into WAKING. -/
  | wakeRequest (w : Fin 16)
  /-- WING_WAKE_WRITE (R349): Writing NM_WINGw_CTL.WAKE raises a software wake request. -/
  | wingWakeWrite (id : Ident) (g : Fin 16)
  /-- SEGMENT_UP (R355): A waking segment comes up; when all are up the wing enters AWAKE. -/
  | segmentUp (g : Fin 36)
  /-- WAKE_TMO_EXPIRY (R355): WAKE_TMO expires and the wing enters AWAKE with late segments recorded. -/
  | wakeTmoExpiry (w : Fin 16)
  /-- LIN_WAKE_RESUME (R339): 100 ms after its wake pulse a LIN segment resumes its schedule. -/
  | linWakeResume (m : Fin 8)
  /-- OVERRULE (R353): MAX_AWAKE expires and the wing is overruled into LOCKUP. -/
  | overrule (w : Fin 16)
  /-- SELECTIVE_WAKE_MATCH (R351): A wake-up frame matches a CAN decoder at its CRC delimiter and raises 0x108 + n. -/
  | selectiveWakeMatch (n : Fin 16) (id : BitVec 29) (ide : Bool) (rtr : Bool) (dlc : BitVec 4) (data : BitVec 64)
  /-- SW_DECODE_ERROR (R352): A decoding error increments FDC, waking with ERR_WAKE when it exceeds 31. -/
  | swDecodeError (n : Fin 16)
  /-- LIN_WAKE_PULSE (R352): A dominant level of 150 µs or more ends on LIN RX and raises 0x118 + m. -/
  | linWakePulse (m : Fin 8)
  /-- WAKE_PIN_EDGE (R350): A WAKE or HVIN input crosses its threshold and raises its wake source. -/
  | wakePinEdge (k : Fin 24) (rising : Bool) (lvl : BitVec 12)
  /-- AON_TIMER_EXPIRY (R608): SYS_AON_TIMER reaches zero and raises source 0x13C. -/
  | aonTimerExpiry
  /-- NM_CNTCLR (R357): A write of 1 zeroes the NM counters and re-arms 0x2F0. -/
  | nmCntclr (id : Ident)
  /-- CHANNEL_COMMAND (R364): A software, slip or twin command reaches the sequencer and replaces the channel's demand or is refused. -/
  | channelCommand (src : CmdSrc)
  /-- SHORT_CIRCUIT_TRIP (R372): Current above the short-circuit limit switches the channel off within 4 µs and opens or advances a streak. -/
  | shortCircuitTrip (c : Fin 32) (cur : BitVec 20)
  /-- DESAT_TRIP (R372): A GD channel's V_DS exceeds DESAT_V after BLANK and it trips. -/
  | desatTrip (c : Fin 32) (vds : BitVec 16) (cur : BitVec 20)
  /-- OVERCURRENT_TRIP (R373): OC_FILT consecutive samples exceed the envelope limit and the channel trips. -/
  | overcurrentTrip (c : Fin 32) (cur : BitVec 20)
  /-- WIRE_MODEL_UPDATE (R376): Every 1 ms the wire temperature estimate is updated from the squared current. -/
  | wireModelUpdate (c : Fin 32) (q : BitVec 64) (mean : BitVec 20) (vout : BitVec 16)
  /-- RESTART_DUE (R383): A scheduled restart time arrives and the channel turns on if no hold applies. -/
  | restartDue (c : Fin 32)
  /-- STREAK_CLEAN (R383): The output has been on for CLEAN ms without a trip and the streak closes. -/
  | streakClean (c : Fin 32)
  /-- REARM (R384): A write of REARM clears EXHAUSTED and closes the streak. -/
  | rearm (id : Ident) (c : Fin 32)
  /-- THERMAL_LATCH_SET (R379): The channel temperature reaches 175 °C and the latch sets. -/
  | thermalLatchSet (c : Fin 32) (t : BitVec 9)
  /-- THERMAL_LATCH_RELEASE (R379): The temperature falls below 145 °C and the latch releases. -/
  | thermalLatchRelease (c : Fin 32) (t : BitVec 9)
  /-- CLAMP_END (R381): An inductive clamp ends and its energy is subtracted from BUDGET. -/
  | clampEnd (c : Fin 32) (e : BitVec 32)
  /-- CLAMP_LOCK_RELEASE (R381): BUDGET recovers to E_REL and the lock releases. -/
  | clampLockRelease (c : Fin 32)
  /-- OPEN_LOAD_ON (R374): An on channel's mean current stays below OL_ON for OL_T and open load is flagged. -/
  | openLoadOn (c : Fin 32) (mean : BitVec 20)
  /-- OPEN_LOAD_OFF (R374): An off channel's output stays above 2.0 V for 10 ms with OL_OFF = 1. -/
  | openLoadOff (c : Fin 32) (v : BitVec 16)
  /-- EXT_DRIVEN_DETECT (R374): An off channel's output stays above 3.0 V for 20 µs and EXT_DRIVEN is set. -/
  | extDrivenDetect (c : Fin 32) (v : BitVec 16)
  /-- SHED (R375): The aggregate HS current exceeds 24 A and one channel is shed. -/
  | shed (sum : BitVec 16)
  /-- REVERSE_CURRENT_BLOCK (R359): Reverse current above 0.5 A makes an integrated switch block. -/
  | reverseCurrentBlock (c : Fin 32) (cur : BitVec 20)
  /-- REVERSE_CURRENT_RECOVER (R359): Forward conditions hold for 100 µs and the switch conducts again. -/
  | reverseCurrentRecover (c : Fin 32)
  /-- SUPPLY_CONDITION_ENTRY (R389): Undervoltage, overvoltage or loss of ground is detected and the affected channels are held off. -/
  | supplyConditionEntry (k : Fin 5) (mv : BitVec 16)
  /-- SUPPLY_CONDITION_EXIT (R389): A supply condition clears and the channels return to their demand. -/
  | supplyConditionExit (k : Fin 5) (mv : BitVec 16)
  /-- REVERSE_BATTERY_END (R392): A battery reversal ends and the power die starts with every channel off. -/
  | reverseBatteryEnd (recorded : Bool)
  /-- LEASE_EXPIRY (R394): A HOLD lease of LEASE_MS ends and the demand becomes the safe state. -/
  | leaseExpiry (c : Fin 32)
  /-- DIE_TEMP_WARN (R397): The power-die temperature reaches DIE_WARN and raises 0x025. -/
  | dieTempWarn (t : BitVec 9)
  /-- LOAD_CNTCLR (R401): A write of 1 zeroes a channel's counters and re-arms kind 14. -/
  | loadCntclr (id : Ident) (c : Fin 32)
  /-- CORE_MISMATCH (R415): A comparator finds a difference between the copies; the pair stops and its ports close. -/
  | coreMismatch (p : Fin 8) (comp : Fin 3) (ledger : BitVec 6) (slice : BitVec 5)
  /-- CHECKER_FAULT (R415): A dual-rail or parity check fails and the pair stops. -/
  | checkerFault (p : Fin 8) (comp : Fin 4) (slice : BitVec 5)
  /-- DIGEST_REQUEST (R412): At each whole millisecond both copies snapshot their architectural state. -/
  | digestRequest (p : Fin 8)
  /-- DIGEST_COMPARE (R412): Both digests are ready and are compared. -/
  | digestCompare (p : Fin 8) (chk : BitVec 64)
  /-- RESERVE_HANDOVER (R426): After open transactions end or 20 µs pass, the failed pair's timetable and carrels move to the reserve pair. -/
  | reserveHandover
  /-- RESERVE_DESIGNATE (R424): A write to EXEC_RESERVE holds a pair in STANDBY as the reserve. -/
  | reserveDesignate (id : Ident) (w : BitVec 64)
  /-- PAIR_RELEASE (R432): Writing RELEASE runs difference injection and starts the pair's timetable. -/
  | pairRelease (id : Ident) (p : Fin 8)
  /-- INJECTION_TEST_DONE (R420): Difference injection ends and the pair passes or enters INJ_FAILED. -/
  | injectionTestDone (p : Fin 8) (pass : Bool)
  /-- PAIR_RESET (R432): Writing RESET discards the running context, clears the pair and puts it in HELD. -/
  | pairReset (id : Ident) (p : Fin 8)
  /-- DEBUG_ENTRY (R431): A pair enters debug, splits, sets LOCKSTEP_BROKEN and makes targets refuse its high-CRIT writes. -/
  | debugEntry (p : Fin 8) (arm : Option Bool)
  /-- CORE_MULT_WRITE (R583): An accepted CORE_MULT write relocks PLL_CORE. -/
  | coreMultWrite (id : Ident) (w : BitVec 64)
  /-- CORRECTION_WRITE (R438): At the next free bank cycle a corrected word is rewritten with fresh check bits. -/
  | correctionWrite (a : BitVec 48)
  /-- SCRUB_READ (R446): The scrubber reads a word and reports or corrects it. -/
  | scrubRead (a : BitVec 48) (flips : BitVec 80) (last : Bool)
  /-- RANGE_FILL_START (R445): STK_FILL.START begins a fill of a range of SRAM pages. -/
  | rangeFillStart (id : Ident) (w : BitVec 64)
  /-- PAGE_TEST_START (R445): STK_FILL.TEST begins a test of a range of SRAM pages. -/
  | pageTestStart (id : Ident) (w : BitVec 64)
  /-- FILL_COMPLETE (R445): A range fill or page test ends and raises 0xC5A. -/
  | fillComplete (failing : List (BitVec 11))
  /-- BANK_RESTORE (R450): Clearing a STK_BANKWD bit powers a bank up and starts its fill. -/
  | bankRestore (id : Ident) (b : Fin 32)
  /-- BANK_FILL_DONE (R450): A restored bank's fill ends and it accepts transactions. -/
  | bankFillDone (b : Fin 32)
  /-- STK_CECLR (R466): A write of 1 zeroes the memory error counters. -/
  | stkCeclr (id : Ident)
  /-- ARCHIVE_ENTRY_WRITE (R451): An event leaves the archive input queue and is written to the live ring and retained store. -/
  | archiveEntryWrite
  /-- ARCH_PUT (R453): The librarian writes an archive entry with source 0x800. -/
  | archPut (id : Ident) (w : BitVec 64)
  /-- ARCH_CLR (R467): CLR empties the live ring and zeroes ARCH_LOSS. -/
  | archClr (id : Ident)
  /-- ARCH_RET_CLR (R467): RET_CLR empties the retained store. -/
  | archRetClr (id : Ident)
  /-- XSPI_COMMAND (R463): STK_XSPI_CMD.START runs one flash command. -/
  | xspiCommand (id : Ident) (w : BitVec 64)
  /-- XSPI_COMMAND_DONE (R463): A flash command completes and invalidates cached window lines. -/
  | xspiCommandDone (ok : Bool) (data : Octets) (chg : List (BitVec 31 × BitVec 8))
  /-- XSPI_COPY (R464): STK_XSPI_COPY.START begins copying flash octets into words. -/
  | xspiCopy (id : Ident) (w : BitVec 64)
  /-- XSPI_COPY_DONE (R464): A copy completes or stops on an error response and raises 0xC59. -/
  | xspiCopyDone
  /-- PERMIT_WRITE (R476): A write to a permit entry is accepted only with the librarian flag and CFG. -/
  | permitWrite (id : Ident) (a : BitVec 48) (w : BitVec 64)
  /-- OWNERSHIP_WRITE (R479): A write to an ownership register sets OWNER, V and ABSENT. -/
  | ownershipWrite (id : Ident) (a : BitVec 48) (w : BitVec 64)
  /-- PERM_LOG_CLR (R491): A write of 1 zeroes the refusal count and re-arms 0xC43. -/
  | permLogClr (id : Ident)
  /-- TWIN_OUTBOUND_ISSUE (R485): The bridge issues the next queued twin-window transaction when its port is free. -/
  | twinOutboundIssue (ans : TwinAns)
  /-- TWIN_INBOUND_ARRIVAL (R486): A transaction from the twin arrives and is performed, waits, or is answered with a crossing response. -/
  | twinInboundArrival (t : Txn)
  /-- CROSSING_RESPONSE (R486): Side B receives a crossing response, releases its port and schedules a retry. -/
  | crossingResponse
  /-- BRIDGE_RETRY (R486): GAP × 100 ns after a crossing side B reissues its transaction. -/
  | bridgeRetry
  /-- BRIDGE_ATTEMPT_TIMEOUT (R485): An outbound attempt has no response after TMO and receives FAILED. -/
  | bridgeAttemptTimeout
  /-- MIRROR_REFUSAL_REPORT (R487): A refused mirror write is reported back and logged. -/
  | mirrorRefusalReport (addr : BitVec 32) (reason : BitVec 3)
  /-- SEMAPHORE_ACQUIRE (R488): A read of TWIN_SEMs acquires a free semaphore or returns its holder. -/
  | semaphoreAcquire (k : Fin 32) (fromTwin : Bool) (id : Ident)
  /-- SEMAPHORE_RELEASE (R488): A RELEASE write frees a semaphore held by the writer. -/
  | semaphoreRelease (k : Fin 32) (fromTwin : Bool) (id : Ident)
  /-- TWIN_BR_LOGCLR (R492): A write of 1 empties the bridge log and zeroes its counters. -/
  | twinBrLogclr (id : Ident)
  /-- CARREL_CONFIGURE (R496): A CFG write sets a carrel's configuration, moving it between UNUSED and STOPPED. -/
  | carrelConfigure (id : Ident) (c : BitVec 9) (w : BitVec 64)
  /-- CARREL_START (R495): START makes a STOPPED carrel ACTIVE and clears ABSENT in its ownership registers. -/
  | carrelStart (id : Ident) (c : BitVec 9)
  /-- CARREL_RESET (R509): RESET puts a carrel into QUIESCING and removes its work. -/
  | carrelReset (id : Ident) (c : BitVec 9)
  /-- CARREL_QUIESCE_END (R509): Work for the carrel completes or is aborted; its queues and desks are cleared and it becomes STOPPED. -/
  | carrelQuiesceEnd (c : BitVec 9)
  /-- TIMETABLE_ENABLE (R503): Setting EN checks and starts a timetable list. -/
  | timetableEnable (id : Ident) (p : Fin 8) (k : Fin 2) (w : BitVec 64)
  /-- TIMETABLE_CHANGE (R503): Writing CHANGE requests a new list at the next cycle boundary. -/
  | timetableChange (id : Ident) (p : Fin 8) (k : Fin 2) (w : BitVec 64)
  /-- TIMETABLE_ADOPT (R503): At the cycle boundary the pending list becomes the running list. -/
  | timetableAdopt (p : Fin 8) (k : Fin 2)
  /-- CONTEXT_PREFETCH (R500): 2 µs before a window ends the next carrel's context is read into the shadow. -/
  | contextPrefetch (p : Fin 8) (k : Fin 2)
  /-- TIMETABLE_SWITCH (R500): A window ends and the switch is taken through the agreement buffer at the next commit boundary. -/
  | timetableSwitch (p : Fin 8) (k : Fin 2)
  /-- CHECKPOINT_COMMIT (R500): The outgoing context's write-back completes and becomes its checkpoint. -/
  | checkpointCommit (x : Fin 16)
  /-- SESSION_ENABLE (R512): Setting SES_CTL.EN starts serving a remote carrel's session after checking MACsec. -/
  | sessionEnable (id : Ident) (c : BitVec 9) (w : BitVec 64)
  /-- REMOTE_FRAME_RECEIVE (R512): A frame at port 22 is matched to a session and queued, or discarded. -/
  | remoteFrameReceive
  /-- REMOTE_REQUEST_SERVE (R514): A queued remote request is executed and its response frame is sent. -/
  | remoteRequestServe (c : BitVec 9)
  /-- REMOTE_NOTICE_GATHER_EXPIRY (R515): GATHER µs after its first notice a NOTICE frame is sent to the remote carrel. -/
  | remoteNoticeGatherExpiry (c : BitVec 9)
  /-- CARREL_RC_CNTCLR (R516): A write of 1 zeroes the remote-carrel counters. -/
  | carrelRcCntclr (id : Ident)
  /-- ENCRYPT (R533): AES encryption in ECB, CBC, CTR or GCM. -/
  | encrypt (q : Fin 16)
  /-- DECRYPT (R533): AES decryption, zeroing output on tag failure. -/
  | decrypt (q : Fin 16)
  /-- MAC (R533): Computes a CMAC or HMAC tag. -/
  | mac (q : Fin 16)
  /-- MAC_VERIFY (R533): Checks a CMAC or HMAC tag. -/
  | macVerify (q : Fin 16)
  /-- HASH (R533): Computes a SHA-2 or SHA3-256 digest. -/
  | hash (q : Fin 16)
  /-- SIGN (R533): Signs a message with a private-key slot. -/
  | sign (q : Fin 16)
  /-- VERIFY (R533): Verifies a signature with a slot or a supplied public key. -/
  | verify (q : Fin 16)
  /-- AGREE (R533): ECDH or X25519 key agreement into a derived slot. -/
  | agree (q : Fin 16)
  /-- ENCAP (R533): ML-KEM-768 encapsulation into a derived slot. -/
  | encap (q : Fin 16)
  /-- DECAP (R533): ML-KEM-768 decapsulation into a derived slot. -/
  | decap (q : Fin 16)
  /-- KDF (R533): Derives a key into a derived slot. -/
  | kdf (q : Fin 16)
  /-- GENERATE (R522): Generates a key into a derived or empty persistent slot. -/
  | generate (q : Fin 16)
  /-- UNWRAP (R533): Unwraps an injected key into a slot. -/
  | unwrap (q : Fin 16)
  /-- WRAP (R533): Exports a wrappable key wrapped under AES-256-GCM. -/
  | wrap (q : Fin 16)
  /-- PUBKEY (R533): Returns the public key of an asymmetric slot. -/
  | pubkey (q : Fin 16)
  /-- RETIRE (R523): Sets a persistent slot's write-once retire bit and orphans its descendants. -/
  | retire (q : Fin 16)
  /-- ERASE (R533): Erases a derived slot and orphans its descendants. -/
  | erase (q : Fin 16)
  /-- RANDOM (R533): Returns DRBG output. -/
  | random (q : Fin 16)
  /-- BOOKPLATE (R539): Produces the signed statement of identity and measurements. -/
  | bookplate (q : Fin 16)
  /-- HOLDCERT (R540): Produces a signed holding certificate for a generated key. -/
  | holdcert (q : Fin 16)
  /-- MEASURE (R543): Extends a measurement register 2 to 7. -/
  | measure (q : Fin 16)
  /-- SVN_ADVANCE (R542): Raises MIN_SVN in fuses. -/
  | svnAdvance (q : Fin 16)
  /-- TAMPER_CLEAR (R550): Verifies a signed clear and unseals the strongroom. -/
  | tamperClear (q : Fin 16)
  /-- REVOKE_ROOT (R542): Blows a ROOT_REVOKE fuse bit. -/
  | revokeRoot (q : Fin 16)
  /-- VAULT_ABORT (R534): ABORT stops a running command within 1 µs with code ABORTED. -/
  | vaultAbort (id : Ident) (q : Fin 16)
  /-- VAULT_COMMAND_DONE (R536): A strongroom command completes, sets DONE and raises 0x090 + q. -/
  | vaultCommandDone (q : Fin 16)
  /-- SLOT_PROGRAMMING_DONE (R522): A persistent slot's 1 ms programming ends and it becomes active. -/
  | slotProgrammingDone (k : BitVec 8)
  /-- ORPHAN_ERASE (R526): An orphaned slot reaches an operation boundary and is erased. -/
  | orphanErase (kid : BitVec 11)
  /-- ENTROPY_HEALTH_FAILURE (R544): A noise-source health test fails and ENT_OK clears. -/
  | entropyHealthFailure (kind : BitVec 2)
  /-- ENTROPY_RECOVERY (R544): 1,024 consecutive passing samples set ENT_OK again. -/
  | entropyRecovery
  /-- DRBG_RESEED (R545): A reseed falls due after 2^16 requests or 1 s and is made or DRBG_OK clears. -/
  | drbgReseed
  /-- TAMPER_RECOGNISED (R546): A tamper input holds its active level for FILT; the strongroom seals and reacts by state. -/
  | tamperRecognised (i : Fin 4)
  /-- ZEROISE_COMPLETE (R548): The last zeroised slot is done, ZPEND clears and 0x08A is raised. -/
  | zeroiseComplete
  /-- HEARTBEAT_WORD (R557): A heartbeat word arrives on a lane and updates the twin's reported state. -/
  | heartbeatWord (lane : Fin 2) (side : Bool) (pairEn : Bool)
  /-- TIME_WORD (R558): A time word measures the offset between the twins' GTCs. -/
  | timeWord (ofs : BitVec 64) (rate : BitVec 16)
  /-- LANE_DOWN (R557): A lane loses block lock for 1 µs and traffic moves to the other lane. -/
  | laneDown (lane : Fin 2)
  /-- TWIN_LINK_DOWN (R557): Both lanes are down or no heartbeat arrives for 60 µs; the link is down. -/
  | twinLinkDown
  /-- TWIN_LINK_UP (R557): The twin link comes up and pairing resumes after reconciliation. -/
  | twinLinkUp (lanes : BitVec 2) (peer : List (BitVec 10 × BitVec 4))
  /-- TW_ALIVE_TOGGLE (R559): Every 20 µs TW_ALIVE_OUT changes level. -/
  | twAliveToggle
  /-- SIDEBAND_LOST (R559): TW_ALIVE_IN shows no edge for 60 µs and the sideband is lost. -/
  | sidebandLost
  /-- SIDEBAND_RECOVERED (R559): Two edges 18 to 22 µs apart recover the sideband. -/
  | sidebandRecovered
  /-- TW_TAKE_IN_RECOGNISED (R560): TW_TAKE_IN is active for 1 µs and the device takes over the twin's resources. -/
  | twTakeInRecognised
  /-- WITNESS_WINDOW_END (R572): The 100 µs witness window ends with a verdict. -/
  | witnessWindowEnd (above : BitVec 32)
  /-- MAP_WRITE (R564): A write to the ownership map is forwarded to the twin and applied or refused on both sides. -/
  | mapWrite (id : Ident) (a : BitVec 48) (w : BitVec 64) (answer : Bool)
  /-- MIRROR_RECORD_APPLY (R567): A catalogue record from the twin is checked and written into a software entry. -/
  | mirrorRecordApply (shelf : BitVec 20) (seq : BitVec 16) (tofired : Bool) (word : Word) (last : BitVec 64)
  /-- DEMAND_RECORD (R568): A demand record from the twin is stored in TWIN_DEMc. -/
  | demandRecord (c : Fin 32) (w : BitVec 19)
  /-- TWIN_RELAY_EVENT (R570): An event relayed from the twin is translated and raised as 0x0D0 + k. -/
  | twinRelayEvent (k : Fin 6) (src : BitVec 12) (payload : BitVec 64) (stamp : BitVec 64)
  /-- DEPART_RECEIVED (R579): A DEPART word puts the device in PEER_PARKED and holds TW_ALIVE_OUT. -/
  | departReceived
  /-- PEER_WAKE (R579): Writing PEER_WAKE resumes TW_ALIVE_OUT toggling to wake the parked twin. -/
  | peerWake (id : Ident)
  /-- TWIN_CNTCLR (R580): A write of 1 zeroes the mirror counters and re-arms 0x0CE. -/
  | twinCntclr (id : Ident)
  /-- DOZE_REQUEST (R586): REQ = DOZE is accepted and each running pair sleeps at its window end. -/
  | dozeRequest (id : Ident)
  /-- DOZE_ENTERED (R586): Every pair is asleep and PLL_CORE stops. -/
  | dozeEntered
  /-- DOZE_EXIT (R587): A waking event ends DOZE, PLL_CORE relocks and pairs resume their timetables. -/
  | dozeExit
  /-- PARK_REQUEST (R590): REQ = PARK is accepted, pairs stop and the always-on tile takes its copies. -/
  | parkRequest (id : Ident)
  /-- PARK_GTC_HANDOFF (R590): At the next night-clock edge the coarse count takes the GTC, channels switch off and the compute die's rails are released. -/
  | parkGtcHandoff
  /-- PARK_EXIT (R591): A wake event ends PARK and PWR_REQ is asserted once OFF_MS allows. -/
  | parkExit
  /-- PGOOD_RISE (R602): PGOOD rises and start-up begins. -/
  | pgoodRise (cfg : BitVec 2) (side : Bool) (vote : Bool) (bad : List (BitVec 8))
  /-- CRYSTAL_QUALIFIED (R581): The 25 MHz crystal is qualified and the PLLs lock. -/
  | crystalQualified
  /-- CRYSTAL_RETRY (R584): The crystal fails to qualify in 2 ms and qualification is retried. -/
  | crystalRetry
  /-- FILL_DONE (R444): The start-up fill completes, FILLED = 1 and image verification proceeds. -/
  | fillDone
  /-- LIBRARIAN_RELEASE (R603): Start-up ends and EP0 is released as the librarian. -/
  | librarianRelease
  /-- PGOOD_TIMEOUT (R596): PGOOD does not rise within PGOOD_TMO and PWR_REQ is cycled. -/
  | pgoodTimeout
  /-- PGOOD_FALL (R597): PGOOD falls for 1 µs and a compute-die reset follows. -/
  | pgoodFall
  /-- POWER_ON_RESET (R598): PORST_N or the first application of VBAT_AON resets both dies and the GTC. -/
  | powerOnReset (pin : Bool)
  /-- WARM_RESET (R598): RESET_N or SYS_RST_CTL.WARM resets the compute die and the power die except its always-on tile. -/
  | warmReset
  /-- COMPUTE_DIE_RESET (R598): A class-3 fault, SYS_RST_CTL.COMPUTE or PGOOD resets the compute die and enters HOLD. -/
  | computeDieReset
  /-- POWER_LOSS (R585): VBAT12 or VBAT_AON is lost and the device enters OFF. -/
  | powerLoss (aon : Bool)
  /-- VBAT12_RETURN (R594): VBAT12 returns with VBAT_AON held and the power die starts warm. -/
  | vbat12Return
  /-- GPIO_EDGE (R621): A selected edge on a GPIO sets its EVT bit and may raise 0xC70 + b. -/
  | gpioEdge (b : Fin 6) (ext : BitVec 8)
  /-- GPIO_SET (R625): A write to IOC_GPIOBb_SET sets OUT bits. -/
  | gpioSet (id : Ident) (b : Fin 6) (w : BitVec 64)
  /-- GPIO_CLR (R625): A write to IOC_GPIOBb_CLR clears OUT bits. -/
  | gpioClr (id : Ident) (b : Fin 6) (w : BitVec 64)
  /-- ADC_START (R623): A software START begins a conversion group. -/
  | adcStart (id : Ident) (g : Fin 16) (w : BitVec 64)
  /-- ADC_GROUP_COMPLETE (R623): A group's last entry is converted and its results and stamp change together. -/
  | adcGroupComplete (g : Fin 16) (codes : BitVec 96)
  /-- UNDEFINED_OP (R95): A core executes a word whose op is 0x00, 0x3F or a reserved value and raises ILLEGAL, or a cataloguer stops with cause 2. -/
  | undefinedOp (x : Exu) (w : BitVec 36)
  /-- PULSE_ON_EDGE (R386): A channel's pulse generator reaches an on-edge, switching a pulsing output on and applying pending DUTY, PERIOD, PHASE and pulse-demand changes. -/
  | pulseOnEdge (c : Fin 32)
  /-- PULSE_ON_TIME_END (R386): A pulsing channel's on-time of round(PERIOD × DUTY ÷ 65,536) cycles ends and the output switches off until the next on-edge. -/
  | pulseOnTimeEnd (c : Fin 32)
  /-- LANE_UP (R557): A twin-link lane regains block lock while the link stays up, resumes carrying traffic and raises source 0x0C3. -/
  | laneUp (lane : Fin 2)
  /-- RESET_PIN_RISE (R598): PORST_N or RESET_N returns high, ending the reset it held and starting the power die's release 100 µs later. -/
  | resetPinRise (por : Bool)
  /-- RESET_HOLD_EXPIRY (R598): The minimum hold of a compute-die reset (20 µs) or of the power die after a warm trigger (100 µs) ends, and the die is released so start-up can begin. -/
  | resetHoldExpiry (cfg : BitVec 2) (side : Bool) (vote : Bool) (bad : List (BitVec 8))
  /-- DEBUG_IMAGE_WRITTEN (R604): With BOOT_CFG = 0b11 and no verified slot, an image written through the DEBUG block arrives and the boot core verifies it. -/
  | debugImageWritten (img : List Word)
  deriving DecidableEq, Repr

end Sys2Proof
end

