-- ==== Sys2Proof/Machine/Crypto.lean ====
section
/-!
DEFINITION. The algorithms of the strongroom (spec/14_strongroom.md R530) as their standards give them: AES and its modes,
SHA-2 and SHA-3, HMAC, CMAC, the key derivations, and the curves P-256, P-384, Curve25519 and Edwards25519. The standards
are named by R530; their text is not in the spec (assumption 50).
-/
namespace Sys2Proof.Machine.Crypto

open Sys2Proof

/-! ### Octets and numbers -/

/-- A number as octets, most significant first. -/
def beOctets (n v : Nat) : Octets := (List.range n).map fun k => BitVec.ofNat 8 (v / 256 ^ (n - 1 - k))
/-- Octets as a number, most significant first. -/
def beNat (xs : Octets) : Nat := xs.foldl (fun n x => 256 * n + x.toNat) 0
/-- A number as octets, least significant first. -/
def leOctets (n v : Nat) : Octets := (beOctets n v).reverse
/-- Octets as a number, least significant first. -/
def leNat (xs : Octets) : Nat := beNat xs.reverse
/-- Octet by octet exclusive or, as long as the shorter. -/
def xorO (a b : Octets) : Octets := a.zipWith (· ^^^ ·) b
/-- Octets in groups of n. -/
def groups (n : Nat) : Nat → Octets → List Octets
  | 0, _ => []
  | _, [] => []
  | fuel + 1, xs => xs.take n :: groups n fuel (xs.drop n)

/-! ### AES (FIPS 197) -/

/-- Multiply by x in AES's field. -/
def xtime (a : BitVec 8) : BitVec 8 := if a.getLsbD 7 then (a <<< 1) ^^^ 0x1B#8 else a <<< 1
/-- Multiply in AES's field. -/
def gmul (a b : BitVec 8) : BitVec 8 :=
  ((List.range 8).foldl (fun (p : BitVec 8 × BitVec 8) i => (if b.getLsbD i then p.1 ^^^ p.2 else p.1, xtime p.2)) (0#8, a)).1
/-- The inverse in AES's field: the 254th power. -/
def ginv (a : BitVec 8) : BitVec 8 :=
  let sq (x : BitVec 8) : BitVec 8 := gmul x x
  ((List.range 7).foldl (fun (p : BitVec 8 × BitVec 8) _ => (gmul p.1 (sq p.2), sq p.2)) (1#8, a)).1
/-- The S-box. -/
def sbox (a : BitVec 8) : BitVec 8 :=
  let b := ginv a
  b ^^^ b.rotateLeft 1 ^^^ b.rotateLeft 2 ^^^ b.rotateLeft 3 ^^^ b.rotateLeft 4 ^^^ 0x63#8
/-- The inverse S-box. -/
def sboxInv (a : BitVec 8) : BitVec 8 := ginv (a.rotateLeft 1 ^^^ a.rotateLeft 3 ^^^ a.rotateLeft 6 ^^^ 0x05#8)

/-- The expanded key as four-octet words, last first. -/
def expandRev (nk : Nat) : Nat → List Octets → BitVec 8 → List Octets
  | 0, ws, _ => ws
  | fuel + 1, ws, rc =>
    let i := ws.length
    let t := ws.headD []
    let u := if i % nk = 0 then
        (match (t.drop 1 ++ t.take 1).map sbox with
         | x :: r => (x ^^^ rc) :: r
         | [] => [])
      else if 6 < nk ∧ i % nk = 4 then t.map sbox else t
    expandRev nk fuel (xorO (ws.getD (nk - 1) []) u :: ws) (if i % nk = 0 then xtime rc else rc)
/-- The round keys, first first, sixteen octets each. -/
def roundKeys (key : Octets) : List Octets :=
  let nk := key.length / 4
  let total := 4 * (nk + 7)
  let ws := (expandRev nk (total - nk) (groups 4 8 key).reverse 1#8).reverse
  groups 16 15 (ws.flatten)

/-- Rows shifted, left or right. -/
def shiftRows (inv : Bool) (s : Octets) : Octets :=
  (List.range 16).map fun k => s.getD (if inv then (k + 16 * 4 - 4 * (k % 4)) % 16 / 4 * 4 + k % 4 else (k + 4 * (k % 4)) % 16) 0
/-- Columns mixed by four coefficients. -/
def mixCols (c : List (BitVec 8)) (s : Octets) : Octets :=
  (List.range 16).map fun k => (List.range 4).foldl (fun x j =>
    x ^^^ gmul (c.getD ((4 + j - k % 4) % 4) 0) (s.getD (k / 4 * 4 + j) 0)) 0#8
/-- AES of one block. -/
def aesEnc (key blk : Octets) : Octets :=
  match roundKeys key with
  | [] => []
  | k0 :: ks =>
    let n := ks.length
    (ks.zipIdx).foldl (fun s (e : Octets × Nat) =>
      let t := shiftRows false (s.map sbox)
      xorO (if e.2 + 1 = n then t else mixCols [2, 3, 1, 1] t) e.1) (xorO blk k0)
/-- The inverse of AES on one block. -/
def aesDec (key blk : Octets) : Octets :=
  match (roundKeys key).reverse with
  | [] => []
  | kn :: ks =>
    let n := ks.length
    (ks.zipIdx).foldl (fun s (e : Octets × Nat) =>
      let t := xorO ((shiftRows true s).map sboxInv) e.1
      if e.2 + 1 = n then t else mixCols [14, 11, 13, 9] t) (xorO blk kn)

/-! ### Modes (SP 800-38A, 38B, 38D) -/

/-- ECB over whole blocks. -/
def ecb (f : Octets → Octets) (xs : Octets) : Octets := ((groups 16 xs.length xs).map f).flatten
/-- CBC encryption. -/
def cbcEnc (key iv xs : Octets) : Octets :=
  ((groups 16 xs.length xs).foldl (fun (p : Octets × Octets) b => let c := aesEnc key (xorO b p.1); (c, p.2 ++ c)) (iv, [])).2
/-- CBC decryption. -/
def cbcDec (key iv xs : Octets) : Octets :=
  ((groups 16 xs.length xs).foldl (fun (p : Octets × Octets) c => (c, p.2 ++ xorO (aesDec key c) p.1)) (iv, [])).2
/-- Counter mode: the whole counter block counts, or its last `w` octets. -/
def ctr (key blk : Octets) (w : Nat) (xs : Octets) : Octets :=
  let hd := blk.take (16 - w)
  let c0 := beNat (blk.drop (16 - w))
  ((groups 16 xs.length xs).zipIdx.map fun e => xorO e.1 (aesEnc key (hd ++ beOctets w (c0 + e.2)))).flatten

/-- Octets with zero octets to a whole number of blocks. -/
def padBlock (xs : Octets) : Octets := xs ++ List.replicate ((16 - xs.length % 16) % 16) 0
/-- Multiply in GCM's field, blocks as 128-bit numbers with their first bit most significant. -/
def gf128 (x y : BitVec 128) : BitVec 128 :=
  ((List.range 128).foldl (fun (p : BitVec 128 × BitVec 128) i =>
    (if x.getLsbD (127 - i) then p.1 ^^^ p.2 else p.1,
     if p.2.getLsbD 0 then (p.2 >>> 1) ^^^ (0xE1#128 <<< 120) else p.2 >>> 1)) (0#128, y)).1
/-- GHASH. -/
def ghash (h : BitVec 128) (xs : Octets) : BitVec 128 :=
  (groups 16 xs.length xs).foldl (fun y b => gf128 (y ^^^ BitVec.ofNat 128 (beNat b)) h) 0#128
/-- The GCM tag of additional data and ciphertext under a twelve-octet IV. -/
def gcmTag (key iv aad ct : Octets) : Octets :=
  let h := BitVec.ofNat 128 (beNat (aesEnc key (List.replicate 16 0)))
  let s := ghash h (padBlock aad ++ padBlock ct ++ beOctets 8 (8 * aad.length) ++ beOctets 8 (8 * ct.length))
  xorO (beOctets 16 s.toNat) (aesEnc key (iv ++ beOctets 4 1))
/-- GCM's counter mode on its text. -/
def gcmText (key iv xs : Octets) : Octets := ctr key (iv ++ beOctets 4 2) 4 xs

/-- A block doubled in CMAC's field. -/
def dbl (b : Octets) : Octets :=
  let n := 2 * beNat b
  beOctets 16 (if n < 2 ^ 128 then n else Nat.xor (n % 2 ^ 128) 0x87)
/-- CMAC with AES. -/
def cmac (key msg : Octets) : Octets :=
  let k1 := dbl (aesEnc key (List.replicate 16 0))
  let full := decide (msg ≠ []) && decide (msg.length % 16 = 0)
  let n := if msg = [] then 0 else (msg.length - 1) / 16 * 16
  let last := if full then xorO (msg.drop n) k1 else xorO (padBlock (msg.drop n ++ [0x80#8])) (dbl k1)
  (groups 16 msg.length (msg.take n) ++ [last]).foldl (fun c b => aesEnc key (xorO c b)) (List.replicate 16 0)

/-! ### SHA-2 and SHA-3 (FIPS 180-4, FIPS 202) -/

/-- The round constants of SHA-512; their upper halves are those of SHA-256. -/
def shaK : List (BitVec 64) :=
  [0x428A2F98D728AE22#64, 0x7137449123EF65CD#64, 0xB5C0FBCFEC4D3B2F#64, 0xE9B5DBA58189DBBC#64,
   0x3956C25BF348B538#64, 0x59F111F1B605D019#64, 0x923F82A4AF194F9B#64, 0xAB1C5ED5DA6D8118#64,
   0xD807AA98A3030242#64, 0x12835B0145706FBE#64, 0x243185BE4EE4B28C#64, 0x550C7DC3D5FFB4E2#64,
   0x72BE5D74F27B896F#64, 0x80DEB1FE3B1696B1#64, 0x9BDC06A725C71235#64, 0xC19BF174CF692694#64,
   0xE49B69C19EF14AD2#64, 0xEFBE4786384F25E3#64, 0xFC19DC68B8CD5B5#64, 0x240CA1CC77AC9C65#64,
   0x2DE92C6F592B0275#64, 0x4A7484AA6EA6E483#64, 0x5CB0A9DCBD41FBD4#64, 0x76F988DA831153B5#64,
   0x983E5152EE66DFAB#64, 0xA831C66D2DB43210#64, 0xB00327C898FB213F#64, 0xBF597FC7BEEF0EE4#64,
   0xC6E00BF33DA88FC2#64, 0xD5A79147930AA725#64, 0x6CA6351E003826F#64, 0x142929670A0E6E70#64,
   0x27B70A8546D22FFC#64, 0x2E1B21385C26C926#64, 0x4D2C6DFC5AC42AED#64, 0x53380D139D95B3DF#64,
   0x650A73548BAF63DE#64, 0x766A0ABB3C77B2A8#64, 0x81C2C92E47EDAEE6#64, 0x92722C851482353B#64,
   0xA2BFE8A14CF10364#64, 0xA81A664BBC423001#64, 0xC24B8B70D0F89791#64, 0xC76C51A30654BE30#64,
   0xD192E819D6EF5218#64, 0xD69906245565A910#64, 0xF40E35855771202A#64, 0x106AA07032BBD1B8#64,
   0x19A4C116B8D2D0C8#64, 0x1E376C085141AB53#64, 0x2748774CDF8EEB99#64, 0x34B0BCB5E19B48A8#64,
   0x391C0CB3C5C95A63#64, 0x4ED8AA4AE3418ACB#64, 0x5B9CCA4F7763E373#64, 0x682E6FF3D6B2B8A3#64,
   0x748F82EE5DEFB2FC#64, 0x78A5636F43172F60#64, 0x84C87814A1F0AB72#64, 0x8CC702081A6439EC#64,
   0x90BEFFFA23631E28#64, 0xA4506CEBDE82BDE9#64, 0xBEF9A3F7B2C67915#64, 0xC67178F2E372532B#64,
   0xCA273ECEEA26619C#64, 0xD186B8C721C0C207#64, 0xEADA7DD6CDE0EB1E#64, 0xF57D4F7FEE6ED178#64,
   0x6F067AA72176FBA#64, 0xA637DC5A2C898A6#64, 0x113F9804BEF90DAE#64, 0x1B710B35131C471B#64,
   0x28DB77F523047D84#64, 0x32CAAB7B40C72493#64, 0x3C9EBE0A15C9BEBC#64, 0x431D67C49C100D4C#64,
   0x4CC5D4BECB3E42B6#64, 0x597F299CFC657E2A#64, 0x5FCB6FAB3AD6FAEC#64, 0x6C44198C4A475817#64]
/-- SHA-512's initial value; its upper halves are SHA-256's. -/
def shaH512 : List (BitVec 64) :=
  [0x6A09E667F3BCC908#64, 0xBB67AE8584CAA73B#64, 0x3C6EF372FE94F82B#64, 0xA54FF53A5F1D36F1#64,
   0x510E527FADE682D1#64, 0x9B05688C2B3E6C1F#64, 0x1F83D9ABFB41BD6B#64, 0x5BE0CD19137E2179#64]
/-- SHA-384's initial value. -/
def shaH384 : List (BitVec 64) :=
  [0xCBBB9D5DC1059ED8#64, 0x629A292A367CD507#64, 0x9159015A3070DD17#64, 0x152FECD8F70E5939#64,
   0x67332667FFC00B31#64, 0x8EB44A8768581511#64, 0xDB0C2E0D64F98FA7#64, 0x47B5481DBEFA4FA4#64]

/-- The rotations and shifts of one SHA-2 word size. -/
structure ShaP where
  w : Nat
  rounds : Nat
  big0 : List Nat
  big1 : List Nat
  sm0 : List Nat
  sm1 : List Nat

/-- SHA-256's parameters. -/
def sha32 : ShaP := ⟨32, 64, [2, 13, 22], [6, 11, 25], [7, 18, 3], [17, 19, 10]⟩
/-- SHA-512's parameters. -/
def sha64 : ShaP := ⟨64, 80, [28, 34, 39], [14, 18, 41], [1, 8, 7], [19, 61, 6]⟩

/-- A word rotated right. -/
def ror (w n x : Nat) : Nat := (x >>> n) ||| ((x <<< (w - n)) % 2 ^ w)
/-- The three-rotation mix. -/
def mix3 (w : Nat) (r : List Nat) (x : Nat) : Nat := Nat.xor (Nat.xor (ror w (r.getD 0 0) x) (ror w (r.getD 1 0) x)) (ror w (r.getD 2 0) x)
/-- Two rotations and a shift. -/
def mix2 (w : Nat) (r : List Nat) (x : Nat) : Nat := Nat.xor (Nat.xor (ror w (r.getD 0 0) x) (ror w (r.getD 1 0) x)) (x >>> r.getD 2 0)

/-- The message schedule, last first. -/
def shaSched (p : ShaP) : Nat → List Nat → List Nat
  | 0, ws => ws
  | n + 1, ws =>
    let x := (mix2 p.w p.sm1 (ws.getD 1 0) + ws.getD 6 0 + mix2 p.w p.sm0 (ws.getD 14 0) + ws.getD 15 0) % 2 ^ p.w
    shaSched p n (x :: ws)
/-- One block. -/
def shaBlock (p : ShaP) (ks : List Nat) (h : List Nat) (blk : Octets) : List Nat :=
  let m := 2 ^ p.w
  let ws := (shaSched p (p.rounds - 16) ((groups (p.w / 8) 16 blk).map beNat).reverse).reverse
  let v := (ws.zip ks).foldl (fun (v : List Nat) e =>
    match v with
    | [a, b, c, d, e4, f, g, hh] =>
      let ch := Nat.xor (Nat.land e4 f) (Nat.land (m - 1 - e4) g)
      let maj := Nat.xor (Nat.xor (Nat.land a b) (Nat.land a c)) (Nat.land b c)
      let t1 := hh + mix3 p.w p.big1 e4 + ch + e.2 + e.1
      let t2 := mix3 p.w p.big0 a + maj
      [(t1 + t2) % m, a, b, c, (d + t1) % m, e4, f, g]
    | _ => v) h
  h.zipWith (fun x y => (x + y) % m) v
/-- A whole SHA-2 message, padded, into n octets. -/
def sha2 (p : ShaP) (ks iv : List Nat) (n : Nat) (msg : Octets) : Octets :=
  let b := 2 * p.w
  let k := p.w / 4
  let z := (2 * b - (msg.length + 1 + k) % b) % b
  let padded := msg ++ 0x80#8 :: List.replicate z 0 ++ beOctets k (8 * msg.length)
  (((groups b padded.length padded).foldl (shaBlock p ks) iv).flatMap (fun x => beOctets (p.w / 8) x)).take n
/-- SHA-256. -/
def sha256 (m : Octets) : Octets := sha2 sha32 ((shaK.take 64).map (fun k => k.toNat >>> 32)) (shaH512.map (fun k => k.toNat >>> 32)) 32 m
/-- SHA-384. -/
def sha384 (m : Octets) : Octets := sha2 sha64 (shaK.map (·.toNat)) (shaH384.map (·.toNat)) 48 m
/-- SHA-512. -/
def sha512 (m : Octets) : Octets := sha2 sha64 (shaK.map (·.toNat)) (shaH512.map (·.toNat)) 64 m

/-- The round constants of Keccak. -/
def keccakRc : List (BitVec 64) :=
  [0x1#64, 0x8082#64, 0x800000000000808A#64, 0x8000000080008000#64,
   0x808B#64, 0x80000001#64, 0x8000000080008081#64, 0x8000000000008009#64,
   0x8A#64, 0x88#64, 0x80008009#64, 0x8000000A#64,
   0x8000808B#64, 0x800000000000008B#64, 0x8000000000008089#64, 0x8000000000008003#64,
   0x8000000000008002#64, 0x8000000000000080#64, 0x800A#64, 0x800000008000000A#64,
   0x8000000080008081#64, 0x8000000000008080#64, 0x80000001#64, 0x8000000080008008#64]
/-- The rotation of lane (x, y), at 5y + x. -/
def keccakRot : List Nat := [0, 1, 62, 28, 27, 36, 44, 6, 55, 20, 3, 10, 43, 25, 39, 41, 45, 15, 21, 8, 18, 2, 61, 56, 14]
/-- One round of Keccak-f[1600]; lane (x, y) at 5y + x. -/
def keccakRound (s : List (BitVec 64)) (rc : BitVec 64) : List (BitVec 64) :=
  let a (i : Nat) : BitVec 64 := s.getD i 0
  let c := (List.range 5).map fun x => a x ^^^ a (x + 5) ^^^ a (x + 10) ^^^ a (x + 15) ^^^ a (x + 20)
  let t := (List.range 25).map fun i => a i ^^^ c.getD ((i + 4) % 5) 0 ^^^ (c.getD ((i % 5 + 1) % 5) 0).rotateLeft 1
  -- lane (x, y) goes to (y, 2x + 3y)
  let b := (List.range 25).map fun i =>
    let (x', y') := (i % 5, i / 5)
    -- the source (x, y) has y = x' and 2x + 3y = y' modulo 5
    let y := x'
    let x := 3 * (y' + 10 - 3 * y % 5) % 5
    (t.getD (5 * y + x) 0).rotateLeft (keccakRot.getD (5 * y + x) 0)
  let d := (List.range 25).map fun i =>
    b.getD i 0 ^^^ (~~~(b.getD (i / 5 * 5 + (i + 1) % 5) 0) &&& b.getD (i / 5 * 5 + (i % 5 + 2) % 5) 0)
  match d with
  | x :: r => (x ^^^ rc) :: r
  | [] => []
/-- Keccak-f[1600]. -/
def keccakF (s : List (BitVec 64)) : List (BitVec 64) := keccakRc.foldl keccakRound s
/-- Absorb a block into the state. -/
def absorb (s : List (BitVec 64)) (blk : Octets) : List (BitVec 64) :=
  keccakF (s.zipIdx.map fun e => e.1 ^^^ BitVec.ofNat 64 (leNat ((blk.drop (8 * e.2)).take 8)))
/-- SHA3-256. -/
def sha3 (m : Octets) : Octets :=
  let z := 135 - m.length % 136
  let padded := if z = 0 then m ++ [0x86#8] else m ++ 0x06#8 :: List.replicate (z - 1) 0 ++ [0x80#8]
  (((groups 136 padded.length padded).foldl absorb (List.replicate 25 0)).flatMap (fun l => leOctets 8 l.toNat)).take 32

/-! ### HMAC and key derivation (FIPS 198-1, SP 800-108, RFC 5869) -/

/-- HMAC over a hash with blocks of b octets. -/
def hmac (h : Octets → Octets) (b : Nat) (key msg : Octets) : Octets :=
  let k0 := if b < key.length then h key else key
  let k := k0 ++ List.replicate (b - k0.length) 0
  h (k.map (· ^^^ 0x5C#8) ++ h (k.map (· ^^^ 0x36#8) ++ msg))
/-- The counter mode of SP 800-108 with a 32-bit counter before the fixed input: n octets. -/
def kdfCtr (prf : Octets → Octets) (len n : Nat) (fixed : Octets) : Octets :=
  ((List.range ((n + len - 1) / len)).flatMap fun i => prf (beOctets 4 (i + 1) ++ fixed)).take n
/-- HKDF: n octets from a salt, key and info. -/
def hkdf (h : Octets → Octets) (b len n : Nat) (salt key info : Octets) : Octets :=
  let prk := hmac h b (if salt = [] then List.replicate len 0 else salt) key
  (((List.range ((n + len - 1) / len)).foldl (fun (p : Octets × Octets) i =>
    let t := hmac h b prk (p.1 ++ info ++ [BitVec.ofNat 8 (i + 1)])
    (t, p.2 ++ t)) ([], [])).2).take n

/-! ### Curves (FIPS 186-5, SP 800-56A, RFC 7748) -/

/-- A power modulo p by squaring, over `fuel` bits of the exponent. -/
def powMod (p : Nat) : Nat → Nat → Nat → Nat
  | 0, _, _ => 1 % p
  | fuel + 1, b, e =>
    let h := powMod p fuel (b * b % p) (e / 2)
    if e % 2 = 1 then b * h % p else h
/-- The inverse modulo a prime. -/
def invMod (p a : Nat) : Nat := powMod p 521 a (p - 2)
/-- A difference modulo p. -/
def subMod (p a b : Nat) : Nat := (a % p + p - b % p) % p

/-- A short Weierstrass curve with a = −3, its order and base point. -/
structure Curve where
  p : Nat
  b : Nat
  n : Nat
  gx : Nat
  gy : Nat
  len : Nat

/-- P-256. -/
def p256 : Curve :=
  { p := 0xFFFFFFFF00000001000000000000000000000000FFFFFFFFFFFFFFFFFFFFFFFF
    b := 0x5AC635D8AA3A93E7B3EBBD55769886BC651D06B0CC53B0F63BCE3C3E27D2604B
    n := 0xFFFFFFFF00000000FFFFFFFFFFFFFFFFBCE6FAADA7179E84F3B9CAC2FC632551
    gx := 0x6B17D1F2E12C4247F8BCE6E563A440F277037D812DEB33A0F4A13945D898C296
    gy := 0x4FE342E2FE1A7F9B8EE7EB4A7C0F9E162BCE33576B315ECECBB6406837BF51F5
    len := 32 }
/-- P-384. -/
def p384 : Curve :=
  { p := 0xFFFFFFFFFFFFFFFFFFFFFFFFFFFFFFFFFFFFFFFFFFFFFFFFFFFFFFFFFFFFFFFEFFFFFFFF0000000000000000FFFFFFFF
    b := 0xB3312FA7E23EE7E4988E056BE3F82D19181D9C6EFE8141120314088F5013875AC656398D8A2ED19D2A85C8EDD3EC2AEF
    n := 0xFFFFFFFFFFFFFFFFFFFFFFFFFFFFFFFFFFFFFFFFFFFFFFFFC7634D81F4372DDF581A0DB248B0A77AECEC196ACCC52973
    gx := 0xAA87CA22BE8B05378EB1C71EF320AD746E1D3B628BA79B9859F741E082542A385502F25DBF55296C3A545E3872760AB7
    gy := 0x3617DE4A96262C6F5D9E98BF9292DC29F8F41DBD289A147CE9DA3113B5F0B8C00A60B1CE1D7E819D7A431D7C90EA0E5F
    len := 48 }

/-- A point of a curve, none at infinity. -/
abbrev Pt := Option (Nat × Nat)
/-- The sum of two points. -/
def Curve.add (c : Curve) (x y : Pt) : Pt :=
  match x, y with
  | none, q => q
  | q, none => q
  | some (x1, y1), some (x2, y2) =>
    if x1 = x2 ∧ (y1 + y2) % c.p = 0 then none
    else
      let l := if x1 = x2 then subMod c.p (3 * x1 * x1) 3 * invMod c.p (2 * y1 % c.p) % c.p
        else subMod c.p y2 y1 * invMod c.p (subMod c.p x2 x1) % c.p
      let x3 := subMod c.p (subMod c.p (l * l) x1) x2
      some (x3, subMod c.p (l * subMod c.p x1 x3) y1)
/-- A multiple of a point, over `fuel` bits. -/
def Curve.mul (c : Curve) : Nat → Nat → Pt → Pt
  | 0, _, _ => none
  | fuel + 1, k, x =>
    let r := Curve.mul c fuel (k / 2) (c.add x x)
    if k % 2 = 1 then c.add x r else r
/-- A multiple of the base point. -/
def Curve.base (c : Curve) (k : Nat) : Pt := c.mul (8 * c.len) k (some (c.gx, c.gy))
/-- A point uncompressed: 0x04, then its coordinates. -/
def Curve.enc (c : Curve) (x : Pt) : Octets :=
  match x with
  | none => [0]
  | some (a, b) => 4 :: beOctets c.len a ++ beOctets c.len b
/-- An uncompressed point of the curve. -/
def Curve.dec (c : Curve) (xs : Octets) : Option (Nat × Nat) :=
  let a := beNat ((xs.drop 1).take c.len)
  let b := beNat (xs.drop (1 + c.len))
  if xs.length = 1 + 2 * c.len ∧ xs.head? = some 4 ∧ a < c.p ∧ b < c.p ∧ b * b % c.p = subMod c.p (a * a * a + c.b) (3 * a) then some (a, b)
  else none
/-- The integer ECDSA takes from a hash. -/
def Curve.ofHash (c : Curve) (h : Octets) : Nat := beNat (h.take c.len)
/-- An ECDSA signature with a nonce; none when the nonce is unusable. -/
def Curve.sign (c : Curve) (d k : Nat) (h : Octets) : Option Octets :=
  if k = 0 ∨ c.n ≤ k then none
  else match c.base k with
    | none => none
    | some (x, _) =>
      let r := x % c.n
      let s := invMod c.n k * (c.ofHash h + r * d) % c.n
      if r = 0 ∨ s = 0 then none else some (beOctets c.len r ++ beOctets c.len s)
/-- Does an ECDSA signature verify? -/
def Curve.verify (c : Curve) (pk sig h : Octets) : Bool :=
  match c.dec pk with
  | none => false
  | some q =>
    let r := beNat (sig.take c.len)
    let s := beNat (sig.drop c.len)
    if sig.length ≠ 2 * c.len ∨ r = 0 ∨ c.n ≤ r ∨ s = 0 ∨ c.n ≤ s then false
    else
      let w := invMod c.n s
      match c.add (c.base (c.ofHash h * w % c.n)) (c.mul (8 * c.len) (r * w % c.n) (some q)) with
      | none => false
      | some (x, _) => decide (x % c.n = r)

/-- The prime of Curve25519. -/
def p25519 : Nat := 2 ^ 255 - 19
/-- A scalar of X25519 or Ed25519, clamped. -/
def clamp25519 (k : Octets) : Nat :=
  let n := leNat k
  Nat.lor (n % 2 ^ 254 / 8 * 8) (2 ^ 254)
/-- The Montgomery ladder of X25519 over the bits of k from the top. -/
def ladder (k u : Nat) : Nat → (Nat × Nat) × (Nat × Nat) → (Nat × Nat) × (Nat × Nat)
  | 0, s => s
  | i + 1, ((x2, z2), (x3, z3)) =>
    let p := p25519
    let sw := k.testBit i
    let (x2, z2, x3, z3) := if sw then (x3, z3, x2, z2) else (x2, z2, x3, z3)
    let a := (x2 + z2) % p
    let aa := a * a % p
    let b := subMod p x2 z2
    let bb := b * b % p
    let e := subMod p aa bb
    let da := subMod p x3 z3 * a % p
    let cb := (x3 + z3) % p * b % p
    let y3 := (da + cb) * (da + cb) % p
    let d := subMod p da cb
    let w3 := u * (d * d % p) % p
    let y2 := aa * bb % p
    let w2 := e * (aa + 121665 * e) % p
    ladder k u i (if sw then ((y3, w3), (y2, w2)) else ((y2, w2), (y3, w3)))
/-- X25519. -/
def x25519 (k u : Octets) : Octets :=
  let x := leNat u % 2 ^ 255 % p25519
  let ((a, b), _) := ladder (clamp25519 k) x 255 ((1, 0), (x, 1))
  leOctets 32 (a * invMod p25519 b % p25519)

/-- The constant d of Edwards25519. -/
def edD : Nat := subMod p25519 0 (121665 * invMod p25519 121666 % p25519)
/-- The order of Edwards25519's base point. -/
def edL : Nat := 2 ^ 252 + 27742317777372353535851937790883648493
/-- The sum of two points of Edwards25519. -/
def edAdd (x y : Nat × Nat) : Nat × Nat :=
  let p := p25519
  let t := edD * (x.1 * y.1 % p) % p * (x.2 * y.2 % p) % p
  ((x.1 * y.2 + y.1 * x.2) % p * invMod p ((1 + t) % p) % p, (x.2 * y.2 + x.1 * y.1) % p * invMod p (subMod p 1 t) % p)
/-- A multiple of a point of Edwards25519, over `fuel` bits. -/
def edMul : Nat → Nat → Nat × Nat → Nat × Nat
  | 0, _, _ => (0, 1)
  | fuel + 1, k, x =>
    let r := edMul fuel (k / 2) (edAdd x x)
    if k % 2 = 1 then edAdd x r else r
/-- The point with a y coordinate and the parity of x, when it exists. -/
def edPoint (y : Nat) (odd : Bool) : Option (Nat × Nat) :=
  let p := p25519
  let u := subMod p (y * y) 1
  let v := (edD * (y * y % p) + 1) % p
  let q := u * invMod p v % p
  let x0 := powMod p 521 q ((p + 3) / 8)
  let x1 := if x0 * x0 % p = q then x0 else x0 * powMod p 521 2 ((p - 1) / 4) % p
  if p ≤ y ∨ x1 * x1 % p ≠ q ∨ (x1 = 0 ∧ odd = true) then none
  else some (if decide (x1 % 2 = 1) = odd then x1 else p - x1, y)
/-- Edwards25519's base point: y = 4/5, x even. -/
def edBase : Nat × Nat := (edPoint (4 * invMod p25519 5 % p25519) false).getD (0, 1)
/-- A point as 32 octets. -/
def edEnc (x : Nat × Nat) : Octets := leOctets 32 (x.2 + (x.1 % 2) * 2 ^ 255)
/-- A point from 32 octets. -/
def edDec (xs : Octets) : Option (Nat × Nat) :=
  if xs.length = 32 then edPoint (leNat xs % 2 ^ 255) (decide (2 ^ 255 ≤ leNat xs)) else none
/-- Ed25519's public key of a seed. -/
def edPub (seed : Octets) : Octets := edEnc (edMul 256 (clamp25519 ((sha512 seed).take 32)) edBase)
/-- An Ed25519 signature. -/
def edSign (seed msg : Octets) : Octets :=
  let h := sha512 seed
  let a := clamp25519 (h.take 32)
  let pk := edEnc (edMul 256 a edBase)
  let r := leNat (sha512 (h.drop 32 ++ msg)) % edL
  let rr := edEnc (edMul 256 r edBase)
  let k := leNat (sha512 (rr ++ pk ++ msg)) % edL
  rr ++ leOctets 32 ((r + k * a) % edL)
/-- Does an Ed25519 signature verify? -/
def edVerify (pk sig msg : Octets) : Bool :=
  match edDec pk, edDec (sig.take 32) with
  | some a, some r =>
    let s := leNat (sig.drop 32)
    let k := leNat (sha512 (sig.take 32 ++ pk ++ msg)) % edL
    decide (sig.length = 64) && decide (s < edL) && decide (edMul 256 s edBase = edAdd r (edMul 256 k a))
  | _, _ => false

end Sys2Proof.Machine.Crypto
end

