-- ==== Sys2Proof/Machine/Lattice.lean ====
section
/-!
DEFINITION. ML-KEM-768 and ML-DSA-65 (R530), as FIPS 203 and FIPS 204 give them (assumption 50). Rejection sampling
works on a long but finite output of its XOF, and signing tries at most 1,000 times.
-/
namespace Sys2Proof.Machine.Crypto

open Sys2Proof

/-! ### SHAKE and SHA3-512 (FIPS 202) -/

/-- Pad a message for a sponge of rate r with its domain octet. -/
def padSponge (r : Nat) (d : BitVec 8) (m : Octets) : Octets :=
  let z := r - 1 - m.length % r
  if z = 0 then m ++ [d ^^^ 0x80#8] else m ++ d :: List.replicate (z - 1) 0 ++ [0x80#8]
/-- The first octets of a sponge's state. -/
def squeezeBlock (r : Nat) (s : List (BitVec 64)) : Octets := (s.flatMap (fun l => leOctets 8 l.toNat)).take r
/-- Squeeze a number of blocks. -/
def squeeze (r : Nat) : Nat → List (BitVec 64) → Octets
  | 0, _ => []
  | n + 1, s => squeezeBlock r s ++ squeeze r n (keccakF s)
/-- n octets of a sponge of rate r. -/
def sponge (r : Nat) (d : BitVec 8) (n : Nat) (m : Octets) : Octets :=
  let p := padSponge r d m
  (squeeze r ((n + r - 1) / r) ((groups r p.length p).foldl absorb (List.replicate 25 0))).take n
/-- SHAKE128. -/
def shake128 (n : Nat) (m : Octets) : Octets := sponge 168 0x1F#8 n m
/-- SHAKE256. -/
def shake256 (n : Nat) (m : Octets) : Octets := sponge 136 0x1F#8 n m
/-- SHA3-512. -/
def sha3_512 (m : Octets) : Octets := sponge 72 0x06#8 64 m

/-! ### Bits and polynomials -/

/-- The bits of octets, least significant first. -/
def bitsOf (xs : Octets) : List Bool := xs.flatMap fun x => (List.range 8).map x.getLsbD
/-- The number of bits, least significant first. -/
def bitsNat (bs : List Bool) : Nat := bs.foldr (fun b n => 2 * n + (if b then 1 else 0)) 0
/-- Lists of w-bit numbers as octets, least significant bit first. -/
def packBits (w : Nat) (vs : List Nat) : Octets :=
  let bs := vs.flatMap fun v => (List.range w).map v.testBit
  (bs.zipIdx.filter (fun e => e.2 % 8 = 0)).map fun e => BitVec.ofNat 8 (bitsNat ((bs.drop e.2).take 8))
/-- Octets as w-bit numbers. -/
def unpackBits (w n : Nat) (xs : Octets) : List Nat :=
  let v := leNat xs
  (List.range n).map fun i => (v >>> (w * i)) % 2 ^ w
/-- The low b bits of a number, reversed. -/
def bitRev (b i : Nat) : Nat := (List.range b).foldl (fun n k => if i.testBit k then n + 2 ^ (b - 1 - k) else n) 0

/-- A polynomial's value at a point, coefficients lowest first. -/
def horner (q r : Nat) (f : List Nat) : Nat := f.foldr (fun c v => (c + r * v) % q) 0
/-- Values at the roots. -/
def evalAt (q : Nat) (roots f : List Nat) : List Nat := roots.map fun r => horner q r f
/-- The polynomial with given values at all roots of y^n = −1: the inverse of `evalAt`. -/
def interp (q : Nat) (roots v : List Nat) : List Nat :=
  let n := roots.length
  let ni := invMod q n
  let inv := roots.map (invMod q)
  (List.range n).map fun j => ni * ((v.zip inv).foldl (fun s e => (s + e.1 * powMod q 12 e.2 j) % q) 0) % q
/-- Sums of coefficients. -/
def polyAdd (q : Nat) (a b : List Nat) : List Nat := a.zipWith (fun x y => (x + y) % q) b
/-- Differences of coefficients. -/
def polySub (q : Nat) (a b : List Nat) : List Nat := a.zipWith (subMod q) b
/-- A sum of vectors' products, in the transformed domain. -/
def dotHat (q n : Nat) (mul : List Nat → List Nat → List Nat) (a b : List (List Nat)) : List Nat :=
  (a.zip b).foldl (fun s e => polyAdd q s (mul e.1 e.2)) (List.replicate n 0)

/-! ### ML-KEM-768 (FIPS 203) -/

/-- The modulus of ML-KEM. -/
def kq : Nat := 3329
/-- The 128 roots of y^128 = −1 in the order of FIPS 203: 17^(2·BitRev7(i) + 1). -/
def kRoots : List Nat := (List.range 128).map fun i => powMod kq 10 17 (2 * bitRev 7 i + 1)
/-- The even or odd coefficients. -/
def half (odd : Nat) (f : List Nat) : List Nat := (List.range (f.length / 2)).map fun i => f.getD (2 * i + odd) 0
/-- Two lists interleaved. -/
def weave (a b : List Nat) : List Nat := (a.zip b).flatMap fun e => [e.1, e.2]
/-- The transform of ML-KEM: the residues modulo X² − γ. -/
def kNtt (f : List Nat) : List Nat := weave (evalAt kq kRoots (half 0 f)) (evalAt kq kRoots (half 1 f))
/-- Its inverse. -/
def kInv (f : List Nat) : List Nat := weave (interp kq kRoots (half 0 f)) (interp kq kRoots (half 1 f))
/-- The product in the transformed domain. -/
def kMul (a b : List Nat) : List Nat :=
  (List.range 128).flatMap fun i =>
    let g := kRoots.getD i 0
    let (a0, a1, b0, b1) := (a.getD (2 * i) 0, a.getD (2 * i + 1) 0, b.getD (2 * i) 0, b.getD (2 * i + 1) 0)
    [(a0 * b0 + a1 * b1 % kq * g) % kq, (a0 * b1 + a1 * b0) % kq]
/-- A uniform polynomial of the transformed domain. -/
def kSample (seed : Octets) : List Nat :=
  let cand := (groups 3 672 (shake128 2016 seed)).flatMap fun c =>
    let (x, y, z) := ((c.getD 0 0).toNat, (c.getD 1 0).toNat, (c.getD 2 0).toNat)
    [x + 256 * (y % 16), y / 16 + 16 * z]
  ((cand.filter (fun v => decide (v < kq))) ++ List.replicate 256 0).take 256
/-- A polynomial of the centred binomial distribution with η = 2. -/
def kCbd (s : Octets) (n : Nat) : List Nat :=
  let bs := bitsOf (shake256 128 (s ++ [BitVec.ofNat 8 n]))
  let b (i : Nat) : Nat := if bs.getD i false then 1 else 0
  (List.range 256).map fun i => subMod kq (b (4 * i) + b (4 * i + 1)) (b (4 * i + 2) + b (4 * i + 3))
/-- Compress to d bits. -/
def kComp (d x : Nat) : Nat := (2 ^ (d + 1) * x + kq) / (2 * kq) % 2 ^ d
/-- Decompress from d bits. -/
def kDecomp (d y : Nat) : Nat := (kq * y + 2 ^ (d - 1)) / 2 ^ d
/-- Row i of the matrix, or of its transpose. -/
def kRow (rho : Octets) (tr : Bool) (i : Nat) : List (List Nat) :=
  (List.range 3).map fun j => kSample (rho ++ (if tr then [BitVec.ofNat 8 i, BitVec.ofNat 8 j] else [BitVec.ofNat 8 j, BitVec.ofNat 8 i]))
/-- The transformed secret vector and the encapsulation key of the seed d. -/
def kKeyGen (d : Octets) : List (List Nat) × Octets :=
  let g := sha3_512 (d ++ [3#8])
  let (rho, sig) := (g.take 32, g.drop 32)
  let s := (List.range 3).map fun i => kNtt (kCbd sig i)
  let e := (List.range 3).map fun i => kNtt (kCbd sig (3 + i))
  let t := (List.range 3).map fun i => polyAdd kq (dotHat kq 256 kMul (kRow rho false i) s) (e.getD i [])
  (s, t.flatMap (packBits 12) ++ rho)
/-- The encapsulation key of the seeds d and z. -/
def kemPub (dz : Octets) : Octets := (kKeyGen (dz.take 32)).2
/-- Three polynomials of w-bit coefficients. -/
def kVec (w : Nat) (xs : Octets) : List (List Nat) := (List.range 3).map fun i => unpackBits w 256 ((xs.drop (32 * w * i)).take (32 * w))
/-- Is it an encapsulation key: its length, and every coefficient below the modulus? -/
def kemKeyOk (ek : Octets) : Bool :=
  decide (ek.length = 1184) && (kVec 12 (ek.take 1152)).all (fun f => f.all (fun c => decide (c < kq)))
/-- The encryption of a message m with the randomness r. -/
def kEncrypt (ek m r : Octets) : Octets :=
  let t := (kVec 12 (ek.take 1152)).map (fun f => f.map (· % kq))
  let rho := ek.drop 1152
  let y := (List.range 3).map fun i => kNtt (kCbd r i)
  let u := (List.range 3).map fun i => polyAdd kq (kInv (dotHat kq 256 kMul (kRow rho true i) y)) (kCbd r (3 + i))
  let mu := (unpackBits 1 256 m).map (kDecomp 1)
  let v := polyAdd kq (polyAdd kq (kInv (dotHat kq 256 kMul t y)) (kCbd r 6)) mu
  u.flatMap (fun f => packBits 10 (f.map (kComp 10))) ++ packBits 4 (v.map (kComp 4))
/-- Encapsulation with the message m: the shared secret and the ciphertext. -/
def kemEncaps (ek m : Octets) : Octets × Octets :=
  let g := sha3_512 (m ++ sha3 ek)
  (g.take 32, kEncrypt ek m (g.drop 32))
/-- Decapsulation with the seeds d and z. -/
def kemDecaps (dz ct : Octets) : Octets :=
  let (s, ek) := kKeyGen (dz.take 32)
  let u := (kVec 10 (ct.take 960)).map (fun f => f.map (kDecomp 10))
  let v := (unpackBits 4 256 (ct.drop 960)).map (kDecomp 4)
  let w := polySub kq v (kInv (dotHat kq 256 kMul s (u.map kNtt)))
  let m := packBits 1 (w.map (kComp 1))
  let g := sha3_512 (m ++ sha3 ek)
  if kEncrypt ek m (g.drop 32) = ct then g.take 32 else shake256 32 (dz.drop 32 ++ ct)

/-! ### ML-DSA-65 (FIPS 204) -/

/-- The modulus of ML-DSA. -/
def dq : Nat := 8380417
/-- γ1 of ML-DSA-65. -/
def dGamma1 : Nat := 524288
/-- γ2 of ML-DSA-65. -/
def dGamma2 : Nat := 261888
/-- β = τη of ML-DSA-65. -/
def dBeta : Nat := 196
/-- The 256 roots of X^256 = −1 in the order of FIPS 204. -/
def dRoots : List Nat := (List.range 128).flatMap fun i =>
  let r := powMod dq 10 1753 (bitRev 8 (128 + i))
  [r, dq - r]
/-- The product in the transformed domain. -/
def dMul (a b : List Nat) : List Nat := a.zipWith (fun x y => x * y % dq) b
/-- The transform. -/
def dNtt (f : List Nat) : List Nat := evalAt dq dRoots f
/-- Its inverse. -/
def dInv (f : List Nat) : List Nat := interp dq dRoots f
/-- The centred value of a residue. -/
def dCen (x : Nat) : Int := if x ≤ dq / 2 then (x : Int) else (x : Int) - dq
/-- The residue of a signed value. -/
def dRes (x : Int) : Nat := (x % (dq : Int)).toNat
/-- The greatest magnitude of a polynomial's coefficients. -/
def dNorm (f : List Nat) : Nat := f.foldl (fun m x => max m (dCen x).natAbs) 0

/-- A uniform polynomial of the transformed domain. -/
def dSample (seed : Octets) : List Nat :=
  let cand := (groups 3 448 (shake128 1344 seed)).map fun c =>
    (c.getD 0 0).toNat + 256 * (c.getD 1 0).toNat + 65536 * ((c.getD 2 0).toNat % 128)
  ((cand.filter (fun v => decide (v < dq))) ++ List.replicate 256 0).take 256
/-- A polynomial with coefficients from −4 to 4. -/
def dBounded (seed : Octets) : List Nat :=
  let cand := (shake256 544 seed).flatMap fun z => [z.toNat % 16, z.toNat / 16]
  ((cand.filter (fun v => decide (v < 9))).map (fun b => subMod dq 4 b) ++ List.replicate 256 0).take 256
/-- The matrix row r. -/
def dRow (rho : Octets) (r : Nat) : List (List Nat) :=
  (List.range 5).map fun s => dSample (rho ++ [BitVec.ofNat 8 s, BitVec.ofNat 8 r])
/-- The challenge with 49 coefficients ±1. -/
def dBall (seed : Octets) : List Nat :=
  let xs := shake256 680 seed
  let signs := bitsOf (xs.take 8)
  ((List.range 49).foldl (fun (p : List Nat × Octets) k =>
    let i := 207 + k
    let rest := p.2.dropWhile (fun x => decide (i < x.toNat))
    let j := (rest.headD 0).toNat
    let c := p.1.set i (p.1.getD j 0)
    (c.set j (if signs.getD k false then dq - 1 else 1), rest.drop 1)) (List.replicate 256 0, xs.drop 8)).1

/-- High and low bits of a residue (Decompose). -/
def dDecomp (r : Nat) : Nat × Int :=
  let m := 2 * dGamma2
  let r0 : Int := if r % m ≤ dGamma2 then (r % m : Nat) else ((r % m : Nat) : Int) - m
  if (r : Int) - r0 = (dq : Int) - 1 then (0, r0 - 1) else (((r : Int) - r0).toNat / m, r0)
/-- High bits. -/
def dHigh (r : Nat) : Nat := (dDecomp r).1
/-- The high bits a hint restores. -/
def dUse (h : Bool) (r : Nat) : Nat :=
  let (r1, r0) := dDecomp r
  if !h then r1 else if 0 < r0 then (r1 + 1) % 16 else (r1 + 15) % 16
/-- The encoding of w1. -/
def dW1 (w : List (List Nat)) : Octets := w.flatMap (packBits 4)

/-- What a seed ξ expands to: ρ, K, s1, s2, t. -/
structure DKey where
  rho : Octets
  k : Octets
  s1 : List (List Nat)
  s2 : List (List Nat)
  t : List (List Nat)

/-- Key generation from the seed ξ. -/
def dKeyGen (xi : Octets) : DKey :=
  let g := shake256 128 (xi ++ [6#8, 5#8])
  let rho := g.take 32
  let rp := (g.drop 32).take 64
  let s1 := (List.range 5).map fun r => dBounded (rp ++ leOctets 2 r)
  let s2 := (List.range 6).map fun r => dBounded (rp ++ leOctets 2 (r + 5))
  let sh := s1.map dNtt
  let t := (List.range 6).map fun r => polyAdd dq (dInv (dotHat dq 256 dMul (dRow rho r) sh)) (s2.getD r [])
  ⟨rho, g.drop 96, s1, s2, t⟩
/-- Power2Round: the high part, and the low part as a residue. -/
def dP2 (r : Nat) : Nat × Nat :=
  let l : Int := if r % 8192 ≤ 4096 then (r % 8192 : Nat) else ((r % 8192 : Nat) : Int) - 8192
  (((r : Int) - l).toNat / 8192, dRes l)
/-- The public key. -/
def DKey.pub (x : DKey) : Octets := x.rho ++ x.t.flatMap (fun f => packBits 10 (f.map (fun c => (dP2 c).1)))
/-- The public key of a seed. -/
def dsaPub (xi : Octets) : Octets := (dKeyGen xi).pub
/-- The message as pure signing with an empty context frames it. -/
def dsaMsg (m : Octets) : Octets := [0#8, 0#8] ++ m

/-- The hint of a signature, packed. -/
def dHintPack (h : List (List Bool)) : Octets :=
  let pos := h.map fun f => (f.zipIdx.filter (·.1)).map (·.2)
  let flat := pos.flatten
  let ends := (List.range 6).map fun i => ((pos.take (i + 1)).flatten).length
  (flat ++ List.replicate (55 - flat.length) 0 ++ ends).map (BitVec.ofNat 8)
/-- The hint unpacked; none when malformed. -/
def dHintUnpack (y : Octets) : Option (List (List Bool)) :=
  let v := y.map (·.toNat)
  let ends := v.drop 55
  let starts := 0 :: ends
  let rising (l : List Nat) : Bool := (l.zip (l.drop 1)).all (fun e => decide (e.1 < e.2))
  let segs := (List.range 6).map fun i => (v.take (ends.getD i 0)).drop (starts.getD i 0)
  let okEnds := (List.range 6).all fun i => decide (starts.getD i 0 ≤ ends.getD i 0) && decide (ends.getD i 0 ≤ 55)
  if okEnds && segs.all rising && ((v.take 55).drop (ends.getD 5 0)).all (fun x => decide (x = 0)) then
    some (segs.map fun s => (List.range 256).map fun j => s.contains j)
  else none

/-- One attempt to sign with the counter κ; none when it is rejected. -/
def dAttempt (x : DKey) (mu rpp : Octets) (kappa : Nat) : Option Octets :=
  let y := (List.range 5).map fun r =>
    (unpackBits 20 256 (shake256 640 (rpp ++ leOctets 2 (kappa + r)))).map (fun v => subMod dq dGamma1 v)
  let yh := y.map dNtt
  let w := (List.range 6).map fun r => dInv (dotHat dq 256 dMul (dRow x.rho r) yh)
  let ct := shake256 48 (mu ++ dW1 (w.map (fun f => f.map dHigh)))
  let ch := dNtt (dBall ct)
  let byC (f : List Nat) : List Nat := dInv (dMul ch (dNtt f))
  let z := (List.range 5).map fun r => polyAdd dq (y.getD r []) (byC (x.s1.getD r []))
  let wc := (List.range 6).map fun r => polySub dq (w.getD r []) (byC (x.s2.getD r []))
  let lowMax : Nat := (wc.flatMap fun f => f.map fun c => (dDecomp c).2.natAbs).foldl max 0
  let zMax : Nat := (z.map dNorm).foldl max 0
  if dGamma1 - dBeta ≤ zMax ∨ dGamma2 - dBeta ≤ lowMax then none
  else
    let ct0 : List (List Nat) := x.t.map fun f => byC (f.map (fun c => (dP2 c).2))
    let h := (List.range 6).map fun r =>
      ((wc.getD r []).zip (ct0.getD r [])).map fun e => decide (dHigh ((e.1 + e.2) % dq) ≠ dHigh e.1)
    let n : Nat := (h.map (fun f => (f.filter id).length)).sum
    if dGamma2 ≤ (ct0.map dNorm).foldl max 0 ∨ 55 < n then none
    else some (ct ++ z.flatMap (fun f => packBits 20 (f.map (fun c => subMod dq dGamma1 c))) ++ dHintPack h)
/-- Attempts until one stands. -/
def dAttempts (x : DKey) (mu rpp : Octets) : Nat → Nat → Octets
  | 0, _ => []
  | fuel + 1, kappa =>
    match dAttempt x mu rpp kappa with
    | some s => s
    | none => dAttempts x mu rpp fuel (kappa + 5)
/-- A hedged signature with the randomness rnd. -/
def dsaSign (xi m rnd : Octets) : Octets :=
  let x := dKeyGen xi
  let mu := shake256 64 (shake256 64 x.pub ++ dsaMsg m)
  dAttempts x mu (shake256 64 (x.k ++ rnd ++ mu)) 1000 0
/-- Does a signature verify? -/
def dsaVerify (pk sig m : Octets) : Bool :=
  match dHintUnpack (sig.drop 3248) with
  | none => false
  | some h =>
    let rho := pk.take 32
    let t1 := (List.range 6).map fun i => unpackBits 10 256 ((pk.drop (32 + 320 * i)).take 320)
    let ct := sig.take 48
    let z := (List.range 5).map fun i => (unpackBits 20 256 ((sig.drop (48 + 640 * i)).take 640)).map (fun v => subMod dq dGamma1 v)
    let mu := shake256 64 (shake256 64 pk ++ dsaMsg m)
    let ch := dNtt (dBall ct)
    let zh := z.map dNtt
    let w1 := (List.range 6).map fun r =>
      let a := dotHat dq 256 dMul (dRow rho r) zh
      let b := dMul ch (dNtt ((t1.getD r []).map (fun c => c * 8192 % dq)))
      ((h.getD r []).zip (dInv (polySub dq a b))).map fun e => dUse e.1 e.2
    decide (pk.length = 1952) && decide (sig.length = 3309) && decide ((z.map dNorm).foldl max 0 < dGamma1 - dBeta) &&
      decide (shake256 48 (mu ++ dW1 w1) = ct)

end Sys2Proof.Machine.Crypto
end

