-- ==== Sys2Proof/Config.lean ====
section
/-!
DEFINITION. What one device fixes and the free values: constants with no body, so nothing can be proved of their
values. Each is named in the assumption log.
-/
namespace Sys2Proof.Config

/-- A free value of the given width, one for each draw (assumption 2). -/
opaque freeValue (w : Nat) : Nat → BitVec w

/-- Is a result tiny by the rounded value (true) or by the exact one? IEEE 754 leaves it to the implementation and
R157 does not say (assumption 5). -/
opaque tinyAfterRounding : Bool

/-- The fuse array (R9, R18): fuse word k as start-up loads it (assumption 8). -/
opaque fuse : Nat → BitVec 64

/-- The words of the boot ROM, whose content the spec does not give (assumption 3). -/
opaque bootRom : Nat → Word

/-- Does 0 × ∞ + NaN signal invalid? IEEE 754 leaves it to the implementation and R157 does not say (assumption 5). -/
opaque fmaZeroInfNan : Bool

/-- Does a quotient that the spec rounds in a way it does not state round up (true) or down? Read only where the
division leaves a remainder (assumption 6). -/
opaque roundUp : Int → Int → Bool

end Sys2Proof.Config
end

