-- ==== Sys2Proof/Machine/Flags.lean ====
section
/-!
DEFINITION. The provenance byte: its fields, the merge, the clamp and the mask test (spec/01_architecture.md R33 to
R37, spec/04_yilfixa_instruction_reference.md R156), and the value and octet views of a word (R3).
-/
namespace Sys2Proof.Machine

/-- Bits [63:0] of a word (R3). -/
def wv (w : Word) : Value := w.extractLsb' 0 64
/-- Bits [71:64] of a word, the provenance byte (R3). -/
def wp (w : Word) : Prov := w.extractLsb' 64 8
/-- The word with a value and a provenance byte (R3). -/
def mkw (v : Value) (p : Prov) : Word := p ++ v

/-- VAL, bits [65:64] (R33). -/
def pVal (p : Prov) : BitVec 2 := p.extractLsb' 0 2
/-- STALE, bit [66] (R33). -/
def pStale (p : Prov) : Bool := p.getLsbD 2
/-- PROV, bit [67] (R33). -/
def pProv (p : Prov) : Bool := p.getLsbD 3
/-- E2E, bits [69:68] (R33). -/
def pE2e (p : Prov) : BitVec 2 := p.extractLsb' 4 2
/-- CRIT, bits [71:70] (R33). -/
def pCrit (p : Prov) : BitVec 2 := p.extractLsb' 6 2

/-- The provenance byte with the five fields of R33. -/
def mkProv (vl : BitVec 2) (stale prov : Bool) (e2e crit : BitVec 2) : Prov :=
  crit ++ e2e ++ BitVec.ofBool prov ++ BitVec.ofBool stale ++ vl

/-- The larger of two two-bit codes. -/
def max2 (a b : BitVec 2) : BitVec 2 := if a.toNat ≤ b.toNat then b else a
/-- The smaller of two two-bit codes. -/
def min2 (a b : BitVec 2) : BitVec 2 := if a.toNat ≤ b.toNat then a else b

/-- The merge of R34: VAL and E2E the maximum, STALE and PROV the OR, CRIT the minimum. -/
def pMerge (p q : Prov) : Prov :=
  mkProv (max2 (pVal p) (pVal q)) (pStale p || pStale q) (pProv p || pProv q)
    (max2 (pE2e p) (pE2e q)) (min2 (pCrit p) (pCrit q))

/-- Provenance of immediates and of L0 (R35). -/
def pImm : Prov := 0xC0#8
/-- Provenance of a word never received, as the fill leaves it (R21). -/
def pFill : Prov := 0x03#8

/-- CRIT replaced by the smaller of itself and a ceiling; no other field changes (R36). -/
def pClamp (ceil : BitVec 2) (p : Prov) : Prov :=
  mkProv (pVal p) (pStale p) (pProv p) (pE2e p) (min2 (pCrit p) ceil)
/-- The clamp of a whole word (R36, R127). -/
def wClamp (ceil : BitVec 2) (w : Word) : Word := mkw (wv w) (pClamp ceil (wp w))

/-- VAL raised to at least invalid (R150, R157). -/
def pRaise (p : Prov) : Prov :=
  mkProv (max2 (pVal p) 0b10#2) (pStale p) (pProv p) (pE2e p) (pCrit p)

/-- The provenance byte with PROV set or cleared (R33). -/
def pSetProv (b : Bool) (p : Prov) : Prov := mkProv (pVal p) (pStale p) b (pE2e p) (pCrit p)
/-- The provenance byte with STALE set or cleared (R33). -/
def pSetStale (b : Bool) (p : Prov) : Prov := mkProv (pVal p) b (pProv p) (pE2e p) (pCrit p)
/-- The provenance byte with another VAL (R33). -/
def pSetVal (v : BitVec 2) (p : Prov) : Prov := mkProv v (pStale p) (pProv p) (pE2e p) (pCrit p)
/-- The provenance byte with another E2E (R33). -/
def pSetE2e (e : BitVec 2) (p : Prov) : Prov := mkProv (pVal p) (pStale p) (pProv p) e (pCrit p)

/-- Does a provenance byte meet the mask of PCHK and PTST (R156)? Bits [17:10] are checked where the mask is decoded. -/
def pMeets (p : Prov) (m : BitVec 18) : Bool :=
  decide ((pVal p).toNat ≤ (m.extractLsb' 0 2).toNat) &&
  (!pStale p || m.getLsbD 2) && (!pProv p || m.getLsbD 3) &&
  m.getLsbD (4 + (pE2e p).toNat) &&
  decide ((m.extractLsb' 8 2).toNat ≤ (pCrit p).toNat)

/-- Octet k of a word in the octet view, octet 0 in bits [71:64] (R3). -/
def octet (w : Word) (k : Nat) : BitVec 8 := w.extractLsb' (64 - 8 * k) 8
/-- The word with octet k replaced (R3, R154). -/
def setOctet (w : Word) (k : Nat) (x : BitVec 8) : Word :=
  (w &&& ~~~((0xFF#72) <<< (64 - 8 * k))) ||| ((x.setWidth 72) <<< (64 - 8 * k))

/-- The word with provenance 0xC0 over a value (R5, R35). -/
def immw (v : Value) : Word := mkw v pImm
/-- The word the stacks fill leaves: value 0, provenance 0x03 (R21). -/
def fillWord : Word := mkw 0#64 pFill

end Sys2Proof.Machine
end

