-- ==== Sys2Proof/Machine/RegMap.lean ====
section
/-!
DEFINITION. The MMIO register map: the address of every register, its fields with their access, reset value and
ranges, as the register tables of spec/ give them (R6, R7, R9). Addresses are R.NAME, fields are F.NAME_FIELD; a
small letter in a name stands for the indices, in the order of the arguments.
-/
set_option linter.unusedVariables false
namespace Sys2Proof.Machine

/-- Access codes (R6). -/
inductive Acc where
  | rw | ro | wo | w1c | w1s | wonce
  deriving DecidableEq, Repr

/-- What R7 refuses in a writable field: values outside a stated range, or reserved encodings. -/
inductive Chk where
  | any
  | rng (lo hi : Nat)
  | rsv (lo hi : Nat)
  deriving DecidableEq, Repr

/-- A bit field: lowest bit and width. -/
structure Fld where
  lo : Nat
  width : Nat
  deriving DecidableEq, Repr

/-- One row of a register table. -/
structure FSpec where
  fld : Fld
  acc : Acc
  rst : Nat
  chk : Chk
  deriving DecidableEq, Repr

/-- One register, or one array of registers: `dims` lists (count, stride) from the outermost index. -/
structure RSpec where
  base : Nat
  dims : List (Nat × Nat)
  fields : List FSpec
  deriving DecidableEq, Repr

namespace F
/-- SYS_FAULT_STAT.CORR_SEEN (R51). -/
def SYS_FAULT_STAT_CORR_SEEN : Fld := ⟨0, 1⟩
/-- SYS_FAULT_STAT.CONT_SEEN (R51). -/
def SYS_FAULT_STAT_CONT_SEEN : Fld := ⟨1, 1⟩
/-- SYS_FAULT_STAT.SILENT_SEEN (R51). -/
def SYS_FAULT_STAT_SILENT_SEEN : Fld := ⟨2, 1⟩
/-- SYS_FAULT_STAT.DEVICE_SEEN (R51). -/
def SYS_FAULT_STAT_DEVICE_SEEN : Fld := ⟨3, 1⟩
/-- SYS_FAULT_STAT.LOCKSTEP_BROKEN (R51). -/
def SYS_FAULT_STAT_LOCKSTEP_BROKEN : Fld := ⟨4, 1⟩
/-- SYS_FAULT_STAT.SAFE_IN (R51). -/
def SYS_FAULT_STAT_SAFE_IN : Fld := ⟨5, 1⟩
/-- SYS_FAULT_STAT.FAULT_OUT (R51). -/
def SYS_FAULT_STAT_FAULT_OUT : Fld := ⟨6, 1⟩
/-- SYS_FAULT_CTL.FAULT_LEVEL (R51). -/
def SYS_FAULT_CTL_FAULT_LEVEL : Fld := ⟨0, 2⟩
/-- SYS_FAULT_CTL.SAFE_IN_EN (R51). -/
def SYS_FAULT_CTL_SAFE_IN_EN : Fld := ⟨2, 1⟩
/-- SYS_FAULT_CTL.LOCK (R51). -/
def SYS_FAULT_CTL_LOCK : Fld := ⟨3, 1⟩
/-- SYS_FAULT_CTL.FAULT_TEST (R51). -/
def SYS_FAULT_CTL_FAULT_TEST : Fld := ⟨4, 1⟩
/-- TIME_GTC.GTC (R89). -/
def TIME_GTC_GTC : Fld := ⟨0, 64⟩
/-- TIME_GTC_STAT.NIGHT_SRC (R89). -/
def TIME_GTC_STAT_NIGHT_SRC : Fld := ⟨0, 1⟩
/-- TIME_GTC_STAT.PWR_HELD (R89). -/
def TIME_GTC_STAT_PWR_HELD : Fld := ⟨1, 1⟩
/-- TIME_GTC_STAT.PWR_DEV (R89). -/
def TIME_GTC_STAT_PWR_DEV : Fld := ⟨8, 8⟩
/-- TIME_GTC_STAT.PARK_TICKS (R89). -/
def TIME_GTC_STAT_PARK_TICKS : Fld := ⟨32, 32⟩
/-- TIME_ORDER_CTL.TWIN_HOLD (R89). -/
def TIME_ORDER_CTL_TWIN_HOLD : Fld := ⟨0, 6⟩
/-- TIME_LATE_CNT.COUNT (R89). -/
def TIME_LATE_CNT_COUNT : Fld := ⟨0, 32⟩
/-- TIME_LATE_CNT.CLR (R89). -/
def TIME_LATE_CNT_CLR : Fld := ⟨63, 1⟩
/-- TIME_ALM_NS.NS (R89). -/
def TIME_ALM_NS_NS : Fld := ⟨0, 30⟩
/-- TIME_ALM_SEC.SEC (R89). -/
def TIME_ALM_SEC_SEC : Fld := ⟨0, 48⟩
/-- TIME_ALM_RATE.RATE (R89). -/
def TIME_ALM_RATE_RATE : Fld := ⟨0, 32⟩
/-- TIME_ALM_STEP.OFFSET (R89). -/
def TIME_ALM_STEP_OFFSET : Fld := ⟨0, 64⟩
/-- TIME_ALM_CTL.HOLDOVER (R89). -/
def TIME_ALM_CTL_HOLDOVER : Fld := ⟨0, 1⟩
/-- TIME_ALM_CTL.WORKING (R89). -/
def TIME_ALM_CTL_WORKING : Fld := ⟨1, 1⟩
/-- TIME_DOMd_CFG.EN (R89). -/
def TIME_DOMd_CFG_EN : Fld := ⟨0, 1⟩
/-- TIME_DOMd_CFG.DOMAIN_NUMBER (R89). -/
def TIME_DOMd_CFG_DOMAIN_NUMBER : Fld := ⟨1, 8⟩
/-- TIME_DOMd_CFG.ONE_STEP (R89). -/
def TIME_DOMd_CFG_ONE_STEP : Fld := ⟨9, 1⟩
/-- TIME_DOMd_CFG.LOSS_MS (R89). -/
def TIME_DOMd_CFG_LOSS_MS : Fld := ⟨10, 8⟩
/-- TIME_DOMd_CFG.RATIO (R89). -/
def TIME_DOMd_CFG_RATIO : Fld := ⟨32, 32⟩
/-- TIME_PPS_CTL.CAP_EN (R89). -/
def TIME_PPS_CTL_CAP_EN : Fld := ⟨0, 1⟩
/-- TIME_PPS_CTL.EDGE (R89). -/
def TIME_PPS_CTL_EDGE : Fld := ⟨1, 1⟩
/-- TIME_PPS_CTL.OVR (R89). -/
def TIME_PPS_CTL_OVR : Fld := ⟨2, 1⟩
/-- TIME_PPS_CAP_NS.NS (R89). -/
def TIME_PPS_CAP_NS_NS : Fld := ⟨0, 30⟩
/-- TIME_PPS_CAP_SEC.SEC (R89). -/
def TIME_PPS_CAP_SEC_SEC : Fld := ⟨0, 48⟩
/-- TIME_PPS_CAP_GTC.GTC (R89). -/
def TIME_PPS_CAP_GTC_GTC : Fld := ⟨0, 64⟩
/-- TIME_TRGn_CTL.EN (R89). -/
def TIME_TRGn_CTL_EN : Fld := ⟨0, 1⟩
/-- TIME_TRGn_CTL.BASE (R89). -/
def TIME_TRGn_CTL_BASE : Fld := ⟨1, 1⟩
/-- TIME_TRGn_CTL.PERIODIC (R89). -/
def TIME_TRGn_CTL_PERIODIC : Fld := ⟨2, 1⟩
/-- TIME_TRGn_CTL.ACT_PULSE (R89). -/
def TIME_TRGn_CTL_ACT_PULSE : Fld := ⟨3, 1⟩
/-- TIME_TRGn_CTL.ACT_ADC (R89). -/
def TIME_TRGn_CTL_ACT_ADC : Fld := ⟨4, 1⟩
/-- TIME_TRGn_CTL.ACT_CYCLE (R89). -/
def TIME_TRGn_CTL_ACT_CYCLE : Fld := ⟨5, 1⟩
/-- TIME_TRGn_CTL.ACT_SAMPLE (R89). -/
def TIME_TRGn_CTL_ACT_SAMPLE : Fld := ⟨6, 1⟩
/-- TIME_TRGn_CTL.POL (R89). -/
def TIME_TRGn_CTL_POL : Fld := ⟨7, 1⟩
/-- TIME_TRGn_CTL.PIN (R89). -/
def TIME_TRGn_CTL_PIN : Fld := ⟨8, 6⟩
/-- TIME_TRGn_CTL.ADC_GROUP (R89). -/
def TIME_TRGn_CTL_ADC_GROUP : Fld := ⟨14, 4⟩
/-- TIME_TRGn_CMP.CMP (R89). -/
def TIME_TRGn_CMP_CMP : Fld := ⟨0, 64⟩
/-- TIME_TRGn_CMP_SEC.SEC (R89). -/
def TIME_TRGn_CMP_SEC_SEC : Fld := ⟨0, 48⟩
/-- TIME_TRGn_PER.PER (R89). -/
def TIME_TRGn_PER_PER : Fld := ⟨0, 40⟩
/-- TIME_TRGn_WID.WID (R89). -/
def TIME_TRGn_WID_WID : Fld := ⟨0, 32⟩
/-- TIME_TRGn_STAT.FIRE_CNT (R89). -/
def TIME_TRGn_STAT_FIRE_CNT : Fld := ⟨0, 32⟩
/-- TIME_TRGn_STAT.SKIP_CNT (R89). -/
def TIME_TRGn_STAT_SKIP_CNT : Fld := ⟨32, 16⟩
/-- TIME_TRGn_STAT.FIRED (R89). -/
def TIME_TRGn_STAT_FIRED : Fld := ⟨48, 1⟩
/-- TIME_TRGn_STAT.LATE (R89). -/
def TIME_TRGn_STAT_LATE : Fld := ⟨49, 1⟩
/-- TIME_TRGn_STAT.ADC_OVR (R89). -/
def TIME_TRGn_STAT_ADC_OVR : Fld := ⟨50, 1⟩
/-- TIME_TRGn_LAST.STAMP (R89). -/
def TIME_TRGn_LAST_STAMP : Fld := ⟨0, 64⟩
/-- TIME_TRGn_SAMP.LEVELS (R89). -/
def TIME_TRGn_SAMP_LEVELS : Fld := ⟨0, 48⟩
/-- TIME_TRGn_OWN.OWNER (R89). -/
def TIME_TRGn_OWN_OWNER : Fld := ⟨0, 9⟩
/-- TIME_TRGn_OWN.V (R89). -/
def TIME_TRGn_OWN_V : Fld := ⟨9, 1⟩
/-- TIME_TRGn_OWN.ABSENT (R89). -/
def TIME_TRGn_OWN_ABSENT : Fld := ⟨10, 1⟩
/-- STK_TAGn.OWNER (R115). -/
def STK_TAGn_OWNER : Fld := ⟨0, 9⟩
/-- STK_TAGn.SHARED (R115). -/
def STK_TAGn_SHARED : Fld := ⟨9, 1⟩
/-- COLL_Un_CTL.POLY (R233). -/
def COLL_Un_CTL_POLY : Fld := ⟨0, 4⟩
/-- COLL_Un_CTL.MODE (R233). -/
def COLL_Un_CTL_MODE : Fld := ⟨4, 2⟩
/-- COLL_Un_CTL.LAYOUT8 (R233). -/
def COLL_Un_CTL_LAYOUT8 : Fld := ⟨6, 1⟩
/-- COLL_Un_CTL.WIDTH (R233). -/
def COLL_Un_CTL_WIDTH : Fld := ⟨7, 6⟩
/-- COLL_Un_CTL.REFIN (R233). -/
def COLL_Un_CTL_REFIN : Fld := ⟨13, 1⟩
/-- COLL_Un_CTL.REFOUT (R233). -/
def COLL_Un_CTL_REFOUT : Fld := ⟨14, 1⟩
/-- COLL_Un_CTL.START (R233). -/
def COLL_Un_CTL_START : Fld := ⟨15, 1⟩
/-- COLL_Un_CTL.STOP (R233). -/
def COLL_Un_CTL_STOP : Fld := ⟨16, 1⟩
/-- COLL_Un_CTL.RESUME (R233). -/
def COLL_Un_CTL_RESUME : Fld := ⟨17, 1⟩
/-- COLL_Un_POLY.POLY (R233). -/
def COLL_Un_POLY_POLY : Fld := ⟨0, 64⟩
/-- COLL_Un_INIT.INIT (R233). -/
def COLL_Un_INIT_INIT : Fld := ⟨0, 64⟩
/-- COLL_Un_XOROUT.XOROUT (R233). -/
def COLL_Un_XOROUT_XOROUT : Fld := ⟨0, 64⟩
/-- COLL_Un_RUN.RUN (R233). -/
def COLL_Un_RUN_RUN : Fld := ⟨0, 64⟩
/-- COLL_Un_ADDR.ADDR (R233). -/
def COLL_Un_ADDR_ADDR : Fld := ⟨0, 48⟩
/-- COLL_Un_LEN.LEN (R233). -/
def COLL_Un_LEN_LEN : Fld := ⟨0, 32⟩
/-- COLL_Un_LEN.OCT (R233). -/
def COLL_Un_LEN_OCT : Fld := ⟨32, 4⟩
/-- COLL_Un_STAT.BUSY (R233). -/
def COLL_Un_STAT_BUSY : Fld := ⟨0, 1⟩
/-- COLL_Un_STAT.DONE (R233). -/
def COLL_Un_STAT_DONE : Fld := ⟨1, 1⟩
/-- COLL_Un_STAT.ERR (R233). -/
def COLL_Un_STAT_ERR : Fld := ⟨2, 1⟩
/-- COLL_Un_STAT.MISMATCH (R233). -/
def COLL_Un_STAT_MISMATCH : Fld := ⟨3, 1⟩
/-- COLL_Un_STAT.REASON (R233). -/
def COLL_Un_STAT_REASON : Fld := ⟨4, 3⟩
/-- COLL_Un_RESULT.RESULT (R233). -/
def COLL_Un_RESULT_RESULT : Fld := ⟨0, 64⟩
/-- COLL_Un_OWN.OWNER (R233). -/
def COLL_Un_OWN_OWNER : Fld := ⟨0, 9⟩
/-- COLL_Un_OWN.V (R233). -/
def COLL_Un_OWN_V : Fld := ⟨9, 1⟩
/-- COLL_Un_OWN.ABSENT (R233). -/
def COLL_Un_OWN_ABSENT : Fld := ⟨10, 1⟩
/-- CAT_CTL.INTAKE_EN (R246). -/
def CAT_CTL_INTAKE_EN : Fld := ⟨0, 1⟩
/-- CAT_CTL.SWEEP_EN (R246). -/
def CAT_CTL_SWEEP_EN : Fld := ⟨1, 1⟩
/-- CAT_CTL.E2E_EN (R246). -/
def CAT_CTL_E2E_EN : Fld := ⟨2, 1⟩
/-- CAT_CTL.TO_EVT (R246). -/
def CAT_CTL_TO_EVT : Fld := ⟨3, 1⟩
/-- CAT_E2E_POOL.UNITS (R246). -/
def CAT_E2E_POOL_UNITS : Fld := ⟨0, 16⟩
/-- CAT_PROV_STAT.IN_USE (R246). -/
def CAT_PROV_STAT_IN_USE : Fld := ⟨0, 13⟩
/-- CAT_PROV_STAT.PEAK (R246). -/
def CAT_PROV_STAT_PEAK : Fld := ⟨16, 13⟩
/-- CAT_PROV_STAT.FULL_CNT (R246). -/
def CAT_PROV_STAT_FULL_CNT : Fld := ⟨32, 32⟩
/-- CAT_WDRAW.WITHDRAWN (R246). -/
def CAT_WDRAW_WITHDRAWN : Fld := ⟨0, 32⟩
/-- CAT_WDRAW.ERRATA (R246). -/
def CAT_WDRAW_ERRATA : Fld := ⟨32, 32⟩
/-- CAT_REFLEX_STAT.PEAK (R246). -/
def CAT_REFLEX_STAT_PEAK : Fld := ⟨0, 8⟩
/-- CAT_REFLEX_STAT.LATE (R246). -/
def CAT_REFLEX_STAT_LATE : Fld := ⟨8, 1⟩
/-- CAT_ERR_CNT.SLIP_ERR (R246). -/
def CAT_ERR_CNT_SLIP_ERR : Fld := ⟨0, 16⟩
/-- CAT_ERR_CNT.INTAKE_OVF (R246). -/
def CAT_ERR_CNT_INTAKE_OVF : Fld := ⟨16, 16⟩
/-- CAT_ERR_CNT.DROPPED (R246). -/
def CAT_ERR_CNT_DROPPED : Fld := ⟨32, 16⟩
/-- CAT_ERR_CNT.LATE_VERDICT (R246). -/
def CAT_ERR_CNT_LATE_VERDICT : Fld := ⟨48, 16⟩
/-- CAT_ERR_SHELF.SHELF (R246). -/
def CAT_ERR_SHELF_SHELF : Fld := ⟨0, 20⟩
/-- CAT_ERR_SHELF.SLIP (R246). -/
def CAT_ERR_SHELF_SLIP : Fld := ⟨20, 20⟩
/-- CAT_ERR_SHELF.MAP (R246). -/
def CAT_ERR_SHELF_MAP : Fld := ⟨40, 1⟩
/-- CAT_CNT_CLR.CLR (R246). -/
def CAT_CNT_CLR_CLR : Fld := ⟨0, 1⟩
/-- CAT_RXp_DUE.DUE (R246). -/
def CAT_RXp_DUE_DUE : Fld := ⟨0, 64⟩
/-- CATG_CUn_CTL.RUN (R247). -/
def CATG_CUn_CTL_RUN : Fld := ⟨0, 1⟩
/-- CATG_CUn_CTL.ENTRY (R247). -/
def CATG_CUn_CTL_ENTRY : Fld := ⟨1, 13⟩
/-- CATG_CUn_CTL.CEIL (R247). -/
def CATG_CUn_CTL_CEIL : Fld := ⟨14, 2⟩
/-- CATG_CUn_CTL.RUN_LIMIT (R247). -/
def CATG_CUn_CTL_RUN_LIMIT : Fld := ⟨16, 8⟩
/-- CATG_CUn_STAT.WAITING (R247). -/
def CATG_CUn_STAT_WAITING : Fld := ⟨0, 1⟩
/-- CATG_CUn_STAT.FAULT (R247). -/
def CATG_CUn_STAT_FAULT : Fld := ⟨1, 1⟩
/-- CATG_CUn_STAT.CAUSE (R247). -/
def CATG_CUn_STAT_CAUSE : Fld := ⟨2, 4⟩
/-- CATG_CUn_STAT.QDEPTH (R247). -/
def CATG_CUn_STAT_QDEPTH : Fld := ⟨6, 6⟩
/-- CATG_CUn_STAT.FPC (R247). -/
def CATG_CUn_STAT_FPC : Fld := ⟨13, 13⟩
/-- CATG_CUn_STAT.LOST (R247). -/
def CATG_CUn_STAT_LOST : Fld := ⟨32, 32⟩
/-- CATG_CUn_RUNS.RUNS (R247). -/
def CATG_CUn_RUNS_RUNS : Fld := ⟨0, 64⟩
/-- CATG_TLt_RD_LO.SHELF (R247). -/
def CATG_TLt_RD_LO_SHELF : Fld := ⟨0, 20⟩
/-- CATG_TLt_RD_HI.SHELF (R247). -/
def CATG_TLt_RD_HI_SHELF : Fld := ⟨0, 20⟩
/-- CATG_TLt_WR_LO.SHELF (R247). -/
def CATG_TLt_WR_LO_SHELF : Fld := ⟨0, 20⟩
/-- CATG_TLt_WR_HI.SHELF (R247). -/
def CATG_TLt_WR_HI_SHELF : Fld := ⟨0, 20⟩
/-- CATG_TLt_OWN.OWNER (R247). -/
def CATG_TLt_OWN_OWNER : Fld := ⟨0, 9⟩
/-- CATG_TLt_OWN.V (R247). -/
def CATG_TLt_OWN_V : Fld := ⟨9, 1⟩
/-- CATG_TLt_OWN.ABSENT (R247). -/
def CATG_TLt_OWN_ABSENT : Fld := ⟨10, 1⟩
/-- CIRC_VLAN.MEMBERS (R260). -/
def CIRC_VLAN_MEMBERS : Fld := ⟨0, 24⟩
/-- CIRC_VLAN.UNTAGGED (R260). -/
def CIRC_VLAN_UNTAGGED : Fld := ⟨24, 24⟩
/-- CIRC_VLAN.FLOOD (R260). -/
def CIRC_VLAN_FLOOD : Fld := ⟨48, 1⟩
/-- CIRC_VLAN.V (R260). -/
def CIRC_VLAN_V : Fld := ⟨49, 1⟩
/-- CIRC_STREAM.V (R262). -/
def CIRC_STREAM_V : Fld := ⟨0, 1⟩
/-- CIRC_STREAM.INTAKE (R262). -/
def CIRC_STREAM_INTAKE : Fld := ⟨1, 1⟩
/-- CIRC_STREAM.MAX_SDU (R262). -/
def CIRC_STREAM_MAX_SDU : Fld := ⟨2, 12⟩
/-- CIRC_STREAM.TCV (R262). -/
def CIRC_STREAM_TCV : Fld := ⟨14, 1⟩
/-- CIRC_STREAM.TC (R262). -/
def CIRC_STREAM_TC : Fld := ⟨15, 3⟩
/-- CIRC_STREAM.RING (R262). -/
def CIRC_STREAM_RING : Fld := ⟨18, 6⟩
/-- CIRC_STREAM.RINGV (R262). -/
def CIRC_STREAM_RINGV : Fld := ⟨24, 1⟩
/-- CIRC_CTL.EN (R289). -/
def CIRC_CTL_EN : Fld := ⟨0, 1⟩
/-- CIRC_CTL.CUT_EN (R289). -/
def CIRC_CTL_CUT_EN : Fld := ⟨1, 1⟩
/-- CIRC_STAT.SHARE_SUM (R289). -/
def CIRC_STAT_SHARE_SUM : Fld := ⟨0, 8⟩
/-- CIRC_STAT.CELLS (R289). -/
def CIRC_STAT_CELLS : Fld := ⟨8, 18⟩
/-- CIRC_STAT.FRAMES (R289). -/
def CIRC_STAT_FRAMES : Fld := ⟨26, 15⟩
/-- CIRC_STAT.COPIES (R289). -/
def CIRC_STAT_COPIES : Fld := ⟨41, 9⟩
/-- CIRC_POOL.WARN (R289). -/
def CIRC_POOL_WARN : Fld := ⟨0, 17⟩
/-- CIRC_FDB_CMD.INDEX (R289). -/
def CIRC_FDB_CMD_INDEX : Fld := ⟨0, 16⟩
/-- CIRC_FDB_CMD.WRITE (R289). -/
def CIRC_FDB_CMD_WRITE : Fld := ⟨16, 1⟩
/-- CIRC_FDB_CMD.READ (R289). -/
def CIRC_FDB_CMD_READ : Fld := ⟨17, 1⟩
/-- CIRC_FDB_CMD.BUSY (R289). -/
def CIRC_FDB_CMD_BUSY : Fld := ⟨18, 1⟩
/-- CIRC_FDB_KEY.DATA (R289). -/
def CIRC_FDB_KEY_DATA : Fld := ⟨0, 64⟩
/-- CIRC_FDB_RES.DATA (R289). -/
def CIRC_FDB_RES_DATA : Fld := ⟨0, 64⟩
/-- CIRC_GPTPd.SLAVE_PORT (R289). -/
def CIRC_GPTPd_SLAVE_PORT : Fld := ⟨0, 5⟩
/-- CIRC_GPTPd.MASTER_PORTS (R289). -/
def CIRC_GPTPd_MASTER_PORTS : Fld := ⟨5, 24⟩
/-- CIRC_GPTPd.RELAY_EN (R289). -/
def CIRC_GPTPd_RELAY_EN : Fld := ⟨29, 1⟩
/-- CIRC_COPYc_MASK.MASK (R289). -/
def CIRC_COPYc_MASK_MASK : Fld := ⟨0, 48⟩
/-- CIRC_COPYc_STAT.PENDING (R289). -/
def CIRC_COPYc_STAT_PENDING : Fld := ⟨0, 5⟩
/-- CIRC_COPYc_STAT.V (R289). -/
def CIRC_COPYc_STAT_V : Fld := ⟨5, 1⟩
/-- CIRC_RINGr_BASE.BASE (R289). -/
def CIRC_RINGr_BASE_BASE : Fld := ⟨0, 48⟩
/-- CIRC_RINGr_BASE.SIZE (R289). -/
def CIRC_RINGr_BASE_SIZE : Fld := ⟨48, 4⟩
/-- CIRC_RINGr_CTL.EN (R289). -/
def CIRC_RINGr_CTL_EN : Fld := ⟨0, 1⟩
/-- CIRC_RINGr_CTL.DIR (R289). -/
def CIRC_RINGr_CTL_DIR : Fld := ⟨1, 1⟩
/-- CIRC_RINGr_CTL.PORTIDX (R289). -/
def CIRC_RINGr_CTL_PORTIDX : Fld := ⟨2, 3⟩
/-- CIRC_RINGr_CTL.NOTIFY_EN (R289). -/
def CIRC_RINGr_CTL_NOTIFY_EN : Fld := ⟨5, 1⟩
/-- CIRC_RINGr_HEAD.HEAD (R289). -/
def CIRC_RINGr_HEAD_HEAD : Fld := ⟨0, 16⟩
/-- CIRC_RINGr_TAIL.TAIL (R289). -/
def CIRC_RINGr_TAIL_TAIL : Fld := ⟨0, 16⟩
/-- CIRC_RINGr_STAT.DROPS (R289). -/
def CIRC_RINGr_STAT_DROPS : Fld := ⟨0, 32⟩
/-- CIRC_RINGr_OWN.OWNER (R289). -/
def CIRC_RINGr_OWN_OWNER : Fld := ⟨0, 9⟩
/-- CIRC_RINGr_OWN.V (R289). -/
def CIRC_RINGr_OWN_V : Fld := ⟨9, 1⟩
/-- CIRC_RINGr_OWN.ABSENT (R289). -/
def CIRC_RINGr_OWN_ABSENT : Fld := ⟨10, 1⟩
/-- CIRC_ENCe_DEST.DA (R289). -/
def CIRC_ENCe_DEST_DA : Fld := ⟨0, 48⟩
/-- CIRC_ENCe_DEST.VID (R289). -/
def CIRC_ENCe_DEST_VID : Fld := ⟨48, 12⟩
/-- CIRC_ENCe_DEST.PCP (R289). -/
def CIRC_ENCe_DEST_PCP : Fld := ⟨60, 3⟩
/-- CIRC_ENCe_DEST.V (R289). -/
def CIRC_ENCe_DEST_V : Fld := ⟨63, 1⟩
/-- CIRC_ENCe_STREAM.STREAM_ID (R289). -/
def CIRC_ENCe_STREAM_STREAM_ID : Fld := ⟨0, 64⟩
/-- CIRC_ENCe_CTL.MAXMSG (R289). -/
def CIRC_ENCe_CTL_MAXMSG : Fld := ⟨0, 5⟩
/-- CIRC_ENCe_CTL.GATHER (R289). -/
def CIRC_ENCe_CTL_GATHER : Fld := ⟨5, 20⟩
/-- CIRC_ENCe_CTL.MTV (R289). -/
def CIRC_ENCe_CTL_MTV : Fld := ⟨25, 1⟩
/-- CIRC_ENCe_CTL.TC (R289). -/
def CIRC_ENCe_CTL_TC : Fld := ⟨26, 3⟩
/-- CIRC_ENCe_CNT.FRAMES (R289). -/
def CIRC_ENCe_CNT_FRAMES : Fld := ⟨0, 32⟩
/-- CIRC_ENCe_CNT.MSGS (R289). -/
def CIRC_ENCe_CNT_MSGS : Fld := ⟨32, 32⟩
/-- CIRC_DECd_STREAM.STREAM_ID (R289). -/
def CIRC_DECd_STREAM_STREAM_ID : Fld := ⟨0, 64⟩
/-- CIRC_DECd_CTL.V (R289). -/
def CIRC_DECd_CTL_V : Fld := ⟨0, 1⟩
/-- CIRC_DECd_CTL.CAN_MASK (R289). -/
def CIRC_DECd_CTL_CAN_MASK : Fld := ⟨1, 16⟩
/-- CIRC_DECd_CTL.LIN_MASK (R289). -/
def CIRC_DECd_CTL_LIN_MASK : Fld := ⟨17, 8⟩
/-- CIRC_DECd_CTL.DROPS (R289). -/
def CIRC_DECd_CTL_DROPS : Fld := ⟨32, 32⟩
/-- ETH_Pp_CTL.EN (R290). -/
def ETH_Pp_CTL_EN : Fld := ⟨0, 1⟩
/-- ETH_Pp_CTL.MODE (R290). -/
def ETH_Pp_CTL_MODE : Fld := ⟨1, 2⟩
/-- ETH_Pp_CTL.MAX_FRAME (R290). -/
def ETH_Pp_CTL_MAX_FRAME : Fld := ⟨3, 12⟩
/-- ETH_Pp_CTL.PVID (R290). -/
def ETH_Pp_CTL_PVID : Fld := ⟨15, 12⟩
/-- ETH_Pp_CTL.DEF_PCP (R290). -/
def ETH_Pp_CTL_DEF_PCP : Fld := ⟨27, 3⟩
/-- ETH_Pp_CTL.ACCEPT (R290). -/
def ETH_Pp_CTL_ACCEPT : Fld := ⟨30, 2⟩
/-- ETH_Pp_CTL.INGRESS_FILTER (R290). -/
def ETH_Pp_CTL_INGRESS_FILTER : Fld := ⟨32, 1⟩
/-- ETH_Pp_CTL.CUT_EN (R290). -/
def ETH_Pp_CTL_CUT_EN : Fld := ⟨33, 1⟩
/-- ETH_Pp_CTL.GRACE (R290). -/
def ETH_Pp_CTL_GRACE : Fld := ⟨34, 16⟩
/-- ETH_Pp_CTL.RING (R290). -/
def ETH_Pp_CTL_RING : Fld := ⟨50, 6⟩
/-- ETH_Pp_CTL.RINGV (R290). -/
def ETH_Pp_CTL_RINGV : Fld := ⟨56, 1⟩
/-- ETH_Pp_STAT.LINK (R290). -/
def ETH_Pp_STAT_LINK : Fld := ⟨0, 1⟩
/-- ETH_Pp_STAT.STATE (R290). -/
def ETH_Pp_STAT_STATE : Fld := ⟨1, 2⟩
/-- ETH_Pp_STAT.SPEED (R290). -/
def ETH_Pp_STAT_SPEED : Fld := ⟨3, 3⟩
/-- ETH_Pp_STAT.PLCA_LOST (R290). -/
def ETH_Pp_STAT_PLCA_LOST : Fld := ⟨6, 1⟩
/-- ETH_Pp_SHARE.SHARE (R290). -/
def ETH_Pp_SHARE_SHARE : Fld := ⟨0, 8⟩
/-- ETH_Pp_SHARE.POOL_MAX (R290). -/
def ETH_Pp_SHARE_POOL_MAX : Fld := ⟨8, 17⟩
/-- ETH_Pp_PCPMAP.MAP (R290). -/
def ETH_Pp_PCPMAP_MAP : Fld := ⟨0, 24⟩
/-- ETH_Pp_LINKDLY.DELAY (R290). -/
def ETH_Pp_LINKDLY_DELAY : Fld := ⟨0, 32⟩
/-- ETH_Pp_PLCA.NODE_ID (R290). -/
def ETH_Pp_PLCA_NODE_ID : Fld := ⟨0, 8⟩
/-- ETH_Pp_PLCA.NODE_CNT (R290). -/
def ETH_Pp_PLCA_NODE_CNT : Fld := ⟨8, 8⟩
/-- ETH_Pp_PLCA.TO_TIMER (R290). -/
def ETH_Pp_PLCA_TO_TIMER : Fld := ⟨16, 8⟩
/-- ETH_Pp_PLCA.BURST_CNT (R290). -/
def ETH_Pp_PLCA_BURST_CNT : Fld := ⟨24, 8⟩
/-- ETH_Pp_PLCA.BURST_TMR (R290). -/
def ETH_Pp_PLCA_BURST_TMR : Fld := ⟨32, 8⟩
/-- ETH_Pp_Qq.THRESH (R290). -/
def ETH_Pp_Qq_THRESH : Fld := ⟨0, 17⟩
/-- ETH_Pp_Qq.DEADLINE (R290). -/
def ETH_Pp_Qq_DEADLINE : Fld := ⟨17, 16⟩
/-- ETH_Pp_CNT.COUNT (R290). -/
def ETH_Pp_CNT_COUNT : Fld := ⟨0, 64⟩
/-- ETH_Pp_CNTCLR.CLR (R290). -/
def ETH_Pp_CNTCLR_CLR : Fld := ⟨0, 1⟩
/-- ETH_Pp_GCTL.EN (R290). -/
def ETH_Pp_GCTL_EN : Fld := ⟨0, 1⟩
/-- ETH_Pp_GCTL.PENDING (R290). -/
def ETH_Pp_GCTL_PENDING : Fld := ⟨1, 1⟩
/-- ETH_Pp_GCTL.ADMIN_LEN (R290). -/
def ETH_Pp_GCTL_ADMIN_LEN : Fld := ⟨2, 8⟩
/-- ETH_Pp_GCTL.OPER_LEN (R290). -/
def ETH_Pp_GCTL_OPER_LEN : Fld := ⟨10, 8⟩
/-- ETH_Pp_GCTL.CHANGE (R290). -/
def ETH_Pp_GCTL_CHANGE : Fld := ⟨18, 1⟩
/-- ETH_Pp_GCYCLE.CYCLE (R290). -/
def ETH_Pp_GCYCLE_CYCLE : Fld := ⟨0, 30⟩
/-- ETH_Pp_GBASE_NS.NS (R290). -/
def ETH_Pp_GBASE_NS_NS : Fld := ⟨0, 30⟩
/-- ETH_Pp_GBASE_SEC.SEC (R290). -/
def ETH_Pp_GBASE_SEC_SEC : Fld := ⟨0, 48⟩
/-- ETH_Pp_Qq_DROP.TAIL_DROP (R290). -/
def ETH_Pp_Qq_DROP_TAIL_DROP : Fld := ⟨0, 64⟩
/-- ETH_Pp_Qq_AGED.AGED (R290). -/
def ETH_Pp_Qq_AGED_AGED : Fld := ⟨0, 64⟩
/-- ETH_Pp_GADMj.GATES (R290). -/
def ETH_Pp_GADMj_GATES : Fld := ⟨0, 8⟩
/-- ETH_Pp_GADMj.INTERVAL (R290). -/
def ETH_Pp_GADMj_INTERVAL : Fld := ⟨8, 32⟩
/-- ETH_Pp_GOPRj.GATES (R290). -/
def ETH_Pp_GOPRj_GATES : Fld := ⟨0, 8⟩
/-- ETH_Pp_GOPRj.INTERVAL (R290). -/
def ETH_Pp_GOPRj_INTERVAL : Fld := ⟨8, 32⟩
/-- ETH_MDIOn_CMD.PHYAD (R290). -/
def ETH_MDIOn_CMD_PHYAD : Fld := ⟨0, 5⟩
/-- ETH_MDIOn_CMD.REG (R290). -/
def ETH_MDIOn_CMD_REG : Fld := ⟨5, 5⟩
/-- ETH_MDIOn_CMD.DATA (R290). -/
def ETH_MDIOn_CMD_DATA : Fld := ⟨10, 16⟩
/-- ETH_MDIOn_CMD.OP (R290). -/
def ETH_MDIOn_CMD_OP : Fld := ⟨26, 2⟩
/-- ETH_MDIOn_CMD.C45 (R290). -/
def ETH_MDIOn_CMD_C45 : Fld := ⟨28, 1⟩
/-- ETH_MDIOn_CMD.START (R290). -/
def ETH_MDIOn_CMD_START : Fld := ⟨29, 1⟩
/-- ETH_MDIOn_CMD.BUSY (R290). -/
def ETH_MDIOn_CMD_BUSY : Fld := ⟨30, 1⟩
/-- ETH_MDIOn_CMD.RDATA (R290). -/
def ETH_MDIOn_CMD_RDATA : Fld := ⟨32, 16⟩
/-- ETH_MDIOn_CMD.DIV (R290). -/
def ETH_MDIOn_CMD_DIV : Fld := ⟨48, 8⟩
/-- MACSEC_Iu_CTL.EN (R291). -/
def MACSEC_Iu_CTL_EN : Fld := ⟨0, 1⟩
/-- MACSEC_Iu_CTL.CIPHER (R291). -/
def MACSEC_Iu_CTL_CIPHER : Fld := ⟨1, 2⟩
/-- MACSEC_Iu_CTL.CONF_OFF (R291). -/
def MACSEC_Iu_CTL_CONF_OFF : Fld := ⟨3, 2⟩
/-- MACSEC_Iu_CTL.CONF (R291). -/
def MACSEC_Iu_CTL_CONF : Fld := ⟨5, 1⟩
/-- MACSEC_Iu_CTL.VALIDATE (R291). -/
def MACSEC_Iu_CTL_VALIDATE : Fld := ⟨6, 2⟩
/-- MACSEC_Iu_CTL.REPLAY (R291). -/
def MACSEC_Iu_CTL_REPLAY : Fld := ⟨8, 1⟩
/-- MACSEC_Iu_CTL.TX_AN (R291). -/
def MACSEC_Iu_CTL_TX_AN : Fld := ⟨9, 2⟩
/-- MACSEC_Iu_CTL.SCI_EN (R291). -/
def MACSEC_Iu_CTL_SCI_EN : Fld := ⟨11, 1⟩
/-- MACSEC_Iu_SCI.SCI (R291). -/
def MACSEC_Iu_SCI_SCI : Fld := ⟨0, 64⟩
/-- MACSEC_Iu_WIN.WINDOW (R291). -/
def MACSEC_Iu_WIN_WINDOW : Fld := ⟨0, 32⟩
/-- MACSEC_Iu_PNTH.PN_THRESH (R291). -/
def MACSEC_Iu_PNTH_PN_THRESH : Fld := ⟨0, 64⟩
/-- MACSEC_Iu_TXSAa_KEY.SLOT (R291). -/
def MACSEC_Iu_TXSAa_KEY_SLOT : Fld := ⟨0, 10⟩
/-- MACSEC_Iu_TXSAa_KEY.V (R291). -/
def MACSEC_Iu_TXSAa_KEY_V : Fld := ⟨10, 1⟩
/-- MACSEC_Iu_TXSAa_PN.NEXT_PN (R291). -/
def MACSEC_Iu_TXSAa_PN_NEXT_PN : Fld := ⟨0, 64⟩
/-- MACSEC_Iu_TXSAa_SSCI.SSCI (R291). -/
def MACSEC_Iu_TXSAa_SSCI_SSCI : Fld := ⟨0, 32⟩
/-- MACSEC_Iu_RXSCc_SCI.SCI (R291). -/
def MACSEC_Iu_RXSCc_SCI_SCI : Fld := ⟨0, 64⟩
/-- MACSEC_Iu_RXSCc_CTL.V (R291). -/
def MACSEC_Iu_RXSCc_CTL_V : Fld := ⟨0, 1⟩
/-- MACSEC_Iu_RXSCc_SAa_KEY.SLOT (R291). -/
def MACSEC_Iu_RXSCc_SAa_KEY_SLOT : Fld := ⟨0, 10⟩
/-- MACSEC_Iu_RXSCc_SAa_KEY.V (R291). -/
def MACSEC_Iu_RXSCc_SAa_KEY_V : Fld := ⟨10, 1⟩
/-- MACSEC_Iu_RXSCc_SAa_PN.LOWEST_PN (R291). -/
def MACSEC_Iu_RXSCc_SAa_PN_LOWEST_PN : Fld := ⟨0, 64⟩
/-- MACSEC_Iu_RXSCc_SAa_SSCI.SSCI (R291). -/
def MACSEC_Iu_RXSCc_SAa_SSCI_SSCI : Fld := ⟨0, 32⟩
/-- MACSEC_Iu_CNT.COUNT (R291). -/
def MACSEC_Iu_CNT_COUNT : Fld := ⟨0, 64⟩
/-- MACSEC_Iu_CNTCLR.CLR (R291). -/
def MACSEC_Iu_CNTCLR_CLR : Fld := ⟨0, 1⟩
/-- CANn_CTL.EN (R332). -/
def CANn_CTL_EN : Fld := ⟨0, 1⟩
/-- CANn_CTL.MODE (R332). -/
def CANn_CTL_MODE : Fld := ⟨1, 2⟩
/-- CANn_CTL.MONITOR (R332). -/
def CANn_CTL_MONITOR : Fld := ⟨3, 1⟩
/-- CANn_CTL.RESTRICT (R332). -/
def CANn_CTL_RESTRICT : Fld := ⟨4, 1⟩
/-- CANn_CTL.LOOP (R332). -/
def CANn_CTL_LOOP : Fld := ⟨5, 1⟩
/-- CANn_CTL.PXHD (R332). -/
def CANn_CTL_PXHD : Fld := ⟨6, 1⟩
/-- CANn_CTL.BO_AUTO (R332). -/
def CANn_CTL_BO_AUTO : Fld := ⟨7, 1⟩
/-- CANn_CTL.TMS (R332). -/
def CANn_CTL_TMS : Fld := ⟨8, 1⟩
/-- CANn_CTL.NOACK_LIMIT (R332). -/
def CANn_CTL_NOACK_LIMIT : Fld := ⟨9, 8⟩
/-- CANn_CTL.NOACK_STOP (R332). -/
def CANn_CTL_NOACK_STOP : Fld := ⟨17, 1⟩
/-- CANn_NBT.BRP (R332). -/
def CANn_NBT_BRP : Fld := ⟨0, 8⟩
/-- CANn_NBT.TSEG1 (R332). -/
def CANn_NBT_TSEG1 : Fld := ⟨8, 8⟩
/-- CANn_NBT.TSEG2 (R332). -/
def CANn_NBT_TSEG2 : Fld := ⟨16, 7⟩
/-- CANn_NBT.SJW (R332). -/
def CANn_NBT_SJW : Fld := ⟨23, 7⟩
/-- CANn_DBT.BRP (R332). -/
def CANn_DBT_BRP : Fld := ⟨0, 5⟩
/-- CANn_DBT.TSEG1 (R332). -/
def CANn_DBT_TSEG1 : Fld := ⟨5, 5⟩
/-- CANn_DBT.TSEG2 (R332). -/
def CANn_DBT_TSEG2 : Fld := ⟨10, 4⟩
/-- CANn_DBT.SJW (R332). -/
def CANn_DBT_SJW : Fld := ⟨14, 4⟩
/-- CANn_DBT.TDC_EN (R332). -/
def CANn_DBT_TDC_EN : Fld := ⟨18, 1⟩
/-- CANn_DBT.TDCO (R332). -/
def CANn_DBT_TDCO : Fld := ⟨19, 10⟩
/-- CANn_XBT.BRP (R332). -/
def CANn_XBT_BRP : Fld := ⟨0, 5⟩
/-- CANn_XBT.TSEG1 (R332). -/
def CANn_XBT_TSEG1 : Fld := ⟨5, 5⟩
/-- CANn_XBT.TSEG2 (R332). -/
def CANn_XBT_TSEG2 : Fld := ⟨10, 4⟩
/-- CANn_XBT.SJW (R332). -/
def CANn_XBT_SJW : Fld := ⟨14, 4⟩
/-- CANn_XBT.TDC_EN (R332). -/
def CANn_XBT_TDC_EN : Fld := ⟨18, 1⟩
/-- CANn_XBT.TDCO (R332). -/
def CANn_XBT_TDCO : Fld := ⟨19, 10⟩
/-- CANn_ERR.TEC (R332). -/
def CANn_ERR_TEC : Fld := ⟨0, 9⟩
/-- CANn_ERR.REC (R332). -/
def CANn_ERR_REC : Fld := ⟨9, 8⟩
/-- CANn_ERR.STATE (R332). -/
def CANn_ERR_STATE : Fld := ⟨17, 2⟩
/-- CANn_ERR.NOACK (R332). -/
def CANn_ERR_NOACK : Fld := ⟨19, 8⟩
/-- CANn_ERR.LEC (R332). -/
def CANn_ERR_LEC : Fld := ⟨27, 3⟩
/-- CANn_ERR.LOOPDLY (R332). -/
def CANn_ERR_LOOPDLY : Fld := ⟨30, 8⟩
/-- CANn_BORST.RESTART (R332). -/
def CANn_BORST_RESTART : Fld := ⟨0, 1⟩
/-- CANn_BORST.RESUME (R332). -/
def CANn_BORST_RESUME : Fld := ⟨1, 1⟩
/-- CANn_TUN.EN (R332). -/
def CANn_TUN_EN : Fld := ⟨0, 1⟩
/-- CANn_TUN.CTX (R332). -/
def CANn_TUN_CTX : Fld := ⟨1, 6⟩
/-- CANn_TUN.DEC_EN (R332). -/
def CANn_TUN_DEC_EN : Fld := ⟨7, 1⟩
/-- CANn_TUN.TQ_DEPTH (R332). -/
def CANn_TUN_TQ_DEPTH : Fld := ⟨8, 6⟩
/-- CANn_CNT.COUNT (R332). -/
def CANn_CNT_COUNT : Fld := ⟨0, 64⟩
/-- CANn_CNTCLR.CLR (R332). -/
def CANn_CNTCLR_CLR : Fld := ⟨0, 1⟩
/-- CANn_OWN.OWNER (R332). -/
def CANn_OWN_OWNER : Fld := ⟨0, 9⟩
/-- CANn_OWN.V (R332). -/
def CANn_OWN_V : Fld := ⟨9, 1⟩
/-- CANn_OWN.ABSENT (R332). -/
def CANn_OWN_ABSENT : Fld := ⟨10, 1⟩
/-- CANn_MBGg_OWN.OWNER (R332). -/
def CANn_MBGg_OWN_OWNER : Fld := ⟨0, 9⟩
/-- CANn_MBGg_OWN.V (R332). -/
def CANn_MBGg_OWN_V : Fld := ⟨9, 1⟩
/-- CANn_MBGg_OWN.ABSENT (R332). -/
def CANn_MBGg_OWN_ABSENT : Fld := ⟨10, 1⟩
/-- CANn_MBb_CFG.EN (R333). -/
def CANn_MBb_CFG_EN : Fld := ⟨0, 1⟩
/-- CANn_MBb_CFG.DIR (R333). -/
def CANn_MBb_CFG_DIR : Fld := ⟨1, 1⟩
/-- CANn_MBb_CFG.LAYOUT8 (R333). -/
def CANn_MBb_CFG_LAYOUT8 : Fld := ⟨2, 1⟩
/-- CANn_MBb_CFG.DPTR (R333). -/
def CANn_MBb_CFG_DPTR : Fld := ⟨3, 12⟩
/-- CANn_MBb_CFG.DSIZE (R333). -/
def CANn_MBb_CFG_DSIZE : Fld := ⟨15, 9⟩
/-- CANn_MBb_CFG.NOTIFY (R333). -/
def CANn_MBb_CFG_NOTIFY : Fld := ⟨24, 1⟩
/-- CANn_MBb_CFG.STORE (R333). -/
def CANn_MBb_CFG_STORE : Fld := ⟨25, 1⟩
/-- CANn_MBb_CFG.TUN (R333). -/
def CANn_MBb_CFG_TUN : Fld := ⟨26, 1⟩
/-- CANn_MBb_CFG.TXLEN (R333). -/
def CANn_MBb_CFG_TXLEN : Fld := ⟨27, 12⟩
/-- CANn_MBb_CFG.SINGLE (R333). -/
def CANn_MBb_CFG_SINGLE : Fld := ⟨39, 1⟩
/-- CANn_MBb_ID.ID (R333). -/
def CANn_MBb_ID_ID : Fld := ⟨0, 29⟩
/-- CANn_MBb_ID.IDE (R333). -/
def CANn_MBb_ID_IDE : Fld := ⟨29, 1⟩
/-- CANn_MBb_ID.RTR (R333). -/
def CANn_MBb_ID_RTR : Fld := ⟨30, 1⟩
/-- CANn_MBb_ID.FDF (R333). -/
def CANn_MBb_ID_FDF : Fld := ⟨31, 1⟩
/-- CANn_MBb_ID.BRS (R333). -/
def CANn_MBb_ID_BRS : Fld := ⟨32, 1⟩
/-- CANn_MBb_ID.ESI (R333). -/
def CANn_MBb_ID_ESI : Fld := ⟨33, 1⟩
/-- CANn_MBb_ID.XLF (R333). -/
def CANn_MBb_ID_XLF : Fld := ⟨34, 1⟩
/-- CANn_MBb_ID.SEC (R333). -/
def CANn_MBb_ID_SEC : Fld := ⟨35, 1⟩
/-- CANn_MBb_ID.SDT (R333). -/
def CANn_MBb_ID_SDT : Fld := ⟨36, 8⟩
/-- CANn_MBb_ID.VCID (R333). -/
def CANn_MBb_ID_VCID : Fld := ⟨44, 8⟩
/-- CANn_MBb_AUX.MASK (R333). -/
def CANn_MBb_AUX_MASK : Fld := ⟨0, 52⟩
/-- CANn_MBb_AUX.ESC_ID (R333). -/
def CANn_MBb_AUX_ESC_ID : Fld := ⟨0, 29⟩
/-- CANn_MBb_AUX.ESC_EN (R333). -/
def CANn_MBb_AUX_ESC_EN : Fld := ⟨29, 1⟩
/-- CANn_MBb_AUX.DEADLINE (R333). -/
def CANn_MBb_AUX_DEADLINE : Fld := ⟨30, 16⟩
/-- CANn_MBb_STAT.ND (R333). -/
def CANn_MBb_STAT_ND : Fld := ⟨0, 1⟩
/-- CANn_MBb_STAT.UPD (R333). -/
def CANn_MBb_STAT_UPD : Fld := ⟨1, 1⟩
/-- CANn_MBb_STAT.LOST (R333). -/
def CANn_MBb_STAT_LOST : Fld := ⟨2, 1⟩
/-- CANn_MBb_STAT.TXREQ (R333). -/
def CANn_MBb_STAT_TXREQ : Fld := ⟨3, 1⟩
/-- CANn_MBb_STAT.ABORT (R333). -/
def CANn_MBb_STAT_ABORT : Fld := ⟨4, 1⟩
/-- CANn_MBb_STAT.TXOK (R333). -/
def CANn_MBb_STAT_TXOK : Fld := ⟨5, 1⟩
/-- CANn_MBb_STAT.ESCALATED (R333). -/
def CANn_MBb_STAT_ESCALATED : Fld := ⟨6, 1⟩
/-- CANn_MBb_STAT.TXFAIL (R333). -/
def CANn_MBb_STAT_TXFAIL : Fld := ⟨7, 1⟩
/-- CANn_MBb_STAT.LEN (R333). -/
def CANn_MBb_STAT_LEN : Fld := ⟨8, 12⟩
/-- CANn_MBb_STAT.SEQ (R333). -/
def CANn_MBb_STAT_SEQ : Fld := ⟨20, 12⟩
/-- CANn_MBb_STAT.STAMP (R333). -/
def CANn_MBb_STAT_STAMP : Fld := ⟨32, 32⟩
/-- LINm_CTL.EN (R334). -/
def LINm_CTL_EN : Fld := ⟨0, 1⟩
/-- LINm_CTL.ROLE (R334). -/
def LINm_CTL_ROLE : Fld := ⟨1, 1⟩
/-- LINm_CTL.AUTOBAUD (R334). -/
def LINm_CTL_AUTOBAUD : Fld := ⟨2, 1⟩
/-- LINm_CTL.BREAK (R334). -/
def LINm_CTL_BREAK : Fld := ⟨3, 5⟩
/-- LINm_CTL.IDLE_TMO (R334). -/
def LINm_CTL_IDLE_TMO : Fld := ⟨8, 1⟩
/-- LINm_CTL.TUN_CTX (R334). -/
def LINm_CTL_TUN_CTX : Fld := ⟨9, 6⟩
/-- LINm_CTL.TUN_EN (R334). -/
def LINm_CTL_TUN_EN : Fld := ⟨15, 1⟩
/-- LINm_CTL.DEC_EN (R334). -/
def LINm_CTL_DEC_EN : Fld := ⟨16, 1⟩
/-- LINm_BAUD.DIV (R334). -/
def LINm_BAUD_DIV : Fld := ⟨0, 16⟩
/-- LINm_BAUD.FRAC (R334). -/
def LINm_BAUD_FRAC : Fld := ⟨16, 4⟩
/-- LINm_SCHED.RUN (R334). -/
def LINm_SCHED_RUN : Fld := ⟨0, 1⟩
/-- LINm_SCHED.START (R334). -/
def LINm_SCHED_START : Fld := ⟨1, 6⟩
/-- LINm_SCHED.NEXT (R334). -/
def LINm_SCHED_NEXT : Fld := ⟨7, 6⟩
/-- LINm_SCHED.SWITCH (R334). -/
def LINm_SCHED_SWITCH : Fld := ⟨13, 1⟩
/-- LINm_SCHED.CUR (R334). -/
def LINm_SCHED_CUR : Fld := ⟨14, 6⟩
/-- LINm_STAT.LEC (R334). -/
def LINm_STAT_LEC : Fld := ⟨0, 3⟩
/-- LINm_STAT.MEAS (R334). -/
def LINm_STAT_MEAS : Fld := ⟨3, 21⟩
/-- LINm_CNT.COUNT (R334). -/
def LINm_CNT_COUNT : Fld := ⟨0, 64⟩
/-- LINm_CNTCLR.CLR (R334). -/
def LINm_CNTCLR_CLR : Fld := ⟨0, 1⟩
/-- LINm_OWN.OWNER (R334). -/
def LINm_OWN_OWNER : Fld := ⟨0, 9⟩
/-- LINm_OWN.V (R334). -/
def LINm_OWN_V : Fld := ⟨9, 1⟩
/-- LINm_OWN.ABSENT (R334). -/
def LINm_OWN_ABSENT : Fld := ⟨10, 1⟩
/-- LINm_FRi_CFG.EN (R334). -/
def LINm_FRi_CFG_EN : Fld := ⟨0, 1⟩
/-- LINm_FRi_CFG.DIR (R334). -/
def LINm_FRi_CFG_DIR : Fld := ⟨1, 2⟩
/-- LINm_FRi_CFG.LEN (R334). -/
def LINm_FRi_CFG_LEN : Fld := ⟨3, 4⟩
/-- LINm_FRi_CFG.CHK (R334). -/
def LINm_FRi_CFG_CHK : Fld := ⟨7, 1⟩
/-- LINm_FRi_CFG.ND (R334). -/
def LINm_FRi_CFG_ND : Fld := ⟨8, 1⟩
/-- LINm_FRi_CFG.UPD (R334). -/
def LINm_FRi_CFG_UPD : Fld := ⟨9, 1⟩
/-- LINm_FRi_CFG.LOST (R334). -/
def LINm_FRi_CFG_LOST : Fld := ⟨10, 1⟩
/-- LINm_FRi_CFG.NOTIFY (R334). -/
def LINm_FRi_CFG_NOTIFY : Fld := ⟨11, 1⟩
/-- LINm_FRi_CFG.STORE (R334). -/
def LINm_FRi_CFG_STORE : Fld := ⟨12, 1⟩
/-- LINm_FRi_CFG.TUN (R334). -/
def LINm_FRi_CFG_TUN : Fld := ⟨13, 1⟩
/-- LINm_FRi_CFG.SEQ (R334). -/
def LINm_FRi_CFG_SEQ : Fld := ⟨14, 12⟩
/-- LINm_FRi_CFG.STAMP (R334). -/
def LINm_FRi_CFG_STAMP : Fld := ⟨32, 32⟩
/-- LINm_FRi_DATA.DATA (R334). -/
def LINm_FRi_DATA_DATA : Fld := ⟨0, 64⟩
/-- LINm_SCHe.ID (R334). -/
def LINm_SCHe_ID : Fld := ⟨0, 6⟩
/-- LINm_SCHe.TYPE (R334). -/
def LINm_SCHe_TYPE : Fld := ⟨6, 2⟩
/-- LINm_SCHe.SLOT (R334). -/
def LINm_SCHe_SLOT : Fld := ⟨8, 12⟩
/-- LINm_SCHe.ID2 (R334). -/
def LINm_SCHe_ID2 : Fld := ⟨20, 6⟩
/-- LINm_SCHe.ID3 (R334). -/
def LINm_SCHe_ID3 : Fld := ⟨26, 6⟩
/-- NM_CTL.EN (R357). -/
def NM_CTL_EN : Fld := ⟨0, 1⟩
/-- NM_CTL.ETYPE (R357). -/
def NM_CTL_ETYPE : Fld := ⟨1, 16⟩
/-- NM_TOKEN_DA.DA (R357). -/
def NM_TOKEN_DA_DA : Fld := ⟨0, 48⟩
/-- NM_TOKEN_SA.SA (R357). -/
def NM_TOKEN_SA_SA : Fld := ⟨0, 48⟩
/-- NM_CNTCLR.CLR (R357). -/
def NM_CNTCLR_CLR : Fld := ⟨0, 1⟩
/-- NM_SEGs_CFG.MEMBER (R357). -/
def NM_SEGs_CFG_MEMBER : Fld := ⟨0, 1⟩
/-- NM_SEGs_CFG.WING (R357). -/
def NM_SEGs_CFG_WING : Fld := ⟨1, 4⟩
/-- NM_SEGs_CFG.RING (R357). -/
def NM_SEGs_CFG_RING : Fld := ⟨5, 1⟩
/-- NM_SEGs_CFG.MEMBERS (R357). -/
def NM_SEGs_CFG_MEMBERS : Fld := ⟨6, 16⟩
/-- NM_SEGs_CFG.TOKEN_BASE (R357). -/
def NM_SEGs_CFG_TOKEN_BASE : Fld := ⟨22, 11⟩
/-- NM_SEGs_CFG.STB_EN (R357). -/
def NM_SEGs_CFG_STB_EN : Fld := ⟨33, 1⟩
/-- NM_SEGs_CFG.STB_PIN (R357). -/
def NM_SEGs_CFG_STB_PIN : Fld := ⟨34, 6⟩
/-- NM_SEGs_CFG.STB_POL (R357). -/
def NM_SEGs_CFG_STB_POL : Fld := ⟨40, 1⟩
/-- NM_SEGs_STAT.CONSENT (R357). -/
def NM_SEGs_STAT_CONSENT : Fld := ⟨0, 16⟩
/-- NM_SEGs_STAT.LAST_NODE (R357). -/
def NM_SEGs_STAT_LAST_NODE : Fld := ⟨16, 4⟩
/-- NM_SEGs_STAT.UP (R357). -/
def NM_SEGs_STAT_UP : Fld := ⟨20, 1⟩
/-- NM_SEGs_STAT.RING_ERR (R357). -/
def NM_SEGs_STAT_RING_ERR : Fld := ⟨21, 11⟩
/-- NM_SEGs_STAT.ISOLATED (R357). -/
def NM_SEGs_STAT_ISOLATED : Fld := ⟨32, 32⟩
/-- NM_WINGw_CFG.EN (R357). -/
def NM_WINGw_CFG_EN : Fld := ⟨0, 1⟩
/-- NM_WINGw_CFG.WINDOW (R357). -/
def NM_WINGw_CFG_WINDOW : Fld := ⟨1, 16⟩
/-- NM_WINGw_CFG.MIN_AWAKE (R357). -/
def NM_WINGw_CFG_MIN_AWAKE : Fld := ⟨17, 16⟩
/-- NM_WINGw_CFG.MAX_AWAKE (R357). -/
def NM_WINGw_CFG_MAX_AWAKE : Fld := ⟨33, 16⟩
/-- NM_WINGw_CFG.HOP_TMO (R357). -/
def NM_WINGw_CFG_HOP_TMO : Fld := ⟨49, 8⟩
/-- NM_WINGw_TIME.RETRY (R357). -/
def NM_WINGw_TIME_RETRY : Fld := ⟨0, 16⟩
/-- NM_WINGw_TIME.WAKE_TMO (R357). -/
def NM_WINGw_TIME_WAKE_TMO : Fld := ⟨16, 16⟩
/-- NM_WINGw_WMASK.MASK (R357). -/
def NM_WINGw_WMASK_MASK : Fld := ⟨0, 62⟩
/-- NM_WINGw_OVRMASK.MASK (R357). -/
def NM_WINGw_OVRMASK_MASK : Fld := ⟨0, 62⟩
/-- NM_WINGw_CTL.READY (R357). -/
def NM_WINGw_CTL_READY : Fld := ⟨0, 1⟩
/-- NM_WINGw_CTL.WAKE (R357). -/
def NM_WINGw_CTL_WAKE : Fld := ⟨1, 1⟩
/-- NM_WINGw_STAT.STATE (R357). -/
def NM_WINGw_STAT_STATE : Fld := ⟨0, 3⟩
/-- NM_WINGw_STAT.CAUSE (R357). -/
def NM_WINGw_STAT_CAUSE : Fld := ⟨3, 12⟩
/-- NM_WINGw_STAT.OVERRULED (R357). -/
def NM_WINGw_STAT_OVERRULED : Fld := ⟨15, 1⟩
/-- NM_WINGw_STAT.ROUND (R357). -/
def NM_WINGw_STAT_ROUND : Fld := ⟨16, 8⟩
/-- NM_WINGw_CNT.ROUNDS (R357). -/
def NM_WINGw_CNT_ROUNDS : Fld := ⟨0, 16⟩
/-- NM_WINGw_CNT.FAILED (R357). -/
def NM_WINGw_CNT_FAILED : Fld := ⟨16, 16⟩
/-- NM_WINGw_CNT.OVERRULES (R357). -/
def NM_WINGw_CNT_OVERRULES : Fld := ⟨32, 16⟩
/-- NM_WINGw_CNT.CANCELLED (R357). -/
def NM_WINGw_CNT_CANCELLED : Fld := ⟨48, 16⟩
/-- NM_WINGw_LOCKUP.STAMP (R357). -/
def NM_WINGw_LOCKUP_STAMP : Fld := ⟨0, 64⟩
/-- NM_WINGw_OWN.OWNER (R357). -/
def NM_WINGw_OWN_OWNER : Fld := ⟨0, 9⟩
/-- NM_WINGw_OWN.V (R357). -/
def NM_WINGw_OWN_V : Fld := ⟨9, 1⟩
/-- NM_WINGw_OWN.ABSENT (R357). -/
def NM_WINGw_OWN_ABSENT : Fld := ⟨10, 1⟩
/-- NM_WINGw_SEGLATE.SEGS (R357). -/
def NM_WINGw_SEGLATE_SEGS : Fld := ⟨0, 36⟩
/-- NM_WINGw_WTe_A.V (R357). -/
def NM_WINGw_WTe_A_V : Fld := ⟨0, 1⟩
/-- NM_WINGw_WTe_A.KIND (R357). -/
def NM_WINGw_WTe_A_KIND : Fld := ⟨1, 2⟩
/-- NM_WINGw_WTe_A.SEG (R357). -/
def NM_WINGw_WTe_A_SEG : Fld := ⟨3, 6⟩
/-- NM_WINGw_WTe_A.ID (R357). -/
def NM_WINGw_WTe_A_ID : Fld := ⟨9, 29⟩
/-- NM_WINGw_WTe_A.IDE (R357). -/
def NM_WINGw_WTe_A_IDE : Fld := ⟨38, 1⟩
/-- NM_WINGw_WTe_B.DA (R357). -/
def NM_WINGw_WTe_B_DA : Fld := ⟨0, 48⟩
/-- NM_WINGw_WTe_B.VID (R357). -/
def NM_WINGw_WTe_B_VID : Fld := ⟨48, 12⟩
/-- NM_SWn_CFG.EN (R357). -/
def NM_SWn_CFG_EN : Fld := ⟨0, 1⟩
/-- NM_SWn_CFG.RATE (R357). -/
def NM_SWn_CFG_RATE : Fld := ⟨1, 2⟩
/-- NM_SWn_CFG.DLC (R357). -/
def NM_SWn_CFG_DLC : Fld := ⟨3, 4⟩
/-- NM_SWn_CFG.DATA_EN (R357). -/
def NM_SWn_CFG_DATA_EN : Fld := ⟨7, 1⟩
/-- NM_SWn_CFG.IDE (R357). -/
def NM_SWn_CFG_IDE : Fld := ⟨8, 1⟩
/-- NM_SWn_ID.ID (R357). -/
def NM_SWn_ID_ID : Fld := ⟨0, 29⟩
/-- NM_SWn_ID.MASK (R357). -/
def NM_SWn_ID_MASK : Fld := ⟨29, 29⟩
/-- NM_SWn_DATA.DATA (R357). -/
def NM_SWn_DATA_DATA : Fld := ⟨0, 64⟩
/-- NM_SWn_STAT.FDC (R357). -/
def NM_SWn_STAT_FDC : Fld := ⟨0, 6⟩
/-- NM_SWn_STAT.ERR_WAKE (R357). -/
def NM_SWn_STAT_ERR_WAKE : Fld := ⟨6, 1⟩
/-- NM_SWn_STAT.MATCH (R357). -/
def NM_SWn_STAT_MATCH : Fld := ⟨7, 1⟩
/-- NM_SWn_STAT.MATCHES (R357). -/
def NM_SWn_STAT_MATCHES : Fld := ⟨32, 32⟩
/-- LOAD_CTL.ZGND_FITTED (R399). -/
def LOAD_CTL_ZGND_FITTED : Fld := ⟨0, 1⟩
/-- LOAD_CTL.AGG_EN (R399). -/
def LOAD_CTL_AGG_EN : Fld := ⟨1, 1⟩
/-- LOAD_CTL.DIE_WARN (R399). -/
def LOAD_CTL_DIE_WARN : Fld := ⟨2, 8⟩
/-- LOAD_STAT.UV12 (R399). -/
def LOAD_STAT_UV12 : Fld := ⟨0, 1⟩
/-- LOAD_STAT.UVG (R399). -/
def LOAD_STAT_UVG : Fld := ⟨1, 1⟩
/-- LOAD_STAT.OV12 (R399). -/
def LOAD_STAT_OV12 : Fld := ⟨2, 1⟩
/-- LOAD_STAT.OVG (R399). -/
def LOAD_STAT_OVG : Fld := ⟨3, 1⟩
/-- LOAD_STAT.GNDLOSS (R399). -/
def LOAD_STAT_GNDLOSS : Fld := ⟨4, 1⟩
/-- LOAD_STAT.ABSENT (R399). -/
def LOAD_STAT_ABSENT : Fld := ⟨5, 1⟩
/-- LOAD_STAT.EVLOST (R399). -/
def LOAD_STAT_EVLOST : Fld := ⟨16, 16⟩
/-- LOAD_SUPPLY.VBAT12 (R399). -/
def LOAD_SUPPLY_VBAT12 : Fld := ⟨0, 16⟩
/-- LOAD_SUPPLY.VBATG (R399). -/
def LOAD_SUPPLY_VBATG : Fld := ⟨16, 16⟩
/-- LOAD_TEMP.DIE (R399). -/
def LOAD_TEMP_DIE : Fld := ⟨0, 9⟩
/-- LOAD_TEMP.TS0 (R399). -/
def LOAD_TEMP_TS0 : Fld := ⟨9, 9⟩
/-- LOAD_TEMP.TS1 (R399). -/
def LOAD_TEMP_TS1 : Fld := ⟨18, 9⟩
/-- LOAD_TEMP.TS2 (R399). -/
def LOAD_TEMP_TS2 : Fld := ⟨27, 9⟩
/-- LOAD_TSg.TS_EN (R399). -/
def LOAD_TSg_TS_EN : Fld := ⟨0, 1⟩
/-- LOAD_TSg.BETA (R399). -/
def LOAD_TSg_BETA : Fld := ⟨1, 16⟩
/-- LOAD_TSg.NOM_RES (R399). -/
def LOAD_TSg_NOM_RES : Fld := ⟨17, 20⟩
/-- LOAD_AGG.SUM (R399). -/
def LOAD_AGG_SUM : Fld := ⟨0, 16⟩
/-- LOAD_HVINi.LEVEL (R399). -/
def LOAD_HVINi_LEVEL : Fld := ⟨0, 12⟩
/-- LOAD_HVINi.WAKE_TH (R399). -/
def LOAD_HVINi_WAKE_TH : Fld := ⟨12, 12⟩
/-- LOAD_HVINi.WAKE_EDGE (R399). -/
def LOAD_HVINi_WAKE_EDGE : Fld := ⟨24, 2⟩
/-- LOAD_HVINi.WAKE_EN (R399). -/
def LOAD_HVINi_WAKE_EN : Fld := ⟨26, 1⟩
/-- LOAD_PROFp_CFG.TYPE (R400). -/
def LOAD_PROFp_CFG_TYPE : Fld := ⟨0, 3⟩
/-- LOAD_PROFp_CFG.BLANK (R400). -/
def LOAD_PROFp_CFG_BLANK : Fld := ⟨3, 10⟩
/-- LOAD_PROFp_CFG.STEADY (R400). -/
def LOAD_PROFp_CFG_STEADY : Fld := ⟨13, 20⟩
/-- LOAD_PROFp_CFG.SC_LIM (R400). -/
def LOAD_PROFp_CFG_SC_LIM : Fld := ⟨33, 20⟩
/-- LOAD_PROFp_CFG.OC_FILT (R400). -/
def LOAD_PROFp_CFG_OC_FILT : Fld := ⟨53, 7⟩
/-- LOAD_PROFp_ENVk.T_END (R400). -/
def LOAD_PROFp_ENVk_T_END : Fld := ⟨0, 20⟩
/-- LOAD_PROFp_ENVk.LIMIT (R400). -/
def LOAD_PROFp_ENVk_LIMIT : Fld := ⟨20, 20⟩
/-- LOAD_PROFp_WIRE.K (R400). -/
def LOAD_PROFp_WIRE_K : Fld := ⟨0, 16⟩
/-- LOAD_PROFp_WIRE.TAU (R400). -/
def LOAD_PROFp_WIRE_TAU : Fld := ⟨16, 20⟩
/-- LOAD_PROFp_WIRE.T_MAX (R400). -/
def LOAD_PROFp_WIRE_T_MAX : Fld := ⟨36, 8⟩
/-- LOAD_PROFp_WIRE.T_AMB (R400). -/
def LOAD_PROFp_WIRE_T_AMB : Fld := ⟨44, 8⟩
/-- LOAD_PROFp_WIRE.HYST (R400). -/
def LOAD_PROFp_WIRE_HYST : Fld := ⟨52, 8⟩
/-- LOAD_PROFp_CLAMP.E_MAX (R400). -/
def LOAD_PROFp_CLAMP_E_MAX : Fld := ⟨0, 20⟩
/-- LOAD_PROFp_CLAMP.E_MIN (R400). -/
def LOAD_PROFp_CLAMP_E_MIN : Fld := ⟨20, 20⟩
/-- LOAD_PROFp_CLAMP.E_REL (R400). -/
def LOAD_PROFp_CLAMP_E_REL : Fld := ⟨40, 20⟩
/-- LOAD_PROFp_RECOV.RECOV (R400). -/
def LOAD_PROFp_RECOV_RECOV : Fld := ⟨0, 20⟩
/-- LOAD_PROFp_OL.OL_ON (R400). -/
def LOAD_PROFp_OL_OL_ON : Fld := ⟨0, 20⟩
/-- LOAD_PROFp_OL.OL_T (R400). -/
def LOAD_PROFp_OL_OL_T : Fld := ⟨20, 16⟩
/-- LOAD_PROFp_RETRY.RETRY_MAX (R400). -/
def LOAD_PROFp_RETRY_RETRY_MAX : Fld := ⟨0, 4⟩
/-- LOAD_PROFp_RETRY.BACKOFF (R400). -/
def LOAD_PROFp_RETRY_BACKOFF : Fld := ⟨4, 16⟩
/-- LOAD_PROFp_RETRY.CLEAN (R400). -/
def LOAD_PROFp_RETRY_CLEAN : Fld := ⟨20, 16⟩
/-- LOAD_CHc_PROF.PROF (R401). -/
def LOAD_CHc_PROF_PROF : Fld := ⟨0, 5⟩
/-- LOAD_CHc_PROF.EN (R401). -/
def LOAD_CHc_PROF_EN : Fld := ⟨5, 1⟩
/-- LOAD_CHc_PROF.SLIP_EN (R401). -/
def LOAD_CHc_PROF_SLIP_EN : Fld := ⟨6, 1⟩
/-- LOAD_CHc_PROF.TWIN_EN (R401). -/
def LOAD_CHc_PROF_TWIN_EN : Fld := ⟨7, 1⟩
/-- LOAD_CHc_PROF.SAFE (R401). -/
def LOAD_CHc_PROF_SAFE : Fld := ⟨8, 2⟩
/-- LOAD_CHc_PROF.SAFE_DUTY (R401). -/
def LOAD_CHc_PROF_SAFE_DUTY : Fld := ⟨10, 16⟩
/-- LOAD_CHc_PROF.LEASE (R401). -/
def LOAD_CHc_PROF_LEASE : Fld := ⟨26, 2⟩
/-- LOAD_CHc_PROF.LEASE_MS (R401). -/
def LOAD_CHc_PROF_LEASE_MS : Fld := ⟨28, 9⟩
/-- LOAD_CHc_PROF.OWNABS (R401). -/
def LOAD_CHc_PROF_OWNABS : Fld := ⟨37, 1⟩
/-- LOAD_CHc_PROF.OV_DISC (R401). -/
def LOAD_CHc_PROF_OV_DISC : Fld := ⟨38, 1⟩
/-- LOAD_CHc_PROF.SHED (R401). -/
def LOAD_CHc_PROF_SHED : Fld := ⟨39, 3⟩
/-- LOAD_CHc_PROF.OL_OFF (R401). -/
def LOAD_CHc_PROF_OL_OFF : Fld := ⟨42, 1⟩
/-- LOAD_CHc_ELEC.RSHUNT (R401). -/
def LOAD_CHc_ELEC_RSHUNT : Fld := ⟨0, 20⟩
/-- LOAD_CHc_ELEC.SLEW (R401). -/
def LOAD_CHc_ELEC_SLEW : Fld := ⟨20, 4⟩
/-- LOAD_CHc_ELEC.DESAT_V (R401). -/
def LOAD_CHc_ELEC_DESAT_V : Fld := ⟨24, 8⟩
/-- LOAD_CHc_ELEC.V_CLAMP (R401). -/
def LOAD_CHc_ELEC_V_CLAMP : Fld := ⟨32, 8⟩
/-- LOAD_CHc_ELEC.BTB (R401). -/
def LOAD_CHc_ELEC_BTB : Fld := ⟨40, 1⟩
/-- LOAD_CHc_CMD.MODE (R401). -/
def LOAD_CHc_CMD_MODE : Fld := ⟨0, 2⟩
/-- LOAD_CHc_CMD.DUTY (R401). -/
def LOAD_CHc_CMD_DUTY : Fld := ⟨2, 16⟩
/-- LOAD_CHc_CMD.ORIGIN (R401). -/
def LOAD_CHc_CMD_ORIGIN : Fld := ⟨18, 2⟩
/-- LOAD_CHc_PWM.PERIOD (R401). -/
def LOAD_CHc_PWM_PERIOD : Fld := ⟨0, 20⟩
/-- LOAD_CHc_PWM.PHASE (R401). -/
def LOAD_CHc_PWM_PHASE : Fld := ⟨20, 20⟩
/-- LOAD_CHc_PWM.AUTO_PH (R401). -/
def LOAD_CHc_PWM_AUTO_PH : Fld := ⟨40, 1⟩
/-- LOAD_CHc_STAT.OUT (R401). -/
def LOAD_CHc_STAT_OUT : Fld := ⟨0, 1⟩
/-- LOAD_CHc_STAT.DEMAND (R401). -/
def LOAD_CHc_STAT_DEMAND : Fld := ⟨1, 2⟩
/-- LOAD_CHc_STAT.DSRC (R401). -/
def LOAD_CHc_STAT_DSRC : Fld := ⟨3, 3⟩
/-- LOAD_CHc_STAT.HOLDBY (R401). -/
def LOAD_CHc_STAT_HOLDBY : Fld := ⟨6, 4⟩
/-- LOAD_CHc_STAT.ATTEMPTS (R401). -/
def LOAD_CHc_STAT_ATTEMPTS : Fld := ⟨10, 4⟩
/-- LOAD_CHc_STAT.EXHAUSTED (R401). -/
def LOAD_CHc_STAT_EXHAUSTED : Fld := ⟨14, 1⟩
/-- LOAD_CHc_STAT.THERM (R401). -/
def LOAD_CHc_STAT_THERM : Fld := ⟨15, 1⟩
/-- LOAD_CHc_STAT.LOCK (R401). -/
def LOAD_CHc_STAT_LOCK : Fld := ⟨16, 1⟩
/-- LOAD_CHc_STAT.OL_ON (R401). -/
def LOAD_CHc_STAT_OL_ON : Fld := ⟨17, 1⟩
/-- LOAD_CHc_STAT.OL_OFF (R401). -/
def LOAD_CHc_STAT_OL_OFF : Fld := ⟨18, 1⟩
/-- LOAD_CHc_STAT.REVCUR (R401). -/
def LOAD_CHc_STAT_REVCUR : Fld := ⟨19, 1⟩
/-- LOAD_CHc_STAT.EXT_DRIVEN (R401). -/
def LOAD_CHc_STAT_EXT_DRIVEN : Fld := ⟨20, 1⟩
/-- LOAD_CHc_STAT.RESTART_PENDING (R401). -/
def LOAD_CHc_STAT_RESTART_PENDING : Fld := ⟨21, 1⟩
/-- LOAD_CHc_TRIP.SC (R401). -/
def LOAD_CHc_TRIP_SC : Fld := ⟨0, 1⟩
/-- LOAD_CHc_TRIP.OC (R401). -/
def LOAD_CHc_TRIP_OC : Fld := ⟨1, 1⟩
/-- LOAD_CHc_TRIP.DESAT (R401). -/
def LOAD_CHc_TRIP_DESAT : Fld := ⟨2, 1⟩
/-- LOAD_CHc_TRIP.WIRE (R401). -/
def LOAD_CHc_TRIP_WIRE : Fld := ⟨3, 1⟩
/-- LOAD_CHc_TRIP.THERM (R401). -/
def LOAD_CHc_TRIP_THERM : Fld := ⟨4, 1⟩
/-- LOAD_CHc_TRIP.LOCK (R401). -/
def LOAD_CHc_TRIP_LOCK : Fld := ⟨5, 1⟩
/-- LOAD_CHc_TRIP.SHED (R401). -/
def LOAD_CHc_TRIP_SHED : Fld := ⟨6, 1⟩
/-- LOAD_CHc_TRIP.SUPPLY (R401). -/
def LOAD_CHc_TRIP_SUPPLY : Fld := ⟨7, 1⟩
/-- LOAD_CHc_TRIP.TILE (R401). -/
def LOAD_CHc_TRIP_TILE : Fld := ⟨8, 1⟩
/-- LOAD_CHc_TRIP.REARM (R401). -/
def LOAD_CHc_TRIP_REARM : Fld := ⟨32, 1⟩
/-- LOAD_CHc_I.I_NOW (R401). -/
def LOAD_CHc_I_I_NOW : Fld := ⟨0, 20⟩
/-- LOAD_CHc_I.I_MEAN (R401). -/
def LOAD_CHc_I_I_MEAN : Fld := ⟨20, 20⟩
/-- LOAD_CHc_I.I_TRIP (R401). -/
def LOAD_CHc_I_I_TRIP : Fld := ⟨40, 20⟩
/-- LOAD_CHc_V.V_OUT (R401). -/
def LOAD_CHc_V_V_OUT : Fld := ⟨0, 16⟩
/-- LOAD_CHc_V.T_CH (R401). -/
def LOAD_CHc_V_T_CH : Fld := ⟨16, 9⟩
/-- LOAD_CHc_WIRE.T_W (R401). -/
def LOAD_CHc_WIRE_T_W : Fld := ⟨0, 32⟩
/-- LOAD_CHc_CLAMP.BUDGET (R401). -/
def LOAD_CHc_CLAMP_BUDGET : Fld := ⟨0, 32⟩
/-- LOAD_CHc_CLAMP.LAST_E (R401). -/
def LOAD_CHc_CLAMP_LAST_E : Fld := ⟨32, 32⟩
/-- LOAD_CHc_CNT.TRIPS (R401). -/
def LOAD_CHc_CNT_TRIPS : Fld := ⟨0, 16⟩
/-- LOAD_CHc_CNT.REFUSED (R401). -/
def LOAD_CHc_CNT_REFUSED : Fld := ⟨16, 16⟩
/-- LOAD_CHc_CNT.STARTS (R401). -/
def LOAD_CHc_CNT_STARTS : Fld := ⟨32, 32⟩
/-- LOAD_CHc_CNTCLR.CLR (R401). -/
def LOAD_CHc_CNTCLR_CLR : Fld := ⟨0, 1⟩
/-- LOAD_CHc_OWN.OWNER (R401). -/
def LOAD_CHc_OWN_OWNER : Fld := ⟨0, 9⟩
/-- LOAD_CHc_OWN.V (R401). -/
def LOAD_CHc_OWN_V : Fld := ⟨9, 1⟩
/-- LOAD_CHc_OWN.ABSENT (R401). -/
def LOAD_CHc_OWN_ABSENT : Fld := ⟨10, 1⟩
/-- EXEC_RESERVE.PAIR (R433). -/
def EXEC_RESERVE_PAIR : Fld := ⟨0, 3⟩
/-- EXEC_RESERVE.EN (R433). -/
def EXEC_RESERVE_EN : Fld := ⟨3, 1⟩
/-- EXEC_RESERVE.USED (R433). -/
def EXEC_RESERVE_USED : Fld := ⟨4, 1⟩
/-- EXEC_RESERVE.REPLACED (R433). -/
def EXEC_RESERVE_REPLACED : Fld := ⟨5, 3⟩
/-- EXEC_INJ.PASSED (R433). -/
def EXEC_INJ_PASSED : Fld := ⟨0, 8⟩
/-- EXEC_INJ.FAILED (R433). -/
def EXEC_INJ_FAILED : Fld := ⟨8, 8⟩
/-- EXEC_NORESUMEk.CARRELS (R433). -/
def EXEC_NORESUMEk_CARRELS : Fld := ⟨0, 64⟩
/-- EXEC_Pp_CTL.RELEASE (R433). -/
def EXEC_Pp_CTL_RELEASE : Fld := ⟨0, 1⟩
/-- EXEC_Pp_CTL.SPLIT (R433). -/
def EXEC_Pp_CTL_SPLIT : Fld := ⟨1, 1⟩
/-- EXEC_Pp_CTL.RESET (R433). -/
def EXEC_Pp_CTL_RESET : Fld := ⟨2, 1⟩
/-- EXEC_Pp_STAT.STATE (R433). -/
def EXEC_Pp_STAT_STATE : Fld := ⟨0, 3⟩
/-- EXEC_Pp_STAT.SPLIT (R433). -/
def EXEC_Pp_STAT_SPLIT : Fld := ⟨3, 1⟩
/-- EXEC_Pp_STAT.BROKEN (R433). -/
def EXEC_Pp_STAT_BROKEN : Fld := ⟨4, 1⟩
/-- EXEC_Pp_STAT.RELEASED (R433). -/
def EXEC_Pp_STAT_RELEASED : Fld := ⟨5, 1⟩
/-- EXEC_Pp_FAULT.KIND (R433). -/
def EXEC_Pp_FAULT_KIND : Fld := ⟨0, 3⟩
/-- EXEC_Pp_FAULT.COMP (R433). -/
def EXEC_Pp_FAULT_COMP : Fld := ⟨3, 2⟩
/-- EXEC_Pp_FAULT.LEDGER (R433). -/
def EXEC_Pp_FAULT_LEDGER : Fld := ⟨5, 6⟩
/-- EXEC_Pp_FAULT.SLICE (R433). -/
def EXEC_Pp_FAULT_SLICE : Fld := ⟨11, 5⟩
/-- EXEC_Pp_FAULT.COMMIT (R433). -/
def EXEC_Pp_FAULT_COMMIT : Fld := ⟨16, 48⟩
/-- EXEC_Pp_FPC.PC (R433). -/
def EXEC_Pp_FPC_PC : Fld := ⟨0, 49⟩
/-- EXEC_Pp_FPC.CARREL (R433). -/
def EXEC_Pp_FPC_CARREL : Fld := ⟨49, 9⟩
/-- EXEC_Pp_COMMITS.INDEX (R433). -/
def EXEC_Pp_COMMITS_INDEX : Fld := ⟨0, 64⟩
/-- EXEC_Pp_DIGEST.DIGEST (R433). -/
def EXEC_Pp_DIGEST_DIGEST : Fld := ⟨0, 64⟩
/-- EXEC_Pp_DIGCNT.COUNT (R433). -/
def EXEC_Pp_DIGCNT_COUNT : Fld := ⟨0, 64⟩
/-- STK_CTL.AUTO_WD (R466). -/
def STK_CTL_AUTO_WD : Fld := ⟨0, 1⟩
/-- STK_CTL.SCRUB_EN (R466). -/
def STK_CTL_SCRUB_EN : Fld := ⟨1, 1⟩
/-- STK_CTL.SCRUB_S (R466). -/
def STK_CTL_SCRUB_S : Fld := ⟨2, 16⟩
/-- STK_CTL.MRAM_SCRUB_MIN (R466). -/
def STK_CTL_MRAM_SCRUB_MIN : Fld := ⟨18, 16⟩
/-- STK_CTL.CE_SUPP (R466). -/
def STK_CTL_CE_SUPP : Fld := ⟨34, 1⟩
/-- STK_STAT.FILLED (R466). -/
def STK_STAT_FILLED : Fld := ⟨0, 1⟩
/-- STK_STAT.FILL_BUSY (R466). -/
def STK_STAT_FILL_BUSY : Fld := ⟨1, 1⟩
/-- STK_STAT.TEST_FAIL (R466). -/
def STK_STAT_TEST_FAIL : Fld := ⟨2, 1⟩
/-- STK_STAT.PASSES (R466). -/
def STK_STAT_PASSES : Fld := ⟨32, 32⟩
/-- STK_FILL.PAGE (R466). -/
def STK_FILL_PAGE : Fld := ⟨0, 11⟩
/-- STK_FILL.COUNT (R466). -/
def STK_FILL_COUNT : Fld := ⟨11, 12⟩
/-- STK_FILL.START (R466). -/
def STK_FILL_START : Fld := ⟨23, 1⟩
/-- STK_FILL.TEST (R466). -/
def STK_FILL_TEST : Fld := ⟨24, 1⟩
/-- STK_TEST_RES.PAGE (R466). -/
def STK_TEST_RES_PAGE : Fld := ⟨0, 11⟩
/-- STK_TEST_RES.FAILS (R466). -/
def STK_TEST_RES_FAILS : Fld := ⟨11, 12⟩
/-- STK_BANKWD.BANKS (R466). -/
def STK_BANKWD_BANKS : Fld := ⟨0, 32⟩
/-- STK_CEt.CORR (R466). -/
def STK_CEt_CORR : Fld := ⟨0, 32⟩
/-- STK_CEt.UNCORR (R466). -/
def STK_CEt_UNCORR : Fld := ⟨32, 32⟩
/-- STK_CEM.CORR (R466). -/
def STK_CEM_CORR : Fld := ⟨0, 32⟩
/-- STK_CEM.UNCORR (R466). -/
def STK_CEM_UNCORR : Fld := ⟨32, 32⟩
/-- STK_CECLR.CLR (R466). -/
def STK_CECLR_CLR : Fld := ⟨0, 1⟩
/-- STK_WDk.PAGES (R466). -/
def STK_WDk_PAGES : Fld := ⟨0, 64⟩
/-- STK_MWDk.PAGES (R466). -/
def STK_MWDk_PAGES : Fld := ⟨0, 64⟩
/-- STK_MRAM_CTL.WP_A (R466). -/
def STK_MRAM_CTL_WP_A : Fld := ⟨0, 1⟩
/-- STK_MRAM_CTL.WP_B (R466). -/
def STK_MRAM_CTL_WP_B : Fld := ⟨1, 1⟩
/-- STK_XSPI_CTL.EN (R466). -/
def STK_XSPI_CTL_EN : Fld := ⟨0, 1⟩
/-- STK_XSPI_CTL.PROTO (R466). -/
def STK_XSPI_CTL_PROTO : Fld := ⟨1, 2⟩
/-- STK_XSPI_CTL.DIV (R466). -/
def STK_XSPI_CTL_DIV : Fld := ⟨3, 6⟩
/-- STK_XSPI_CTL.LAYOUT (R466). -/
def STK_XSPI_CTL_LAYOUT : Fld := ⟨9, 1⟩
/-- STK_XSPI_CTL.SIZE (R466). -/
def STK_XSPI_CTL_SIZE : Fld := ⟨10, 5⟩
/-- STK_XSPI_CTL.RD_OP (R466). -/
def STK_XSPI_CTL_RD_OP : Fld := ⟨15, 16⟩
/-- STK_XSPI_CTL.DUMMY (R466). -/
def STK_XSPI_CTL_DUMMY : Fld := ⟨31, 5⟩
/-- STK_XSPI_CTL.ADDR4 (R466). -/
def STK_XSPI_CTL_ADDR4 : Fld := ⟨36, 1⟩
/-- STK_XSPI_CTL.WIN_EN (R466). -/
def STK_XSPI_CTL_WIN_EN : Fld := ⟨37, 1⟩
/-- STK_XSPI_BASE.BASE (R466). -/
def STK_XSPI_BASE_BASE : Fld := ⟨0, 32⟩
/-- STK_XSPI_CMD.OP (R466). -/
def STK_XSPI_CMD_OP : Fld := ⟨0, 16⟩
/-- STK_XSPI_CMD.OPLEN (R466). -/
def STK_XSPI_CMD_OPLEN : Fld := ⟨16, 1⟩
/-- STK_XSPI_CMD.ADDR_EN (R466). -/
def STK_XSPI_CMD_ADDR_EN : Fld := ⟨17, 1⟩
/-- STK_XSPI_CMD.DUMMY (R466). -/
def STK_XSPI_CMD_DUMMY : Fld := ⟨18, 5⟩
/-- STK_XSPI_CMD.DIR (R466). -/
def STK_XSPI_CMD_DIR : Fld := ⟨23, 1⟩
/-- STK_XSPI_CMD.LEN (R466). -/
def STK_XSPI_CMD_LEN : Fld := ⟨24, 9⟩
/-- STK_XSPI_CMD.START (R466). -/
def STK_XSPI_CMD_START : Fld := ⟨33, 1⟩
/-- STK_XSPI_CMD.BUSY (R466). -/
def STK_XSPI_CMD_BUSY : Fld := ⟨34, 1⟩
/-- STK_XSPI_CMD.ERR (R466). -/
def STK_XSPI_CMD_ERR : Fld := ⟨35, 1⟩
/-- STK_XSPI_ADDR.ADDR (R466). -/
def STK_XSPI_ADDR_ADDR : Fld := ⟨0, 32⟩
/-- STK_XSPI_COPY_SRC.SRC (R466). -/
def STK_XSPI_COPY_SRC_SRC : Fld := ⟨0, 32⟩
/-- STK_XSPI_COPY_DST.DST (R466). -/
def STK_XSPI_COPY_DST_DST : Fld := ⟨0, 48⟩
/-- STK_XSPI_COPY.LEN (R466). -/
def STK_XSPI_COPY_LEN : Fld := ⟨0, 32⟩
/-- STK_XSPI_COPY.START (R466). -/
def STK_XSPI_COPY_START : Fld := ⟨32, 1⟩
/-- STK_XSPI_COPY.BUSY (R466). -/
def STK_XSPI_COPY_BUSY : Fld := ⟨33, 1⟩
/-- STK_XSPI_COPY.ERR (R466). -/
def STK_XSPI_COPY_ERR : Fld := ⟨34, 1⟩
/-- STK_XSPI_COPY.NARROW (R466). -/
def STK_XSPI_COPY_NARROW : Fld := ⟨35, 1⟩
/-- STK_XSPI_COPY.REASON (R466). -/
def STK_XSPI_COPY_REASON : Fld := ⟨36, 3⟩
/-- STK_XSPI_BUFk.DATA (R466). -/
def STK_XSPI_BUFk_DATA : Fld := ⟨0, 64⟩
/-- ARCH_CTL.EVT_EN (R467). -/
def ARCH_CTL_EVT_EN : Fld := ⟨0, 1⟩
/-- ARCH_CTL.CORR_EN (R467). -/
def ARCH_CTL_CORR_EN : Fld := ⟨1, 1⟩
/-- ARCH_STAT.HEAD (R467). -/
def ARCH_STAT_HEAD : Fld := ⟨0, 10⟩
/-- ARCH_STAT.COUNT (R467). -/
def ARCH_STAT_COUNT : Fld := ⟨10, 11⟩
/-- ARCH_STAT.PRIOR_HELD (R467). -/
def ARCH_STAT_PRIOR_HELD : Fld := ⟨21, 1⟩
/-- ARCH_STAT.SEQ (R467). -/
def ARCH_STAT_SEQ : Fld := ⟨32, 32⟩
/-- ARCH_LOSS.OVERWRITTEN (R467). -/
def ARCH_LOSS_OVERWRITTEN : Fld := ⟨0, 24⟩
/-- ARCH_LOSS.DROPPED (R467). -/
def ARCH_LOSS_DROPPED : Fld := ⟨24, 24⟩
/-- ARCH_LOSS.DAMAGED (R467). -/
def ARCH_LOSS_DAMAGED : Fld := ⟨48, 16⟩
/-- ARCH_CLR.CLR (R467). -/
def ARCH_CLR_CLR : Fld := ⟨0, 1⟩
/-- ARCH_CLR.RET_CLR (R467). -/
def ARCH_CLR_RET_CLR : Fld := ⟨1, 1⟩
/-- ARCH_PUT.PAYLOAD (R467). -/
def ARCH_PUT_PAYLOAD : Fld := ⟨0, 64⟩
/-- PERM_TABLE.RD (R473). -/
def PERM_TABLE_RD : Fld := ⟨0, 1⟩
/-- PERM_TABLE.WR (R473). -/
def PERM_TABLE_WR : Fld := ⟨1, 1⟩
/-- PERM_TABLE.EXE (R473). -/
def PERM_TABLE_EXE : Fld := ⟨2, 1⟩
/-- PERM_TABLE.CFG (R473). -/
def PERM_TABLE_CFG : Fld := ⟨3, 1⟩
/-- PERM_TABLE.RULE (R473). -/
def PERM_TABLE_RULE : Fld := ⟨4, 2⟩
/-- PERM_TABLE.CLO (R473). -/
def PERM_TABLE_CLO : Fld := ⟨6, 9⟩
/-- PERM_TABLE.CHI (R473). -/
def PERM_TABLE_CHI : Fld := ⟨15, 9⟩
/-- PERM_TABLE.FLOOR (R473). -/
def PERM_TABLE_FLOOR : Fld := ⟨24, 2⟩
/-- PERM_CTL.TMO (R491). -/
def PERM_CTL_TMO : Fld := ⟨0, 8⟩
/-- PERM_CTL.LOG_EN (R491). -/
def PERM_CTL_LOG_EN : Fld := ⟨8, 1⟩
/-- PERM_LOG_ADDR.ADDR (R491). -/
def PERM_LOG_ADDR_ADDR : Fld := ⟨0, 48⟩
/-- PERM_LOG_ID.MASTER (R491). -/
def PERM_LOG_ID_MASTER : Fld := ⟨0, 6⟩
/-- PERM_LOG_ID.CARREL (R491). -/
def PERM_LOG_ID_CARREL : Fld := ⟨6, 9⟩
/-- PERM_LOG_ID.LIB (R491). -/
def PERM_LOG_ID_LIB : Fld := ⟨15, 1⟩
/-- PERM_LOG_ID.REASON (R491). -/
def PERM_LOG_ID_REASON : Fld := ⟨16, 3⟩
/-- PERM_LOG_ID.KIND (R491). -/
def PERM_LOG_ID_KIND : Fld := ⟨19, 3⟩
/-- PERM_LOG_ID.CRIT (R491). -/
def PERM_LOG_ID_CRIT : Fld := ⟨22, 2⟩
/-- PERM_LOG_ID.COUNT (R491). -/
def PERM_LOG_ID_COUNT : Fld := ⟨32, 32⟩
/-- PERM_LOG_STAMP.STAMP (R491). -/
def PERM_LOG_STAMP_STAMP : Fld := ⟨0, 64⟩
/-- PERM_LOG_CLR.CLR (R491). -/
def PERM_LOG_CLR_CLR : Fld := ⟨0, 1⟩
/-- TWIN_BR_CTL.OUT_EN (R492). -/
def TWIN_BR_CTL_OUT_EN : Fld := ⟨0, 1⟩
/-- TWIN_BR_CTL.IN_EN (R492). -/
def TWIN_BR_CTL_IN_EN : Fld := ⟨1, 1⟩
/-- TWIN_BR_CTL.TMO (R492). -/
def TWIN_BR_CTL_TMO : Fld := ⟨2, 8⟩
/-- TWIN_BR_CTL.GAP (R492). -/
def TWIN_BR_CTL_GAP : Fld := ⟨10, 8⟩
/-- TWIN_BR_STAT.OUT_OPEN (R492). -/
def TWIN_BR_STAT_OUT_OPEN : Fld := ⟨0, 1⟩
/-- TWIN_BR_STAT.TRY (R492). -/
def TWIN_BR_STAT_TRY : Fld := ⟨1, 4⟩
/-- TWIN_BR_STAT.CROSSINGS (R492). -/
def TWIN_BR_STAT_CROSSINGS : Fld := ⟨32, 32⟩
/-- TWIN_BR_CNT.RETRY_FAIL (R492). -/
def TWIN_BR_CNT_RETRY_FAIL : Fld := ⟨0, 32⟩
/-- TWIN_BR_CNT.TIMEOUTS (R492). -/
def TWIN_BR_CNT_TIMEOUTS : Fld := ⟨32, 32⟩
/-- TWIN_BR_LOGSTAT.HEAD (R492). -/
def TWIN_BR_LOGSTAT_HEAD : Fld := ⟨0, 4⟩
/-- TWIN_BR_LOGSTAT.COUNT (R492). -/
def TWIN_BR_LOGSTAT_COUNT : Fld := ⟨4, 5⟩
/-- TWIN_BR_LOGSTAT.LOST (R492). -/
def TWIN_BR_LOGSTAT_LOST : Fld := ⟨16, 16⟩
/-- TWIN_BR_LOGCLR.CLR (R492). -/
def TWIN_BR_LOGCLR_CLR : Fld := ⟨0, 1⟩
/-- TWIN_BR_LOGk_A.ADDR (R492). -/
def TWIN_BR_LOGk_A_ADDR : Fld := ⟨0, 32⟩
/-- TWIN_BR_LOGk_A.REASON (R492). -/
def TWIN_BR_LOGk_A_REASON : Fld := ⟨32, 3⟩
/-- TWIN_BR_LOGk_A.V (R492). -/
def TWIN_BR_LOGk_A_V : Fld := ⟨35, 1⟩
/-- TWIN_BR_LOGk_STAMP.STAMP (R492). -/
def TWIN_BR_LOGk_STAMP_STAMP : Fld := ⟨0, 64⟩
/-- TWIN_SEMs.GOT (R492). -/
def TWIN_SEMs_GOT : Fld := ⟨0, 1⟩
/-- TWIN_SEMs.HELD (R492). -/
def TWIN_SEMs_HELD : Fld := ⟨1, 1⟩
/-- TWIN_SEMs.SIDE (R492). -/
def TWIN_SEMs_SIDE : Fld := ⟨2, 1⟩
/-- TWIN_SEMs.CARREL (R492). -/
def TWIN_SEMs_CARREL : Fld := ⟨3, 9⟩
/-- TWIN_SEMs.RELEASE (R492). -/
def TWIN_SEMs_RELEASE : Fld := ⟨12, 1⟩
/-- CARREL_STAT.NUSED (R516). -/
def CARREL_STAT_NUSED : Fld := ⟨0, 18⟩
/-- CARREL_RC_MAC.MAC (R516). -/
def CARREL_RC_MAC_MAC : Fld := ⟨0, 48⟩
/-- CARREL_RC_IP4.ADDR (R516). -/
def CARREL_RC_IP4_ADDR : Fld := ⟨0, 32⟩
/-- CARREL_RC_IP6_HI.ADDR (R516). -/
def CARREL_RC_IP6_HI_ADDR : Fld := ⟨0, 64⟩
/-- CARREL_RC_IP6_LO.ADDR (R516). -/
def CARREL_RC_IP6_LO_ADDR : Fld := ⟨0, 64⟩
/-- CARREL_RC_CNT.UNMATCHED (R516). -/
def CARREL_RC_CNT_UNMATCHED : Fld := ⟨0, 32⟩
/-- CARREL_RC_CNT.MALFORMED (R516). -/
def CARREL_RC_CNT_MALFORMED : Fld := ⟨32, 32⟩
/-- CARREL_RC_CNT2.OVERFLOW (R516). -/
def CARREL_RC_CNT2_OVERFLOW : Fld := ⟨0, 32⟩
/-- CARREL_RC_CNT2.SERVED (R516). -/
def CARREL_RC_CNT2_SERVED : Fld := ⟨32, 32⟩
/-- CARREL_RC_CNTCLR.CLR (R516). -/
def CARREL_RC_CNTCLR_CLR : Fld := ⟨0, 1⟩
/-- CARREL_Pp_TTk_CTL.EN (R516). -/
def CARREL_Pp_TTk_CTL_EN : Fld := ⟨0, 1⟩
/-- CARREL_Pp_TTk_CTL.FIRST (R516). -/
def CARREL_Pp_TTk_CTL_FIRST : Fld := ⟨1, 10⟩
/-- CARREL_Pp_TTk_CTL.LEN (R516). -/
def CARREL_Pp_TTk_CTL_LEN : Fld := ⟨11, 11⟩
/-- CARREL_Pp_TTk_CTL.CYCLE (R516). -/
def CARREL_Pp_TTk_CTL_CYCLE : Fld := ⟨22, 30⟩
/-- CARREL_Pp_TTk_BASE.BASE (R516). -/
def CARREL_Pp_TTk_BASE_BASE : Fld := ⟨0, 64⟩
/-- CARREL_Pp_TTk_NEXT.CHANGE (R516). -/
def CARREL_Pp_TTk_NEXT_CHANGE : Fld := ⟨0, 1⟩
/-- CARREL_Pp_TTk_NEXT.FIRST (R516). -/
def CARREL_Pp_TTk_NEXT_FIRST : Fld := ⟨1, 10⟩
/-- CARREL_Pp_TTk_NEXT.LEN (R516). -/
def CARREL_Pp_TTk_NEXT_LEN : Fld := ⟨11, 11⟩
/-- CARREL_Pp_TTk_NEXT.CYCLE (R516). -/
def CARREL_Pp_TTk_NEXT_CYCLE : Fld := ⟨22, 30⟩
/-- CARREL_Pp_TTk_NEXT.PENDING (R516). -/
def CARREL_Pp_TTk_NEXT_PENDING : Fld := ⟨52, 1⟩
/-- CARREL_Pp_TTk_STAT.CUR (R516). -/
def CARREL_Pp_TTk_STAT_CUR : Fld := ⟨0, 10⟩
/-- CARREL_Pp_TTk_STAT.RUNNER (R516). -/
def CARREL_Pp_TTk_STAT_RUNNER : Fld := ⟨10, 3⟩
/-- CARREL_Pp_TTk_STAT.LATE (R516). -/
def CARREL_Pp_TTk_STAT_LATE : Fld := ⟨32, 32⟩
/-- CARREL_Pp_TEi.CARREL (R516). -/
def CARREL_Pp_TEi_CARREL : Fld := ⟨0, 9⟩
/-- CARREL_Pp_TEi.IDLE (R516). -/
def CARREL_Pp_TEi_IDLE : Fld := ⟨9, 1⟩
/-- CARREL_Pp_TEi.OFFSET (R516). -/
def CARREL_Pp_TEi_OFFSET : Fld := ⟨10, 30⟩
/-- CARREL_Cc_CFG.V (R516). -/
def CARREL_Cc_CFG_V : Fld := ⟨0, 1⟩
/-- CARREL_Cc_CFG.PAIR (R516). -/
def CARREL_Cc_CFG_PAIR : Fld := ⟨1, 3⟩
/-- CARREL_Cc_CFG.CORE (R516). -/
def CARREL_Cc_CFG_CORE : Fld := ⟨4, 1⟩
/-- CARREL_Cc_CFG.REMOTE (R516). -/
def CARREL_Cc_CFG_REMOTE : Fld := ⟨5, 1⟩
/-- CARREL_Cc_CFG.CEIL (R516). -/
def CARREL_Cc_CFG_CEIL : Fld := ⟨6, 2⟩
/-- CARREL_Cc_CFG.QDEPTH (R516). -/
def CARREL_Cc_CFG_QDEPTH : Fld := ⟨8, 11⟩
/-- CARREL_Cc_CFG.QBASE (R516). -/
def CARREL_Cc_CFG_QBASE : Fld := ⟨19, 17⟩
/-- CARREL_Cc_CTL.START (R516). -/
def CARREL_Cc_CTL_START : Fld := ⟨0, 1⟩
/-- CARREL_Cc_CTL.RESET (R516). -/
def CARREL_Cc_CTL_RESET : Fld := ⟨1, 1⟩
/-- CARREL_Cc_STAT.STATE (R516). -/
def CARREL_Cc_STAT_STATE : Fld := ⟨0, 2⟩
/-- CARREL_Cc_STAT.FRESH (R516). -/
def CARREL_Cc_STAT_FRESH : Fld := ⟨2, 1⟩
/-- CARREL_Cc_STAT.IN (R516). -/
def CARREL_Cc_STAT_IN : Fld := ⟨3, 1⟩
/-- CARREL_Cc_STAT.WHY (R516). -/
def CARREL_Cc_STAT_WHY : Fld := ⟨4, 3⟩
/-- CARREL_Cc_STAT.EPOCH (R516). -/
def CARREL_Cc_STAT_EPOCH : Fld := ⟨7, 8⟩
/-- CARREL_Cc_STAT.LATE (R516). -/
def CARREL_Cc_STAT_LATE : Fld := ⟨32, 32⟩
/-- CARREL_Cc_ENTRY.PC (R516). -/
def CARREL_Cc_ENTRY_PC : Fld := ⟨0, 49⟩
/-- CARREL_Cc_TBASE.EN (R516). -/
def CARREL_Cc_TBASE_EN : Fld := ⟨0, 1⟩
/-- CARREL_Cc_TBASE.ROOT (R516). -/
def CARREL_Cc_TBASE_ROOT : Fld := ⟨9, 39⟩
/-- CARREL_Cc_CTX.BASE (R516). -/
def CARREL_Cc_CTX_BASE : Fld := ⟨7, 41⟩
/-- CARREL_Cc_NALLOW.ALLOW (R516). -/
def CARREL_Cc_NALLOW_ALLOW : Fld := ⟨0, 64⟩
/-- CARREL_Cc_CATRD.LO (R516). -/
def CARREL_Cc_CATRD_LO : Fld := ⟨0, 20⟩
/-- CARREL_Cc_CATRD.HI (R516). -/
def CARREL_Cc_CATRD_HI : Fld := ⟨20, 20⟩
/-- CARREL_Cc_CATWR.LO (R516). -/
def CARREL_Cc_CATWR_LO : Fld := ⟨0, 20⟩
/-- CARREL_Cc_CATWR.HI (R516). -/
def CARREL_Cc_CATWR_HI : Fld := ⟨20, 20⟩
/-- CARREL_Cc_DESK.IN_FULL (R516). -/
def CARREL_Cc_DESK_IN_FULL : Fld := ⟨0, 1⟩
/-- CARREL_Cc_DESK.OUT_FULL (R516). -/
def CARREL_Cc_DESK_OUT_FULL : Fld := ⟨1, 1⟩
/-- CARREL_Cc_DESK.IN_DIRTY (R516). -/
def CARREL_Cc_DESK_IN_DIRTY : Fld := ⟨2, 8⟩
/-- CARREL_Cc_DESK.OUT_DIRTY (R516). -/
def CARREL_Cc_DESK_OUT_DIRTY : Fld := ⟨10, 8⟩
/-- CARREL_Cc_DESK.IN_SEQ (R516). -/
def CARREL_Cc_DESK_IN_SEQ : Fld := ⟨18, 16⟩
/-- CARREL_Cc_DESK.OUT_SEQ (R516). -/
def CARREL_Cc_DESK_OUT_SEQ : Fld := ⟨34, 16⟩
/-- CARREL_Cc_SES_CTL.EN (R516). -/
def CARREL_Cc_SES_CTL_EN : Fld := ⟨0, 1⟩
/-- CARREL_Cc_SES_CTL.UPL (R516). -/
def CARREL_Cc_SES_CTL_UPL : Fld := ⟨1, 1⟩
/-- CARREL_Cc_SES_CTL.V6 (R516). -/
def CARREL_Cc_SES_CTL_V6 : Fld := ⟨2, 1⟩
/-- CARREL_Cc_SES_CTL.VID (R516). -/
def CARREL_Cc_SES_CTL_VID : Fld := ⟨3, 12⟩
/-- CARREL_Cc_SES_CTL.TC (R516). -/
def CARREL_Cc_SES_CTL_TC : Fld := ⟨15, 3⟩
/-- CARREL_Cc_SES_CTL.GATHER (R516). -/
def CARREL_Cc_SES_CTL_GATHER : Fld := ⟨18, 10⟩
/-- CARREL_Cc_SES_PEER_HI.ADDR (R516). -/
def CARREL_Cc_SES_PEER_HI_ADDR : Fld := ⟨0, 64⟩
/-- CARREL_Cc_SES_PEER_LO.ADDR (R516). -/
def CARREL_Cc_SES_PEER_LO_ADDR : Fld := ⟨0, 64⟩
/-- CARREL_Cc_SES_PORTS.PEER_PORT (R516). -/
def CARREL_Cc_SES_PORTS_PEER_PORT : Fld := ⟨0, 16⟩
/-- CARREL_Cc_SES_PORTS.LOCAL_PORT (R516). -/
def CARREL_Cc_SES_PORTS_LOCAL_PORT : Fld := ⟨16, 16⟩
/-- CARREL_Cc_SES_NEXTHOP.MAC (R516). -/
def CARREL_Cc_SES_NEXTHOP_MAC : Fld := ⟨0, 48⟩
/-- VAULT_STAT.SEALED (R553). -/
def VAULT_STAT_SEALED : Fld := ⟨0, 1⟩
/-- VAULT_STAT.ENT_OK (R553). -/
def VAULT_STAT_ENT_OK : Fld := ⟨1, 1⟩
/-- VAULT_STAT.DRBG_OK (R553). -/
def VAULT_STAT_DRBG_OK : Fld := ⟨2, 1⟩
/-- VAULT_STAT.BOOT_SLOT (R553). -/
def VAULT_STAT_BOOT_SLOT : Fld := ⟨3, 1⟩
/-- VAULT_STAT.TRIAL (R553). -/
def VAULT_STAT_TRIAL : Fld := ⟨4, 1⟩
/-- VAULT_STAT.RECOVERY (R553). -/
def VAULT_STAT_RECOVERY : Fld := ⟨5, 1⟩
/-- VAULT_STAT.FREE (R553). -/
def VAULT_STAT_FREE : Fld := ⟨6, 11⟩
/-- VAULT_FUSE.MIN_SVN (R553). -/
def VAULT_FUSE_MIN_SVN : Fld := ⟨0, 7⟩
/-- VAULT_FUSE.ROOT_REVOKE (R553). -/
def VAULT_FUSE_ROOT_REVOKE : Fld := ⟨7, 4⟩
/-- VAULT_FUSE.STATEMENTS (R553). -/
def VAULT_FUSE_STATEMENTS : Fld := ⟨11, 2⟩
/-- VAULT_FUSE.AON_LOSS (R553). -/
def VAULT_FUSE_AON_LOSS : Fld := ⟨13, 1⟩
/-- VAULT_DEVID.DEVICE_ID (R553). -/
def VAULT_DEVID_DEVICE_ID : Fld := ⟨0, 64⟩
/-- VAULT_CHAL.CHAL (R553). -/
def VAULT_CHAL_CHAL : Fld := ⟨0, 64⟩
/-- VAULT_TAMPi_CFG.EN (R553). -/
def VAULT_TAMPi_CFG_EN : Fld := ⟨0, 1⟩
/-- VAULT_TAMPi_CFG.POL (R553). -/
def VAULT_TAMPi_CFG_POL : Fld := ⟨1, 1⟩
/-- VAULT_TAMPi_CFG.FILT (R553). -/
def VAULT_TAMPi_CFG_FILT : Fld := ⟨2, 10⟩
/-- VAULT_TAMP_STAT.LATCH (R553). -/
def VAULT_TAMP_STAT_LATCH : Fld := ⟨0, 4⟩
/-- VAULT_TAMP_STAT.AON_LOST (R553). -/
def VAULT_TAMP_STAT_AON_LOST : Fld := ⟨4, 1⟩
/-- VAULT_TAMP_STAT.ZPEND (R553). -/
def VAULT_TAMP_STAT_ZPEND : Fld := ⟨5, 1⟩
/-- VAULT_TAMP_STAT.WHEN (R553). -/
def VAULT_TAMP_STAT_WHEN : Fld := ⟨6, 2⟩
/-- VAULT_ENT_STAT.RCT_FAIL (R553). -/
def VAULT_ENT_STAT_RCT_FAIL : Fld := ⟨0, 16⟩
/-- VAULT_ENT_STAT.APT_FAIL (R553). -/
def VAULT_ENT_STAT_APT_FAIL : Fld := ⟨16, 16⟩
/-- VAULT_ENT_STAT.RESEEDS (R553). -/
def VAULT_ENT_STAT_RESEEDS : Fld := ⟨32, 32⟩
/-- VAULT_MEASm_j.OCTETS (R553). -/
def VAULT_MEASm_j_OCTETS : Fld := ⟨0, 64⟩
/-- VAULT_ROOTr_j.OCTETS (R553). -/
def VAULT_ROOTr_j_OCTETS : Fld := ⟨0, 64⟩
/-- VAULT_Qq_CMD.OP (R553). -/
def VAULT_Qq_CMD_OP : Fld := ⟨0, 6⟩
/-- VAULT_Qq_CMD.ALG (R553). -/
def VAULT_Qq_CMD_ALG : Fld := ⟨6, 4⟩
/-- VAULT_Qq_CMD.LAYOUT8 (R553). -/
def VAULT_Qq_CMD_LAYOUT8 : Fld := ⟨10, 1⟩
/-- VAULT_Qq_CMD.KID2_AUTO (R553). -/
def VAULT_Qq_CMD_KID2_AUTO : Fld := ⟨11, 1⟩
/-- VAULT_Qq_KEY.KID (R553). -/
def VAULT_Qq_KEY_KID : Fld := ⟨0, 11⟩
/-- VAULT_Qq_KEY.KID2 (R553). -/
def VAULT_Qq_KEY_KID2 : Fld := ⟨11, 11⟩
/-- VAULT_Qq_SRC.ADDR (R553). -/
def VAULT_Qq_SRC_ADDR : Fld := ⟨0, 48⟩
/-- VAULT_Qq_SRCLEN.LEN (R553). -/
def VAULT_Qq_SRCLEN_LEN : Fld := ⟨0, 32⟩
/-- VAULT_Qq_DST.ADDR (R553). -/
def VAULT_Qq_DST_ADDR : Fld := ⟨0, 48⟩
/-- VAULT_Qq_DSTLEN.LEN (R553). -/
def VAULT_Qq_DSTLEN_LEN : Fld := ⟨0, 32⟩
/-- VAULT_Qq_AUX.AUX (R553). -/
def VAULT_Qq_AUX_AUX : Fld := ⟨0, 64⟩
/-- VAULT_Qq_NEWATTR.ATTR (R553). -/
def VAULT_Qq_NEWATTR_ATTR : Fld := ⟨0, 64⟩
/-- VAULT_Qq_CTL.START (R553). -/
def VAULT_Qq_CTL_START : Fld := ⟨0, 1⟩
/-- VAULT_Qq_CTL.ABORT (R553). -/
def VAULT_Qq_CTL_ABORT : Fld := ⟨1, 1⟩
/-- VAULT_Qq_STAT.BUSY (R553). -/
def VAULT_Qq_STAT_BUSY : Fld := ⟨0, 1⟩
/-- VAULT_Qq_STAT.DONE (R553). -/
def VAULT_Qq_STAT_DONE : Fld := ⟨1, 1⟩
/-- VAULT_Qq_STAT.ERR (R553). -/
def VAULT_Qq_STAT_ERR : Fld := ⟨2, 1⟩
/-- VAULT_Qq_STAT.CODE (R553). -/
def VAULT_Qq_STAT_CODE : Fld := ⟨3, 5⟩
/-- VAULT_Qq_STAT.REASON (R553). -/
def VAULT_Qq_STAT_REASON : Fld := ⟨8, 3⟩
/-- VAULT_Qq_STAT.RESULT_KID (R553). -/
def VAULT_Qq_STAT_RESULT_KID : Fld := ⟨11, 11⟩
/-- VAULT_Qq_STAT.OUTLEN (R553). -/
def VAULT_Qq_STAT_OUTLEN : Fld := ⟨22, 32⟩
/-- VAULT_Qq_OWN.OWNER (R553). -/
def VAULT_Qq_OWN_OWNER : Fld := ⟨0, 9⟩
/-- VAULT_Qq_OWN.V (R553). -/
def VAULT_Qq_OWN_V : Fld := ⟨9, 1⟩
/-- VAULT_Qq_OWN.ABSENT (R553). -/
def VAULT_Qq_OWN_ABSENT : Fld := ⟨10, 1⟩
/-- VAULT_Kk_ATTR.ATTR (R553). -/
def VAULT_Kk_ATTR_ATTR : Fld := ⟨0, 64⟩
/-- VAULT_DSn_ATTR.ATTR (R553). -/
def VAULT_DSn_ATTR_ATTR : Fld := ⟨0, 64⟩
/-- TWIN_CTL.PAIR_EN (R580). -/
def TWIN_CTL_PAIR_EN : Fld := ⟨0, 1⟩
/-- TWIN_CTL.ORDER (R580). -/
def TWIN_CTL_ORDER : Fld := ⟨1, 1⟩
/-- TWIN_CTL.AUTO_TAKE (R580). -/
def TWIN_CTL_AUTO_TAKE : Fld := ⟨2, 1⟩
/-- TWIN_CTL.INCONCL (R580). -/
def TWIN_CTL_INCONCL : Fld := ⟨3, 1⟩
/-- TWIN_CTL.MIR_EN (R580). -/
def TWIN_CTL_MIR_EN : Fld := ⟨4, 1⟩
/-- TWIN_CTL.REQ_MACSEC (R580). -/
def TWIN_CTL_REQ_MACSEC : Fld := ⟨5, 1⟩
/-- TWIN_CTL.PEER_WAKE (R580). -/
def TWIN_CTL_PEER_WAKE : Fld := ⟨6, 1⟩
/-- TWIN_STAT.SIDE (R580). -/
def TWIN_STAT_SIDE : Fld := ⟨0, 1⟩
/-- TWIN_STAT.STATE (R580). -/
def TWIN_STAT_STATE : Fld := ⟨1, 3⟩
/-- TWIN_STAT.LINK_UP (R580). -/
def TWIN_STAT_LINK_UP : Fld := ⟨4, 1⟩
/-- TWIN_STAT.LANES (R580). -/
def TWIN_STAT_LANES : Fld := ⟨5, 2⟩
/-- TWIN_STAT.ALIVE_OK (R580). -/
def TWIN_STAT_ALIVE_OK : Fld := ⟨7, 1⟩
/-- TWIN_STAT.PEER_BROKEN (R580). -/
def TWIN_STAT_PEER_BROKEN : Fld := ⟨8, 1⟩
/-- TWIN_STAT.SIDE_CLASH (R580). -/
def TWIN_STAT_SIDE_CLASH : Fld := ⟨9, 1⟩
/-- TWIN_STAT.TAKE_IN (R580). -/
def TWIN_STAT_TAKE_IN : Fld := ⟨10, 1⟩
/-- TWIN_STAT.TAKE_OUT (R580). -/
def TWIN_STAT_TAKE_OUT : Fld := ⟨11, 1⟩
/-- TWIN_GTC_OFS.OFS (R580). -/
def TWIN_GTC_OFS_OFS : Fld := ⟨0, 64⟩
/-- TWIN_GTC_STAT.VALID (R580). -/
def TWIN_GTC_STAT_VALID : Fld := ⟨0, 1⟩
/-- TWIN_GTC_STAT.RATE (R580). -/
def TWIN_GTC_STAT_RATE : Fld := ⟨16, 16⟩
/-- TWIN_TK_STAT.CAUSE (R580). -/
def TWIN_TK_STAT_CAUSE : Fld := ⟨0, 2⟩
/-- TWIN_TK_STAT.VERDICT (R580). -/
def TWIN_TK_STAT_VERDICT : Fld := ⟨2, 2⟩
/-- TWIN_TK_STAT.YIELDED (R580). -/
def TWIN_TK_STAT_YIELDED : Fld := ⟨4, 1⟩
/-- TWIN_TK_STAT.CARRELS (R580). -/
def TWIN_TK_STAT_CARRELS : Fld := ⟨5, 9⟩
/-- TWIN_TK_STAT.CHANNELS (R580). -/
def TWIN_TK_STAT_CHANNELS : Fld := ⟨14, 6⟩
/-- TWIN_TK_STAT.WINGS (R580). -/
def TWIN_TK_STAT_WINGS : Fld := ⟨20, 5⟩
/-- TWIN_TK_STAT.FAILED (R580). -/
def TWIN_TK_STAT_FAILED : Fld := ⟨25, 10⟩
/-- TWIN_TK_TIME.STAMP (R580). -/
def TWIN_TK_TIME_STAMP : Fld := ⟨0, 64⟩
/-- TWIN_MIR_STAT.QDEPTH (R580). -/
def TWIN_MIR_STAT_QDEPTH : Fld := ⟨0, 13⟩
/-- TWIN_MIR_STAT.DROPPED (R580). -/
def TWIN_MIR_STAT_DROPPED : Fld := ⟨32, 32⟩
/-- TWIN_MIR_CNT.SENT (R580). -/
def TWIN_MIR_CNT_SENT : Fld := ⟨0, 32⟩
/-- TWIN_MIR_CNT.APPLIED (R580). -/
def TWIN_MIR_CNT_APPLIED : Fld := ⟨32, 32⟩
/-- TWIN_WIT.CONSIDERED (R580). -/
def TWIN_WIT_CONSIDERED : Fld := ⟨0, 32⟩
/-- TWIN_WIT.DRIVEN (R580). -/
def TWIN_WIT_DRIVEN : Fld := ⟨32, 32⟩
/-- TWIN_CNTCLR.CLR (R580). -/
def TWIN_CNTCLR_CLR : Fld := ⟨0, 1⟩
/-- TWIN_CMAPk.ENTRIES (R580). -/
def TWIN_CMAPk_ENTRIES : Fld := ⟨0, 64⟩
/-- TWIN_LMAPk.ENTRIES (R580). -/
def TWIN_LMAPk_ENTRIES : Fld := ⟨0, 64⟩
/-- TWIN_WMAP.ENTRIES (R580). -/
def TWIN_WMAP_ENTRIES : Fld := ⟨0, 64⟩
/-- TWIN_DEMc.MODE (R580). -/
def TWIN_DEMc_MODE : Fld := ⟨0, 2⟩
/-- TWIN_DEMc.DUTY (R580). -/
def TWIN_DEMc_DUTY : Fld := ⟨2, 16⟩
/-- TWIN_DEMc.OUT (R580). -/
def TWIN_DEMc_OUT : Fld := ⟨18, 1⟩
/-- TWIN_DEMc.V (R580). -/
def TWIN_DEMc_V : Fld := ⟨19, 1⟩
/-- TWIN_MIRk.LO (R580). -/
def TWIN_MIRk_LO : Fld := ⟨0, 20⟩
/-- TWIN_MIRk.HI (R580). -/
def TWIN_MIRk_HI : Fld := ⟨20, 20⟩
/-- TWIN_MIRk.SEND (R580). -/
def TWIN_MIRk_SEND : Fld := ⟨40, 1⟩
/-- TWIN_MIRk.RECV (R580). -/
def TWIN_MIRk_RECV : Fld := ⟨41, 1⟩
/-- SYS_CLK_CTL.CORE_MULT (R608). -/
def SYS_CLK_CTL_CORE_MULT : Fld := ⟨0, 7⟩
/-- SYS_CLK_CTL.CAT_DIV (R608). -/
def SYS_CLK_CTL_CAT_DIV : Fld := ⟨7, 2⟩
/-- SYS_CLK_STAT.XO_OK (R608). -/
def SYS_CLK_STAT_XO_OK : Fld := ⟨0, 1⟩
/-- SYS_CLK_STAT.CORE_LOCK (R608). -/
def SYS_CLK_STAT_CORE_LOCK : Fld := ⟨1, 1⟩
/-- SYS_CLK_STAT.FAB_LOCK (R608). -/
def SYS_CLK_STAT_FAB_LOCK : Fld := ⟨2, 1⟩
/-- SYS_CLK_STAT.TIME_LOCK (R608). -/
def SYS_CLK_STAT_TIME_LOCK : Fld := ⟨3, 1⟩
/-- SYS_CLK_STAT.NIGHT_RC (R608). -/
def SYS_CLK_STAT_NIGHT_RC : Fld := ⟨4, 1⟩
/-- SYS_PWR_CTL.REQ (R608). -/
def SYS_PWR_CTL_REQ : Fld := ⟨0, 2⟩
/-- SYS_PWR_STAT.STATE (R608). -/
def SYS_PWR_STAT_STATE : Fld := ⟨0, 2⟩
/-- SYS_PWR_STAT.WAKE_SRC (R608). -/
def SYS_PWR_STAT_WAKE_SRC : Fld := ⟨2, 12⟩
/-- SYS_PWR_STAT.WAKE_PARK (R608). -/
def SYS_PWR_STAT_WAKE_PARK : Fld := ⟨14, 1⟩
/-- SYS_PWR_STAT.WAKE_LOST (R608). -/
def SYS_PWR_STAT_WAKE_LOST : Fld := ⟨15, 8⟩
/-- SYS_PWR_DZMASK.MASK (R608). -/
def SYS_PWR_DZMASK_MASK : Fld := ⟨0, 64⟩
/-- SYS_PARK_WMASK.MASK (R608). -/
def SYS_PARK_WMASK_MASK : Fld := ⟨0, 62⟩
/-- SYS_PARK_WMASK.TAMPER (R608). -/
def SYS_PARK_WMASK_TAMPER : Fld := ⟨62, 1⟩
/-- SYS_AON_TIMER.SECONDS (R608). -/
def SYS_AON_TIMER_SECONDS : Fld := ⟨0, 32⟩
/-- SYS_PMIC.PGOOD_TMO (R608). -/
def SYS_PMIC_PGOOD_TMO : Fld := ⟨0, 8⟩
/-- SYS_PMIC.RETRIES (R608). -/
def SYS_PMIC_RETRIES : Fld := ⟨8, 2⟩
/-- SYS_PMIC.OFF_MS (R608). -/
def SYS_PMIC_OFF_MS : Fld := ⟨10, 8⟩
/-- SYS_PMIC.PGOOD_FAILS (R608). -/
def SYS_PMIC_PGOOD_FAILS : Fld := ⟨32, 32⟩
/-- SYS_RST_CTL.WARM (R608). -/
def SYS_RST_CTL_WARM : Fld := ⟨0, 1⟩
/-- SYS_RST_CTL.COMPUTE (R608). -/
def SYS_RST_CTL_COMPUTE : Fld := ⟨1, 1⟩
/-- SYS_RST_CAUSE.KIND (R608). -/
def SYS_RST_CAUSE_KIND : Fld := ⟨0, 2⟩
/-- SYS_RST_CAUSE.TRIGGER (R608). -/
def SYS_RST_CAUSE_TRIGGER : Fld := ⟨2, 4⟩
/-- SYS_RST_CAUSE.START_RETRY (R608). -/
def SYS_RST_CAUSE_START_RETRY : Fld := ⟨6, 1⟩
/-- SYS_RST_CAUSE.START_US (R608). -/
def SYS_RST_CAUSE_START_US : Fld := ⟨8, 32⟩
/-- SYS_BOOT.CFG (R608). -/
def SYS_BOOT_CFG : Fld := ⟨0, 2⟩
/-- SYS_BOOT.KEYGEN (R608). -/
def SYS_BOOT_KEYGEN : Fld := ⟨2, 1⟩
/-- SYS_BOOT.ZFINISH (R608). -/
def SYS_BOOT_ZFINISH : Fld := ⟨3, 1⟩
/-- IOC_GPIOk_CFG.FUNC (R625). -/
def IOC_GPIOk_CFG_FUNC : Fld := ⟨0, 2⟩
/-- IOC_GPIOk_CFG.OE (R625). -/
def IOC_GPIOk_CFG_OE : Fld := ⟨2, 1⟩
/-- IOC_GPIOk_CFG.PULL (R625). -/
def IOC_GPIOk_CFG_PULL : Fld := ⟨3, 2⟩
/-- IOC_GPIOk_CFG.OD (R625). -/
def IOC_GPIOk_CFG_OD : Fld := ⟨5, 1⟩
/-- IOC_GPIOk_CFG.STRONG (R625). -/
def IOC_GPIOk_CFG_STRONG : Fld := ⟨6, 1⟩
/-- IOC_GPIOk_CFG.EDGE (R625). -/
def IOC_GPIOk_CFG_EDGE : Fld := ⟨7, 2⟩
/-- IOC_GPIOBb_LVL.IN (R625). -/
def IOC_GPIOBb_LVL_IN : Fld := ⟨0, 8⟩
/-- IOC_GPIOBb_LVL.OUT (R625). -/
def IOC_GPIOBb_LVL_OUT : Fld := ⟨8, 8⟩
/-- IOC_GPIOBb_SET.SET (R625). -/
def IOC_GPIOBb_SET_SET : Fld := ⟨0, 8⟩
/-- IOC_GPIOBb_CLR.CLR (R625). -/
def IOC_GPIOBb_CLR_CLR : Fld := ⟨0, 8⟩
/-- IOC_GPIOBb_EVT.EVT (R625). -/
def IOC_GPIOBb_EVT_EVT : Fld := ⟨0, 8⟩
/-- IOC_GPIOBb_OWN.OWNER (R625). -/
def IOC_GPIOBb_OWN_OWNER : Fld := ⟨0, 9⟩
/-- IOC_GPIOBb_OWN.V (R625). -/
def IOC_GPIOBb_OWN_V : Fld := ⟨9, 1⟩
/-- IOC_GPIOBb_OWN.ABSENT (R625). -/
def IOC_GPIOBb_OWN_ABSENT : Fld := ⟨10, 1⟩
/-- IOC_BUSTX.CAN_PP (R625). -/
def IOC_BUSTX_CAN_PP : Fld := ⟨0, 16⟩
/-- IOC_BUSTX.LIN_PP (R625). -/
def IOC_BUSTX_LIN_PP : Fld := ⟨16, 8⟩
/-- IOC_ADCg_STAMP.STAMP (R625). -/
def IOC_ADCg_STAMP_STAMP : Fld := ⟨0, 64⟩
/-- IOC_ADCg_CFG.LEN (R625). -/
def IOC_ADCg_CFG_LEN : Fld := ⟨0, 3⟩
/-- IOC_ADCg_CFG.SEL (R625). -/
def IOC_ADCg_CFG_SEL : Fld := ⟨3, 32⟩
/-- IOC_ADCg_CFG.CRIT (R625). -/
def IOC_ADCg_CFG_CRIT : Fld := ⟨35, 2⟩
/-- IOC_ADCg_CFG.NOTIFY (R625). -/
def IOC_ADCg_CFG_NOTIFY : Fld := ⟨37, 1⟩
/-- IOC_ADCg_CFG.START (R625). -/
def IOC_ADCg_CFG_START : Fld := ⟨38, 1⟩
/-- IOC_ADCg_CFG.BUSY (R625). -/
def IOC_ADCg_CFG_BUSY : Fld := ⟨39, 1⟩
/-- IOC_ADCg_OWN.OWNER (R625). -/
def IOC_ADCg_OWN_OWNER : Fld := ⟨0, 9⟩
/-- IOC_ADCg_OWN.V (R625). -/
def IOC_ADCg_OWN_V : Fld := ⟨9, 1⟩
/-- IOC_ADCg_OWN.ABSENT (R625). -/
def IOC_ADCg_OWN_ABSENT : Fld := ⟨10, 1⟩
end F

namespace R
/-- SYS_FAULT_STAT (R51). -/
def SYS_FAULT_STAT : Nat := 0xF0000100
/-- SYS_FAULT_CTL (R51). -/
def SYS_FAULT_CTL : Nat := 0xF0000101
/-- TIME_GTC (R89). -/
def TIME_GTC : Nat := 0xF0010000
/-- TIME_GTC_STAT (R89). -/
def TIME_GTC_STAT : Nat := 0xF0010001
/-- TIME_ORDER_CTL (R89). -/
def TIME_ORDER_CTL : Nat := 0xF0010002
/-- TIME_LATE_CNT (R89). -/
def TIME_LATE_CNT : Nat := 0xF0010003
/-- TIME_ALM_NS (R89). -/
def TIME_ALM_NS : Nat := 0xF0010010
/-- TIME_ALM_SEC (R89). -/
def TIME_ALM_SEC : Nat := 0xF0010011
/-- TIME_ALM_RATE (R89). -/
def TIME_ALM_RATE : Nat := 0xF0010012
/-- TIME_ALM_STEP (R89). -/
def TIME_ALM_STEP : Nat := 0xF0010013
/-- TIME_ALM_CTL (R89). -/
def TIME_ALM_CTL : Nat := 0xF0010014
/-- TIME_DOMd_CFG (R89). -/
def TIME_DOMd_CFG (i : Nat) : Nat := 0xF0010015 + 0x1 * i
/-- TIME_PPS_CTL (R89). -/
def TIME_PPS_CTL : Nat := 0xF0010018
/-- TIME_PPS_CAP_NS (R89). -/
def TIME_PPS_CAP_NS : Nat := 0xF0010019
/-- TIME_PPS_CAP_SEC (R89). -/
def TIME_PPS_CAP_SEC : Nat := 0xF001001A
/-- TIME_PPS_CAP_GTC (R89). -/
def TIME_PPS_CAP_GTC : Nat := 0xF001001B
/-- TIME_TRGn_CTL (R89). -/
def TIME_TRGn_CTL (i : Nat) : Nat := 0xF0010100 + 0x10 * i
/-- TIME_TRGn_CMP (R89). -/
def TIME_TRGn_CMP (i : Nat) : Nat := 0xF0010101 + 0x10 * i
/-- TIME_TRGn_CMP_SEC (R89). -/
def TIME_TRGn_CMP_SEC (i : Nat) : Nat := 0xF0010102 + 0x10 * i
/-- TIME_TRGn_PER (R89). -/
def TIME_TRGn_PER (i : Nat) : Nat := 0xF0010103 + 0x10 * i
/-- TIME_TRGn_WID (R89). -/
def TIME_TRGn_WID (i : Nat) : Nat := 0xF0010104 + 0x10 * i
/-- TIME_TRGn_STAT (R89). -/
def TIME_TRGn_STAT (i : Nat) : Nat := 0xF0010105 + 0x10 * i
/-- TIME_TRGn_LAST (R89). -/
def TIME_TRGn_LAST (i : Nat) : Nat := 0xF0010106 + 0x10 * i
/-- TIME_TRGn_SAMP (R89). -/
def TIME_TRGn_SAMP (i : Nat) : Nat := 0xF0010107 + 0x10 * i
/-- TIME_TRGn_OWN (R89). -/
def TIME_TRGn_OWN (i : Nat) : Nat := 0xF0010108 + 0x10 * i
/-- STK_TAGn (R115). -/
def STK_TAGn (i : Nat) : Nat := 0xF0038000 + 0x1 * i
/-- COLL_Un_CTL (R233). -/
def COLL_Un_CTL (i : Nat) : Nat := 0xF0070000 + 0x10 * i
/-- COLL_Un_POLY (R233). -/
def COLL_Un_POLY (i : Nat) : Nat := 0xF0070001 + 0x10 * i
/-- COLL_Un_INIT (R233). -/
def COLL_Un_INIT (i : Nat) : Nat := 0xF0070002 + 0x10 * i
/-- COLL_Un_XOROUT (R233). -/
def COLL_Un_XOROUT (i : Nat) : Nat := 0xF0070003 + 0x10 * i
/-- COLL_Un_RUN (R233). -/
def COLL_Un_RUN (i : Nat) : Nat := 0xF0070004 + 0x10 * i
/-- COLL_Un_ADDR (R233). -/
def COLL_Un_ADDR (i : Nat) : Nat := 0xF0070005 + 0x10 * i
/-- COLL_Un_LEN (R233). -/
def COLL_Un_LEN (i : Nat) : Nat := 0xF0070006 + 0x10 * i
/-- COLL_Un_STAT (R233). -/
def COLL_Un_STAT (i : Nat) : Nat := 0xF0070007 + 0x10 * i
/-- COLL_Un_RESULT (R233). -/
def COLL_Un_RESULT (i : Nat) : Nat := 0xF0070008 + 0x10 * i
/-- COLL_Un_OWN (R233). -/
def COLL_Un_OWN (i : Nat) : Nat := 0xF0070009 + 0x10 * i
/-- CAT_CTL (R246). -/
def CAT_CTL : Nat := 0xF0050000
/-- CAT_E2E_POOL (R246). -/
def CAT_E2E_POOL : Nat := 0xF0050001
/-- CAT_PROV_STAT (R246). -/
def CAT_PROV_STAT : Nat := 0xF0050002
/-- CAT_WDRAW (R246). -/
def CAT_WDRAW : Nat := 0xF0050003
/-- CAT_REFLEX_STAT (R246). -/
def CAT_REFLEX_STAT : Nat := 0xF0050004
/-- CAT_ERR_CNT (R246). -/
def CAT_ERR_CNT : Nat := 0xF0050005
/-- CAT_ERR_SHELF (R246). -/
def CAT_ERR_SHELF : Nat := 0xF0050006
/-- CAT_CNT_CLR (R246). -/
def CAT_CNT_CLR : Nat := 0xF0050007
/-- CAT_RXp_DUE (R246). -/
def CAT_RXp_DUE (i : Nat) : Nat := 0xF0050100 + 0x1 * i
/-- CATG_CUn_CTL (R247). -/
def CATG_CUn_CTL (i : Nat) : Nat := 0xF0068000 + 0x8 * i
/-- CATG_CUn_STAT (R247). -/
def CATG_CUn_STAT (i : Nat) : Nat := 0xF0068001 + 0x8 * i
/-- CATG_CUn_RUNS (R247). -/
def CATG_CUn_RUNS (i : Nat) : Nat := 0xF0068002 + 0x8 * i
/-- CATG_TLt_RD_LO (R247). -/
def CATG_TLt_RD_LO (i : Nat) : Nat := 0xF0068400 + 0x8 * i
/-- CATG_TLt_RD_HI (R247). -/
def CATG_TLt_RD_HI (i : Nat) : Nat := 0xF0068401 + 0x8 * i
/-- CATG_TLt_WR_LO (R247). -/
def CATG_TLt_WR_LO (i : Nat) : Nat := 0xF0068402 + 0x8 * i
/-- CATG_TLt_WR_HI (R247). -/
def CATG_TLt_WR_HI (i : Nat) : Nat := 0xF0068403 + 0x8 * i
/-- CATG_TLt_OWN (R247). -/
def CATG_TLt_OWN (i : Nat) : Nat := 0xF0068404 + 0x8 * i
/-- CIRC_VLAN (R260). -/
def CIRC_VLAN (i : Nat) : Nat := 0xF0081000 + 0x1 * i
/-- CIRC_STREAM (R262). -/
def CIRC_STREAM (i : Nat) : Nat := 0xF0088000 + 0x1 * i
/-- CIRC_CTL (R289). -/
def CIRC_CTL : Nat := 0xF0080000
/-- CIRC_STAT (R289). -/
def CIRC_STAT : Nat := 0xF0080001
/-- CIRC_POOL (R289). -/
def CIRC_POOL : Nat := 0xF0080002
/-- CIRC_FDB_CMD (R289). -/
def CIRC_FDB_CMD : Nat := 0xF0080003
/-- CIRC_FDB_KEY (R289). -/
def CIRC_FDB_KEY : Nat := 0xF0080004
/-- CIRC_FDB_RES (R289). -/
def CIRC_FDB_RES : Nat := 0xF0080005
/-- CIRC_GPTPd (R289). -/
def CIRC_GPTPd (i : Nat) : Nat := 0xF0080008 + 0x1 * i
/-- CIRC_COPYc_MASK (R289). -/
def CIRC_COPYc_MASK (i : Nat) : Nat := 0xF0082000 + 0x2 * i
/-- CIRC_COPYc_STAT (R289). -/
def CIRC_COPYc_STAT (i : Nat) : Nat := 0xF0082001 + 0x2 * i
/-- CIRC_RINGr_BASE (R289). -/
def CIRC_RINGr_BASE (i : Nat) : Nat := 0xF0084000 + 0x8 * i
/-- CIRC_RINGr_CTL (R289). -/
def CIRC_RINGr_CTL (i : Nat) : Nat := 0xF0084001 + 0x8 * i
/-- CIRC_RINGr_HEAD (R289). -/
def CIRC_RINGr_HEAD (i : Nat) : Nat := 0xF0084002 + 0x8 * i
/-- CIRC_RINGr_TAIL (R289). -/
def CIRC_RINGr_TAIL (i : Nat) : Nat := 0xF0084003 + 0x8 * i
/-- CIRC_RINGr_STAT (R289). -/
def CIRC_RINGr_STAT (i : Nat) : Nat := 0xF0084004 + 0x8 * i
/-- CIRC_RINGr_OWN (R289). -/
def CIRC_RINGr_OWN (i : Nat) : Nat := 0xF0084005 + 0x8 * i
/-- CIRC_ENCe_DEST (R289). -/
def CIRC_ENCe_DEST (i : Nat) : Nat := 0xF0085000 + 0x4 * i
/-- CIRC_ENCe_STREAM (R289). -/
def CIRC_ENCe_STREAM (i : Nat) : Nat := 0xF0085001 + 0x4 * i
/-- CIRC_ENCe_CTL (R289). -/
def CIRC_ENCe_CTL (i : Nat) : Nat := 0xF0085002 + 0x4 * i
/-- CIRC_ENCe_CNT (R289). -/
def CIRC_ENCe_CNT (i : Nat) : Nat := 0xF0085003 + 0x4 * i
/-- CIRC_DECd_STREAM (R289). -/
def CIRC_DECd_STREAM (i : Nat) : Nat := 0xF0085100 + 0x2 * i
/-- CIRC_DECd_CTL (R289). -/
def CIRC_DECd_CTL (i : Nat) : Nat := 0xF0085101 + 0x2 * i
/-- ETH_Pp_CTL (R290). -/
def ETH_Pp_CTL (i : Nat) : Nat := 0xF0090000 + 0x400 * i
/-- ETH_Pp_STAT (R290). -/
def ETH_Pp_STAT (i : Nat) : Nat := 0xF0090001 + 0x400 * i
/-- ETH_Pp_SHARE (R290). -/
def ETH_Pp_SHARE (i : Nat) : Nat := 0xF0090002 + 0x400 * i
/-- ETH_Pp_PCPMAP (R290). -/
def ETH_Pp_PCPMAP (i : Nat) : Nat := 0xF0090003 + 0x400 * i
/-- ETH_Pp_LINKDLY (R290). -/
def ETH_Pp_LINKDLY (i : Nat) : Nat := 0xF0090004 + 0x400 * i
/-- ETH_Pp_PLCA (R290). -/
def ETH_Pp_PLCA (i : Nat) : Nat := 0xF0090005 + 0x400 * i
/-- ETH_Pp_Qq (R290). -/
def ETH_Pp_Qq (i : Nat) (j : Nat) : Nat := 0xF0090008 + 0x400 * i + 0x1 * j
/-- ETH_Pp_CNT (R290). -/
def ETH_Pp_CNT (i : Nat) (j : Nat) : Nat := 0xF0090010 + 0x400 * i + 0x1 * j
/-- ETH_Pp_CNTCLR (R290). -/
def ETH_Pp_CNTCLR (i : Nat) : Nat := 0xF009001F + 0x400 * i
/-- ETH_Pp_GCTL (R290). -/
def ETH_Pp_GCTL (i : Nat) : Nat := 0xF0090020 + 0x400 * i
/-- ETH_Pp_GCYCLE (R290). -/
def ETH_Pp_GCYCLE (i : Nat) : Nat := 0xF0090021 + 0x400 * i
/-- ETH_Pp_GBASE_NS (R290). -/
def ETH_Pp_GBASE_NS (i : Nat) : Nat := 0xF0090022 + 0x400 * i
/-- ETH_Pp_GBASE_SEC (R290). -/
def ETH_Pp_GBASE_SEC (i : Nat) : Nat := 0xF0090023 + 0x400 * i
/-- ETH_Pp_Qq_DROP (R290). -/
def ETH_Pp_Qq_DROP (i : Nat) (j : Nat) : Nat := 0xF0090030 + 0x400 * i + 0x2 * j
/-- ETH_Pp_Qq_AGED (R290). -/
def ETH_Pp_Qq_AGED (i : Nat) (j : Nat) : Nat := 0xF0090031 + 0x400 * i + 0x2 * j
/-- ETH_Pp_GADMj (R290). -/
def ETH_Pp_GADMj (i : Nat) (j : Nat) : Nat := 0xF0090100 + 0x400 * i + 0x1 * j
/-- ETH_Pp_GOPRj (R290). -/
def ETH_Pp_GOPRj (i : Nat) (j : Nat) : Nat := 0xF0090180 + 0x400 * i + 0x1 * j
/-- ETH_MDIOn_CMD (R290). -/
def ETH_MDIOn_CMD (i : Nat) : Nat := 0xF0098000 + 0x10 * i
/-- MACSEC_Iu_CTL (R291). -/
def MACSEC_Iu_CTL (i : Nat) : Nat := 0xF00A0000 + 0x1000 * i
/-- MACSEC_Iu_SCI (R291). -/
def MACSEC_Iu_SCI (i : Nat) : Nat := 0xF00A0001 + 0x1000 * i
/-- MACSEC_Iu_WIN (R291). -/
def MACSEC_Iu_WIN (i : Nat) : Nat := 0xF00A0002 + 0x1000 * i
/-- MACSEC_Iu_PNTH (R291). -/
def MACSEC_Iu_PNTH (i : Nat) : Nat := 0xF00A0003 + 0x1000 * i
/-- MACSEC_Iu_TXSAa_KEY (R291). -/
def MACSEC_Iu_TXSAa_KEY (i : Nat) (j : Nat) : Nat := 0xF00A0010 + 0x1000 * i + 0x4 * j
/-- MACSEC_Iu_TXSAa_PN (R291). -/
def MACSEC_Iu_TXSAa_PN (i : Nat) (j : Nat) : Nat := 0xF00A0011 + 0x1000 * i + 0x4 * j
/-- MACSEC_Iu_TXSAa_SSCI (R291). -/
def MACSEC_Iu_TXSAa_SSCI (i : Nat) (j : Nat) : Nat := 0xF00A0012 + 0x1000 * i + 0x4 * j
/-- MACSEC_Iu_RXSCc_SCI (R291). -/
def MACSEC_Iu_RXSCc_SCI (i : Nat) (j : Nat) : Nat := 0xF00A0100 + 0x1000 * i + 0x10 * j
/-- MACSEC_Iu_RXSCc_CTL (R291). -/
def MACSEC_Iu_RXSCc_CTL (i : Nat) (j : Nat) : Nat := 0xF00A0101 + 0x1000 * i + 0x10 * j
/-- MACSEC_Iu_RXSCc_SAa_KEY (R291). -/
def MACSEC_Iu_RXSCc_SAa_KEY (i : Nat) (j : Nat) (k : Nat) : Nat := 0xF00A0104 + 0x1000 * i + 0x10 * j + 0x3 * k
/-- MACSEC_Iu_RXSCc_SAa_PN (R291). -/
def MACSEC_Iu_RXSCc_SAa_PN (i : Nat) (j : Nat) (k : Nat) : Nat := 0xF00A0105 + 0x1000 * i + 0x10 * j + 0x3 * k
/-- MACSEC_Iu_RXSCc_SAa_SSCI (R291). -/
def MACSEC_Iu_RXSCc_SAa_SSCI (i : Nat) (j : Nat) (k : Nat) : Nat := 0xF00A0106 + 0x1000 * i + 0x10 * j + 0x3 * k
/-- MACSEC_Iu_CNT (R291). -/
def MACSEC_Iu_CNT (i : Nat) (j : Nat) : Nat := 0xF00A0200 + 0x1000 * i + 0x1 * j
/-- MACSEC_Iu_CNTCLR (R291). -/
def MACSEC_Iu_CNTCLR (i : Nat) : Nat := 0xF00A020F + 0x1000 * i
/-- CANn_CTL (R332). -/
def CANn_CTL (i : Nat) : Nat := 0xF00B0000 + 0x1000 * i
/-- CANn_NBT (R332). -/
def CANn_NBT (i : Nat) : Nat := 0xF00B0001 + 0x1000 * i
/-- CANn_DBT (R332). -/
def CANn_DBT (i : Nat) : Nat := 0xF00B0002 + 0x1000 * i
/-- CANn_XBT (R332). -/
def CANn_XBT (i : Nat) : Nat := 0xF00B0003 + 0x1000 * i
/-- CANn_ERR (R332). -/
def CANn_ERR (i : Nat) : Nat := 0xF00B0004 + 0x1000 * i
/-- CANn_BORST (R332). -/
def CANn_BORST (i : Nat) : Nat := 0xF00B0005 + 0x1000 * i
/-- CANn_TUN (R332). -/
def CANn_TUN (i : Nat) : Nat := 0xF00B0006 + 0x1000 * i
/-- CANn_CNT (R332). -/
def CANn_CNT (i : Nat) (j : Nat) : Nat := 0xF00B0010 + 0x1000 * i + 0x1 * j
/-- CANn_CNTCLR (R332). -/
def CANn_CNTCLR (i : Nat) : Nat := 0xF00B001E + 0x1000 * i
/-- CANn_OWN (R332). -/
def CANn_OWN (i : Nat) : Nat := 0xF00B001F + 0x1000 * i
/-- CANn_MBGg_OWN (R332). -/
def CANn_MBGg_OWN (i : Nat) (j : Nat) : Nat := 0xF00B0020 + 0x1000 * i + 0x1 * j
/-- CANn_MBb_CFG (R333). -/
def CANn_MBb_CFG (i : Nat) (j : Nat) : Nat := 0xF00B0040 + 0x1000 * i + 0x4 * j
/-- CANn_MBb_ID (R333). -/
def CANn_MBb_ID (i : Nat) (j : Nat) : Nat := 0xF00B0041 + 0x1000 * i + 0x4 * j
/-- CANn_MBb_AUX (R333). -/
def CANn_MBb_AUX (i : Nat) (j : Nat) : Nat := 0xF00B0042 + 0x1000 * i + 0x4 * j
/-- CANn_MBb_STAT (R333). -/
def CANn_MBb_STAT (i : Nat) (j : Nat) : Nat := 0xF00B0043 + 0x1000 * i + 0x4 * j
/-- LINm_CTL (R334). -/
def LINm_CTL (i : Nat) : Nat := 0xF00C0000 + 0x400 * i
/-- LINm_BAUD (R334). -/
def LINm_BAUD (i : Nat) : Nat := 0xF00C0001 + 0x400 * i
/-- LINm_SCHED (R334). -/
def LINm_SCHED (i : Nat) : Nat := 0xF00C0002 + 0x400 * i
/-- LINm_STAT (R334). -/
def LINm_STAT (i : Nat) : Nat := 0xF00C0003 + 0x400 * i
/-- LINm_CNT (R334). -/
def LINm_CNT (i : Nat) (j : Nat) : Nat := 0xF00C0010 + 0x400 * i + 0x1 * j
/-- LINm_CNTCLR (R334). -/
def LINm_CNTCLR (i : Nat) : Nat := 0xF00C001E + 0x400 * i
/-- LINm_OWN (R334). -/
def LINm_OWN (i : Nat) : Nat := 0xF00C001F + 0x400 * i
/-- LINm_FRi_CFG (R334). -/
def LINm_FRi_CFG (i : Nat) (j : Nat) : Nat := 0xF00C0040 + 0x400 * i + 0x2 * j
/-- LINm_FRi_DATA (R334). -/
def LINm_FRi_DATA (i : Nat) (j : Nat) : Nat := 0xF00C0041 + 0x400 * i + 0x2 * j
/-- LINm_SCHe (R334). -/
def LINm_SCHe (i : Nat) (j : Nat) : Nat := 0xF00C0100 + 0x400 * i + 0x1 * j
/-- NM_CTL (R357). -/
def NM_CTL : Nat := 0xF00D0000
/-- NM_TOKEN_DA (R357). -/
def NM_TOKEN_DA : Nat := 0xF00D0001
/-- NM_TOKEN_SA (R357). -/
def NM_TOKEN_SA : Nat := 0xF00D0002
/-- NM_CNTCLR (R357). -/
def NM_CNTCLR : Nat := 0xF00D0003
/-- NM_SEGs_CFG (R357). -/
def NM_SEGs_CFG (i : Nat) : Nat := 0xF00D0100 + 0x2 * i
/-- NM_SEGs_STAT (R357). -/
def NM_SEGs_STAT (i : Nat) : Nat := 0xF00D0101 + 0x2 * i
/-- NM_WINGw_CFG (R357). -/
def NM_WINGw_CFG (i : Nat) : Nat := 0xF00D0200 + 0x10 * i
/-- NM_WINGw_TIME (R357). -/
def NM_WINGw_TIME (i : Nat) : Nat := 0xF00D0201 + 0x10 * i
/-- NM_WINGw_WMASK (R357). -/
def NM_WINGw_WMASK (i : Nat) : Nat := 0xF00D0202 + 0x10 * i
/-- NM_WINGw_OVRMASK (R357). -/
def NM_WINGw_OVRMASK (i : Nat) : Nat := 0xF00D0203 + 0x10 * i
/-- NM_WINGw_CTL (R357). -/
def NM_WINGw_CTL (i : Nat) : Nat := 0xF00D0204 + 0x10 * i
/-- NM_WINGw_STAT (R357). -/
def NM_WINGw_STAT (i : Nat) : Nat := 0xF00D0205 + 0x10 * i
/-- NM_WINGw_CNT (R357). -/
def NM_WINGw_CNT (i : Nat) : Nat := 0xF00D0206 + 0x10 * i
/-- NM_WINGw_LOCKUP (R357). -/
def NM_WINGw_LOCKUP (i : Nat) : Nat := 0xF00D0207 + 0x10 * i
/-- NM_WINGw_OWN (R357). -/
def NM_WINGw_OWN (i : Nat) : Nat := 0xF00D0208 + 0x10 * i
/-- NM_WINGw_SEGLATE (R357). -/
def NM_WINGw_SEGLATE (i : Nat) : Nat := 0xF00D0209 + 0x10 * i
/-- NM_WINGw_WTe_A (R357). -/
def NM_WINGw_WTe_A (i : Nat) (j : Nat) : Nat := 0xF00D0400 + 0x20 * i + 0x2 * j
/-- NM_WINGw_WTe_B (R357). -/
def NM_WINGw_WTe_B (i : Nat) (j : Nat) : Nat := 0xF00D0401 + 0x20 * i + 0x2 * j
/-- NM_SWn_CFG (R357). -/
def NM_SWn_CFG (i : Nat) : Nat := 0xF00D0800 + 0x4 * i
/-- NM_SWn_ID (R357). -/
def NM_SWn_ID (i : Nat) : Nat := 0xF00D0801 + 0x4 * i
/-- NM_SWn_DATA (R357). -/
def NM_SWn_DATA (i : Nat) : Nat := 0xF00D0802 + 0x4 * i
/-- NM_SWn_STAT (R357). -/
def NM_SWn_STAT (i : Nat) : Nat := 0xF00D0803 + 0x4 * i
/-- LOAD_CTL (R399). -/
def LOAD_CTL : Nat := 0xF00E0000
/-- LOAD_STAT (R399). -/
def LOAD_STAT : Nat := 0xF00E0001
/-- LOAD_SUPPLY (R399). -/
def LOAD_SUPPLY : Nat := 0xF00E0002
/-- LOAD_TEMP (R399). -/
def LOAD_TEMP : Nat := 0xF00E0003
/-- LOAD_TSg (R399). -/
def LOAD_TSg (i : Nat) : Nat := 0xF00E0004 + 0x1 * i
/-- LOAD_AGG (R399). -/
def LOAD_AGG : Nat := 0xF00E0008
/-- LOAD_HVINi (R399). -/
def LOAD_HVINi (i : Nat) : Nat := 0xF00E0010 + 0x1 * i
/-- LOAD_PROFp_CFG (R400). -/
def LOAD_PROFp_CFG (i : Nat) : Nat := 0xF00E0100 + 0x10 * i
/-- LOAD_PROFp_ENVk (R400). -/
def LOAD_PROFp_ENVk (i : Nat) (j : Nat) : Nat := 0xF00E0101 + 0x10 * i + 0x1 * j
/-- LOAD_PROFp_WIRE (R400). -/
def LOAD_PROFp_WIRE (i : Nat) : Nat := 0xF00E0109 + 0x10 * i
/-- LOAD_PROFp_CLAMP (R400). -/
def LOAD_PROFp_CLAMP (i : Nat) : Nat := 0xF00E010A + 0x10 * i
/-- LOAD_PROFp_RECOV (R400). -/
def LOAD_PROFp_RECOV (i : Nat) : Nat := 0xF00E010B + 0x10 * i
/-- LOAD_PROFp_OL (R400). -/
def LOAD_PROFp_OL (i : Nat) : Nat := 0xF00E010C + 0x10 * i
/-- LOAD_PROFp_RETRY (R400). -/
def LOAD_PROFp_RETRY (i : Nat) : Nat := 0xF00E010D + 0x10 * i
/-- LOAD_CHc_PROF (R401). -/
def LOAD_CHc_PROF (i : Nat) : Nat := 0xF00E1000 + 0x10 * i
/-- LOAD_CHc_ELEC (R401). -/
def LOAD_CHc_ELEC (i : Nat) : Nat := 0xF00E1001 + 0x10 * i
/-- LOAD_CHc_CMD (R401). -/
def LOAD_CHc_CMD (i : Nat) : Nat := 0xF00E1002 + 0x10 * i
/-- LOAD_CHc_PWM (R401). -/
def LOAD_CHc_PWM (i : Nat) : Nat := 0xF00E1003 + 0x10 * i
/-- LOAD_CHc_STAT (R401). -/
def LOAD_CHc_STAT (i : Nat) : Nat := 0xF00E1004 + 0x10 * i
/-- LOAD_CHc_TRIP (R401). -/
def LOAD_CHc_TRIP (i : Nat) : Nat := 0xF00E1005 + 0x10 * i
/-- LOAD_CHc_I (R401). -/
def LOAD_CHc_I (i : Nat) : Nat := 0xF00E1006 + 0x10 * i
/-- LOAD_CHc_V (R401). -/
def LOAD_CHc_V (i : Nat) : Nat := 0xF00E1007 + 0x10 * i
/-- LOAD_CHc_WIRE (R401). -/
def LOAD_CHc_WIRE (i : Nat) : Nat := 0xF00E1008 + 0x10 * i
/-- LOAD_CHc_CLAMP (R401). -/
def LOAD_CHc_CLAMP (i : Nat) : Nat := 0xF00E1009 + 0x10 * i
/-- LOAD_CHc_CNT (R401). -/
def LOAD_CHc_CNT (i : Nat) : Nat := 0xF00E100A + 0x10 * i
/-- LOAD_CHc_CNTCLR (R401). -/
def LOAD_CHc_CNTCLR (i : Nat) : Nat := 0xF00E100B + 0x10 * i
/-- LOAD_CHc_OWN (R401). -/
def LOAD_CHc_OWN (i : Nat) : Nat := 0xF00E100C + 0x10 * i
/-- EXEC_RESERVE (R433). -/
def EXEC_RESERVE : Nat := 0xF00F0000
/-- EXEC_INJ (R433). -/
def EXEC_INJ : Nat := 0xF00F0001
/-- EXEC_NORESUMEk (R433). -/
def EXEC_NORESUMEk (i : Nat) : Nat := 0xF00F0010 + 0x1 * i
/-- EXEC_Pp_CTL (R433). -/
def EXEC_Pp_CTL (i : Nat) : Nat := 0xF00F0100 + 0x20 * i
/-- EXEC_Pp_STAT (R433). -/
def EXEC_Pp_STAT (i : Nat) : Nat := 0xF00F0101 + 0x20 * i
/-- EXEC_Pp_FAULT (R433). -/
def EXEC_Pp_FAULT (i : Nat) : Nat := 0xF00F0102 + 0x20 * i
/-- EXEC_Pp_FPC (R433). -/
def EXEC_Pp_FPC (i : Nat) : Nat := 0xF00F0103 + 0x20 * i
/-- EXEC_Pp_COMMITS (R433). -/
def EXEC_Pp_COMMITS (i : Nat) : Nat := 0xF00F0104 + 0x20 * i
/-- EXEC_Pp_DIGEST (R433). -/
def EXEC_Pp_DIGEST (i : Nat) : Nat := 0xF00F0105 + 0x20 * i
/-- EXEC_Pp_DIGCNT (R433). -/
def EXEC_Pp_DIGCNT (i : Nat) : Nat := 0xF00F0106 + 0x20 * i
/-- STK_CTL (R466). -/
def STK_CTL : Nat := 0xF0030000
/-- STK_STAT (R466). -/
def STK_STAT : Nat := 0xF0030001
/-- STK_FILL (R466). -/
def STK_FILL : Nat := 0xF0030002
/-- STK_TEST_RES (R466). -/
def STK_TEST_RES : Nat := 0xF0030003
/-- STK_BANKWD (R466). -/
def STK_BANKWD : Nat := 0xF0030008
/-- STK_CEt (R466). -/
def STK_CEt (i : Nat) : Nat := 0xF0030010 + 0x1 * i
/-- STK_CEM (R466). -/
def STK_CEM : Nat := 0xF0030018
/-- STK_CECLR (R466). -/
def STK_CECLR : Nat := 0xF003001F
/-- STK_WDk (R466). -/
def STK_WDk (i : Nat) : Nat := 0xF0030040 + 0x1 * i
/-- STK_MWDk (R466). -/
def STK_MWDk (i : Nat) : Nat := 0xF0030060 + 0x1 * i
/-- STK_MRAM_CTL (R466). -/
def STK_MRAM_CTL : Nat := 0xF0030070
/-- STK_XSPI_CTL (R466). -/
def STK_XSPI_CTL : Nat := 0xF0030100
/-- STK_XSPI_BASE (R466). -/
def STK_XSPI_BASE : Nat := 0xF0030101
/-- STK_XSPI_CMD (R466). -/
def STK_XSPI_CMD : Nat := 0xF0030102
/-- STK_XSPI_ADDR (R466). -/
def STK_XSPI_ADDR : Nat := 0xF0030103
/-- STK_XSPI_COPY_SRC (R466). -/
def STK_XSPI_COPY_SRC : Nat := 0xF0030104
/-- STK_XSPI_COPY_DST (R466). -/
def STK_XSPI_COPY_DST : Nat := 0xF0030105
/-- STK_XSPI_COPY (R466). -/
def STK_XSPI_COPY : Nat := 0xF0030106
/-- STK_XSPI_BUFk (R466). -/
def STK_XSPI_BUFk (i : Nat) : Nat := 0xF0030110 + 0x1 * i
/-- ARCH_CTL (R467). -/
def ARCH_CTL : Nat := 0xF0020000
/-- ARCH_STAT (R467). -/
def ARCH_STAT : Nat := 0xF0020001
/-- ARCH_LOSS (R467). -/
def ARCH_LOSS : Nat := 0xF0020002
/-- ARCH_CLR (R467). -/
def ARCH_CLR : Nat := 0xF0020003
/-- ARCH_PUT (R467). -/
def ARCH_PUT : Nat := 0xF0020004
/-- PERM_TABLE (R473). -/
def PERM_TABLE (i : Nat) (j : Nat) : Nat := 0xF0041000 + 0x40 * i + 0x1 * j
/-- PERM_CTL (R491). -/
def PERM_CTL : Nat := 0xF0040000
/-- PERM_LOG_ADDR (R491). -/
def PERM_LOG_ADDR : Nat := 0xF0040001
/-- PERM_LOG_ID (R491). -/
def PERM_LOG_ID : Nat := 0xF0040002
/-- PERM_LOG_STAMP (R491). -/
def PERM_LOG_STAMP : Nat := 0xF0040003
/-- PERM_LOG_CLR (R491). -/
def PERM_LOG_CLR : Nat := 0xF0040004
/-- TWIN_BR_CTL (R492). -/
def TWIN_BR_CTL : Nat := 0xF0120100
/-- TWIN_BR_STAT (R492). -/
def TWIN_BR_STAT : Nat := 0xF0120101
/-- TWIN_BR_CNT (R492). -/
def TWIN_BR_CNT : Nat := 0xF0120102
/-- TWIN_BR_LOGSTAT (R492). -/
def TWIN_BR_LOGSTAT : Nat := 0xF0120103
/-- TWIN_BR_LOGCLR (R492). -/
def TWIN_BR_LOGCLR : Nat := 0xF0120104
/-- TWIN_BR_LOGk_A (R492). -/
def TWIN_BR_LOGk_A (i : Nat) : Nat := 0xF0120110 + 0x2 * i
/-- TWIN_BR_LOGk_STAMP (R492). -/
def TWIN_BR_LOGk_STAMP (i : Nat) : Nat := 0xF0120111 + 0x2 * i
/-- TWIN_SEMs (R492). -/
def TWIN_SEMs (i : Nat) : Nat := 0xF0120140 + 0x1 * i
/-- CARREL_STAT (R516). -/
def CARREL_STAT : Nat := 0xF0100000
/-- CARREL_RC_MAC (R516). -/
def CARREL_RC_MAC : Nat := 0xF0100010
/-- CARREL_RC_IP4 (R516). -/
def CARREL_RC_IP4 : Nat := 0xF0100011
/-- CARREL_RC_IP6_HI (R516). -/
def CARREL_RC_IP6_HI : Nat := 0xF0100012
/-- CARREL_RC_IP6_LO (R516). -/
def CARREL_RC_IP6_LO : Nat := 0xF0100013
/-- CARREL_RC_CNT (R516). -/
def CARREL_RC_CNT : Nat := 0xF0100018
/-- CARREL_RC_CNT2 (R516). -/
def CARREL_RC_CNT2 : Nat := 0xF0100019
/-- CARREL_RC_CNTCLR (R516). -/
def CARREL_RC_CNTCLR : Nat := 0xF010001F
/-- CARREL_Pp_TTk_CTL (R516). -/
def CARREL_Pp_TTk_CTL (i : Nat) (j : Nat) : Nat := 0xF0100100 + 0x10 * i + 0x8 * j
/-- CARREL_Pp_TTk_BASE (R516). -/
def CARREL_Pp_TTk_BASE (i : Nat) (j : Nat) : Nat := 0xF0100101 + 0x10 * i + 0x8 * j
/-- CARREL_Pp_TTk_NEXT (R516). -/
def CARREL_Pp_TTk_NEXT (i : Nat) (j : Nat) : Nat := 0xF0100102 + 0x10 * i + 0x8 * j
/-- CARREL_Pp_TTk_STAT (R516). -/
def CARREL_Pp_TTk_STAT (i : Nat) (j : Nat) : Nat := 0xF0100103 + 0x10 * i + 0x8 * j
/-- CARREL_Pp_TEi (R516). -/
def CARREL_Pp_TEi (i : Nat) (j : Nat) : Nat := 0xF0101000 + 0x400 * i + 0x1 * j
/-- CARREL_Cc_CFG (R516). -/
def CARREL_Cc_CFG (i : Nat) : Nat := 0xF0104000 + 0x20 * i
/-- CARREL_Cc_CTL (R516). -/
def CARREL_Cc_CTL (i : Nat) : Nat := 0xF0104001 + 0x20 * i
/-- CARREL_Cc_STAT (R516). -/
def CARREL_Cc_STAT (i : Nat) : Nat := 0xF0104002 + 0x20 * i
/-- CARREL_Cc_ENTRY (R516). -/
def CARREL_Cc_ENTRY (i : Nat) : Nat := 0xF0104003 + 0x20 * i
/-- CARREL_Cc_TBASE (R516). -/
def CARREL_Cc_TBASE (i : Nat) : Nat := 0xF0104004 + 0x20 * i
/-- CARREL_Cc_CTX (R516). -/
def CARREL_Cc_CTX (i : Nat) : Nat := 0xF0104005 + 0x20 * i
/-- CARREL_Cc_NALLOW (R516). -/
def CARREL_Cc_NALLOW (i : Nat) : Nat := 0xF0104006 + 0x20 * i
/-- CARREL_Cc_CATRD (R516). -/
def CARREL_Cc_CATRD (i : Nat) : Nat := 0xF0104007 + 0x20 * i
/-- CARREL_Cc_CATWR (R516). -/
def CARREL_Cc_CATWR (i : Nat) : Nat := 0xF0104008 + 0x20 * i
/-- CARREL_Cc_DESK (R516). -/
def CARREL_Cc_DESK (i : Nat) : Nat := 0xF0104009 + 0x20 * i
/-- CARREL_Cc_SES_CTL (R516). -/
def CARREL_Cc_SES_CTL (i : Nat) : Nat := 0xF010400A + 0x20 * i
/-- CARREL_Cc_SES_PEER_HI (R516). -/
def CARREL_Cc_SES_PEER_HI (i : Nat) : Nat := 0xF010400B + 0x20 * i
/-- CARREL_Cc_SES_PEER_LO (R516). -/
def CARREL_Cc_SES_PEER_LO (i : Nat) : Nat := 0xF010400C + 0x20 * i
/-- CARREL_Cc_SES_PORTS (R516). -/
def CARREL_Cc_SES_PORTS (i : Nat) : Nat := 0xF010400D + 0x20 * i
/-- CARREL_Cc_SES_NEXTHOP (R516). -/
def CARREL_Cc_SES_NEXTHOP (i : Nat) : Nat := 0xF010400E + 0x20 * i
/-- VAULT_STAT (R553). -/
def VAULT_STAT : Nat := 0xF0110000
/-- VAULT_FUSE (R553). -/
def VAULT_FUSE : Nat := 0xF0110001
/-- VAULT_DEVID (R553). -/
def VAULT_DEVID : Nat := 0xF0110002
/-- VAULT_CHAL (R553). -/
def VAULT_CHAL : Nat := 0xF0110003
/-- VAULT_TAMPi_CFG (R553). -/
def VAULT_TAMPi_CFG (i : Nat) : Nat := 0xF0110004 + 0x1 * i
/-- VAULT_TAMP_STAT (R553). -/
def VAULT_TAMP_STAT : Nat := 0xF0110008
/-- VAULT_ENT_STAT (R553). -/
def VAULT_ENT_STAT : Nat := 0xF0110009
/-- VAULT_MEASm_j (R553). -/
def VAULT_MEASm_j (i : Nat) (j : Nat) : Nat := 0xF0110010 + 0x6 * i + 0x1 * j
/-- VAULT_ROOTr_j (R553). -/
def VAULT_ROOTr_j (i : Nat) (j : Nat) : Nat := 0xF0110040 + 0x6 * i + 0x1 * j
/-- VAULT_Qq_CMD (R553). -/
def VAULT_Qq_CMD (i : Nat) : Nat := 0xF0110100 + 0x10 * i
/-- VAULT_Qq_KEY (R553). -/
def VAULT_Qq_KEY (i : Nat) : Nat := 0xF0110101 + 0x10 * i
/-- VAULT_Qq_SRC (R553). -/
def VAULT_Qq_SRC (i : Nat) : Nat := 0xF0110102 + 0x10 * i
/-- VAULT_Qq_SRCLEN (R553). -/
def VAULT_Qq_SRCLEN (i : Nat) : Nat := 0xF0110103 + 0x10 * i
/-- VAULT_Qq_DST (R553). -/
def VAULT_Qq_DST (i : Nat) : Nat := 0xF0110104 + 0x10 * i
/-- VAULT_Qq_DSTLEN (R553). -/
def VAULT_Qq_DSTLEN (i : Nat) : Nat := 0xF0110105 + 0x10 * i
/-- VAULT_Qq_AUX (R553). -/
def VAULT_Qq_AUX (i : Nat) : Nat := 0xF0110106 + 0x10 * i
/-- VAULT_Qq_NEWATTR (R553). -/
def VAULT_Qq_NEWATTR (i : Nat) : Nat := 0xF0110107 + 0x10 * i
/-- VAULT_Qq_CTL (R553). -/
def VAULT_Qq_CTL (i : Nat) : Nat := 0xF0110108 + 0x10 * i
/-- VAULT_Qq_STAT (R553). -/
def VAULT_Qq_STAT (i : Nat) : Nat := 0xF0110109 + 0x10 * i
/-- VAULT_Qq_OWN (R553). -/
def VAULT_Qq_OWN (i : Nat) : Nat := 0xF011010A + 0x10 * i
/-- VAULT_Kk_ATTR (R553). -/
def VAULT_Kk_ATTR (i : Nat) : Nat := 0xF0111000 + 0x1 * i
/-- VAULT_DSn_ATTR (R553). -/
def VAULT_DSn_ATTR (i : Nat) : Nat := 0xF0111400 + 0x1 * i
/-- TWIN_CTL (R580). -/
def TWIN_CTL : Nat := 0xF0120000
/-- TWIN_STAT (R580). -/
def TWIN_STAT : Nat := 0xF0120001
/-- TWIN_GTC_OFS (R580). -/
def TWIN_GTC_OFS : Nat := 0xF0120002
/-- TWIN_GTC_STAT (R580). -/
def TWIN_GTC_STAT : Nat := 0xF0120003
/-- TWIN_TK_STAT (R580). -/
def TWIN_TK_STAT : Nat := 0xF0120004
/-- TWIN_TK_TIME (R580). -/
def TWIN_TK_TIME : Nat := 0xF0120005
/-- TWIN_MIR_STAT (R580). -/
def TWIN_MIR_STAT : Nat := 0xF0120006
/-- TWIN_MIR_CNT (R580). -/
def TWIN_MIR_CNT : Nat := 0xF0120007
/-- TWIN_WIT (R580). -/
def TWIN_WIT : Nat := 0xF0120008
/-- TWIN_CNTCLR (R580). -/
def TWIN_CNTCLR : Nat := 0xF0120009
/-- TWIN_CMAPk (R580). -/
def TWIN_CMAPk (i : Nat) : Nat := 0xF0120200 + 0x1 * i
/-- TWIN_LMAPk (R580). -/
def TWIN_LMAPk (i : Nat) : Nat := 0xF0120220 + 0x1 * i
/-- TWIN_WMAP (R580). -/
def TWIN_WMAP : Nat := 0xF0120222
/-- TWIN_DEMc (R580). -/
def TWIN_DEMc (i : Nat) : Nat := 0xF0120240 + 0x1 * i
/-- TWIN_MIRk (R580). -/
def TWIN_MIRk (i : Nat) : Nat := 0xF0120300 + 0x1 * i
/-- SYS_CLK_CTL (R608). -/
def SYS_CLK_CTL : Nat := 0xF0000200
/-- SYS_CLK_STAT (R608). -/
def SYS_CLK_STAT : Nat := 0xF0000201
/-- SYS_PWR_CTL (R608). -/
def SYS_PWR_CTL : Nat := 0xF0000210
/-- SYS_PWR_STAT (R608). -/
def SYS_PWR_STAT : Nat := 0xF0000211
/-- SYS_PWR_DZMASK (R608). -/
def SYS_PWR_DZMASK : Nat := 0xF0000212
/-- SYS_PARK_WMASK (R608). -/
def SYS_PARK_WMASK : Nat := 0xF0000213
/-- SYS_AON_TIMER (R608). -/
def SYS_AON_TIMER : Nat := 0xF0000214
/-- SYS_PMIC (R608). -/
def SYS_PMIC : Nat := 0xF0000215
/-- SYS_RST_CTL (R608). -/
def SYS_RST_CTL : Nat := 0xF0000220
/-- SYS_RST_CAUSE (R608). -/
def SYS_RST_CAUSE : Nat := 0xF0000221
/-- SYS_BOOT (R608). -/
def SYS_BOOT : Nat := 0xF0000222
/-- IOC_GPIOk_CFG (R625). -/
def IOC_GPIOk_CFG (i : Nat) : Nat := 0xF0130000 + 0x1 * i
/-- IOC_GPIOBb_LVL (R625). -/
def IOC_GPIOBb_LVL (i : Nat) : Nat := 0xF0130040 + 0x8 * i
/-- IOC_GPIOBb_SET (R625). -/
def IOC_GPIOBb_SET (i : Nat) : Nat := 0xF0130041 + 0x8 * i
/-- IOC_GPIOBb_CLR (R625). -/
def IOC_GPIOBb_CLR (i : Nat) : Nat := 0xF0130042 + 0x8 * i
/-- IOC_GPIOBb_EVT (R625). -/
def IOC_GPIOBb_EVT (i : Nat) : Nat := 0xF0130043 + 0x8 * i
/-- IOC_GPIOBb_OWN (R625). -/
def IOC_GPIOBb_OWN (i : Nat) : Nat := 0xF0130044 + 0x8 * i
/-- IOC_BUSTX (R625). -/
def IOC_BUSTX : Nat := 0xF01300F0
/-- IOC_ADCg_STAMP (R625). -/
def IOC_ADCg_STAMP (i : Nat) : Nat := 0xF0130100 + 0x10 * i
/-- IOC_ADCg_CFG (R625). -/
def IOC_ADCg_CFG (i : Nat) : Nat := 0xF0130109 + 0x10 * i
/-- IOC_ADCg_OWN (R625). -/
def IOC_ADCg_OWN (i : Nat) : Nat := 0xF013010A + 0x10 * i
end R

/-- The registers of MMIO block 0. -/
def regsB0_0 : List RSpec := [
  ⟨0xF0000100, [],
    [⟨F.SYS_FAULT_STAT_CORR_SEEN, .w1c, 0, .any⟩,
     ⟨F.SYS_FAULT_STAT_CONT_SEEN, .w1c, 0, .any⟩,
     ⟨F.SYS_FAULT_STAT_SILENT_SEEN, .w1c, 0, .any⟩,
     ⟨F.SYS_FAULT_STAT_DEVICE_SEEN, .w1c, 0, .any⟩,
     ⟨F.SYS_FAULT_STAT_LOCKSTEP_BROKEN, .ro, 0, .any⟩,
     ⟨F.SYS_FAULT_STAT_SAFE_IN, .ro, 0, .any⟩,
     ⟨F.SYS_FAULT_STAT_FAULT_OUT, .ro, 0, .any⟩]⟩,
  ⟨0xF0000101, [],
    [⟨F.SYS_FAULT_CTL_FAULT_LEVEL, .rw, 2, .any⟩,
     ⟨F.SYS_FAULT_CTL_SAFE_IN_EN, .rw, 1, .any⟩,
     ⟨F.SYS_FAULT_CTL_LOCK, .wonce, 0, .any⟩,
     ⟨F.SYS_FAULT_CTL_FAULT_TEST, .rw, 0, .any⟩]⟩,
  ⟨0xF0000200, [],
    [⟨F.SYS_CLK_CTL_CORE_MULT, .rw, 0x40, .rng 16 64⟩,
     ⟨F.SYS_CLK_CTL_CAT_DIV, .rw, 0, .rsv 3 3⟩]⟩,
  ⟨0xF0000201, [],
    [⟨F.SYS_CLK_STAT_XO_OK, .ro, 0, .any⟩,
     ⟨F.SYS_CLK_STAT_CORE_LOCK, .ro, 0, .any⟩,
     ⟨F.SYS_CLK_STAT_FAB_LOCK, .ro, 0, .any⟩,
     ⟨F.SYS_CLK_STAT_TIME_LOCK, .ro, 0, .any⟩,
     ⟨F.SYS_CLK_STAT_NIGHT_RC, .ro, 0, .any⟩]⟩,
  ⟨0xF0000210, [],
    [⟨F.SYS_PWR_CTL_REQ, .wo, 0, .rsv 3 3⟩]⟩,
  ⟨0xF0000211, [],
    [⟨F.SYS_PWR_STAT_STATE, .ro, 0, .any⟩,
     ⟨F.SYS_PWR_STAT_WAKE_SRC, .ro, 0, .any⟩,
     ⟨F.SYS_PWR_STAT_WAKE_PARK, .ro, 0, .any⟩,
     ⟨F.SYS_PWR_STAT_WAKE_LOST, .ro, 0, .any⟩]⟩,
  ⟨0xF0000212, [],
    [⟨F.SYS_PWR_DZMASK_MASK, .rw, 0xF, .any⟩]⟩,
  ⟨0xF0000213, [],
    [⟨F.SYS_PARK_WMASK_MASK, .rw, 0xFF, .any⟩,
     ⟨F.SYS_PARK_WMASK_TAMPER, .rw, 0, .any⟩]⟩,
  ⟨0xF0000214, [],
    [⟨F.SYS_AON_TIMER_SECONDS, .rw, 0, .any⟩]⟩,
  ⟨0xF0000215, [],
    [⟨F.SYS_PMIC_PGOOD_TMO, .rw, 0x14, .rng 1 255⟩,
     ⟨F.SYS_PMIC_RETRIES, .rw, 3, .any⟩,
     ⟨F.SYS_PMIC_OFF_MS, .rw, 5, .rng 1 255⟩,
     ⟨F.SYS_PMIC_PGOOD_FAILS, .ro, 0, .any⟩]⟩]
def regsB0_1 : List RSpec := [
  ⟨0xF0000220, [],
    [⟨F.SYS_RST_CTL_WARM, .wo, 0, .any⟩,
     ⟨F.SYS_RST_CTL_COMPUTE, .wo, 0, .any⟩]⟩,
  ⟨0xF0000221, [],
    [⟨F.SYS_RST_CAUSE_KIND, .ro, 0, .any⟩,
     ⟨F.SYS_RST_CAUSE_TRIGGER, .ro, 0, .any⟩,
     ⟨F.SYS_RST_CAUSE_START_RETRY, .ro, 0, .any⟩,
     ⟨F.SYS_RST_CAUSE_START_US, .ro, 0, .any⟩]⟩,
  ⟨0xF0000222, [],
    [⟨F.SYS_BOOT_CFG, .ro, 0, .any⟩,
     ⟨F.SYS_BOOT_KEYGEN, .ro, 0, .any⟩,
     ⟨F.SYS_BOOT_ZFINISH, .ro, 0, .any⟩]⟩]
def regsB0 : List RSpec := regsB0_0 ++ regsB0_1
/-- The registers of MMIO block 1. -/
def regsB1_0 : List RSpec := [
  ⟨0xF0010000, [],
    [⟨F.TIME_GTC_GTC, .ro, 0, .any⟩]⟩,
  ⟨0xF0010001, [],
    [⟨F.TIME_GTC_STAT_NIGHT_SRC, .ro, 0, .any⟩,
     ⟨F.TIME_GTC_STAT_PWR_HELD, .ro, 0, .any⟩,
     ⟨F.TIME_GTC_STAT_PWR_DEV, .ro, 0, .any⟩,
     ⟨F.TIME_GTC_STAT_PARK_TICKS, .ro, 0, .any⟩]⟩,
  ⟨0xF0010002, [],
    [⟨F.TIME_ORDER_CTL_TWIN_HOLD, .rw, 8, .rng 1 63⟩]⟩,
  ⟨0xF0010003, [],
    [⟨F.TIME_LATE_CNT_COUNT, .ro, 0, .any⟩,
     ⟨F.TIME_LATE_CNT_CLR, .wo, 0, .any⟩]⟩,
  ⟨0xF0010010, [],
    [⟨F.TIME_ALM_NS_NS, .ro, 0, .any⟩]⟩,
  ⟨0xF0010011, [],
    [⟨F.TIME_ALM_SEC_SEC, .ro, 0, .any⟩]⟩,
  ⟨0xF0010012, [],
    [⟨F.TIME_ALM_RATE_RATE, .rw, 0, .any⟩]⟩,
  ⟨0xF0010013, [],
    [⟨F.TIME_ALM_STEP_OFFSET, .wo, 0, .any⟩]⟩,
  ⟨0xF0010014, [],
    [⟨F.TIME_ALM_CTL_HOLDOVER, .w1c, 1, .any⟩,
     ⟨F.TIME_ALM_CTL_WORKING, .rw, 0, .any⟩]⟩,
  ⟨0xF0010015, [(2, 0x1)],
    [⟨F.TIME_DOMd_CFG_EN, .rw, 0, .any⟩,
     ⟨F.TIME_DOMd_CFG_DOMAIN_NUMBER, .rw, 0, .any⟩,
     ⟨F.TIME_DOMd_CFG_ONE_STEP, .rw, 0, .any⟩,
     ⟨F.TIME_DOMd_CFG_LOSS_MS, .rw, 0x7D, .any⟩,
     ⟨F.TIME_DOMd_CFG_RATIO, .rw, 0, .any⟩]⟩]
def regsB1_1 : List RSpec := [
  ⟨0xF0010018, [],
    [⟨F.TIME_PPS_CTL_CAP_EN, .rw, 0, .any⟩,
     ⟨F.TIME_PPS_CTL_EDGE, .rw, 0, .any⟩,
     ⟨F.TIME_PPS_CTL_OVR, .w1c, 0, .any⟩]⟩,
  ⟨0xF0010019, [],
    [⟨F.TIME_PPS_CAP_NS_NS, .ro, 0, .any⟩]⟩,
  ⟨0xF001001A, [],
    [⟨F.TIME_PPS_CAP_SEC_SEC, .ro, 0, .any⟩]⟩,
  ⟨0xF001001B, [],
    [⟨F.TIME_PPS_CAP_GTC_GTC, .ro, 0, .any⟩]⟩,
  ⟨0xF0010100, [(64, 0x10)],
    [⟨F.TIME_TRGn_CTL_EN, .rw, 0, .any⟩,
     ⟨F.TIME_TRGn_CTL_BASE, .rw, 0, .any⟩,
     ⟨F.TIME_TRGn_CTL_PERIODIC, .rw, 0, .any⟩,
     ⟨F.TIME_TRGn_CTL_ACT_PULSE, .rw, 0, .any⟩,
     ⟨F.TIME_TRGn_CTL_ACT_ADC, .rw, 0, .any⟩,
     ⟨F.TIME_TRGn_CTL_ACT_CYCLE, .rw, 0, .any⟩,
     ⟨F.TIME_TRGn_CTL_ACT_SAMPLE, .rw, 0, .any⟩,
     ⟨F.TIME_TRGn_CTL_POL, .rw, 0, .any⟩,
     ⟨F.TIME_TRGn_CTL_PIN, .rw, 0, .rsv 49 63⟩,
     ⟨F.TIME_TRGn_CTL_ADC_GROUP, .rw, 0, .any⟩]⟩,
  ⟨0xF0010101, [(64, 0x10)],
    [⟨F.TIME_TRGn_CMP_CMP, .rw, 0, .any⟩]⟩,
  ⟨0xF0010102, [(64, 0x10)],
    [⟨F.TIME_TRGn_CMP_SEC_SEC, .rw, 0, .any⟩]⟩,
  ⟨0xF0010103, [(64, 0x10)],
    [⟨F.TIME_TRGn_PER_PER, .rw, 0, .any⟩]⟩,
  ⟨0xF0010104, [(64, 0x10)],
    [⟨F.TIME_TRGn_WID_WID, .rw, 0, .any⟩]⟩,
  ⟨0xF0010105, [(64, 0x10)],
    [⟨F.TIME_TRGn_STAT_FIRE_CNT, .ro, 0, .any⟩,
     ⟨F.TIME_TRGn_STAT_SKIP_CNT, .ro, 0, .any⟩,
     ⟨F.TIME_TRGn_STAT_FIRED, .w1c, 0, .any⟩,
     ⟨F.TIME_TRGn_STAT_LATE, .w1c, 0, .any⟩,
     ⟨F.TIME_TRGn_STAT_ADC_OVR, .w1c, 0, .any⟩]⟩]
def regsB1_2 : List RSpec := [
  ⟨0xF0010106, [(64, 0x10)],
    [⟨F.TIME_TRGn_LAST_STAMP, .ro, 0, .any⟩]⟩,
  ⟨0xF0010107, [(64, 0x10)],
    [⟨F.TIME_TRGn_SAMP_LEVELS, .ro, 0, .any⟩]⟩,
  ⟨0xF0010108, [(64, 0x10)],
    [⟨F.TIME_TRGn_OWN_OWNER, .rw, 0, .any⟩,
     ⟨F.TIME_TRGn_OWN_V, .rw, 0, .any⟩,
     ⟨F.TIME_TRGn_OWN_ABSENT, .ro, 0, .any⟩]⟩]
def regsB1 : List RSpec := regsB1_0 ++ regsB1_1 ++ regsB1_2
/-- The registers of MMIO block 2. -/
def regsB2_0 : List RSpec := [
  ⟨0xF0020000, [],
    [⟨F.ARCH_CTL_EVT_EN, .rw, 1, .any⟩,
     ⟨F.ARCH_CTL_CORR_EN, .rw, 1, .any⟩]⟩,
  ⟨0xF0020001, [],
    [⟨F.ARCH_STAT_HEAD, .ro, 0, .any⟩,
     ⟨F.ARCH_STAT_COUNT, .ro, 0, .any⟩,
     ⟨F.ARCH_STAT_PRIOR_HELD, .ro, 0, .any⟩,
     ⟨F.ARCH_STAT_SEQ, .ro, 0, .any⟩]⟩,
  ⟨0xF0020002, [],
    [⟨F.ARCH_LOSS_OVERWRITTEN, .ro, 0, .any⟩,
     ⟨F.ARCH_LOSS_DROPPED, .ro, 0, .any⟩,
     ⟨F.ARCH_LOSS_DAMAGED, .ro, 0, .any⟩]⟩,
  ⟨0xF0020003, [],
    [⟨F.ARCH_CLR_CLR, .wo, 0, .any⟩,
     ⟨F.ARCH_CLR_RET_CLR, .wo, 0, .any⟩]⟩,
  ⟨0xF0020004, [],
    [⟨F.ARCH_PUT_PAYLOAD, .wo, 0, .any⟩]⟩]
def regsB2 : List RSpec := regsB2_0
/-- The registers of MMIO block 3. -/
def regsB3_0 : List RSpec := [
  ⟨0xF0038000, [(2048, 0x1)],
    [⟨F.STK_TAGn_OWNER, .rw, 0, .any⟩,
     ⟨F.STK_TAGn_SHARED, .rw, 0, .any⟩]⟩,
  ⟨0xF0030000, [],
    [⟨F.STK_CTL_AUTO_WD, .rw, 1, .any⟩,
     ⟨F.STK_CTL_SCRUB_EN, .rw, 1, .any⟩,
     ⟨F.STK_CTL_SCRUB_S, .rw, 0xA, .rng 1 65535⟩,
     ⟨F.STK_CTL_MRAM_SCRUB_MIN, .rw, 0x3C, .rng 1 65535⟩,
     ⟨F.STK_CTL_CE_SUPP, .rw, 1, .any⟩]⟩,
  ⟨0xF0030001, [],
    [⟨F.STK_STAT_FILLED, .ro, 0, .any⟩,
     ⟨F.STK_STAT_FILL_BUSY, .ro, 0, .any⟩,
     ⟨F.STK_STAT_TEST_FAIL, .w1c, 0, .any⟩,
     ⟨F.STK_STAT_PASSES, .ro, 0, .any⟩]⟩,
  ⟨0xF0030002, [],
    [⟨F.STK_FILL_PAGE, .rw, 0, .any⟩,
     ⟨F.STK_FILL_COUNT, .rw, 1, .rng 1 2048⟩,
     ⟨F.STK_FILL_START, .wo, 0, .any⟩,
     ⟨F.STK_FILL_TEST, .wo, 0, .any⟩]⟩,
  ⟨0xF0030003, [],
    [⟨F.STK_TEST_RES_PAGE, .ro, 0, .any⟩,
     ⟨F.STK_TEST_RES_FAILS, .ro, 0, .any⟩]⟩,
  ⟨0xF0030008, [],
    [⟨F.STK_BANKWD_BANKS, .rw, 0, .any⟩]⟩,
  ⟨0xF0030010, [(8, 0x1)],
    [⟨F.STK_CEt_CORR, .ro, 0, .any⟩,
     ⟨F.STK_CEt_UNCORR, .ro, 0, .any⟩]⟩,
  ⟨0xF0030018, [],
    [⟨F.STK_CEM_CORR, .ro, 0, .any⟩,
     ⟨F.STK_CEM_UNCORR, .ro, 0, .any⟩]⟩,
  ⟨0xF003001F, [],
    [⟨F.STK_CECLR_CLR, .wo, 0, .any⟩]⟩,
  ⟨0xF0030040, [(32, 0x1)],
    [⟨F.STK_WDk_PAGES, .rw, 0, .any⟩]⟩]
def regsB3_1 : List RSpec := [
  ⟨0xF0030060, [(16, 0x1)],
    [⟨F.STK_MWDk_PAGES, .rw, 0, .any⟩]⟩,
  ⟨0xF0030070, [],
    [⟨F.STK_MRAM_CTL_WP_A, .rw, 1, .any⟩,
     ⟨F.STK_MRAM_CTL_WP_B, .rw, 1, .any⟩]⟩,
  ⟨0xF0030100, [],
    [⟨F.STK_XSPI_CTL_EN, .rw, 0, .any⟩,
     ⟨F.STK_XSPI_CTL_PROTO, .rw, 0, .rsv 3 3⟩,
     ⟨F.STK_XSPI_CTL_DIV, .rw, 0x12, .rng 3 63⟩,
     ⟨F.STK_XSPI_CTL_LAYOUT, .rw, 0, .any⟩,
     ⟨F.STK_XSPI_CTL_SIZE, .rw, 0x18, .rng 20 31⟩,
     ⟨F.STK_XSPI_CTL_RD_OP, .rw, 3, .any⟩,
     ⟨F.STK_XSPI_CTL_DUMMY, .rw, 0, .any⟩,
     ⟨F.STK_XSPI_CTL_ADDR4, .rw, 0, .any⟩,
     ⟨F.STK_XSPI_CTL_WIN_EN, .rw, 0, .any⟩]⟩,
  ⟨0xF0030101, [],
    [⟨F.STK_XSPI_BASE_BASE, .rw, 0, .any⟩]⟩,
  ⟨0xF0030102, [],
    [⟨F.STK_XSPI_CMD_OP, .rw, 0, .any⟩,
     ⟨F.STK_XSPI_CMD_OPLEN, .rw, 0, .any⟩,
     ⟨F.STK_XSPI_CMD_ADDR_EN, .rw, 0, .any⟩,
     ⟨F.STK_XSPI_CMD_DUMMY, .rw, 0, .any⟩,
     ⟨F.STK_XSPI_CMD_DIR, .rw, 0, .any⟩,
     ⟨F.STK_XSPI_CMD_LEN, .rw, 0, .rng 0 256⟩,
     ⟨F.STK_XSPI_CMD_START, .wo, 0, .any⟩,
     ⟨F.STK_XSPI_CMD_BUSY, .ro, 0, .any⟩,
     ⟨F.STK_XSPI_CMD_ERR, .w1c, 0, .any⟩]⟩,
  ⟨0xF0030103, [],
    [⟨F.STK_XSPI_ADDR_ADDR, .rw, 0, .any⟩]⟩,
  ⟨0xF0030104, [],
    [⟨F.STK_XSPI_COPY_SRC_SRC, .rw, 0, .any⟩]⟩,
  ⟨0xF0030105, [],
    [⟨F.STK_XSPI_COPY_DST_DST, .rw, 0, .any⟩]⟩,
  ⟨0xF0030106, [],
    [⟨F.STK_XSPI_COPY_LEN, .rw, 0, .any⟩,
     ⟨F.STK_XSPI_COPY_START, .wo, 0, .any⟩,
     ⟨F.STK_XSPI_COPY_BUSY, .ro, 0, .any⟩,
     ⟨F.STK_XSPI_COPY_ERR, .w1c, 0, .any⟩,
     ⟨F.STK_XSPI_COPY_NARROW, .w1c, 0, .any⟩,
     ⟨F.STK_XSPI_COPY_REASON, .ro, 0, .any⟩]⟩,
  ⟨0xF0030110, [(32, 0x1)],
    [⟨F.STK_XSPI_BUFk_DATA, .rw, 0, .any⟩]⟩]
def regsB3 : List RSpec := regsB3_0 ++ regsB3_1
/-- The registers of MMIO block 4. -/
def regsB4_0 : List RSpec := [
  ⟨0xF0041000, [(8, 0x40), (64, 0x1)],
    [⟨F.PERM_TABLE_RD, .rw, 0, .any⟩,
     ⟨F.PERM_TABLE_WR, .rw, 0, .any⟩,
     ⟨F.PERM_TABLE_EXE, .rw, 0, .any⟩,
     ⟨F.PERM_TABLE_CFG, .rw, 0, .any⟩,
     ⟨F.PERM_TABLE_RULE, .rw, 0, .rsv 3 3⟩,
     ⟨F.PERM_TABLE_CLO, .rw, 0, .any⟩,
     ⟨F.PERM_TABLE_CHI, .rw, 0, .any⟩,
     ⟨F.PERM_TABLE_FLOOR, .rw, 0, .any⟩]⟩,
  ⟨0xF0040000, [],
    [⟨F.PERM_CTL_TMO, .rw, 0x40, .rng 1 255⟩,
     ⟨F.PERM_CTL_LOG_EN, .rw, 1, .any⟩]⟩,
  ⟨0xF0040001, [],
    [⟨F.PERM_LOG_ADDR_ADDR, .ro, 0, .any⟩]⟩,
  ⟨0xF0040002, [],
    [⟨F.PERM_LOG_ID_MASTER, .ro, 0, .any⟩,
     ⟨F.PERM_LOG_ID_CARREL, .ro, 0, .any⟩,
     ⟨F.PERM_LOG_ID_LIB, .ro, 0, .any⟩,
     ⟨F.PERM_LOG_ID_REASON, .ro, 0, .any⟩,
     ⟨F.PERM_LOG_ID_KIND, .ro, 0, .any⟩,
     ⟨F.PERM_LOG_ID_CRIT, .ro, 0, .any⟩,
     ⟨F.PERM_LOG_ID_COUNT, .ro, 0, .any⟩]⟩,
  ⟨0xF0040003, [],
    [⟨F.PERM_LOG_STAMP_STAMP, .ro, 0, .any⟩]⟩,
  ⟨0xF0040004, [],
    [⟨F.PERM_LOG_CLR_CLR, .wo, 0, .any⟩]⟩]
def regsB4 : List RSpec := regsB4_0
/-- The registers of MMIO block 5. -/
def regsB5_0 : List RSpec := [
  ⟨0xF0050000, [],
    [⟨F.CAT_CTL_INTAKE_EN, .rw, 0, .any⟩,
     ⟨F.CAT_CTL_SWEEP_EN, .rw, 0, .any⟩,
     ⟨F.CAT_CTL_E2E_EN, .rw, 0, .any⟩,
     ⟨F.CAT_CTL_TO_EVT, .rw, 0, .any⟩]⟩,
  ⟨0xF0050001, [],
    [⟨F.CAT_E2E_POOL_UNITS, .rw, 0, .any⟩]⟩,
  ⟨0xF0050002, [],
    [⟨F.CAT_PROV_STAT_IN_USE, .ro, 0, .any⟩,
     ⟨F.CAT_PROV_STAT_PEAK, .ro, 0, .any⟩,
     ⟨F.CAT_PROV_STAT_FULL_CNT, .ro, 0, .any⟩]⟩,
  ⟨0xF0050003, [],
    [⟨F.CAT_WDRAW_WITHDRAWN, .ro, 0, .any⟩,
     ⟨F.CAT_WDRAW_ERRATA, .ro, 0, .any⟩]⟩,
  ⟨0xF0050004, [],
    [⟨F.CAT_REFLEX_STAT_PEAK, .ro, 0, .any⟩,
     ⟨F.CAT_REFLEX_STAT_LATE, .w1c, 0, .any⟩]⟩,
  ⟨0xF0050005, [],
    [⟨F.CAT_ERR_CNT_SLIP_ERR, .ro, 0, .any⟩,
     ⟨F.CAT_ERR_CNT_INTAKE_OVF, .ro, 0, .any⟩,
     ⟨F.CAT_ERR_CNT_DROPPED, .ro, 0, .any⟩,
     ⟨F.CAT_ERR_CNT_LATE_VERDICT, .ro, 0, .any⟩]⟩,
  ⟨0xF0050006, [],
    [⟨F.CAT_ERR_SHELF_SHELF, .ro, 0, .any⟩,
     ⟨F.CAT_ERR_SHELF_SLIP, .ro, 0, .any⟩,
     ⟨F.CAT_ERR_SHELF_MAP, .ro, 0, .any⟩]⟩,
  ⟨0xF0050007, [],
    [⟨F.CAT_CNT_CLR_CLR, .wo, 0, .any⟩]⟩,
  ⟨0xF0050100, [(48, 0x1)],
    [⟨F.CAT_RXp_DUE_DUE, .ro, 0, .any⟩]⟩]
def regsB5 : List RSpec := regsB5_0
/-- The registers of MMIO block 6. -/
def regsB6_0 : List RSpec := [
  ⟨0xF0068000, [(64, 0x8)],
    [⟨F.CATG_CUn_CTL_RUN, .rw, 0, .any⟩,
     ⟨F.CATG_CUn_CTL_ENTRY, .rw, 0, .any⟩,
     ⟨F.CATG_CUn_CTL_CEIL, .rw, 0, .any⟩,
     ⟨F.CATG_CUn_CTL_RUN_LIMIT, .rw, 0x80, .rng 1 255⟩]⟩,
  ⟨0xF0068001, [(64, 0x8)],
    [⟨F.CATG_CUn_STAT_WAITING, .ro, 0, .any⟩,
     ⟨F.CATG_CUn_STAT_FAULT, .w1c, 0, .any⟩,
     ⟨F.CATG_CUn_STAT_CAUSE, .ro, 0, .any⟩,
     ⟨F.CATG_CUn_STAT_QDEPTH, .ro, 0, .any⟩,
     ⟨F.CATG_CUn_STAT_FPC, .ro, 0, .any⟩,
     ⟨F.CATG_CUn_STAT_LOST, .ro, 0, .any⟩]⟩,
  ⟨0xF0068002, [(64, 0x8)],
    [⟨F.CATG_CUn_RUNS_RUNS, .ro, 0, .any⟩]⟩,
  ⟨0xF0068400, [(8, 0x8)],
    [⟨F.CATG_TLt_RD_LO_SHELF, .rw, 1, .any⟩]⟩,
  ⟨0xF0068401, [(8, 0x8)],
    [⟨F.CATG_TLt_RD_HI_SHELF, .rw, 0, .any⟩]⟩,
  ⟨0xF0068402, [(8, 0x8)],
    [⟨F.CATG_TLt_WR_LO_SHELF, .rw, 1, .any⟩]⟩,
  ⟨0xF0068403, [(8, 0x8)],
    [⟨F.CATG_TLt_WR_HI_SHELF, .rw, 0, .any⟩]⟩,
  ⟨0xF0068404, [(8, 0x8)],
    [⟨F.CATG_TLt_OWN_OWNER, .rw, 0, .any⟩,
     ⟨F.CATG_TLt_OWN_V, .rw, 0, .any⟩,
     ⟨F.CATG_TLt_OWN_ABSENT, .ro, 0, .any⟩]⟩]
def regsB6 : List RSpec := regsB6_0
/-- The registers of MMIO block 7. -/
def regsB7_0 : List RSpec := [
  ⟨0xF0070000, [(16, 0x10)],
    [⟨F.COLL_Un_CTL_POLY, .rw, 0, .rsv 9 15⟩,
     ⟨F.COLL_Un_CTL_MODE, .rw, 0, .rsv 3 3⟩,
     ⟨F.COLL_Un_CTL_LAYOUT8, .rw, 0, .any⟩,
     ⟨F.COLL_Un_CTL_WIDTH, .rw, 0, .any⟩,
     ⟨F.COLL_Un_CTL_REFIN, .rw, 0, .any⟩,
     ⟨F.COLL_Un_CTL_REFOUT, .rw, 0, .any⟩,
     ⟨F.COLL_Un_CTL_START, .wo, 0, .any⟩,
     ⟨F.COLL_Un_CTL_STOP, .wo, 0, .any⟩,
     ⟨F.COLL_Un_CTL_RESUME, .rw, 0, .any⟩]⟩,
  ⟨0xF0070001, [(16, 0x10)],
    [⟨F.COLL_Un_POLY_POLY, .rw, 0, .any⟩]⟩,
  ⟨0xF0070002, [(16, 0x10)],
    [⟨F.COLL_Un_INIT_INIT, .rw, 0, .any⟩]⟩,
  ⟨0xF0070003, [(16, 0x10)],
    [⟨F.COLL_Un_XOROUT_XOROUT, .rw, 0, .any⟩]⟩,
  ⟨0xF0070004, [(16, 0x10)],
    [⟨F.COLL_Un_RUN_RUN, .rw, 0, .any⟩]⟩,
  ⟨0xF0070005, [(16, 0x10)],
    [⟨F.COLL_Un_ADDR_ADDR, .rw, 0, .any⟩]⟩,
  ⟨0xF0070006, [(16, 0x10)],
    [⟨F.COLL_Un_LEN_LEN, .rw, 0, .any⟩,
     ⟨F.COLL_Un_LEN_OCT, .rw, 0, .rng 0 8⟩]⟩,
  ⟨0xF0070007, [(16, 0x10)],
    [⟨F.COLL_Un_STAT_BUSY, .ro, 0, .any⟩,
     ⟨F.COLL_Un_STAT_DONE, .w1c, 0, .any⟩,
     ⟨F.COLL_Un_STAT_ERR, .w1c, 0, .any⟩,
     ⟨F.COLL_Un_STAT_MISMATCH, .w1c, 0, .any⟩,
     ⟨F.COLL_Un_STAT_REASON, .ro, 0, .any⟩]⟩,
  ⟨0xF0070008, [(16, 0x10)],
    [⟨F.COLL_Un_RESULT_RESULT, .ro, 0, .any⟩]⟩,
  ⟨0xF0070009, [(16, 0x10)],
    [⟨F.COLL_Un_OWN_OWNER, .rw, 0, .any⟩,
     ⟨F.COLL_Un_OWN_V, .rw, 0, .any⟩,
     ⟨F.COLL_Un_OWN_ABSENT, .ro, 0, .any⟩]⟩]
def regsB7 : List RSpec := regsB7_0
/-- The registers of MMIO block 8. -/
def regsB8_0 : List RSpec := [
  ⟨0xF0081000, [(4096, 0x1)],
    [⟨F.CIRC_VLAN_MEMBERS, .rw, 0, .any⟩,
     ⟨F.CIRC_VLAN_UNTAGGED, .rw, 0, .any⟩,
     ⟨F.CIRC_VLAN_FLOOD, .rw, 0, .any⟩,
     ⟨F.CIRC_VLAN_V, .rw, 0, .any⟩]⟩,
  ⟨0xF0088000, [(4096, 0x1)],
    [⟨F.CIRC_STREAM_V, .rw, 0, .any⟩,
     ⟨F.CIRC_STREAM_INTAKE, .rw, 0, .any⟩,
     ⟨F.CIRC_STREAM_MAX_SDU, .rw, 0, .any⟩,
     ⟨F.CIRC_STREAM_TCV, .rw, 0, .any⟩,
     ⟨F.CIRC_STREAM_TC, .rw, 0, .any⟩,
     ⟨F.CIRC_STREAM_RING, .rw, 0, .any⟩,
     ⟨F.CIRC_STREAM_RINGV, .rw, 0, .any⟩]⟩,
  ⟨0xF0080000, [],
    [⟨F.CIRC_CTL_EN, .rw, 0, .any⟩,
     ⟨F.CIRC_CTL_CUT_EN, .rw, 1, .any⟩]⟩,
  ⟨0xF0080001, [],
    [⟨F.CIRC_STAT_SHARE_SUM, .ro, 0xAB, .any⟩,
     ⟨F.CIRC_STAT_CELLS, .ro, 0, .any⟩,
     ⟨F.CIRC_STAT_FRAMES, .ro, 0, .any⟩,
     ⟨F.CIRC_STAT_COPIES, .ro, 0, .any⟩]⟩,
  ⟨0xF0080002, [],
    [⟨F.CIRC_POOL_WARN, .rw, 0x1D4C0, .any⟩]⟩,
  ⟨0xF0080003, [],
    [⟨F.CIRC_FDB_CMD_INDEX, .rw, 0, .any⟩,
     ⟨F.CIRC_FDB_CMD_WRITE, .wo, 0, .any⟩,
     ⟨F.CIRC_FDB_CMD_READ, .wo, 0, .any⟩,
     ⟨F.CIRC_FDB_CMD_BUSY, .ro, 0, .any⟩]⟩,
  ⟨0xF0080004, [],
    [⟨F.CIRC_FDB_KEY_DATA, .rw, 0, .any⟩]⟩,
  ⟨0xF0080005, [],
    [⟨F.CIRC_FDB_RES_DATA, .rw, 0, .any⟩]⟩,
  ⟨0xF0080008, [(2, 0x1)],
    [⟨F.CIRC_GPTPd_SLAVE_PORT, .rw, 0, .any⟩,
     ⟨F.CIRC_GPTPd_MASTER_PORTS, .rw, 0, .any⟩,
     ⟨F.CIRC_GPTPd_RELAY_EN, .rw, 0, .any⟩]⟩,
  ⟨0xF0082000, [(256, 0x2)],
    [⟨F.CIRC_COPYc_MASK_MASK, .ro, 0, .any⟩]⟩]
def regsB8_1 : List RSpec := [
  ⟨0xF0082001, [(256, 0x2)],
    [⟨F.CIRC_COPYc_STAT_PENDING, .ro, 0, .any⟩,
     ⟨F.CIRC_COPYc_STAT_V, .ro, 0, .any⟩]⟩,
  ⟨0xF0084000, [(64, 0x8)],
    [⟨F.CIRC_RINGr_BASE_BASE, .rw, 0, .any⟩,
     ⟨F.CIRC_RINGr_BASE_SIZE, .rw, 0, .rsv 10 15⟩]⟩,
  ⟨0xF0084001, [(64, 0x8)],
    [⟨F.CIRC_RINGr_CTL_EN, .rw, 0, .any⟩,
     ⟨F.CIRC_RINGr_CTL_DIR, .rw, 0, .any⟩,
     ⟨F.CIRC_RINGr_CTL_PORTIDX, .rw, 0, .any⟩,
     ⟨F.CIRC_RINGr_CTL_NOTIFY_EN, .rw, 0, .any⟩]⟩,
  ⟨0xF0084002, [(64, 0x8)],
    [⟨F.CIRC_RINGr_HEAD_HEAD, .ro, 0, .any⟩]⟩,
  ⟨0xF0084003, [(64, 0x8)],
    [⟨F.CIRC_RINGr_TAIL_TAIL, .rw, 0, .any⟩]⟩,
  ⟨0xF0084004, [(64, 0x8)],
    [⟨F.CIRC_RINGr_STAT_DROPS, .ro, 0, .any⟩]⟩,
  ⟨0xF0084005, [(64, 0x8)],
    [⟨F.CIRC_RINGr_OWN_OWNER, .rw, 0, .any⟩,
     ⟨F.CIRC_RINGr_OWN_V, .rw, 0, .any⟩,
     ⟨F.CIRC_RINGr_OWN_ABSENT, .ro, 0, .any⟩]⟩,
  ⟨0xF0085000, [(64, 0x4)],
    [⟨F.CIRC_ENCe_DEST_DA, .rw, 0, .any⟩,
     ⟨F.CIRC_ENCe_DEST_VID, .rw, 0, .any⟩,
     ⟨F.CIRC_ENCe_DEST_PCP, .rw, 0, .any⟩,
     ⟨F.CIRC_ENCe_DEST_V, .rw, 0, .any⟩]⟩,
  ⟨0xF0085001, [(64, 0x4)],
    [⟨F.CIRC_ENCe_STREAM_STREAM_ID, .rw, 0, .any⟩]⟩,
  ⟨0xF0085002, [(64, 0x4)],
    [⟨F.CIRC_ENCe_CTL_MAXMSG, .rw, 1, .rng 1 31⟩,
     ⟨F.CIRC_ENCe_CTL_GATHER, .rw, 0, .any⟩,
     ⟨F.CIRC_ENCe_CTL_MTV, .rw, 0, .any⟩,
     ⟨F.CIRC_ENCe_CTL_TC, .rw, 0, .any⟩]⟩]
def regsB8_2 : List RSpec := [
  ⟨0xF0085003, [(64, 0x4)],
    [⟨F.CIRC_ENCe_CNT_FRAMES, .ro, 0, .any⟩,
     ⟨F.CIRC_ENCe_CNT_MSGS, .ro, 0, .any⟩]⟩,
  ⟨0xF0085100, [(64, 0x2)],
    [⟨F.CIRC_DECd_STREAM_STREAM_ID, .rw, 0, .any⟩]⟩,
  ⟨0xF0085101, [(64, 0x2)],
    [⟨F.CIRC_DECd_CTL_V, .rw, 0, .any⟩,
     ⟨F.CIRC_DECd_CTL_CAN_MASK, .rw, 0, .any⟩,
     ⟨F.CIRC_DECd_CTL_LIN_MASK, .rw, 0, .any⟩,
     ⟨F.CIRC_DECd_CTL_DROPS, .ro, 0, .any⟩]⟩]
def regsB8 : List RSpec := regsB8_0 ++ regsB8_1 ++ regsB8_2
/-- The registers of MMIO block 9. -/
def regsB9_0 : List RSpec := [
  ⟨0xF0090000, [(24, 0x400)],
    [⟨F.ETH_Pp_CTL_EN, .rw, 0, .any⟩,
     ⟨F.ETH_Pp_CTL_MODE, .rw, 0, .any⟩,
     ⟨F.ETH_Pp_CTL_MAX_FRAME, .rw, 0x5EE, .rng 64 2308⟩,
     ⟨F.ETH_Pp_CTL_PVID, .rw, 1, .any⟩,
     ⟨F.ETH_Pp_CTL_DEF_PCP, .rw, 0, .any⟩,
     ⟨F.ETH_Pp_CTL_ACCEPT, .rw, 0, .rsv 3 3⟩,
     ⟨F.ETH_Pp_CTL_INGRESS_FILTER, .rw, 1, .any⟩,
     ⟨F.ETH_Pp_CTL_CUT_EN, .rw, 1, .any⟩,
     ⟨F.ETH_Pp_CTL_GRACE, .rw, 0, .any⟩,
     ⟨F.ETH_Pp_CTL_RING, .rw, 0, .any⟩,
     ⟨F.ETH_Pp_CTL_RINGV, .rw, 0, .any⟩]⟩,
  ⟨0xF0090001, [(24, 0x400)],
    [⟨F.ETH_Pp_STAT_LINK, .ro, 0, .any⟩,
     ⟨F.ETH_Pp_STAT_STATE, .ro, 2, .any⟩,
     ⟨F.ETH_Pp_STAT_SPEED, .ro, 0, .any⟩,
     ⟨F.ETH_Pp_STAT_PLCA_LOST, .ro, 0, .any⟩]⟩,
  ⟨0xF0090002, [(24, 0x400)],
    [⟨F.ETH_Pp_SHARE_SHARE, .rw, 0, .any⟩,
     ⟨F.ETH_Pp_SHARE_POOL_MAX, .rw, 0x8000, .any⟩]⟩,
  ⟨0xF0090003, [(24, 0x400)],
    [⟨F.ETH_Pp_PCPMAP_MAP, .rw, 0xFAC688, .any⟩]⟩,
  ⟨0xF0090004, [(24, 0x400)],
    [⟨F.ETH_Pp_LINKDLY_DELAY, .rw, 0, .any⟩]⟩,
  ⟨0xF0090005, [(24, 0x400)],
    [⟨F.ETH_Pp_PLCA_NODE_ID, .rw, 0xFF, .any⟩,
     ⟨F.ETH_Pp_PLCA_NODE_CNT, .rw, 8, .any⟩,
     ⟨F.ETH_Pp_PLCA_TO_TIMER, .rw, 0x20, .any⟩,
     ⟨F.ETH_Pp_PLCA_BURST_CNT, .rw, 0, .any⟩,
     ⟨F.ETH_Pp_PLCA_BURST_TMR, .rw, 0x80, .any⟩]⟩,
  ⟨0xF0090008, [(24, 0x400), (8, 0x1)],
    [⟨F.ETH_Pp_Qq_THRESH, .rw, 0x1000, .any⟩,
     ⟨F.ETH_Pp_Qq_DEADLINE, .rw, 0, .any⟩]⟩,
  ⟨0xF0090010, [(24, 0x400), (14, 0x1)],
    [⟨F.ETH_Pp_CNT_COUNT, .ro, 0, .any⟩]⟩,
  ⟨0xF009001F, [(24, 0x400)],
    [⟨F.ETH_Pp_CNTCLR_CLR, .wo, 0, .any⟩]⟩,
  ⟨0xF0090020, [(24, 0x400)],
    [⟨F.ETH_Pp_GCTL_EN, .rw, 0, .any⟩,
     ⟨F.ETH_Pp_GCTL_PENDING, .ro, 0, .any⟩,
     ⟨F.ETH_Pp_GCTL_ADMIN_LEN, .rw, 1, .rng 1 128⟩,
     ⟨F.ETH_Pp_GCTL_OPER_LEN, .ro, 0, .any⟩,
     ⟨F.ETH_Pp_GCTL_CHANGE, .wo, 0, .any⟩]⟩]
def regsB9_1 : List RSpec := [
  ⟨0xF0090021, [(24, 0x400)],
    [⟨F.ETH_Pp_GCYCLE_CYCLE, .rw, 0xF4240, .any⟩]⟩,
  ⟨0xF0090022, [(24, 0x400)],
    [⟨F.ETH_Pp_GBASE_NS_NS, .rw, 0, .any⟩]⟩,
  ⟨0xF0090023, [(24, 0x400)],
    [⟨F.ETH_Pp_GBASE_SEC_SEC, .rw, 0, .any⟩]⟩,
  ⟨0xF0090030, [(24, 0x400), (8, 0x2)],
    [⟨F.ETH_Pp_Qq_DROP_TAIL_DROP, .ro, 0, .any⟩]⟩,
  ⟨0xF0090031, [(24, 0x400), (8, 0x2)],
    [⟨F.ETH_Pp_Qq_AGED_AGED, .ro, 0, .any⟩]⟩,
  ⟨0xF0090100, [(24, 0x400), (128, 0x1)],
    [⟨F.ETH_Pp_GADMj_GATES, .rw, 0xFF, .any⟩,
     ⟨F.ETH_Pp_GADMj_INTERVAL, .rw, 0, .any⟩]⟩,
  ⟨0xF0090180, [(24, 0x400), (128, 0x1)],
    [⟨F.ETH_Pp_GOPRj_GATES, .ro, 0, .any⟩,
     ⟨F.ETH_Pp_GOPRj_INTERVAL, .ro, 0, .any⟩]⟩,
  ⟨0xF0098000, [(2, 0x10)],
    [⟨F.ETH_MDIOn_CMD_PHYAD, .rw, 0, .any⟩,
     ⟨F.ETH_MDIOn_CMD_REG, .rw, 0, .any⟩,
     ⟨F.ETH_MDIOn_CMD_DATA, .rw, 0, .any⟩,
     ⟨F.ETH_MDIOn_CMD_OP, .rw, 0, .any⟩,
     ⟨F.ETH_MDIOn_CMD_C45, .rw, 0, .any⟩,
     ⟨F.ETH_MDIOn_CMD_START, .wo, 0, .any⟩,
     ⟨F.ETH_MDIOn_CMD_BUSY, .ro, 0, .any⟩,
     ⟨F.ETH_MDIOn_CMD_RDATA, .ro, 0, .any⟩,
     ⟨F.ETH_MDIOn_CMD_DIV, .rw, 0x27, .rsv 0 2⟩]⟩]
def regsB9 : List RSpec := regsB9_0 ++ regsB9_1
/-- The registers of MMIO block 10. -/
def regsB10_0 : List RSpec := [
  ⟨0xF00A0000, [(4, 0x1000)],
    [⟨F.MACSEC_Iu_CTL_EN, .rw, 0, .any⟩,
     ⟨F.MACSEC_Iu_CTL_CIPHER, .rw, 0, .any⟩,
     ⟨F.MACSEC_Iu_CTL_CONF_OFF, .rw, 0, .rsv 3 3⟩,
     ⟨F.MACSEC_Iu_CTL_CONF, .rw, 1, .any⟩,
     ⟨F.MACSEC_Iu_CTL_VALIDATE, .rw, 2, .rsv 3 3⟩,
     ⟨F.MACSEC_Iu_CTL_REPLAY, .rw, 1, .any⟩,
     ⟨F.MACSEC_Iu_CTL_TX_AN, .rw, 0, .any⟩,
     ⟨F.MACSEC_Iu_CTL_SCI_EN, .rw, 1, .any⟩]⟩,
  ⟨0xF00A0001, [(4, 0x1000)],
    [⟨F.MACSEC_Iu_SCI_SCI, .rw, 0, .any⟩]⟩,
  ⟨0xF00A0002, [(4, 0x1000)],
    [⟨F.MACSEC_Iu_WIN_WINDOW, .rw, 0, .any⟩]⟩,
  ⟨0xF00A0003, [(4, 0x1000)],
    [⟨F.MACSEC_Iu_PNTH_PN_THRESH, .rw, 0xC0000000, .any⟩]⟩,
  ⟨0xF00A0010, [(4, 0x1000), (4, 0x4)],
    [⟨F.MACSEC_Iu_TXSAa_KEY_SLOT, .rw, 0, .any⟩,
     ⟨F.MACSEC_Iu_TXSAa_KEY_V, .rw, 0, .any⟩]⟩,
  ⟨0xF00A0011, [(4, 0x1000), (4, 0x4)],
    [⟨F.MACSEC_Iu_TXSAa_PN_NEXT_PN, .rw, 1, .any⟩]⟩,
  ⟨0xF00A0012, [(4, 0x1000), (4, 0x4)],
    [⟨F.MACSEC_Iu_TXSAa_SSCI_SSCI, .rw, 0, .any⟩]⟩,
  ⟨0xF00A0100, [(4, 0x1000), (8, 0x10)],
    [⟨F.MACSEC_Iu_RXSCc_SCI_SCI, .rw, 0, .any⟩]⟩,
  ⟨0xF00A0101, [(4, 0x1000), (8, 0x10)],
    [⟨F.MACSEC_Iu_RXSCc_CTL_V, .rw, 0, .any⟩]⟩,
  ⟨0xF00A0104, [(4, 0x1000), (8, 0x10), (4, 0x3)],
    [⟨F.MACSEC_Iu_RXSCc_SAa_KEY_SLOT, .rw, 0, .any⟩,
     ⟨F.MACSEC_Iu_RXSCc_SAa_KEY_V, .rw, 0, .any⟩]⟩]
def regsB10_1 : List RSpec := [
  ⟨0xF00A0105, [(4, 0x1000), (8, 0x10), (4, 0x3)],
    [⟨F.MACSEC_Iu_RXSCc_SAa_PN_LOWEST_PN, .rw, 1, .any⟩]⟩,
  ⟨0xF00A0106, [(4, 0x1000), (8, 0x10), (4, 0x3)],
    [⟨F.MACSEC_Iu_RXSCc_SAa_SSCI_SSCI, .rw, 0, .any⟩]⟩,
  ⟨0xF00A0200, [(4, 0x1000), (7, 0x1)],
    [⟨F.MACSEC_Iu_CNT_COUNT, .ro, 0, .any⟩]⟩,
  ⟨0xF00A020F, [(4, 0x1000)],
    [⟨F.MACSEC_Iu_CNTCLR_CLR, .wo, 0, .any⟩]⟩]
def regsB10 : List RSpec := regsB10_0 ++ regsB10_1
/-- The registers of MMIO block 11. -/
def regsB11_0 : List RSpec := [
  ⟨0xF00B0000, [(16, 0x1000)],
    [⟨F.CANn_CTL_EN, .rw, 0, .any⟩,
     ⟨F.CANn_CTL_MODE, .rw, 0, .rsv 3 3⟩,
     ⟨F.CANn_CTL_MONITOR, .rw, 0, .any⟩,
     ⟨F.CANn_CTL_RESTRICT, .rw, 0, .any⟩,
     ⟨F.CANn_CTL_LOOP, .rw, 0, .any⟩,
     ⟨F.CANn_CTL_PXHD, .rw, 0, .any⟩,
     ⟨F.CANn_CTL_BO_AUTO, .rw, 1, .any⟩,
     ⟨F.CANn_CTL_TMS, .rw, 0, .any⟩,
     ⟨F.CANn_CTL_NOACK_LIMIT, .rw, 0x20, .any⟩,
     ⟨F.CANn_CTL_NOACK_STOP, .rw, 0, .any⟩]⟩,
  ⟨0xF00B0001, [(16, 0x1000)],
    [⟨F.CANn_NBT_BRP, .rw, 0, .any⟩,
     ⟨F.CANn_NBT_TSEG1, .rw, 0x3E, .rng 1 255⟩,
     ⟨F.CANn_NBT_TSEG2, .rw, 0xF, .any⟩,
     ⟨F.CANn_NBT_SJW, .rw, 0xF, .any⟩]⟩,
  ⟨0xF00B0002, [(16, 0x1000)],
    [⟨F.CANn_DBT_BRP, .rw, 0, .any⟩,
     ⟨F.CANn_DBT_TSEG1, .rw, 0xE, .any⟩,
     ⟨F.CANn_DBT_TSEG2, .rw, 3, .any⟩,
     ⟨F.CANn_DBT_SJW, .rw, 3, .any⟩,
     ⟨F.CANn_DBT_TDC_EN, .rw, 0, .any⟩,
     ⟨F.CANn_DBT_TDCO, .rw, 0, .any⟩]⟩,
  ⟨0xF00B0003, [(16, 0x1000)],
    [⟨F.CANn_XBT_BRP, .rw, 0, .any⟩,
     ⟨F.CANn_XBT_TSEG1, .rw, 0xE, .any⟩,
     ⟨F.CANn_XBT_TSEG2, .rw, 3, .any⟩,
     ⟨F.CANn_XBT_SJW, .rw, 3, .any⟩,
     ⟨F.CANn_XBT_TDC_EN, .rw, 0, .any⟩,
     ⟨F.CANn_XBT_TDCO, .rw, 0, .any⟩]⟩,
  ⟨0xF00B0004, [(16, 0x1000)],
    [⟨F.CANn_ERR_TEC, .ro, 0, .any⟩,
     ⟨F.CANn_ERR_REC, .ro, 0, .any⟩,
     ⟨F.CANn_ERR_STATE, .ro, 0, .any⟩,
     ⟨F.CANn_ERR_NOACK, .ro, 0, .any⟩,
     ⟨F.CANn_ERR_LEC, .ro, 0, .any⟩,
     ⟨F.CANn_ERR_LOOPDLY, .ro, 0, .any⟩]⟩,
  ⟨0xF00B0005, [(16, 0x1000)],
    [⟨F.CANn_BORST_RESTART, .wo, 0, .any⟩,
     ⟨F.CANn_BORST_RESUME, .wo, 0, .any⟩]⟩,
  ⟨0xF00B0006, [(16, 0x1000)],
    [⟨F.CANn_TUN_EN, .rw, 0, .any⟩,
     ⟨F.CANn_TUN_CTX, .rw, 0, .any⟩,
     ⟨F.CANn_TUN_DEC_EN, .rw, 0, .any⟩,
     ⟨F.CANn_TUN_TQ_DEPTH, .ro, 0, .any⟩]⟩,
  ⟨0xF00B0010, [(16, 0x1000), (11, 0x1)],
    [⟨F.CANn_CNT_COUNT, .ro, 0, .any⟩]⟩,
  ⟨0xF00B001E, [(16, 0x1000)],
    [⟨F.CANn_CNTCLR_CLR, .wo, 0, .any⟩]⟩,
  ⟨0xF00B001F, [(16, 0x1000)],
    [⟨F.CANn_OWN_OWNER, .rw, 0, .any⟩,
     ⟨F.CANn_OWN_V, .rw, 0, .any⟩,
     ⟨F.CANn_OWN_ABSENT, .ro, 0, .any⟩]⟩]
def regsB11_1 : List RSpec := [
  ⟨0xF00B0020, [(16, 0x1000), (16, 0x1)],
    [⟨F.CANn_MBGg_OWN_OWNER, .rw, 0, .any⟩,
     ⟨F.CANn_MBGg_OWN_V, .rw, 0, .any⟩,
     ⟨F.CANn_MBGg_OWN_ABSENT, .ro, 0, .any⟩]⟩,
  ⟨0xF00B0040, [(16, 0x1000), (256, 0x4)],
    [⟨F.CANn_MBb_CFG_EN, .rw, 0, .any⟩,
     ⟨F.CANn_MBb_CFG_DIR, .rw, 0, .any⟩,
     ⟨F.CANn_MBb_CFG_LAYOUT8, .rw, 0, .any⟩,
     ⟨F.CANn_MBb_CFG_DPTR, .rw, 0, .rng 0 3007⟩,
     ⟨F.CANn_MBb_CFG_DSIZE, .rw, 0, .rng 0 256⟩,
     ⟨F.CANn_MBb_CFG_NOTIFY, .rw, 0, .any⟩,
     ⟨F.CANn_MBb_CFG_STORE, .rw, 0, .any⟩,
     ⟨F.CANn_MBb_CFG_TUN, .rw, 0, .any⟩,
     ⟨F.CANn_MBb_CFG_TXLEN, .rw, 0, .rng 0 2048⟩,
     ⟨F.CANn_MBb_CFG_SINGLE, .rw, 0, .any⟩]⟩,
  ⟨0xF00B0041, [(16, 0x1000), (256, 0x4)],
    [⟨F.CANn_MBb_ID_ID, .rw, 0, .any⟩,
     ⟨F.CANn_MBb_ID_IDE, .rw, 0, .any⟩,
     ⟨F.CANn_MBb_ID_RTR, .rw, 0, .any⟩,
     ⟨F.CANn_MBb_ID_FDF, .rw, 0, .any⟩,
     ⟨F.CANn_MBb_ID_BRS, .rw, 0, .any⟩,
     ⟨F.CANn_MBb_ID_ESI, .ro, 0, .any⟩,
     ⟨F.CANn_MBb_ID_XLF, .rw, 0, .any⟩,
     ⟨F.CANn_MBb_ID_SEC, .rw, 0, .any⟩,
     ⟨F.CANn_MBb_ID_SDT, .rw, 0, .any⟩,
     ⟨F.CANn_MBb_ID_VCID, .rw, 0, .any⟩]⟩,
  ⟨0xF00B0042, [(16, 0x1000), (256, 0x4)],
    [⟨F.CANn_MBb_AUX_MASK, .rw, 0, .any⟩,
     ⟨F.CANn_MBb_AUX_ESC_ID, .rw, 0, .any⟩,
     ⟨F.CANn_MBb_AUX_ESC_EN, .rw, 0, .any⟩,
     ⟨F.CANn_MBb_AUX_DEADLINE, .rw, 0, .any⟩]⟩,
  ⟨0xF00B0043, [(16, 0x1000), (256, 0x4)],
    [⟨F.CANn_MBb_STAT_ND, .w1c, 0, .any⟩,
     ⟨F.CANn_MBb_STAT_UPD, .ro, 0, .any⟩,
     ⟨F.CANn_MBb_STAT_LOST, .w1c, 0, .any⟩,
     ⟨F.CANn_MBb_STAT_TXREQ, .w1s, 0, .any⟩,
     ⟨F.CANn_MBb_STAT_ABORT, .wo, 0, .any⟩,
     ⟨F.CANn_MBb_STAT_TXOK, .w1c, 0, .any⟩,
     ⟨F.CANn_MBb_STAT_ESCALATED, .w1c, 0, .any⟩,
     ⟨F.CANn_MBb_STAT_TXFAIL, .w1c, 0, .any⟩,
     ⟨F.CANn_MBb_STAT_LEN, .ro, 0, .any⟩,
     ⟨F.CANn_MBb_STAT_SEQ, .ro, 0, .any⟩,
     ⟨F.CANn_MBb_STAT_STAMP, .ro, 0, .any⟩]⟩]
def regsB11 : List RSpec := regsB11_0 ++ regsB11_1
/-- The registers of MMIO block 12. -/
def regsB12_0 : List RSpec := [
  ⟨0xF00C0000, [(8, 0x400)],
    [⟨F.LINm_CTL_EN, .rw, 0, .any⟩,
     ⟨F.LINm_CTL_ROLE, .rw, 0, .any⟩,
     ⟨F.LINm_CTL_AUTOBAUD, .rw, 0, .any⟩,
     ⟨F.LINm_CTL_BREAK, .rw, 0xD, .rng 13 26⟩,
     ⟨F.LINm_CTL_IDLE_TMO, .rw, 0, .any⟩,
     ⟨F.LINm_CTL_TUN_CTX, .rw, 0, .any⟩,
     ⟨F.LINm_CTL_TUN_EN, .rw, 0, .any⟩,
     ⟨F.LINm_CTL_DEC_EN, .rw, 0, .any⟩]⟩,
  ⟨0xF00C0001, [(8, 0x400)],
    [⟨F.LINm_BAUD_DIV, .rw, 0x82, .any⟩,
     ⟨F.LINm_BAUD_FRAC, .rw, 3, .any⟩]⟩,
  ⟨0xF00C0002, [(8, 0x400)],
    [⟨F.LINm_SCHED_RUN, .rw, 0, .any⟩,
     ⟨F.LINm_SCHED_START, .rw, 0, .any⟩,
     ⟨F.LINm_SCHED_NEXT, .rw, 0, .any⟩,
     ⟨F.LINm_SCHED_SWITCH, .wo, 0, .any⟩,
     ⟨F.LINm_SCHED_CUR, .ro, 0, .any⟩]⟩,
  ⟨0xF00C0003, [(8, 0x400)],
    [⟨F.LINm_STAT_LEC, .ro, 0, .any⟩,
     ⟨F.LINm_STAT_MEAS, .ro, 0, .any⟩]⟩,
  ⟨0xF00C0010, [(8, 0x400), (6, 0x1)],
    [⟨F.LINm_CNT_COUNT, .ro, 0, .any⟩]⟩,
  ⟨0xF00C001E, [(8, 0x400)],
    [⟨F.LINm_CNTCLR_CLR, .wo, 0, .any⟩]⟩,
  ⟨0xF00C001F, [(8, 0x400)],
    [⟨F.LINm_OWN_OWNER, .rw, 0, .any⟩,
     ⟨F.LINm_OWN_V, .rw, 0, .any⟩,
     ⟨F.LINm_OWN_ABSENT, .ro, 0, .any⟩]⟩,
  ⟨0xF00C0040, [(8, 0x400), (64, 0x2)],
    [⟨F.LINm_FRi_CFG_EN, .rw, 0, .any⟩,
     ⟨F.LINm_FRi_CFG_DIR, .rw, 0, .rsv 3 3⟩,
     ⟨F.LINm_FRi_CFG_LEN, .rw, 0, .any⟩,
     ⟨F.LINm_FRi_CFG_CHK, .rw, 0, .any⟩,
     ⟨F.LINm_FRi_CFG_ND, .w1c, 0, .any⟩,
     ⟨F.LINm_FRi_CFG_UPD, .ro, 0, .any⟩,
     ⟨F.LINm_FRi_CFG_LOST, .w1c, 0, .any⟩,
     ⟨F.LINm_FRi_CFG_NOTIFY, .rw, 0, .any⟩,
     ⟨F.LINm_FRi_CFG_STORE, .rw, 0, .any⟩,
     ⟨F.LINm_FRi_CFG_TUN, .rw, 0, .any⟩,
     ⟨F.LINm_FRi_CFG_SEQ, .ro, 0, .any⟩,
     ⟨F.LINm_FRi_CFG_STAMP, .ro, 0, .any⟩]⟩,
  ⟨0xF00C0041, [(8, 0x400), (64, 0x2)],
    [⟨F.LINm_FRi_DATA_DATA, .rw, 0, .any⟩]⟩,
  ⟨0xF00C0100, [(8, 0x400), (64, 0x1)],
    [⟨F.LINm_SCHe_ID, .rw, 0, .any⟩,
     ⟨F.LINm_SCHe_TYPE, .rw, 0, .any⟩,
     ⟨F.LINm_SCHe_SLOT, .rw, 0, .any⟩,
     ⟨F.LINm_SCHe_ID2, .rw, 0, .any⟩,
     ⟨F.LINm_SCHe_ID3, .rw, 0, .any⟩]⟩]
def regsB12 : List RSpec := regsB12_0
/-- The registers of MMIO block 13. -/
def regsB13_0 : List RSpec := [
  ⟨0xF00D0000, [],
    [⟨F.NM_CTL_EN, .rw, 0, .any⟩,
     ⟨F.NM_CTL_ETYPE, .rw, 0x88B5, .any⟩]⟩,
  ⟨0xF00D0001, [],
    [⟨F.NM_TOKEN_DA_DA, .rw, 0, .any⟩]⟩,
  ⟨0xF00D0002, [],
    [⟨F.NM_TOKEN_SA_SA, .rw, 0, .any⟩]⟩,
  ⟨0xF00D0003, [],
    [⟨F.NM_CNTCLR_CLR, .wo, 0, .any⟩]⟩,
  ⟨0xF00D0100, [(36, 0x2)],
    [⟨F.NM_SEGs_CFG_MEMBER, .rw, 0, .any⟩,
     ⟨F.NM_SEGs_CFG_WING, .rw, 0, .any⟩,
     ⟨F.NM_SEGs_CFG_RING, .ro, 0, .any⟩,
     ⟨F.NM_SEGs_CFG_MEMBERS, .rw, 1, .any⟩,
     ⟨F.NM_SEGs_CFG_TOKEN_BASE, .rw, 0, .any⟩,
     ⟨F.NM_SEGs_CFG_STB_EN, .rw, 0, .any⟩,
     ⟨F.NM_SEGs_CFG_STB_PIN, .rw, 0, .rng 0 47⟩,
     ⟨F.NM_SEGs_CFG_STB_POL, .rw, 0, .any⟩]⟩,
  ⟨0xF00D0101, [(36, 0x2)],
    [⟨F.NM_SEGs_STAT_CONSENT, .ro, 0, .any⟩,
     ⟨F.NM_SEGs_STAT_LAST_NODE, .ro, 0, .any⟩,
     ⟨F.NM_SEGs_STAT_UP, .ro, 0, .any⟩,
     ⟨F.NM_SEGs_STAT_RING_ERR, .ro, 0, .any⟩,
     ⟨F.NM_SEGs_STAT_ISOLATED, .ro, 0, .any⟩]⟩,
  ⟨0xF00D0200, [(16, 0x10)],
    [⟨F.NM_WINGw_CFG_EN, .rw, 0, .any⟩,
     ⟨F.NM_WINGw_CFG_WINDOW, .rw, 0x96, .rng 1 65535⟩,
     ⟨F.NM_WINGw_CFG_MIN_AWAKE, .rw, 0x3E8, .any⟩,
     ⟨F.NM_WINGw_CFG_MAX_AWAKE, .rw, 0, .any⟩,
     ⟨F.NM_WINGw_CFG_HOP_TMO, .rw, 0x14, .rng 1 255⟩]⟩,
  ⟨0xF00D0201, [(16, 0x10)],
    [⟨F.NM_WINGw_TIME_RETRY, .rw, 0x3E8, .any⟩,
     ⟨F.NM_WINGw_TIME_WAKE_TMO, .rw, 0xC8, .any⟩]⟩,
  ⟨0xF00D0202, [(16, 0x10)],
    [⟨F.NM_WINGw_WMASK_MASK, .rw, 0, .any⟩]⟩,
  ⟨0xF00D0203, [(16, 0x10)],
    [⟨F.NM_WINGw_OVRMASK_MASK, .rw, 0xFFFF000000000FF, .any⟩]⟩]
def regsB13_1 : List RSpec := [
  ⟨0xF00D0204, [(16, 0x10)],
    [⟨F.NM_WINGw_CTL_READY, .rw, 0, .any⟩,
     ⟨F.NM_WINGw_CTL_WAKE, .wo, 0, .any⟩]⟩,
  ⟨0xF00D0205, [(16, 0x10)],
    [⟨F.NM_WINGw_STAT_STATE, .ro, 0, .any⟩,
     ⟨F.NM_WINGw_STAT_CAUSE, .ro, 0, .any⟩,
     ⟨F.NM_WINGw_STAT_OVERRULED, .ro, 0, .any⟩,
     ⟨F.NM_WINGw_STAT_ROUND, .ro, 0, .any⟩]⟩,
  ⟨0xF00D0206, [(16, 0x10)],
    [⟨F.NM_WINGw_CNT_ROUNDS, .ro, 0, .any⟩,
     ⟨F.NM_WINGw_CNT_FAILED, .ro, 0, .any⟩,
     ⟨F.NM_WINGw_CNT_OVERRULES, .ro, 0, .any⟩,
     ⟨F.NM_WINGw_CNT_CANCELLED, .ro, 0, .any⟩]⟩,
  ⟨0xF00D0207, [(16, 0x10)],
    [⟨F.NM_WINGw_LOCKUP_STAMP, .ro, 0, .any⟩]⟩,
  ⟨0xF00D0208, [(16, 0x10)],
    [⟨F.NM_WINGw_OWN_OWNER, .rw, 0, .any⟩,
     ⟨F.NM_WINGw_OWN_V, .rw, 0, .any⟩,
     ⟨F.NM_WINGw_OWN_ABSENT, .ro, 0, .any⟩]⟩,
  ⟨0xF00D0209, [(16, 0x10)],
    [⟨F.NM_WINGw_SEGLATE_SEGS, .w1c, 0, .any⟩]⟩,
  ⟨0xF00D0400, [(16, 0x20), (16, 0x2)],
    [⟨F.NM_WINGw_WTe_A_V, .rw, 0, .any⟩,
     ⟨F.NM_WINGw_WTe_A_KIND, .rw, 0, .rsv 3 3⟩,
     ⟨F.NM_WINGw_WTe_A_SEG, .rw, 0, .any⟩,
     ⟨F.NM_WINGw_WTe_A_ID, .rw, 0, .any⟩,
     ⟨F.NM_WINGw_WTe_A_IDE, .rw, 0, .any⟩]⟩,
  ⟨0xF00D0401, [(16, 0x20), (16, 0x2)],
    [⟨F.NM_WINGw_WTe_B_DA, .rw, 0, .any⟩,
     ⟨F.NM_WINGw_WTe_B_VID, .rw, 0, .any⟩]⟩,
  ⟨0xF00D0800, [(16, 0x4)],
    [⟨F.NM_SWn_CFG_EN, .rw, 0, .any⟩,
     ⟨F.NM_SWn_CFG_RATE, .rw, 2, .any⟩,
     ⟨F.NM_SWn_CFG_DLC, .rw, 0, .rng 0 8⟩,
     ⟨F.NM_SWn_CFG_DATA_EN, .rw, 0, .any⟩,
     ⟨F.NM_SWn_CFG_IDE, .rw, 0, .any⟩]⟩,
  ⟨0xF00D0801, [(16, 0x4)],
    [⟨F.NM_SWn_ID_ID, .rw, 0, .any⟩,
     ⟨F.NM_SWn_ID_MASK, .rw, 0, .any⟩]⟩]
def regsB13_2 : List RSpec := [
  ⟨0xF00D0802, [(16, 0x4)],
    [⟨F.NM_SWn_DATA_DATA, .rw, 0, .any⟩]⟩,
  ⟨0xF00D0803, [(16, 0x4)],
    [⟨F.NM_SWn_STAT_FDC, .ro, 0, .any⟩,
     ⟨F.NM_SWn_STAT_ERR_WAKE, .w1c, 0, .any⟩,
     ⟨F.NM_SWn_STAT_MATCH, .w1c, 0, .any⟩,
     ⟨F.NM_SWn_STAT_MATCHES, .ro, 0, .any⟩]⟩]
def regsB13 : List RSpec := regsB13_0 ++ regsB13_1 ++ regsB13_2
/-- The registers of MMIO block 14. -/
def regsB14_0 : List RSpec := [
  ⟨0xF00E0000, [],
    [⟨F.LOAD_CTL_ZGND_FITTED, .rw, 0, .any⟩,
     ⟨F.LOAD_CTL_AGG_EN, .rw, 1, .any⟩,
     ⟨F.LOAD_CTL_DIE_WARN, .rw, 0x8C, .any⟩]⟩,
  ⟨0xF00E0001, [],
    [⟨F.LOAD_STAT_UV12, .ro, 0, .any⟩,
     ⟨F.LOAD_STAT_UVG, .ro, 0, .any⟩,
     ⟨F.LOAD_STAT_OV12, .ro, 0, .any⟩,
     ⟨F.LOAD_STAT_OVG, .ro, 0, .any⟩,
     ⟨F.LOAD_STAT_GNDLOSS, .ro, 0, .any⟩,
     ⟨F.LOAD_STAT_ABSENT, .ro, 0, .any⟩,
     ⟨F.LOAD_STAT_EVLOST, .ro, 0, .any⟩]⟩,
  ⟨0xF00E0002, [],
    [⟨F.LOAD_SUPPLY_VBAT12, .ro, 0, .any⟩,
     ⟨F.LOAD_SUPPLY_VBATG, .ro, 0, .any⟩]⟩,
  ⟨0xF00E0003, [],
    [⟨F.LOAD_TEMP_DIE, .ro, 0, .any⟩,
     ⟨F.LOAD_TEMP_TS0, .ro, 0, .any⟩,
     ⟨F.LOAD_TEMP_TS1, .ro, 0, .any⟩,
     ⟨F.LOAD_TEMP_TS2, .ro, 0, .any⟩]⟩,
  ⟨0xF00E0004, [(3, 0x1)],
    [⟨F.LOAD_TSg_TS_EN, .rw, 0, .any⟩,
     ⟨F.LOAD_TSg_BETA, .rw, 0xD6B, .any⟩,
     ⟨F.LOAD_TSg_NOM_RES, .rw, 0x2710, .any⟩]⟩,
  ⟨0xF00E0008, [],
    [⟨F.LOAD_AGG_SUM, .ro, 0, .any⟩]⟩,
  ⟨0xF00E0010, [(16, 0x1)],
    [⟨F.LOAD_HVINi_LEVEL, .ro, 0, .any⟩,
     ⟨F.LOAD_HVINi_WAKE_TH, .rw, 0x258, .any⟩,
     ⟨F.LOAD_HVINi_WAKE_EDGE, .rw, 0, .rsv 3 3⟩,
     ⟨F.LOAD_HVINi_WAKE_EN, .rw, 0, .any⟩]⟩,
  ⟨0xF00E0100, [(32, 0x10)],
    [⟨F.LOAD_PROFp_CFG_TYPE, .rw, 0, .rsv 7 7⟩,
     ⟨F.LOAD_PROFp_CFG_BLANK, .rw, 0, .rng 1 1023⟩,
     ⟨F.LOAD_PROFp_CFG_STEADY, .rw, 0, .any⟩,
     ⟨F.LOAD_PROFp_CFG_SC_LIM, .rw, 0, .any⟩,
     ⟨F.LOAD_PROFp_CFG_OC_FILT, .rw, 0, .rng 1 127⟩]⟩,
  ⟨0xF00E0101, [(32, 0x10), (8, 0x1)],
    [⟨F.LOAD_PROFp_ENVk_T_END, .rw, 0, .any⟩,
     ⟨F.LOAD_PROFp_ENVk_LIMIT, .rw, 0, .any⟩]⟩,
  ⟨0xF00E0109, [(32, 0x10)],
    [⟨F.LOAD_PROFp_WIRE_K, .rw, 0x190, .any⟩,
     ⟨F.LOAD_PROFp_WIRE_TAU, .rw, 0x7530, .any⟩,
     ⟨F.LOAD_PROFp_WIRE_T_MAX, .rw, 0x7D, .rng 1 250⟩,
     ⟨F.LOAD_PROFp_WIRE_T_AMB, .rw, 0x55, .any⟩,
     ⟨F.LOAD_PROFp_WIRE_HYST, .rw, 0xA, .any⟩]⟩]
def regsB14_1 : List RSpec := [
  ⟨0xF00E010A, [(32, 0x10)],
    [⟨F.LOAD_PROFp_CLAMP_E_MAX, .rw, 0, .any⟩,
     ⟨F.LOAD_PROFp_CLAMP_E_MIN, .rw, 0, .any⟩,
     ⟨F.LOAD_PROFp_CLAMP_E_REL, .rw, 0, .any⟩]⟩,
  ⟨0xF00E010B, [(32, 0x10)],
    [⟨F.LOAD_PROFp_RECOV_RECOV, .rw, 0, .any⟩]⟩,
  ⟨0xF00E010C, [(32, 0x10)],
    [⟨F.LOAD_PROFp_OL_OL_ON, .rw, 0, .any⟩,
     ⟨F.LOAD_PROFp_OL_OL_T, .rw, 0, .any⟩]⟩,
  ⟨0xF00E010D, [(32, 0x10)],
    [⟨F.LOAD_PROFp_RETRY_RETRY_MAX, .rw, 0, .any⟩,
     ⟨F.LOAD_PROFp_RETRY_BACKOFF, .rw, 0, .any⟩,
     ⟨F.LOAD_PROFp_RETRY_CLEAN, .rw, 0, .any⟩]⟩,
  ⟨0xF00E1000, [(32, 0x10)],
    [⟨F.LOAD_CHc_PROF_PROF, .rw, 6, .any⟩,
     ⟨F.LOAD_CHc_PROF_EN, .rw, 0, .any⟩,
     ⟨F.LOAD_CHc_PROF_SLIP_EN, .rw, 0, .any⟩,
     ⟨F.LOAD_CHc_PROF_TWIN_EN, .rw, 0, .any⟩,
     ⟨F.LOAD_CHc_PROF_SAFE, .rw, 0, .rsv 3 3⟩,
     ⟨F.LOAD_CHc_PROF_SAFE_DUTY, .rw, 0, .any⟩,
     ⟨F.LOAD_CHc_PROF_LEASE, .rw, 0, .rsv 3 3⟩,
     ⟨F.LOAD_CHc_PROF_LEASE_MS, .rw, 0x64, .rng 10 500⟩,
     ⟨F.LOAD_CHc_PROF_OWNABS, .rw, 0, .any⟩,
     ⟨F.LOAD_CHc_PROF_OV_DISC, .rw, 0, .any⟩,
     ⟨F.LOAD_CHc_PROF_SHED, .rw, 0, .any⟩,
     ⟨F.LOAD_CHc_PROF_OL_OFF, .rw, 0, .any⟩]⟩,
  ⟨0xF00E1001, [(32, 0x10)],
    [⟨F.LOAD_CHc_ELEC_RSHUNT, .rw, 0x3E8, .any⟩,
     ⟨F.LOAD_CHc_ELEC_SLEW, .rw, 7, .any⟩,
     ⟨F.LOAD_CHc_ELEC_DESAT_V, .rw, 0x14, .any⟩,
     ⟨F.LOAD_CHc_ELEC_V_CLAMP, .rw, 0x28, .rng 16 75⟩,
     ⟨F.LOAD_CHc_ELEC_BTB, .rw, 0, .any⟩]⟩,
  ⟨0xF00E1002, [(32, 0x10)],
    [⟨F.LOAD_CHc_CMD_MODE, .rw, 0, .rsv 3 3⟩,
     ⟨F.LOAD_CHc_CMD_DUTY, .rw, 0, .any⟩,
     ⟨F.LOAD_CHc_CMD_ORIGIN, .ro, 0, .any⟩]⟩,
  ⟨0xF00E1003, [(32, 0x10)],
    [⟨F.LOAD_CHc_PWM_PERIOD, .rw, 0xF4240, .any⟩,
     ⟨F.LOAD_CHc_PWM_PHASE, .rw, 0, .any⟩,
     ⟨F.LOAD_CHc_PWM_AUTO_PH, .rw, 0, .any⟩]⟩,
  ⟨0xF00E1004, [(32, 0x10)],
    [⟨F.LOAD_CHc_STAT_OUT, .ro, 0, .any⟩,
     ⟨F.LOAD_CHc_STAT_DEMAND, .ro, 0, .any⟩,
     ⟨F.LOAD_CHc_STAT_DSRC, .ro, 4, .any⟩,
     ⟨F.LOAD_CHc_STAT_HOLDBY, .ro, 1, .any⟩,
     ⟨F.LOAD_CHc_STAT_ATTEMPTS, .ro, 0, .any⟩,
     ⟨F.LOAD_CHc_STAT_EXHAUSTED, .ro, 0, .any⟩,
     ⟨F.LOAD_CHc_STAT_THERM, .ro, 0, .any⟩,
     ⟨F.LOAD_CHc_STAT_LOCK, .ro, 0, .any⟩,
     ⟨F.LOAD_CHc_STAT_OL_ON, .ro, 0, .any⟩,
     ⟨F.LOAD_CHc_STAT_OL_OFF, .ro, 0, .any⟩,
     ⟨F.LOAD_CHc_STAT_REVCUR, .ro, 0, .any⟩,
     ⟨F.LOAD_CHc_STAT_EXT_DRIVEN, .ro, 0, .any⟩,
     ⟨F.LOAD_CHc_STAT_RESTART_PENDING, .ro, 0, .any⟩]⟩,
  ⟨0xF00E1005, [(32, 0x10)],
    [⟨F.LOAD_CHc_TRIP_SC, .w1c, 0, .any⟩,
     ⟨F.LOAD_CHc_TRIP_OC, .w1c, 0, .any⟩,
     ⟨F.LOAD_CHc_TRIP_DESAT, .w1c, 0, .any⟩,
     ⟨F.LOAD_CHc_TRIP_WIRE, .w1c, 0, .any⟩,
     ⟨F.LOAD_CHc_TRIP_THERM, .w1c, 0, .any⟩,
     ⟨F.LOAD_CHc_TRIP_LOCK, .w1c, 0, .any⟩,
     ⟨F.LOAD_CHc_TRIP_SHED, .w1c, 0, .any⟩,
     ⟨F.LOAD_CHc_TRIP_SUPPLY, .w1c, 0, .any⟩,
     ⟨F.LOAD_CHc_TRIP_TILE, .w1c, 0, .any⟩,
     ⟨F.LOAD_CHc_TRIP_REARM, .wo, 0, .any⟩]⟩]
def regsB14_2 : List RSpec := [
  ⟨0xF00E1006, [(32, 0x10)],
    [⟨F.LOAD_CHc_I_I_NOW, .ro, 0, .any⟩,
     ⟨F.LOAD_CHc_I_I_MEAN, .ro, 0, .any⟩,
     ⟨F.LOAD_CHc_I_I_TRIP, .ro, 0, .any⟩]⟩,
  ⟨0xF00E1007, [(32, 0x10)],
    [⟨F.LOAD_CHc_V_V_OUT, .ro, 0, .any⟩,
     ⟨F.LOAD_CHc_V_T_CH, .ro, 0, .any⟩]⟩,
  ⟨0xF00E1008, [(32, 0x10)],
    [⟨F.LOAD_CHc_WIRE_T_W, .ro, 0, .any⟩]⟩,
  ⟨0xF00E1009, [(32, 0x10)],
    [⟨F.LOAD_CHc_CLAMP_BUDGET, .ro, 0, .any⟩,
     ⟨F.LOAD_CHc_CLAMP_LAST_E, .ro, 0, .any⟩]⟩,
  ⟨0xF00E100A, [(32, 0x10)],
    [⟨F.LOAD_CHc_CNT_TRIPS, .ro, 0, .any⟩,
     ⟨F.LOAD_CHc_CNT_REFUSED, .ro, 0, .any⟩,
     ⟨F.LOAD_CHc_CNT_STARTS, .ro, 0, .any⟩]⟩,
  ⟨0xF00E100B, [(32, 0x10)],
    [⟨F.LOAD_CHc_CNTCLR_CLR, .wo, 0, .any⟩]⟩,
  ⟨0xF00E100C, [(32, 0x10)],
    [⟨F.LOAD_CHc_OWN_OWNER, .rw, 0, .any⟩,
     ⟨F.LOAD_CHc_OWN_V, .rw, 0, .any⟩,
     ⟨F.LOAD_CHc_OWN_ABSENT, .ro, 0, .any⟩]⟩]
def regsB14 : List RSpec := regsB14_0 ++ regsB14_1 ++ regsB14_2
/-- The registers of MMIO block 15. -/
def regsB15_0 : List RSpec := [
  ⟨0xF00F0000, [],
    [⟨F.EXEC_RESERVE_PAIR, .rw, 7, .rng 1 7⟩,
     ⟨F.EXEC_RESERVE_EN, .rw, 0, .any⟩,
     ⟨F.EXEC_RESERVE_USED, .ro, 0, .any⟩,
     ⟨F.EXEC_RESERVE_REPLACED, .ro, 0, .any⟩]⟩,
  ⟨0xF00F0001, [],
    [⟨F.EXEC_INJ_PASSED, .ro, 0, .any⟩,
     ⟨F.EXEC_INJ_FAILED, .ro, 0, .any⟩]⟩,
  ⟨0xF00F0010, [(8, 0x1)],
    [⟨F.EXEC_NORESUMEk_CARRELS, .rw, 0, .any⟩]⟩,
  ⟨0xF00F0100, [(8, 0x20)],
    [⟨F.EXEC_Pp_CTL_RELEASE, .wo, 0, .any⟩,
     ⟨F.EXEC_Pp_CTL_SPLIT, .rw, 0, .any⟩,
     ⟨F.EXEC_Pp_CTL_RESET, .wo, 0, .any⟩]⟩,
  ⟨0xF00F0101, [(8, 0x20)],
    [⟨F.EXEC_Pp_STAT_STATE, .ro, 0, .any⟩,
     ⟨F.EXEC_Pp_STAT_SPLIT, .ro, 0, .any⟩,
     ⟨F.EXEC_Pp_STAT_BROKEN, .ro, 0, .any⟩,
     ⟨F.EXEC_Pp_STAT_RELEASED, .ro, 0, .any⟩]⟩,
  ⟨0xF00F0102, [(8, 0x20)],
    [⟨F.EXEC_Pp_FAULT_KIND, .ro, 0, .any⟩,
     ⟨F.EXEC_Pp_FAULT_COMP, .ro, 0, .any⟩,
     ⟨F.EXEC_Pp_FAULT_LEDGER, .ro, 0, .any⟩,
     ⟨F.EXEC_Pp_FAULT_SLICE, .ro, 0, .any⟩,
     ⟨F.EXEC_Pp_FAULT_COMMIT, .ro, 0, .any⟩]⟩,
  ⟨0xF00F0103, [(8, 0x20)],
    [⟨F.EXEC_Pp_FPC_PC, .ro, 0, .any⟩,
     ⟨F.EXEC_Pp_FPC_CARREL, .ro, 0, .any⟩]⟩,
  ⟨0xF00F0104, [(8, 0x20)],
    [⟨F.EXEC_Pp_COMMITS_INDEX, .ro, 0, .any⟩]⟩,
  ⟨0xF00F0105, [(8, 0x20)],
    [⟨F.EXEC_Pp_DIGEST_DIGEST, .ro, 0, .any⟩]⟩,
  ⟨0xF00F0106, [(8, 0x20)],
    [⟨F.EXEC_Pp_DIGCNT_COUNT, .ro, 0, .any⟩]⟩]
def regsB15 : List RSpec := regsB15_0
/-- The registers of MMIO block 16. -/
def regsB16_0 : List RSpec := [
  ⟨0xF0100000, [],
    [⟨F.CARREL_STAT_NUSED, .ro, 0x400, .any⟩]⟩,
  ⟨0xF0100010, [],
    [⟨F.CARREL_RC_MAC_MAC, .rw, 0, .any⟩]⟩,
  ⟨0xF0100011, [],
    [⟨F.CARREL_RC_IP4_ADDR, .rw, 0, .any⟩]⟩,
  ⟨0xF0100012, [],
    [⟨F.CARREL_RC_IP6_HI_ADDR, .rw, 0, .any⟩]⟩,
  ⟨0xF0100013, [],
    [⟨F.CARREL_RC_IP6_LO_ADDR, .rw, 0, .any⟩]⟩,
  ⟨0xF0100018, [],
    [⟨F.CARREL_RC_CNT_UNMATCHED, .ro, 0, .any⟩,
     ⟨F.CARREL_RC_CNT_MALFORMED, .ro, 0, .any⟩]⟩,
  ⟨0xF0100019, [],
    [⟨F.CARREL_RC_CNT2_OVERFLOW, .ro, 0, .any⟩,
     ⟨F.CARREL_RC_CNT2_SERVED, .ro, 0, .any⟩]⟩,
  ⟨0xF010001F, [],
    [⟨F.CARREL_RC_CNTCLR_CLR, .wo, 0, .any⟩]⟩,
  ⟨0xF0100100, [(8, 0x10), (2, 0x8)],
    [⟨F.CARREL_Pp_TTk_CTL_EN, .rw, 0, .any⟩,
     ⟨F.CARREL_Pp_TTk_CTL_FIRST, .rw, 0, .any⟩,
     ⟨F.CARREL_Pp_TTk_CTL_LEN, .rw, 0, .rng 1 1024⟩,
     ⟨F.CARREL_Pp_TTk_CTL_CYCLE, .rw, 0, .any⟩]⟩,
  ⟨0xF0100101, [(8, 0x10), (2, 0x8)],
    [⟨F.CARREL_Pp_TTk_BASE_BASE, .rw, 0, .any⟩]⟩]
def regsB16_1 : List RSpec := [
  ⟨0xF0100102, [(8, 0x10), (2, 0x8)],
    [⟨F.CARREL_Pp_TTk_NEXT_CHANGE, .wo, 0, .any⟩,
     ⟨F.CARREL_Pp_TTk_NEXT_FIRST, .rw, 0, .any⟩,
     ⟨F.CARREL_Pp_TTk_NEXT_LEN, .rw, 0, .rng 1 1024⟩,
     ⟨F.CARREL_Pp_TTk_NEXT_CYCLE, .rw, 0, .any⟩,
     ⟨F.CARREL_Pp_TTk_NEXT_PENDING, .ro, 0, .any⟩]⟩,
  ⟨0xF0100103, [(8, 0x10), (2, 0x8)],
    [⟨F.CARREL_Pp_TTk_STAT_CUR, .ro, 0, .any⟩,
     ⟨F.CARREL_Pp_TTk_STAT_RUNNER, .ro, 0, .any⟩,
     ⟨F.CARREL_Pp_TTk_STAT_LATE, .ro, 0, .any⟩]⟩,
  ⟨0xF0101000, [(8, 0x400), (1024, 0x1)],
    [⟨F.CARREL_Pp_TEi_CARREL, .rw, 0, .any⟩,
     ⟨F.CARREL_Pp_TEi_IDLE, .rw, 0, .any⟩,
     ⟨F.CARREL_Pp_TEi_OFFSET, .rw, 0, .any⟩]⟩,
  ⟨0xF0104000, [(512, 0x20)],
    [⟨F.CARREL_Cc_CFG_V, .rw, 0, .any⟩,
     ⟨F.CARREL_Cc_CFG_PAIR, .rw, 0, .any⟩,
     ⟨F.CARREL_Cc_CFG_CORE, .rw, 0, .any⟩,
     ⟨F.CARREL_Cc_CFG_REMOTE, .rw, 0, .any⟩,
     ⟨F.CARREL_Cc_CFG_CEIL, .rw, 0, .any⟩,
     ⟨F.CARREL_Cc_CFG_QDEPTH, .rw, 0, .any⟩,
     ⟨F.CARREL_Cc_CFG_QBASE, .rw, 0, .any⟩]⟩,
  ⟨0xF0104001, [(512, 0x20)],
    [⟨F.CARREL_Cc_CTL_START, .wo, 0, .any⟩,
     ⟨F.CARREL_Cc_CTL_RESET, .wo, 0, .any⟩]⟩,
  ⟨0xF0104002, [(512, 0x20)],
    [⟨F.CARREL_Cc_STAT_STATE, .ro, 0, .any⟩,
     ⟨F.CARREL_Cc_STAT_FRESH, .ro, 1, .any⟩,
     ⟨F.CARREL_Cc_STAT_IN, .ro, 0, .any⟩,
     ⟨F.CARREL_Cc_STAT_WHY, .ro, 0, .any⟩,
     ⟨F.CARREL_Cc_STAT_EPOCH, .ro, 0, .any⟩,
     ⟨F.CARREL_Cc_STAT_LATE, .ro, 0, .any⟩]⟩,
  ⟨0xF0104003, [(512, 0x20)],
    [⟨F.CARREL_Cc_ENTRY_PC, .rw, 0, .any⟩]⟩,
  ⟨0xF0104004, [(512, 0x20)],
    [⟨F.CARREL_Cc_TBASE_EN, .rw, 0, .any⟩,
     ⟨F.CARREL_Cc_TBASE_ROOT, .rw, 0, .any⟩]⟩,
  ⟨0xF0104005, [(512, 0x20)],
    [⟨F.CARREL_Cc_CTX_BASE, .rw, 0, .any⟩]⟩,
  ⟨0xF0104006, [(512, 0x20)],
    [⟨F.CARREL_Cc_NALLOW_ALLOW, .rw, 0, .any⟩]⟩]
def regsB16_2 : List RSpec := [
  ⟨0xF0104007, [(512, 0x20)],
    [⟨F.CARREL_Cc_CATRD_LO, .rw, 1, .any⟩,
     ⟨F.CARREL_Cc_CATRD_HI, .rw, 0, .any⟩]⟩,
  ⟨0xF0104008, [(512, 0x20)],
    [⟨F.CARREL_Cc_CATWR_LO, .rw, 1, .any⟩,
     ⟨F.CARREL_Cc_CATWR_HI, .rw, 0, .any⟩]⟩,
  ⟨0xF0104009, [(512, 0x20)],
    [⟨F.CARREL_Cc_DESK_IN_FULL, .ro, 0, .any⟩,
     ⟨F.CARREL_Cc_DESK_OUT_FULL, .ro, 0, .any⟩,
     ⟨F.CARREL_Cc_DESK_IN_DIRTY, .ro, 0, .any⟩,
     ⟨F.CARREL_Cc_DESK_OUT_DIRTY, .ro, 0, .any⟩,
     ⟨F.CARREL_Cc_DESK_IN_SEQ, .ro, 0, .any⟩,
     ⟨F.CARREL_Cc_DESK_OUT_SEQ, .ro, 0, .any⟩]⟩,
  ⟨0xF010400A, [(512, 0x20)],
    [⟨F.CARREL_Cc_SES_CTL_EN, .rw, 0, .any⟩,
     ⟨F.CARREL_Cc_SES_CTL_UPL, .rw, 0, .any⟩,
     ⟨F.CARREL_Cc_SES_CTL_V6, .rw, 0, .any⟩,
     ⟨F.CARREL_Cc_SES_CTL_VID, .rw, 0, .any⟩,
     ⟨F.CARREL_Cc_SES_CTL_TC, .rw, 0, .any⟩,
     ⟨F.CARREL_Cc_SES_CTL_GATHER, .rw, 0x64, .any⟩]⟩,
  ⟨0xF010400B, [(512, 0x20)],
    [⟨F.CARREL_Cc_SES_PEER_HI_ADDR, .rw, 0, .any⟩]⟩,
  ⟨0xF010400C, [(512, 0x20)],
    [⟨F.CARREL_Cc_SES_PEER_LO_ADDR, .rw, 0, .any⟩]⟩,
  ⟨0xF010400D, [(512, 0x20)],
    [⟨F.CARREL_Cc_SES_PORTS_PEER_PORT, .rw, 0, .any⟩,
     ⟨F.CARREL_Cc_SES_PORTS_LOCAL_PORT, .rw, 0, .any⟩]⟩,
  ⟨0xF010400E, [(512, 0x20)],
    [⟨F.CARREL_Cc_SES_NEXTHOP_MAC, .rw, 0, .any⟩]⟩]
def regsB16 : List RSpec := regsB16_0 ++ regsB16_1 ++ regsB16_2
/-- The registers of MMIO block 17. -/
def regsB17_0 : List RSpec := [
  ⟨0xF0110000, [],
    [⟨F.VAULT_STAT_SEALED, .ro, 0, .any⟩,
     ⟨F.VAULT_STAT_ENT_OK, .ro, 0, .any⟩,
     ⟨F.VAULT_STAT_DRBG_OK, .ro, 0, .any⟩,
     ⟨F.VAULT_STAT_BOOT_SLOT, .ro, 0, .any⟩,
     ⟨F.VAULT_STAT_TRIAL, .ro, 0, .any⟩,
     ⟨F.VAULT_STAT_RECOVERY, .ro, 0, .any⟩,
     ⟨F.VAULT_STAT_FREE, .ro, 0x400, .any⟩]⟩,
  ⟨0xF0110001, [],
    [⟨F.VAULT_FUSE_MIN_SVN, .ro, 0, .any⟩,
     ⟨F.VAULT_FUSE_ROOT_REVOKE, .ro, 0, .any⟩,
     ⟨F.VAULT_FUSE_STATEMENTS, .ro, 0, .any⟩,
     ⟨F.VAULT_FUSE_AON_LOSS, .ro, 0, .any⟩]⟩,
  ⟨0xF0110002, [],
    [⟨F.VAULT_DEVID_DEVICE_ID, .ro, 0, .any⟩]⟩,
  ⟨0xF0110003, [],
    [⟨F.VAULT_CHAL_CHAL, .ro, 0, .any⟩]⟩,
  ⟨0xF0110004, [(4, 0x1)],
    [⟨F.VAULT_TAMPi_CFG_EN, .rw, 0, .any⟩,
     ⟨F.VAULT_TAMPi_CFG_POL, .rw, 0, .any⟩,
     ⟨F.VAULT_TAMPi_CFG_FILT, .rw, 0xA, .rng 1 1023⟩]⟩,
  ⟨0xF0110008, [],
    [⟨F.VAULT_TAMP_STAT_LATCH, .ro, 0, .any⟩,
     ⟨F.VAULT_TAMP_STAT_AON_LOST, .ro, 0, .any⟩,
     ⟨F.VAULT_TAMP_STAT_ZPEND, .ro, 0, .any⟩,
     ⟨F.VAULT_TAMP_STAT_WHEN, .ro, 0, .any⟩]⟩,
  ⟨0xF0110009, [],
    [⟨F.VAULT_ENT_STAT_RCT_FAIL, .ro, 0, .any⟩,
     ⟨F.VAULT_ENT_STAT_APT_FAIL, .ro, 0, .any⟩,
     ⟨F.VAULT_ENT_STAT_RESEEDS, .ro, 0, .any⟩]⟩,
  ⟨0xF0110010, [(8, 0x6), (6, 0x1)],
    [⟨F.VAULT_MEASm_j_OCTETS, .ro, 0, .any⟩]⟩,
  ⟨0xF0110040, [(5, 0x6), (6, 0x1)],
    [⟨F.VAULT_ROOTr_j_OCTETS, .ro, 0, .any⟩]⟩,
  ⟨0xF0110100, [(16, 0x10)],
    [⟨F.VAULT_Qq_CMD_OP, .rw, 0, .any⟩,
     ⟨F.VAULT_Qq_CMD_ALG, .rw, 0, .any⟩,
     ⟨F.VAULT_Qq_CMD_LAYOUT8, .rw, 0, .any⟩,
     ⟨F.VAULT_Qq_CMD_KID2_AUTO, .rw, 0, .any⟩]⟩]
def regsB17_1 : List RSpec := [
  ⟨0xF0110101, [(16, 0x10)],
    [⟨F.VAULT_Qq_KEY_KID, .rw, 0, .any⟩,
     ⟨F.VAULT_Qq_KEY_KID2, .rw, 0, .any⟩]⟩,
  ⟨0xF0110102, [(16, 0x10)],
    [⟨F.VAULT_Qq_SRC_ADDR, .rw, 0, .any⟩]⟩,
  ⟨0xF0110103, [(16, 0x10)],
    [⟨F.VAULT_Qq_SRCLEN_LEN, .rw, 0, .any⟩]⟩,
  ⟨0xF0110104, [(16, 0x10)],
    [⟨F.VAULT_Qq_DST_ADDR, .rw, 0, .any⟩]⟩,
  ⟨0xF0110105, [(16, 0x10)],
    [⟨F.VAULT_Qq_DSTLEN_LEN, .rw, 0, .any⟩]⟩,
  ⟨0xF0110106, [(16, 0x10)],
    [⟨F.VAULT_Qq_AUX_AUX, .rw, 0, .any⟩]⟩,
  ⟨0xF0110107, [(16, 0x10)],
    [⟨F.VAULT_Qq_NEWATTR_ATTR, .rw, 0, .any⟩]⟩,
  ⟨0xF0110108, [(16, 0x10)],
    [⟨F.VAULT_Qq_CTL_START, .wo, 0, .any⟩,
     ⟨F.VAULT_Qq_CTL_ABORT, .wo, 0, .any⟩]⟩,
  ⟨0xF0110109, [(16, 0x10)],
    [⟨F.VAULT_Qq_STAT_BUSY, .ro, 0, .any⟩,
     ⟨F.VAULT_Qq_STAT_DONE, .w1c, 0, .any⟩,
     ⟨F.VAULT_Qq_STAT_ERR, .w1c, 0, .any⟩,
     ⟨F.VAULT_Qq_STAT_CODE, .ro, 0, .any⟩,
     ⟨F.VAULT_Qq_STAT_REASON, .ro, 0, .any⟩,
     ⟨F.VAULT_Qq_STAT_RESULT_KID, .ro, 0, .any⟩,
     ⟨F.VAULT_Qq_STAT_OUTLEN, .ro, 0, .any⟩]⟩,
  ⟨0xF011010A, [(16, 0x10)],
    [⟨F.VAULT_Qq_OWN_OWNER, .rw, 0, .any⟩,
     ⟨F.VAULT_Qq_OWN_V, .rw, 0, .any⟩,
     ⟨F.VAULT_Qq_OWN_ABSENT, .ro, 0, .any⟩]⟩]
def regsB17_2 : List RSpec := [
  ⟨0xF0111000, [(256, 0x1)],
    [⟨F.VAULT_Kk_ATTR_ATTR, .ro, 0, .any⟩]⟩,
  ⟨0xF0111400, [(1024, 0x1)],
    [⟨F.VAULT_DSn_ATTR_ATTR, .ro, 0, .any⟩]⟩]
def regsB17 : List RSpec := regsB17_0 ++ regsB17_1 ++ regsB17_2
/-- The registers of MMIO block 18. -/
def regsB18_0 : List RSpec := [
  ⟨0xF0120100, [],
    [⟨F.TWIN_BR_CTL_OUT_EN, .rw, 0, .any⟩,
     ⟨F.TWIN_BR_CTL_IN_EN, .rw, 0, .any⟩,
     ⟨F.TWIN_BR_CTL_TMO, .rw, 0x14, .rng 1 255⟩,
     ⟨F.TWIN_BR_CTL_GAP, .rw, 0xA, .rng 1 255⟩]⟩,
  ⟨0xF0120101, [],
    [⟨F.TWIN_BR_STAT_OUT_OPEN, .ro, 0, .any⟩,
     ⟨F.TWIN_BR_STAT_TRY, .ro, 0, .any⟩,
     ⟨F.TWIN_BR_STAT_CROSSINGS, .ro, 0, .any⟩]⟩,
  ⟨0xF0120102, [],
    [⟨F.TWIN_BR_CNT_RETRY_FAIL, .ro, 0, .any⟩,
     ⟨F.TWIN_BR_CNT_TIMEOUTS, .ro, 0, .any⟩]⟩,
  ⟨0xF0120103, [],
    [⟨F.TWIN_BR_LOGSTAT_HEAD, .ro, 0, .any⟩,
     ⟨F.TWIN_BR_LOGSTAT_COUNT, .ro, 0, .any⟩,
     ⟨F.TWIN_BR_LOGSTAT_LOST, .ro, 0, .any⟩]⟩,
  ⟨0xF0120104, [],
    [⟨F.TWIN_BR_LOGCLR_CLR, .wo, 0, .any⟩]⟩,
  ⟨0xF0120110, [(16, 0x2)],
    [⟨F.TWIN_BR_LOGk_A_ADDR, .ro, 0, .any⟩,
     ⟨F.TWIN_BR_LOGk_A_REASON, .ro, 0, .any⟩,
     ⟨F.TWIN_BR_LOGk_A_V, .ro, 0, .any⟩]⟩,
  ⟨0xF0120111, [(16, 0x2)],
    [⟨F.TWIN_BR_LOGk_STAMP_STAMP, .ro, 0, .any⟩]⟩,
  ⟨0xF0120140, [(32, 0x1)],
    [⟨F.TWIN_SEMs_GOT, .ro, 0, .any⟩,
     ⟨F.TWIN_SEMs_HELD, .ro, 0, .any⟩,
     ⟨F.TWIN_SEMs_SIDE, .ro, 0, .any⟩,
     ⟨F.TWIN_SEMs_CARREL, .ro, 0, .any⟩,
     ⟨F.TWIN_SEMs_RELEASE, .wo, 0, .any⟩]⟩,
  ⟨0xF0120000, [],
    [⟨F.TWIN_CTL_PAIR_EN, .rw, 0, .any⟩,
     ⟨F.TWIN_CTL_ORDER, .rw, 1, .any⟩,
     ⟨F.TWIN_CTL_AUTO_TAKE, .rw, 1, .any⟩,
     ⟨F.TWIN_CTL_INCONCL, .rw, 0, .any⟩,
     ⟨F.TWIN_CTL_MIR_EN, .rw, 0, .any⟩,
     ⟨F.TWIN_CTL_REQ_MACSEC, .rw, 1, .any⟩,
     ⟨F.TWIN_CTL_PEER_WAKE, .wo, 0, .any⟩]⟩,
  ⟨0xF0120001, [],
    [⟨F.TWIN_STAT_SIDE, .ro, 0, .any⟩,
     ⟨F.TWIN_STAT_STATE, .ro, 0, .any⟩,
     ⟨F.TWIN_STAT_LINK_UP, .ro, 0, .any⟩,
     ⟨F.TWIN_STAT_LANES, .ro, 0, .any⟩,
     ⟨F.TWIN_STAT_ALIVE_OK, .ro, 0, .any⟩,
     ⟨F.TWIN_STAT_PEER_BROKEN, .ro, 0, .any⟩,
     ⟨F.TWIN_STAT_SIDE_CLASH, .ro, 0, .any⟩,
     ⟨F.TWIN_STAT_TAKE_IN, .ro, 0, .any⟩,
     ⟨F.TWIN_STAT_TAKE_OUT, .ro, 1, .any⟩]⟩]
def regsB18_1 : List RSpec := [
  ⟨0xF0120002, [],
    [⟨F.TWIN_GTC_OFS_OFS, .ro, 0, .any⟩]⟩,
  ⟨0xF0120003, [],
    [⟨F.TWIN_GTC_STAT_VALID, .ro, 0, .any⟩,
     ⟨F.TWIN_GTC_STAT_RATE, .ro, 0, .any⟩]⟩,
  ⟨0xF0120004, [],
    [⟨F.TWIN_TK_STAT_CAUSE, .ro, 0, .any⟩,
     ⟨F.TWIN_TK_STAT_VERDICT, .ro, 0, .any⟩,
     ⟨F.TWIN_TK_STAT_YIELDED, .ro, 0, .any⟩,
     ⟨F.TWIN_TK_STAT_CARRELS, .ro, 0, .any⟩,
     ⟨F.TWIN_TK_STAT_CHANNELS, .ro, 0, .any⟩,
     ⟨F.TWIN_TK_STAT_WINGS, .ro, 0, .any⟩,
     ⟨F.TWIN_TK_STAT_FAILED, .ro, 0, .any⟩]⟩,
  ⟨0xF0120005, [],
    [⟨F.TWIN_TK_TIME_STAMP, .ro, 0, .any⟩]⟩,
  ⟨0xF0120006, [],
    [⟨F.TWIN_MIR_STAT_QDEPTH, .ro, 0, .any⟩,
     ⟨F.TWIN_MIR_STAT_DROPPED, .ro, 0, .any⟩]⟩,
  ⟨0xF0120007, [],
    [⟨F.TWIN_MIR_CNT_SENT, .ro, 0, .any⟩,
     ⟨F.TWIN_MIR_CNT_APPLIED, .ro, 0, .any⟩]⟩,
  ⟨0xF0120008, [],
    [⟨F.TWIN_WIT_CONSIDERED, .ro, 0, .any⟩,
     ⟨F.TWIN_WIT_DRIVEN, .ro, 0, .any⟩]⟩,
  ⟨0xF0120009, [],
    [⟨F.TWIN_CNTCLR_CLR, .wo, 0, .any⟩]⟩,
  ⟨0xF0120200, [(32, 0x1)],
    [⟨F.TWIN_CMAPk_ENTRIES, .rw, 0, .any⟩]⟩,
  ⟨0xF0120220, [(2, 0x1)],
    [⟨F.TWIN_LMAPk_ENTRIES, .rw, 0, .any⟩]⟩]
def regsB18_2 : List RSpec := [
  ⟨0xF0120222, [],
    [⟨F.TWIN_WMAP_ENTRIES, .rw, 0, .any⟩]⟩,
  ⟨0xF0120240, [(32, 0x1)],
    [⟨F.TWIN_DEMc_MODE, .ro, 0, .any⟩,
     ⟨F.TWIN_DEMc_DUTY, .ro, 0, .any⟩,
     ⟨F.TWIN_DEMc_OUT, .ro, 0, .any⟩,
     ⟨F.TWIN_DEMc_V, .ro, 0, .any⟩]⟩,
  ⟨0xF0120300, [(8, 0x1)],
    [⟨F.TWIN_MIRk_LO, .rw, 1, .any⟩,
     ⟨F.TWIN_MIRk_HI, .rw, 0, .any⟩,
     ⟨F.TWIN_MIRk_SEND, .rw, 0, .any⟩,
     ⟨F.TWIN_MIRk_RECV, .rw, 0, .any⟩]⟩]
def regsB18 : List RSpec := regsB18_0 ++ regsB18_1 ++ regsB18_2
/-- The registers of MMIO block 19. -/
def regsB19_0 : List RSpec := [
  ⟨0xF0130000, [(48, 0x1)],
    [⟨F.IOC_GPIOk_CFG_FUNC, .rw, 0, .rsv 3 3⟩,
     ⟨F.IOC_GPIOk_CFG_OE, .rw, 0, .any⟩,
     ⟨F.IOC_GPIOk_CFG_PULL, .rw, 0, .rsv 3 3⟩,
     ⟨F.IOC_GPIOk_CFG_OD, .rw, 0, .any⟩,
     ⟨F.IOC_GPIOk_CFG_STRONG, .rw, 0, .any⟩,
     ⟨F.IOC_GPIOk_CFG_EDGE, .rw, 0, .any⟩]⟩,
  ⟨0xF0130040, [(6, 0x8)],
    [⟨F.IOC_GPIOBb_LVL_IN, .ro, 0, .any⟩,
     ⟨F.IOC_GPIOBb_LVL_OUT, .ro, 0, .any⟩]⟩,
  ⟨0xF0130041, [(6, 0x8)],
    [⟨F.IOC_GPIOBb_SET_SET, .wo, 0, .any⟩]⟩,
  ⟨0xF0130042, [(6, 0x8)],
    [⟨F.IOC_GPIOBb_CLR_CLR, .wo, 0, .any⟩]⟩,
  ⟨0xF0130043, [(6, 0x8)],
    [⟨F.IOC_GPIOBb_EVT_EVT, .w1c, 0, .any⟩]⟩,
  ⟨0xF0130044, [(6, 0x8)],
    [⟨F.IOC_GPIOBb_OWN_OWNER, .rw, 0, .any⟩,
     ⟨F.IOC_GPIOBb_OWN_V, .rw, 0, .any⟩,
     ⟨F.IOC_GPIOBb_OWN_ABSENT, .ro, 0, .any⟩]⟩,
  ⟨0xF01300F0, [],
    [⟨F.IOC_BUSTX_CAN_PP, .rw, 0, .any⟩,
     ⟨F.IOC_BUSTX_LIN_PP, .rw, 0, .any⟩]⟩,
  ⟨0xF0130100, [(16, 0x10)],
    [⟨F.IOC_ADCg_STAMP_STAMP, .ro, 0, .any⟩]⟩,
  ⟨0xF0130109, [(16, 0x10)],
    [⟨F.IOC_ADCg_CFG_LEN, .rw, 0, .any⟩,
     ⟨F.IOC_ADCg_CFG_SEL, .rw, 0, .any⟩,
     ⟨F.IOC_ADCg_CFG_CRIT, .rw, 0, .any⟩,
     ⟨F.IOC_ADCg_CFG_NOTIFY, .rw, 0, .any⟩,
     ⟨F.IOC_ADCg_CFG_START, .wo, 0, .any⟩,
     ⟨F.IOC_ADCg_CFG_BUSY, .ro, 0, .any⟩]⟩,
  ⟨0xF013010A, [(16, 0x10)],
    [⟨F.IOC_ADCg_OWN_OWNER, .rw, 0, .any⟩,
     ⟨F.IOC_ADCg_OWN_V, .rw, 0, .any⟩,
     ⟨F.IOC_ADCg_OWN_ABSENT, .ro, 0, .any⟩]⟩]
def regsB19 : List RSpec := regsB19_0

/-- The registers of a block by its number (R434: MMIO block n lies at 0xF000_0000 + 0x1_0000 × n). -/
def blockRegs (b : Nat) : List RSpec :=
  match b with
  | 0 => regsB0
  | 1 => regsB1
  | 2 => regsB2
  | 3 => regsB3
  | 4 => regsB4
  | 5 => regsB5
  | 6 => regsB6
  | 7 => regsB7
  | 8 => regsB8
  | 9 => regsB9
  | 10 => regsB10
  | 11 => regsB11
  | 12 => regsB12
  | 13 => regsB13
  | 14 => regsB14
  | 15 => regsB15
  | 16 => regsB16
  | 17 => regsB17
  | 18 => regsB18
  | 19 => regsB19
  | _ => []

/-- The indices of an address in an array of registers, outermost first; none where it is not one of them. -/
def dimsIdx : List (Nat × Nat) → Nat → Option (List Nat)
  | [], off => if off = 0 then some [] else none
  | (n, s) :: t, off =>
    let i := off / s
    if i < n then (dimsIdx t (off - i * s)).map (i :: ·)
    else none

/-- Is the address one of the array's registers? -/
def RSpec.hit (r : RSpec) (a : Nat) : Bool := decide (r.base ≤ a) && (dimsIdx r.dims (a - r.base)).isSome

/-- The register specification at an address, if a table lists one. -/
def findReg : List RSpec → Nat → Option RSpec
  | [], _ => none
  | r :: t, a => if r.hit a then some r else findReg t a

/-- Is the address in the MMIO region (R434)? -/
def isMmio (a : Nat) : Bool := decide (0xF0000000 ≤ a) && decide (a ≤ 0xF014FFFF)
/-- The MMIO block number of an address. -/
def blockOf (a : Nat) : Nat := (a - 0xF0000000) / 0x10000
/-- The offset of an address in its block. -/
def offsetOf (a : Nat) : Nat := (a - 0xF0000000) % 0x10000

/-- A permit-table entry (R473): every block but CAN holds 64 at offsets 0xF000 to 0xF03F (R472). -/
def permitSpec : RSpec := ⟨0, [], [⟨F.PERM_TABLE_RD, .rw, 0, .any⟩, ⟨F.PERM_TABLE_WR, .rw, 0, .any⟩,
  ⟨F.PERM_TABLE_EXE, .rw, 0, .any⟩, ⟨F.PERM_TABLE_CFG, .rw, 0, .any⟩, ⟨F.PERM_TABLE_RULE, .rw, 0, .rsv 3 3⟩,
  ⟨F.PERM_TABLE_CLO, .rw, 0, .any⟩, ⟨F.PERM_TABLE_CHI, .rw, 0, .any⟩, ⟨F.PERM_TABLE_FLOOR, .rw, 0, .any⟩]⟩

/-- Is the address an entry of a block's own permit table (R472)? -/
def isBlockPermit (a : Nat) : Bool :=
  isMmio a && decide (blockOf a ≠ 11) && decide (0xF000 ≤ offsetOf a) && decide (offsetOf a ≤ 0xF03F)

/-- The register at an address (R434 and the blocks' tables), or none where no table lists the word. -/
def regAt (a : Nat) : Option RSpec :=
  if !isMmio a then none
  else if isBlockPermit a then some permitSpec
  else findReg (blockRegs (blockOf a)) a

end Sys2Proof.Machine
end

