-- ==== Sys2Proof/Machine/Sparse.lean ====
section
/-!
DEFINITION. Sparse maps: lists of (key, value) pairs in one canonical form, keys strictly rising and no entry equal
to what an unlisted key reads as. Every register file, memory and per-unit array of the model is one of them.
-/
namespace Sys2Proof.Machine

/-- What a sparse map reads at a key; `d` gives the value of an unlisted key. -/
def spGet {V : Type} (d : Nat → V) : List (Nat × V) → Nat → V
  | [], a => d a
  | (k, v) :: t, a => if k = a then v else spGet d t a

/-- The map without the key. -/
def spDel {V : Type} : List (Nat × V) → Nat → List (Nat × V)
  | [], _ => []
  | (k, v) :: t, a => if k = a then spDel t a else (k, v) :: spDel t a

/-- The map with the pair put in its place, keys kept rising. -/
def spIns {V : Type} : List (Nat × V) → Nat → V → List (Nat × V)
  | [], a, v => [(a, v)]
  | (k, x) :: t, a, v =>
    if k = a then (a, v) :: t
    else if a < k then (a, v) :: (k, x) :: t
    else (k, x) :: spIns t a v

/-- Write one key, keeping the canonical form: writing what an unlisted key reads as removes the entry. -/
def spPut {V : Type} [DecidableEq V] (d : Nat → V) (m : List (Nat × V)) (a : Nat) (v : V) : List (Nat × V) :=
  if v = d a then spDel m a else spIns m a v

/-- Every key is above `b` and the keys rise; no entry holds the default. -/
def spWfFrom {V : Type} [DecidableEq V] (d : Nat → V) : Nat → List (Nat × V) → Bool
  | _, [] => true
  | b, (k, v) :: t => decide (b ≤ k) && decide (v ≠ d k) && spWfFrom d (k + 1) t

/-- The canonical form of a sparse map. -/
def spWf {V : Type} [DecidableEq V] (d : Nat → V) (m : List (Nat × V)) : Bool := spWfFrom d 0 m

/-- Drop every entry whose key fails the test (used by resets that clear some registers). -/
def spKeep {V : Type} (p : Nat → Bool) (m : List (Nat × V)) : List (Nat × V) := m.filter (fun e => p e.1)

end Sys2Proof.Machine
end

