-- ==== Sys2Proof/Machine/RegReset.lean ====
section
/-!
DEFINITION. What every register holds right after a power-on reset: the Reset column of its table (R9), and the values
that depend on an index or that another rule gives.
-/
namespace Sys2Proof.Machine

/-- A field's value in a register. -/
def fget (v : BitVec 64) (f : Fld) : Nat := (v.extractLsb' f.lo f.width).toNat
/-- The bits of a field. -/
def fmask (f : Fld) : BitVec 64 := (((1#64) <<< f.width) - 1#64) <<< f.lo
/-- The register with a field replaced (the value taken modulo the field's width). -/
def fput (v : BitVec 64) (f : Fld) (n : Nat) : BitVec 64 :=
  (v &&& ~~~(fmask f)) ||| ((BitVec.ofNat 64 n <<< f.lo) &&& fmask f)

/-- The Reset column of a register's table as one value. -/
def RSpec.rst (r : RSpec) : BitVec 64 := r.fields.foldl (fun v f => if f.acc = .wo then v else fput v f.fld f.rst) 0#64

/-- The admission shares of R255. -/
def shareReset (p : Nat) : Nat :=
  if p < 4 then 1 else if p < 10 then 11 else if p < 12 then 21 else if p = 12 then 48
  else if p < 22 then 1 else if p = 22 then 2 else 0

/-- One row of the second table of R370. -/
structure ProfRow where
  blank : Nat
  steady : Nat
  scLim : Nat
  ocFilt : Nat
  eMax : Nat
  eMin : Nat
  eRel : Nat
  recov : Nat
  olOn : Nat
  olT : Nat
  retry : Nat
  backoff : Nat
  clean : Nat
  env : List (Nat × Nat)

/-- The default profiles of R370; profiles 7 to 31 hold those of GENERIC. -/
def profReset (p : Nat) : ProfRow :=
  match p with
  | 0 => ⟨20, 5000, 35000, 4, 200, 20, 100, 10, 100, 50, 3, 100, 1000,
      [(1000, 30000), (3000, 20000), (10000, 12000), (30000, 8000), (100000, 6000)]⟩
  | 1 => ⟨10, 2000, 12000, 4, 100, 10, 50, 10, 5, 50, 3, 100, 1000, [(100, 8000), (1000, 3000)]⟩
  | 2 => ⟨50, 5000, 35000, 8, 600, 100, 400, 20, 100, 100, 1, 500, 2000,
      [(10000, 25000), (50000, 20000), (200000, 15000), (500000, 10000)]⟩
  | 3 => ⟨20, 5000, 35000, 8, 200, 20, 100, 10, 200, 200, 3, 1000, 5000, [(100000, 10000), (1000000, 7000)]⟩
  | 4 => ⟨50, 5000, 35000, 8, 1000, 200, 600, 20, 50, 100, 3, 100, 1000, [(5000, 6000)]⟩
  | 5 => ⟨10, 5000, 35000, 2, 100, 10, 50, 10, 20, 50, 5, 50, 500,
      [(50, 30000), (500, 20000), (2000, 10000), (10000, 6000)]⟩
  | _ => ⟨20, 5000, 35000, 4, 200, 20, 100, 10, 50, 100, 3, 100, 1000, []⟩

/-- The words of profile p at its offset (R370, R400). -/
def profWord (p off : Nat) : BitVec 64 :=
  let r := profReset p
  let ty := if p < 6 then p else 6
  if off = 0 then
    fput (fput (fput (fput (fput 0#64 F.LOAD_PROFp_CFG_TYPE ty) F.LOAD_PROFp_CFG_BLANK r.blank) F.LOAD_PROFp_CFG_STEADY r.steady)
      F.LOAD_PROFp_CFG_SC_LIM r.scLim) F.LOAD_PROFp_CFG_OC_FILT r.ocFilt
  else if off ≤ 8 then
    match r.env[off - 1]? with
    | some (t, i) => fput (fput 0#64 F.LOAD_PROFp_ENVk_T_END t) F.LOAD_PROFp_ENVk_LIMIT i
    | none => 0#64
  else if off = 0xA then
    fput (fput (fput 0#64 F.LOAD_PROFp_CLAMP_E_MAX r.eMax) F.LOAD_PROFp_CLAMP_E_MIN r.eMin) F.LOAD_PROFp_CLAMP_E_REL r.eRel
  else if off = 0xB then BitVec.ofNat 64 r.recov
  else if off = 0xC then fput (fput 0#64 F.LOAD_PROFp_OL_OL_ON r.olOn) F.LOAD_PROFp_OL_OL_T r.olT
  else
    fput (fput (fput 0#64 F.LOAD_PROFp_RETRY_RETRY_MAX r.retry) F.LOAD_PROFp_RETRY_BACKOFF r.backoff) F.LOAD_PROFp_RETRY_CLEAN r.clean

/-- Does segment s take part in closing rounds (R335)? -/
def segRing (s : Nat) : Bool := decide (s < 16) || decide (24 ≤ s)

/-- Permit entry m of table r (R473): only entry 0 has rights; EXE is reserved in table 6. -/
def permitReset (r m : Nat) : BitVec 64 := if m = 0 then (if r = 6 then 0xB#64 else 0xF#64) else 0#64

/-- Registers whose reset value depends on an index or comes from another rule; none for the others. -/
def resetSpecial (a : Nat) : Option (BitVec 64) :=
  let o := offsetOf a
  if isBlockPermit a then some (permitReset 99 (o - 0xF000))
  else match blockOf a with
  | 0 => if a = R.SYS_RST_CAUSE then some (fput 0#64 F.SYS_RST_CAUSE_TRIGGER 1) else none
  | 4 => if 0x1000 ≤ o ∧ o < 0x1200 then some (permitReset ((o - 0x1000) / 64) (o % 64)) else none
  | 9 => if o < 0x6000 ∧ o % 0x400 = 2 then
      some (fput (fput 0#64 F.ETH_Pp_SHARE_SHARE (shareReset (o / 0x400))) F.ETH_Pp_SHARE_POOL_MAX 32768) else none
  | 13 => if 0x100 ≤ o ∧ o < 0x148 ∧ o % 2 = 0 then
      some (fput (fput 0#64 F.NM_SEGs_CFG_RING (if segRing ((o - 0x100) / 2) then 1 else 0)) F.NM_SEGs_CFG_MEMBERS 1) else none
  | 14 =>
      if 0x100 ≤ o ∧ o < 0x300 ∧ o % 16 ≠ 9 ∧ o % 16 ≤ 0xD then some (profWord ((o - 0x100) / 16) (o % 16))
      else if 0x1000 ≤ o ∧ o < 0x1200 ∧ o % 16 = 8 then some (BitVec.ofNat 64 (85 * 256))
      else if 0x1000 ≤ o ∧ o < 0x1200 ∧ o % 16 = 9 then some (BitVec.ofNat 64 200000)
      else if 0x1000 ≤ o ∧ o < 0x1080 ∧ o % 16 = 1 then some 0#64
      else none
  | 16 =>
      if o = 0x4000 then some (fput (fput (fput 0#64 F.CARREL_Cc_CFG_V 1) F.CARREL_Cc_CFG_CEIL 3) F.CARREL_Cc_CFG_QDEPTH 1024)
      else if o = 0x4002 then some (fput (fput 0#64 F.CARREL_Cc_STAT_STATE 2) F.CARREL_Cc_STAT_FRESH 1)
      else if o = 0x4005 then some 0x7FFF80#64
      else if o = 0x4006 then some (BitVec.allOnes 64)
      else if 0x100 ≤ o ∧ o < 0x180 ∧ o % 8 = 3 then some (fput 0#64 F.CARREL_Pp_TTk_STAT_RUNNER ((o - 0x100) / 16))
      else none
  | 17 =>
      if a = R.VAULT_FUSE then some (Config.fuse 0 &&& 0x3FFF#64)
      else if a = R.VAULT_DEVID then some (Config.fuse 1)
      else if 0x40 ≤ o ∧ o < 0x5E then some (Config.fuse (2 + (o - 0x40)))
      else if 0x1000 ≤ o ∧ o < 0x1100 then some (Config.fuse (0x100 + (o - 0x1000)) &&& 0xFFFFFFFFFF#64)
      else none
  | _ => none

/-- What a register holds right after a power-on reset; an address that no table lists reads as zero. -/
def resetReg (a : Nat) : BitVec 64 :=
  match resetSpecial a with
  | some v => v
  | none => match regAt a with
    | some r => r.rst
    | none => 0#64

end Sys2Proof.Machine
end

