-- ==== Sys2Proof/Machine/State.lean ====
section
/-!
DEFINITION. The state of the KZ72 block: every register, queue, counter, mode and pin the spec gives it, as plain
data, and the queue of waiting commands. Default field values are the values right after a power-on reset.
Registers of the MMIO blocks live in `regs` at the addresses the spec gives them; an unlisted register holds its
reset value.
-/
namespace Sys2Proof.Machine

/-- Reason code of an error response (R469). -/
abbrev Reason := BitVec 3

/-- The response to a transaction (R468): a completion, a completion with a word, an error with its reason, or side A's answer
to a crossing (R486). -/
inductive Resp where
  | done
  | word (w : Word)
  | err (r : Reason)
  | crossing
  deriving DecidableEq, Repr

/-- An event in an ordered stream before its release (R64). -/
structure Event where
  stamp : Nat := 0
  src : Nat := 0
  payload : Word := 0
  twin : Bool := false
  sideB : Bool := false
  deriving DecidableEq, Repr

/-- A released notice in a carrel's queue (R138). -/
structure Notice where
  src : Nat := 0
  late : Bool := false
  stamp : Nat := 0
  payload : Word := 0
  deriving DecidableEq, Repr

/-- One carrel's notice stream: events not yet released in R64 order, the queue of released notices, the stamp of the
last event released, and whether a notice was lost since the last one delivered (R65 to R68, R136 to R142). -/
structure NoticeQ where
  wait : List Event := []
  queue : List Notice := []
  last : Nat := 0
  lost : Bool := false
  deriving DecidableEq, Repr

/-- The DK_ desk registers that belong to a carrel (R105, R106): D2 and D4 to D13, D19, D20. -/
structure Desk where
  mode : BitVec 2 := 0b01#2
  tstat : BitVec 4 := 0b0001#4
  tpc : BitVec 49 := 0
  tcause : BitVec 44 := 0
  taddr : BitVec 64 := 0
  tvec : BitVec 49 := 0
  tscr : BitVec 64 := 0
  trapEn : Bool := false
  nmask : BitVec 64 := BitVec.allOnes 64
  nlost : BitVec 32 := 0
  fcsr : BitVec 7 := 0
  cycles : BitVec 64 := 0
  retired : BitVec 64 := 0
  deriving DecidableEq, Repr

/-- The LK_ desk registers of a core (R105): D32 to D37. -/
structure LkDesk where
  tstat : BitVec 4 := 0b0001#4
  tpc : BitVec 49 := 0
  tcause : BitVec 44 := 0
  taddr : BitVec 64 := 0
  tvec : BitVec 49 := 0
  tscr : BitVec 64 := 0
  deriving DecidableEq, Repr

/-- One cached translation (R117): the carrel, the page's first virtual and physical word address, whether it is a
2 Mi-word page, and the leaf's four rights (RD, WR, EXE, USR in bits 0 to 3). -/
structure TlbEntry where
  carrel : Nat
  vbase : Nat
  pbase : Nat
  big : Bool
  rights : BitVec 4
  deriving DecidableEq, Repr

/-- What a core waits for with its instruction not yet committed. -/
inductive Wait where
  | waite (rd : BitVec 6) (deadline : Nat)          -- WAITE with an empty queue (R140)
  | twin (rd : Option (BitVec 6)) (va : BitVec 64)   -- an LDW (its register) or STW to the twin window, and its address (R485)
  deriving DecidableEq, Repr

/-- A carrel's context as R499 saves it: the carrel, the ledger registers, the resume program counter, the desk
registers, and the GTC at switch-out. -/
structure Ctx where
  carrel : BitVec 9 := 0
  l : List (Nat × Word) := []
  pc : BitVec 49 := 0
  dk : Desk := {}
  gtc : BitVec 64 := 0
  deriving DecidableEq, Repr

/-- One core (R90, R98, R100, R105): ledger registers (L0 is not stored), program counter, mode, current carrel, the
LK_ registers, the almanac capture of R107, the wait it is in, whether its window is idle and when it ends, its
translations, the shadow register file of R500 and the outgoing context whose write-back is not complete. -/
structure Core where
  l : List (Nat × Word) := []
  pc : BitVec 49 := 0
  mode : BitVec 2 := 0b11#2
  d1 : BitVec 9 := 0
  lk : LkDesk := {}
  almCap : Option (BitVec 30) := none
  wait : Option Wait := none
  idle : Bool := true
  wend : Nat := 0
  tlb : List TlbEntry := []
  shadow : Option Ctx := none
  outgoing : Option Ctx := none
  /-- The carrel in D1 has its context in the register file. -/
  loaded : Bool := false
  /-- A window end held while the librarian handles a carrel's trap (R501). -/
  heldSwitch : Bool := false
  deriving DecidableEq, Repr

/-- What a carrel holds beside its registers (R493 to R515): its desk registers, its notices, the inbound and outbound
desk words, and a remote carrel's queued requests and gathered notices. -/
structure RemoteReq where
  op : BitVec 8 := 0
  carrel : BitVec 16 := 0
  ver : BitVec 8 := 0
  tag : BitVec 32 := 0
  count : BitVec 8 := 0
  flags : BitVec 8 := 0
  address : BitVec 48 := 0
  words : List Word := []
  whole : Bool := true
  deriving DecidableEq, Repr

/-- One carrel's state outside the registers. -/
structure CarrelSt where
  dk : Desk := {}
  nq : NoticeQ := {}
  reqs : List RemoteReq := []
  gather : Option Nat := none
  noticeTag : BitVec 32 := 0
  /-- Stopped on a split core until the librarian acts (R422). -/
  halted : Bool := false
  /-- The latest end of the quiesce of a carrel reset (R509). -/
  quiesceBy : Nat := 0
  deriving DecidableEq, Repr

/-- An archive entry (R453). -/
structure ArchEntry where
  stamp : BitVec 64 := 0
  src : BitVec 12 := 0
  cls : BitVec 3 := 0
  gap : Bool := false
  prior : Bool := false
  late : Bool := false
  seq : BitVec 32 := 0
  payload : BitVec 64 := 0
  detail : BitVec 64 := 0
  deriving DecidableEq, Repr

/-- An entry waiting in the archive's input queue (R452). -/
structure ArchEvent where
  ev : Event := {}
  cls : BitVec 3 := 0
  detail : BitVec 64 := 0
  deriving DecidableEq, Repr

/-- The archive (R451 to R455): input queue, live ring by index, retained store (oldest first) with the next sequence
number, the pending GAP mark, the stamp of the last entry written, and the arming of source 0xC5B. -/
structure Archive where
  inq : List ArchEvent := []
  live : List (Nat × ArchEntry) := []
  retained : List ArchEntry := []
  gap : Bool := false
  last : Nat := 0
  armed : Bool := true
  deriving DecidableEq, Repr

/-- Time (02): the two GTC counters, the power die's copy, the coarse count with its accumulator and whether the GTC
is carried by it, the almanac, an unread PPS capture, pulses in progress (slot, end), the last Sync of each domain,
the pending almanac step, and the almanac's entry point of R74. -/
structure Time where
  gtc : BitVec 64 := 0
  gtcDup : BitVec 64 := 0
  pwrGtc : BitVec 64 := 0
  coarse : BitVec 64 := 0
  coarseAcc : BitVec 6 := 0
  coarseRun : Bool := false
  almSec : BitVec 48 := 0
  almNs : BitVec 30 := 0
  almFrac : BitVec 40 := 0
  ppsUnread : Bool := false
  pulses : List (Nat × Nat) := []
  sync0 : Nat := 0
  sync1 : Nat := 0
  parkGtc : BitVec 64 := 0
  /-- Nanoseconds since power-on reset on the power die's own clocks: what the durations of resets, leases and load
  protection are measured by. -/
  el : Nat := 0
  /-- Time since the last night-clock edge, in units of 1/64 ns. -/
  nightPhase : Nat := 0
  /-- The night crystal has failed and its archive entry is not yet written (R61). -/
  nightDue : Bool := false
  deriving DecidableEq, Repr

/-- SAFE_N and FAULT_N (R46 to R49): the level at the SAFE_N ball, since when it is low, whether it is recognised low, a
class-3 fault whose reset has not begun (its detection time), and whether start-up holds FAULT_N (R584, R604). -/
structure Faults where
  safeLow : Bool := false
  safeSince : Nat := 0
  safeRec : Bool := false
  device : Option Nat := none
  held : Bool := false
  deriving DecidableEq, Repr

/-- A load channel beside its registers (R358 to R396): the standing demand, whether the compute die has been absent
since its last command and when a HOLD lease expires, whether the compute die holds a command to resend, what the
output follows, when the current on-time ends, conduction and the envelope clock, the last turn-on, the streak, the
earliest restart, the wait after a wire trip, the shed mark, the wire estimate (2^-32 °C) and its last
update, and the clamp budget (pJ) with its time. -/
structure Chan where
  mode : BitVec 2 := 0
  duty : BitVec 16 := 0
  dsrc : BitVec 3 := 4
  absent : Bool := false
  leaseAt : Option Nat := none
  sent : Bool := false
  amode : BitVec 2 := 0
  onEnd : Nat := 0
  cond : Bool := false
  condSince : Nat := 0
  env : Nat := 0
  onSince : Nat := 0
  edgeAt : Nat := 0
  streak : Bool := false
  restartAt : Nat := 0
  wireWait : Bool := false
  shed : Bool := false
  wire : Int := 85 * 4294967296
  wireAt : Nat := 0
  budget : Int := 200000000000
  budgetAt : Nat := 0
  deriving DecidableEq, Repr

/-- A LOAD slip's command on its way to the power die (R199): the channel, the mode and duty, and whether the word met
QMASK. -/
structure LoadSlip where
  chan : Nat := 0
  mode : BitVec 2 := 0
  duty : BitVec 16 := 0
  ok : Bool := true
  at_ : Nat := 0
  deriving DecidableEq, Repr

/-- The power die's load side: the reflex queue, the events kept while the compute die is absent (R395), the release of
the power die from reset (R386), and the end of the wait after a shed (R375). -/
structure LoadSt where
  reflex : List LoadSlip := []
  held : List ArchEvent := []
  releasedAt : Nat := 0
  aggAt : Nat := 0
  deriving DecidableEq, Repr

/-- What an execution pair holds beside its registers (R412 to R432): the asynchronous inputs of its agreement buffer
not yet freed (kind, commit index), the leading copy's digest while one is under way, and whether breakpoint entry is
armed. -/
structure PairSt where
  agree : List (Nat × Nat) := []
  digLead : Option (BitVec 64) := none
  bpArmed : Bool := false
  deriving DecidableEq, Repr

/-- A pair hand-over to the reserve in progress (R426): the failed pair and the GTC of its fault. -/
structure Handover where
  pair : Nat
  at_ : Nat
  deriving DecidableEq, Repr

/-- A range fill or page test under way (R445). -/
structure FillJob where
  page : Nat
  count : Nat
  test : Bool
  deriving DecidableEq, Repr

/-- The stacks beside their registers: the stored words whose 80 bits differ from their code word, as the bits that differ
(0 to 71 data, 72 to 79 check), words awaiting a correction write (R438), the last four
corrections of each array tile (R441), the running fill, banks being filled (R450), the flash octets (R462) and what
its controller runs. -/
structure Stk where
  ecc : List (Nat × BitVec 80) := []
  corr : List Nat := []
  ceHist : List (Nat × List (Nat × Nat)) := []
  fill : Option FillJob := none
  bankFill : List Nat := []
  flash : List (Nat × BitVec 8) := []
  cmdRun : Bool := false
  copyRun : Bool := false
  deriving DecidableEq, Repr

/-- An outbound twin-window transaction and the core that waits for it (R484, R485); `core` is 16 for none. -/
structure OutTxn where
  txn : Txn
  core : Nat := 16
  deriving DecidableEq, Repr

/-- The twin bridge beside its registers (R485, R486): transactions waiting to issue, the open one, the end of its
attempt, the time of a scheduled retry, an inbound transaction that waits, and the arming of source 0xC43. -/
structure Bridge where
  queue : List OutTxn := []
  open_ : Option OutTxn := none
  tmoAt : Option Nat := none
  retryAt : Option Nat := none
  inWait : Option Txn := none
  permArmed : Bool := true
  deriving DecidableEq, Repr

/-- The device's power states (R585). -/
inductive PState where
  | off | park | doze | awake | hold
  deriving DecidableEq, Repr

/-- Where start-up stands (R602, R604). -/
inductive Boot where
  | waitPgood       -- PWR_REQ asserted, PGOOD low
  | waitCrystal     -- PGOOD high, crystal not yet qualified or PLLs not locked
  | waitReconcile   -- locked, waiting for the night-clock edge of R60
  | filling         -- fill running
  | verifying       -- FILLED, image not yet verified
  | waitImage       -- BOOT_CFG = 0b11 with no verified slot
  | imageReady      -- an image has verified
  | halted          -- R604 path 0b00, or EP0 failed R420
  | running         -- librarian released
  deriving DecidableEq, Repr

/-- Reset, clock and power state outside the registers (16): power state, both dies' resets and the earliest release
of each, pins, the PMIC handshake, start-up, and what PARK keeps. -/
structure Power where
  pstate : PState := .hold
  computeHeld : Bool := true
  computeUntil : Nat := 0
  powerHeld : Bool := false
  powerUntil : Nat := 0
  porstLow : Bool := false
  resetLow : Bool := false
  pgood : Bool := false
  pwrReq : Bool := true
  pwrReqLowSince : Nat := 0
  pgoodBy : Nat := 20000000
  retries : Nat := 0
  boot : Boot := .waitPgood
  bootCfg : BitVec 2 := 0
  pgoodAt : Nat := 0
  vbat12 : Bool := true
  vbatAon : Bool := true
  parkStep : Nat := 0
  parkWings : List Nat := []
  /-- The source of the first wake event that ends PARK (R591). -/
  parkWake : Option Nat := none
  exitPending : Bool := false
  wakes : List Event := []
  /-- When the countdown of SYS_AON_TIMER ends, on the power die's own clock. -/
  aonAt : Option Nat := none
  dozeReq : Bool := false
  imgEntry : BitVec 49 := 0
  imgBase : BitVec 48 := 0
  imgBoot : BitVec 8 := 0
  /-- The crystal must have qualified by this time (R584). -/
  xoBy : Nat := 0
  /-- The fuse load found copies that do not agree (R18), and the persistent slots it found damaged (R521). -/
  fuseVote : Bool := false
  fuseBad : List Nat := []
  deriving DecidableEq, Repr

/-- A CAN frame as a buffer holds it: the identifier fields in the layout of CANn_MBb_ID (R333), its data octets (for a
remote frame `rlen` is the length its DLC requests), and AF of a CAN XL frame. -/
structure CanFrame where
  id : BitVec 52 := 0
  data : Octets := []
  rlen : Nat := 0
  af : BitVec 32 := 0
  deriving DecidableEq, Repr

/-- A transmit attempt on the bus (R309): the buffer (256 is the tunnel head), the frame copied into the transmitter,
whether ABORT or a disabled buffer has ended its retries, and the GTC of its start-of-frame bit. -/
structure CanAtt where
  buf : Nat
  frame : CanFrame
  noRetry : Bool := false
  sof : Nat := 0
  deriving DecidableEq, Repr

/-- A CAN controller beside its registers (R304 to R319): the frame being received with the buffer it matched and its
start-of-frame time, the attempt on the bus, the time each TXREQ was set, the buffers whose requests have escalated,
the copies that wait for an attempt to end, the tunnel transmit queue, whether NOACK has stopped attempts or raised its
notice, and whether bus-off recovery runs. -/
structure CanSt where
  rxOn : Bool := false
  rxBuf : Option Nat := none
  rxSof : Nat := 0
  rxId : BitVec 52 := 0
  att : Option CanAtt := none
  reqAt : List (Nat × Nat) := []
  esc : List Nat := []
  copies : List (Nat × Octets) := []
  tq : List CanFrame := []
  noackDone : Bool := false
  recover : Bool := false
  deriving DecidableEq, Repr

/-- A LIN controller beside its registers (R323 to R327): the identifier of the header under way with the GTC of its
break and its event-triggered mark, the end of the slot, the start of the current table, a SWITCH not yet taken, the
last bus activity, and the end of the silence after a wake pulse (R339). -/
structure LinSt where
  hdr : Option Nat := none
  evt : Bool := false
  brk : Nat := 0
  slotEnd : Nat := 0
  table : Nat := 0
  sw : Bool := false
  lastAct : Nat := 0
  wakeAt : Option Nat := none
  started : Bool := false
  ovr : Bool := false
  deriving DecidableEq, Repr

/-- An ACF message of the IEEE 1722 tunnel (R283, R317 to R320): its type, bus, frame, and the GTC of its frame. -/
structure AcfMsg where
  lin : Bool := false
  bus : Nat := 0
  frame : CanFrame := {}
  gtc : Nat := 0
  deriving DecidableEq, Repr

/-- A value of an open reception context (R202): shelfmark, word, the check word that covers it, whether it is written
provisionally, and the slips that have acted provisionally for it (R197). -/
structure RxVal where
  shelf : Nat
  word : Word
  chk : Option Nat := none
  written : Bool := false
  acted : List Nat := []
  deriving DecidableEq, Repr

/-- A verdict of a check word (R230): its index in the intake list, E2E, and the counter a receive context takes at
accession, with its E2E context. -/
structure RxChk where
  idx : Nat
  e2e : BitVec 2
  ctx : Nat := 0
  ctr : Nat := 0
  match_ : Bool := false
  deriving DecidableEq, Repr

/-- What a verdict for a closed context still means: nothing is awaited, a late verdict is counted (R204), or a verdict is
ignored (R650). -/
inductive Await where
  | none | late | ignore
  deriving DecidableEq, Repr

/-- A reception context (R202 to R204). -/
structure Rx where
  open_ : Bool := false
  ptr : Nat := 0
  count : Nat := 0
  maxlen : Nat := 0
  ovf : Bool := false
  vals : List RxVal := []
  chks : List RxChk := []
  await : Await := .none
  deriving DecidableEq, Repr

/-- The effect a ledger item records (R212): a provisional entry value with the slips that acted for it, a provisional
template field as (bit of the slip store, content to restore), or a cataloguer run with the entry that triggered it. -/
inductive Eff where
  | entry (shelf : Nat) (acted : List Nat)
  | field (bits : List (Nat × Bool))
  | run (cu : Nat) (shelf : Option Nat)
  deriving DecidableEq, Repr

/-- A ledger item (R212): the mask of the contexts it depends on, and its effect. -/
structure Item where
  mask : BitVec 48
  eff : Eff
  deriving DecidableEq, Repr

/-- A trigger in a cataloguer's queue (R222, R223). -/
structure Trig where
  shelf : Nat := 0
  tag : Nat := 0
  kind : BitVec 2 := 0
  prov : Bool := false
  stamp : Nat := 0
  word : Word := 0
  mask : BitVec 48 := 0
  deriving DecidableEq, Repr

/-- A cataloguer beside its registers (R219 to R227): L1 to L31, the program counter, whether it waits in WAITE and for
which register, its queue, whether the next delivery carries LOST, the run's mask, whether one of the run's contexts has
failed, the entry that triggered the run, and the instructions of the run so far. -/
structure Cu where
  l : List (Nat × Word) := []
  pc : Nat := 0
  waitRd : Option Nat := none
  q : List Trig := []
  lost : Bool := false
  mask : BitVec 48 := 0
  failed : Bool := false
  trig : Option Nat := none
  count : Nat := 0
  stalled : Bool := false
  deriving DecidableEq, Repr

/-- Where the slips that act provisionally in a walk are remembered (R197). -/
inductive Home where
  | none | rx (p shelf : Nat) | item (shelf : Nat) | emit (n : Nat)
  deriving DecidableEq, Repr

/-- A walk of a slip list (R196): 0 provisional, 1 at accession, 2 a timeout. -/
structure Walk where
  shelf : Nat
  map : Bool := false
  ptr : Nat
  word : Word
  mask : BitVec 48 := 0
  mode : Nat := 1
  acted : List Nat := []
  stamp : Nat := 0
  home : Home := .none
  deriving DecidableEq, Repr

/-- A word an EMIT handed on that still depends on open contexts (R225). -/
structure Emitted where
  n : Nat
  map : Nat
  ptr : Nat
  word : Word
  mask : BitVec 48
  acted : List Nat := []
  stamp : Nat := 0
  deriving DecidableEq, Repr

/-- A template copy handed to CATP (R201, R275): its octets, the mask of its provisional fields, and whether a context of
the mask has failed while it waits there. -/
structure CatSend where
  data : Octets
  mask : BitVec 48
  failed : Bool := false
  waited : Bool := false
  deriving DecidableEq, Repr

/-- The catalogue beside its registers and memory. -/
structure Cat where
  rx : List (Nat × Rx) := []
  items : List Item := []
  cus : List (Nat × Cu) := []
  walks : List Walk := []
  emits : List Emitted := []
  emitN : Nat := 0
  gathers : List (Nat × Nat) := []
  out : List CatSend := []
  /-- Words in each tile's intake queue and the GTC they are counted at (R244). -/
  inq : List (Nat × (Nat × Nat)) := []
  /-- Has source 0x452 been raised since the counters were cleared? -/
  fullSeen : Bool := false
  deriving DecidableEq, Repr

/-- A collation unit at work (R232, R233): since when, and a STOP not yet reached. -/
structure CollSt where
  since : Nat := 0
  stopAt : Option Nat := none
  deriving DecidableEq, Repr

/-- A cell of a copy (R250, R251): SEQ, OCTETS, its admission and arrival times; `phase` 0 staged, 1 in the fabric or
waiting for its release, 2 released. -/
structure Cell where
  seq : BitVec 8 := 0
  first : Bool
  last : Bool
  octets : Nat
  bad : Bool := false
  phase : Nat := 0
  stamp : Nat := 0
  arrive : Nat := 0
  buf : Nat := 0
  deriving DecidableEq, Repr

/-- One copy of a frame (R272): the number it was formed under, its frame, its input and output, class, octets as it leaves,
length, whether its last cell is formed, cells, number of copies of the frame, copy record, whether a VLAN tag is
inserted, stream, link-local mark, the receive stamps of R78, a bad colophon due, a TX timestamp request (ring,
descriptor), its times in the queue, its start on the wire, and the domain, ingress time and ingress port of a relayed
Sync (R263). -/
structure Copy where
  num : Nat
  frame : Nat
  inp : Nat
  out : Nat
  tc : Nat
  data : Octets
  len : Nat
  closed : Bool
  cells : List Cell
  multi : Nat := 1
  cut : Bool := false
  rec_ : Option Nat := none
  stream : Option Nat := none
  local_ : Bool := false
  gtc : Nat := 0
  almSec : Nat := 0
  almNs : Nat := 0
  bad : Bool := false
  ts : Option (Nat × Nat) := none
  queued : Bool := false
  enqAt : Nat := 0
  dlAt : Nat := 0
  start : Option Nat := none
  sync : Option (Nat × Nat × Nat) := none
  deriving DecidableEq, Repr

/-- A frame a port is receiving (R259): its octets so far, its stream entry with INTAKE, and its start. -/
structure RxFrame where
  octets : Octets := []
  intake : Option Nat := none
  sof : Nat := 0
  deriving DecidableEq, Repr

/-- A switch port beside its registers: the frame being received, the end of its grace time, the armed first-tail-drop
event, its recent admissions as fabric slots (R255), the current gate entry with the operational base and cycle in
almanac ns (R268), the pending administrative base, and the last PLCA beacon. -/
structure Port where
  rx : Option RxFrame := none
  graceAt : Nat := 0
  tdArmed : Bool := true
  admits : List Nat := []
  gate : Nat := 0
  gbase : Nat := 0
  gcycle : Nat := 1
  gpend : Nat := 0
  beacon : Nat := 0
  deriving DecidableEq, Repr

/-- An encapsulation context's gathered messages and the time of the first, and its sequence number (R284). -/
structure Enc where
  msgs : List AcfMsg := []
  since : Nat := 0
  seq : BitVec 8 := 0
  deriving DecidableEq, Repr

/-- The circulation switch beside its registers: its copies in the order they were formed, the next number, the SEQ of
each pair of ports, the messages handed to the tunnel port (context, message) and the frames it sends, the forwarding
table (keys and results), and the arming of 0x3C4 and 0x3C2. -/
structure Switch where
  copies : List Copy := []
  next : Nat := 0
  seqs : List (Nat × BitVec 8) := []
  ports : List (Nat × Port) := []
  tunIn : List (Nat × AcfMsg) := []
  tunOut : List (Nat × Octets) := []
  encs : List (Nat × Enc) := []
  fdb : List (Nat × (BitVec 64 × BitVec 64)) := []
  recArmed : Bool := true
  warned : Bool := false
  /-- Frames that have left the fabric at port 22 with the uplink they came on, oldest first (R512). -/
  rcIn : List (Nat × Octets) := []
  /-- Frames that port 22 has to send (R515): the uplink, the class and the frame. -/
  rcOut : List (Nat × Nat × Octets) := []
  deriving DecidableEq, Repr

/-- A closing round on one ring segment (R342, R344): 0 running, 1 complete, 2 failed; the node addressed and since when. -/
structure Round where
  seg : Nat
  status : Nat := 0
  node : Nat := 0
  sentAt : Nat := 0
  deriving DecidableEq, Repr

/-- A wing beside its registers (R338 to R355): its last entry to AWAKE, the start of the time R353 counts, a retry wait,
the rounds of the current closing, the completion instant, the start of WAKING's timeout, and the wake requests not yet
weighed, in the order of R64. -/
structure Wing where
  awakeAt : Nat := 0
  enteredAt : Nat := 0
  retryAt : Nat := 0
  rounds : List Round := []
  doneAt : Nat := 0
  wakingAt : Nat := 0
  wakes : List Event := []
  deriving DecidableEq, Repr

/-- A record in the mirror's send queue (R566, R568, R569). -/
inductive TwinRec where
  | cat (shelf seq : Nat) (tofired : Bool) (word : Word) (last : Nat)
  | demand (c : Nat) (w : BitVec 64)
  deriving DecidableEq, Repr

/-- The secret and the salt a slot of the sealed store holds (R518). -/
structure VKey where
  secret : Octets := []
  salt : Octets := []
  deriving DecidableEq, Repr

/-- A strongroom queue's command beside its registers (R527, R532 to R536): the librarian flag of its START, its place in the
order of starts, whether its engine has started it, the code it will end with once known, REASON, the slots it uses, the
persistent slot its START claimed, the key of the slot to create at its end, the octets its end still needs (its output, or
a MEASURE's digest), the octets written so far, and the GTC of its start. -/
structure VJob where
  lib : Bool := false
  seq : Nat := 0
  started : Bool := false
  code : Option Nat := none
  reason : Nat := 0
  kids : List Nat := []
  claim : Option Nat := none
  made : Option VKey := none
  out : Octets := []
  len : Nat := 0
  gtc : BitVec 64 := 0
  deriving DecidableEq, Repr

/-- The strongroom beside its registers (14): keys by KID where they differ from the fuse array's (none erases), the
queues' commands, the next place in the order of starts, requests since the last reseed and its time, persistent slots
being programmed since when, and the slots of a zeroise under way with its start (R548). -/
structure Vault where
  keys : List (Nat × Option VKey) := []
  jobs : List (Nat × VJob) := []
  seq : Nat := 0
  seeded : Bool := false
  reqs : Nat := 0
  seedAt : Nat := 0
  prog : List (Nat × Nat) := []
  zero : List Nat := []
  zeroAt : Nat := 0
  /-- The SVN of the running image, and whether start-up was sealed (R539). -/
  svn : BitVec 32 := 0
  bootSealed : Bool := false
  deriving DecidableEq, Repr

/-- The twin connection beside its registers (15): the GTC of the last heartbeat word and what it reported, the twin's map by
entry (carrels from 0, channels from 512, wings from 544), GTC measurements since link-up, the level of TW_ALIVE_OUT with
the GTC of its last toggle, a wake of a parked twin, the opening of the witness window, and a DEPART word sent. -/
structure TwinSt where
  hbAt : Nat := 0
  peerPair : Bool := false
  peerSide : Option Bool := none
  peerMap : List (Nat × BitVec 4) := []
  meas : Nat := 0
  aliveOut : Bool := false
  aliveAt : Nat := 0
  peerWake : Bool := false
  witAt : Nat := 0
  departed : Bool := false
  deriving DecidableEq, Repr

/-- Reasons a command stops with a fault. -/
inductive Fault where
  /-- Raised by no command: every error of the spec is a response, a trap or a fault class with its own effect. Kept so
  that the type has a name to refuse with; safe. -/
  | none
  deriving DecidableEq, Repr

/-- Reasons a command is refused. -/
inductive Refusal where
  /-- Raised by an arm of exec whose command has no meaning yet; safe (the model stops). -/
  | notModelled (mnemonic : String)
  deriving DecidableEq, Repr

/-- The whole state of the block. -/
structure State where
  pending : List Instr := []
  regs : List (Nat × BitVec 64) := []
  /-- What the last read of a group's lowest register captured, by address (R10). -/
  caps : List (Nat × Word) := []
  mem : List (Nat × Word) := []
  resp : Resp := .done
  fresh : Nat := 0
  closed : List Tile := []
  linkUp : Bool := true
  time : Time := {}
  faults : Faults := {}
  arch : Archive := {}
  stk : Stk := {}
  bridge : Bridge := {}
  power : Power := {}
  load : LoadSt := {}
  chans : List (Nat × Chan) := []
  cores : List (Nat × Core) := []
  pairs : List (Nat × PairSt) := []
  handover : Option Handover := none
  carrels : List (Nat × CarrelSt) := []
  /-- Conversion groups started and not complete, in start order, with their stamps (R623). -/
  adc : List (Nat × Nat) := []
  /-- Events relayed to the twin and not yet taken by it: the kind k of R570 and the event. -/
  relays : List (Nat × Event) := []
  /-- The slot that last pulsed each pin, by pin; 64 for none (R620). -/
  pinLast : List (Nat × Nat) := []
  /-- The levels outside applies to GPIO0 to GPIO47, and the levels the synchronisers last passed on (R621). -/
  pinExt : BitVec 48 := 0
  pinSeen : BitVec 48 := 0
  /-- Slots whose next firing is late (R85). -/
  trgLate : List Nat := []
  cat : Cat := {}
  coll : List (Nat × CollSt) := []
  cans : List (Nat × CanSt) := []
  lins : List (Nat × LinSt) := []
  sw : Switch := {}
  wings : List (Nat × Wing) := []
  /-- The last token the manager sent on each ring segment (R343). -/
  tokens : List (Nat × Octets) := []
  /-- The mirror's send queue (R569). -/
  mirror : List TwinRec := []
  /-- Since when the record at the head is being sent. -/
  mirrorAt : Nat := 0
  vault : Vault := {}
  twin : TwinSt := {}
  /-- The W1C bits hardware has set, and the W1S bits software has written as 1 while they were set, in the GTC cycle `roseAt`:
  register and mask (R8). -/
  rose : List (Nat × BitVec 64) := []
  roseAt : BitVec 64 := 0
  deriving DecidableEq, Repr

/-- The state right after a power-on reset. -/
def State.reset : State := {}

end Sys2Proof.Machine
end

