-- ==== Sys2Proof/Machine/Ops.lean ====
section
/-!
DEFINITION. The named operations over registers, memory, events, notices, the archive and the fault classes, shared by
every meaning.
-/
namespace Sys2Proof.Machine

open Sys2Proof

/-! ### Registers -/

/-- A register's value (R6, R9). -/
def State.reg (s : State) (a : Nat) : BitVec 64 := spGet resetReg s.regs a
/-- Write a register whole, as hardware does. -/
def State.setReg (s : State) (a : Nat) (v : BitVec 64) : State := { s with regs := spPut resetReg s.regs a v }
/-- A field of a register. -/
def State.get (s : State) (a : Nat) (f : Fld) : Nat := fget (s.reg a) f
/-- A one-bit field of a register. -/
def State.bit (s : State) (a : Nat) (f : Fld) : Bool := decide (s.get a f = 1)
/-- Set a field of a register, as hardware does. -/
def State.set (s : State) (a : Nat) (f : Fld) (n : Nat) : State := s.setReg a (fput (s.reg a) f n)
/-- Set a one-bit field. -/
def State.setBit (s : State) (a : Nat) (f : Fld) (b : Bool) : State := s.set a f (if b then 1 else 0)
/-- Bits of a register noted for R8 in this GTC cycle. -/
def State.noteRose (s : State) (a : Nat) (m : BitVec 64) : State :=
  { s with roseAt := s.time.gtc, rose := (a, m) :: (if s.roseAt = s.time.gtc then s.rose else []) }
/-- The bits of a register noted for R8 in this GTC cycle. -/
def State.roseMask (s : State) (a : Nat) : BitVec 64 :=
  if s.roseAt = s.time.gtc then s.rose.foldl (fun m e => if e.1 = a then m ||| e.2 else m) 0#64 else 0#64
/-- Hardware sets W1C bits: a software write in the same cycle does not clear them (R8). -/
def State.flagBits (s : State) (a : Nat) (m : BitVec 64) : State := (s.setReg a (s.reg a ||| m)).noteRose a m
/-- Hardware sets a W1C field (R8). -/
def State.flag (s : State) (a : Nat) (f : Fld) : State := s.flagBits a (fmask f)
/-- The largest value of a field. -/
def Fld.top (f : Fld) : Nat := 2 ^ f.width - 1
/-- Count up and stop at the field's maximum. -/
def State.addSat (s : State) (a : Nat) (f : Fld) (n : Nat) : State := s.set a f (min (s.get a f + n) f.top)
/-- Count up and wrap. -/
def State.addWrap (s : State) (a : Nat) (f : Fld) (n : Nat) : State := s.set a f (s.get a f + n)

/-- The GTC now (R53). -/
def State.now (s : State) : Nat := s.time.gtc.toNat

/-- Draw a free value of width w (assumption 2): the value is Config's, the counter moves on. -/
def State.drawFree (s : State) (w : Nat) : BitVec w × State :=
  (Config.freeValue w s.fresh, { s with fresh := s.fresh + 1 })

/-! ### Units held by index -/

/-- Core 2p + k. -/
def State.core (s : State) (c : Nat) : Core := spGet (fun _ => ({} : Core)) s.cores c
/-- Replace a core. -/
def State.setCore (s : State) (c : Nat) (x : Core) : State :=
  { s with cores := spPut (fun _ => ({} : Core)) s.cores c x }
/-- Pair p. -/
def State.pair (s : State) (p : Nat) : PairSt := spGet (fun _ => ({} : PairSt)) s.pairs p
/-- Replace a pair. -/
def State.setPair (s : State) (p : Nat) (x : PairSt) : State :=
  { s with pairs := spPut (fun _ => ({} : PairSt)) s.pairs p x }
/-- Carrel c. -/
def State.carrel (s : State) (c : Nat) : CarrelSt := spGet (fun _ => ({} : CarrelSt)) s.carrels c
/-- Replace a carrel. -/
def State.setCarrel (s : State) (c : Nat) (x : CarrelSt) : State :=
  { s with carrels := spPut (fun _ => ({} : CarrelSt)) s.carrels c x }

/-- Load channel c. -/
def State.chan (s : State) (c : Nat) : Chan := spGet (fun _ => ({} : Chan)) s.chans c
/-- Replace a load channel. -/
def State.setChan (s : State) (c : Nat) (x : Chan) : State :=
  { s with chans := spPut (fun _ => ({} : Chan)) s.chans c x }
/-- Elapsed time of the power die in ns. -/
def State.el (s : State) : Nat := s.time.el
/-- The power die's copy of the GTC, which stamps its events (R56, R57). -/
def State.pnow (s : State) : Nat := s.time.pwrGtc.toNat
/-- A millisecond in ns. -/
def msNs : Nat := 1000000

/-- A quotient whose rounding the spec does not state: the integer below or above it (assumption 6). -/
def divRound (n d : Int) : Int :=
  if d = 0 then 0 else if n % d = 0 then n / d else if Config.roundUp n d then n / d + 1 else n / d
/-- A quotient rounded to the nearest integer, a tie either way (assumption 6). -/
def divNear (n d : Int) : Int :=
  if d = 0 then 0
  else if 2 * (n % d) < d then n / d
  else if d < 2 * (n % d) then n / d + 1
  else if Config.roundUp n d then n / d + 1 else n / d

/-! ### Regions and memory (R434) -/

/-- The regions of R434. -/
inductive Region where
  | sram | catMem | slips | cells | rom | mram | xspi | mmio | twin | none
  deriving DecidableEq, Repr

/-- The region of a word address (R434). -/
def regionOf (a : Nat) : Region :=
  if a ≤ 0x7FFFFF then .sram
  else if 0x1000000 ≤ a ∧ a ≤ 0x13FFFFF then .catMem
  else if 0x1800000 ≤ a ∧ a ≤ 0x18FFFFF then .slips
  else if 0x2000000 ≤ a ∧ a ≤ 0x20FFFFF then .cells
  else if 0x8000000 ≤ a ∧ a ≤ 0x8007FFF then .rom
  else if 0x10000000 ≤ a ∧ a ≤ 0x103FFFFF then .mram
  else if 0x20000000 ≤ a ∧ a ≤ 0x2FFFFFFF then .xspi
  else if 0xF0000000 ≤ a ∧ a ≤ 0xF014FFFF then .mmio
  else if 0x100000000 ≤ a ∧ a ≤ 0x1FFFFFFFF then .twin
  else .none

/-- What a word of memory that nothing has written reads as: the boot ROM's content, zero in the reserved words of the slip
store (R180), and elsewhere the word of the fill, value 0 with provenance 0x03 (R21, R443; assumption 3). -/
def memDefault (a : Nat) : Word :=
  if regionOf a = .rom then Config.bootRom (a - 0x8000000)
  else if 0x1802200 ≤ a ∧ a ≤ 0x1803FFF then 0 else fillWord

/-- The word stored at an address. -/
def State.rdMem (s : State) (a : Nat) : Word := spGet memDefault s.mem a
/-- The canonical form of the memory. -/
def State.memWf (s : State) : Bool := spWf memDefault s.mem

/-! ### The error-correcting code (R437) -/

/-- The number of ones among the low eight bits. -/
def ones8 (n : Nat) : Nat := (List.range 8).foldl (fun k i => if n.testBit i then k + 1 else k) 0
/-- The columns of the check matrix: of data bits 0 to 71, then of check bits 0 to 7 (R437). -/
def eccColumns : List Nat :=
  (List.range 256).filter (fun n => ones8 n = 3) ++ ((List.range 256).filter (fun n => ones8 n = 5)).take 16 ++
  (List.range 8).map (fun j => 2 ^ j)
/-- The XOR of the columns of the bits of an 80-bit word that are 1. -/
def eccSum (x : BitVec 80) : Nat :=
  ((List.range 80).zip eccColumns).foldl (fun n e => if x.getLsbD e.1 then Nat.xor n e.2 else n) 0
/-- The check byte a write stores (R437). -/
def eccCheck (w : Word) : BitVec 8 := BitVec.ofNat 8 (Nat.xor (eccSum (w.setWidth 80)) 3)
/-- What a read finds in a stored word whose bits differ from its code word in `m` (R437): the bit it takes to be wrong,
none wrong (80), or an uncorrectable error. The syndrome is the sum of the columns of the differing bits. -/
def eccFinds (m : BitVec 80) : Option Nat :=
  let s := eccSum m
  if s = 0 then some 80 else eccColumns.findIdx? (fun h => decide (h = s))

/-- The bits in which a stored word differs from its code word. -/
def State.eccAt (s : State) (a : Nat) : BitVec 80 := spGet (fun _ => 0#80) s.stk.ecc a
/-- Set the bits in which a stored word differs. -/
def State.setEcc (s : State) (a : Nat) (e : BitVec 80) : State :=
  { s with stk := { s.stk with ecc := spPut (fun _ => 0#80) s.stk.ecc a e } }

/-- Write a whole word with fresh check bits: any error in it is gone, and no correction write of an older read is
made (R19, R438). -/
def State.wrMem (s : State) (a : Nat) (w : Word) : State :=
  let s1 := s.setEcc a 0#80
  { s1 with mem := spPut memDefault s1.mem a w, stk := { s1.stk with corr := s1.stk.corr.filter (fun x => x ≠ a) } }

/-! ### Ordered streams (R64 to R68) -/

/-- Does event x come no later than y in the order of R64? -/
def Event.le (x y : Event) : Bool :=
  decide (x.stamp < y.stamp) || (decide (x.stamp = y.stamp) &&
    (decide (x.src < y.src) || (decide (x.src = y.src) && (!x.sideB || y.sideB))))

/-- Put an event in its place; one equal in key to those present goes after them (production order). -/
def insEvent (e : Event) : List Event → List Event
  | [] => [e]
  | x :: t => if Event.le x e then x :: insEvent e t else e :: x :: t

/-- The enable of source s for carrel c (R137). -/
def noticeMask (c : Nat) (s : State) : BitVec 64 := (s.carrel c).dk.nmask &&& s.reg (R.CARREL_Cc_NALLOW c)
/-- Is source number src enabled for carrel c? -/
def noticeEnabled (c src : Nat) (s : State) : Bool := (noticeMask c s).getLsbD (src / 64)
/-- The depth of a carrel's notice queue (R142, R496). -/
def noticeDepth (c : Nat) (s : State) : Nat := s.get (R.CARREL_Cc_CFG c) F.CARREL_Cc_CFG_QDEPTH

/-- Does the carrel take notices? Carrel 0 always; another when it is configured and not in carrel reset (R509, R510). -/
def takesNotices (c : Nat) (s : State) : Bool :=
  decide (c = 0) ||
    (s.bit (R.CARREL_Cc_CFG c) F.CARREL_Cc_CFG_V && decide (s.get (R.CARREL_Cc_STAT c) F.CARREL_Cc_STAT_STATE ≠ 3))

/-- A notice's release ends DOZE where R587 says so; the end itself is the command DOZE_EXIT. -/
def dozeWake (c src : Nat) (s : State) : State :=
  let p := s.get (R.CARREL_Cc_CFG c) F.CARREL_Cc_CFG_PAIR
  let asleep := decide (s.get (R.EXEC_Pp_STAT p) F.EXEC_Pp_STAT_STATE = 7)
  let ctl := decide (0xC00 ≤ src) && decide (src ≤ 0xC3F) && asleep
  let lib := decide (c = 0) && (s.reg R.SYS_PWR_DZMASK).getLsbD (src / 64)
  if (ctl || lib) && (s.power.dozeReq || decide (s.power.pstate = .doze)) then
    { (s.set R.SYS_PWR_STAT F.SYS_PWR_STAT_WAKE_SRC src).setBit R.SYS_PWR_STAT F.SYS_PWR_STAT_WAKE_PARK false with
      power := { s.power with exitPending := true } }
  else s

/-! ### Ledger registers and commits (R90, R98, R402) -/

/-- A ledger register of a core; L0 reads as value 0 with provenance 0xC0 (R35, R90). -/
def Core.get (k : Core) (r : BitVec 6) : Word := if r = 0 then immw 0 else spGet (fun _ => immw 0) k.l r.toNat
/-- Write a ledger register; a write to L0 is discarded (R90). -/
def Core.put (k : Core) (r : BitVec 6) (w : Word) : Core :=
  if r = 0 then k else { k with l := spPut (fun _ => immw 0) k.l r.toNat w }
/-- A ledger register of core c. -/
def State.lreg (s : State) (c : Nat) (r : BitVec 6) : Word := (s.core c).get r
/-- Write a ledger register of core c. -/
def State.setLreg (s : State) (c : Nat) (r : BitVec 6) (w : Word) : State := s.setCore c ((s.core c).put r w)

/-- An instruction commits on core c (R98, R108, R402, R414): the next program counter, the carrel's count of committed
instructions, the pair's commit index, and the agreement buffer's entries of earlier commits freed. -/
def commitTo (c : Nat) (npc : BitVec 49) (s : State) : State :=
  let k := s.core c
  let s1 := s.setCore c { k with pc := npc }
  let q := s1.carrel k.d1.toNat
  let s2 := s1.setCarrel k.d1.toNat { q with dk := { q.dk with retired := q.dk.retired + 1 } }
  let p := c / 2
  let s3 := if c % 2 = 0 then s2.setReg (R.EXEC_Pp_COMMITS p) (s2.reg (R.EXEC_Pp_COMMITS p) + 1) else s2
  s3.setPair p { s3.pair p with agree := [] }

/-- An asynchronous input is consumed at the pair's present commit index (R413): kind 0 notice, 1 switch, 2 deadline,
3 digest, 4 time read. -/
def agreeNote (c kind : Nat) (s : State) : State :=
  let p := c / 2
  s.setPair p { s.pair p with agree := (kind, (s.reg (R.EXEC_Pp_COMMITS p)).toNat) :: (s.pair p).agree.take 15 }

/-- The header word of a notice (R138). -/
def noticeHeader (n : Notice) (lost : Bool) : Word :=
  (BitVec.ofNat 12 n.src) ++ (BitVec.ofBool n.late) ++ (BitVec.ofBool lost) ++ (BitVec.ofNat 58 n.stamp)

/-- Take the oldest released notice of a carrel: its header with LOST, and its payload (R138, R140, R142). -/
def popNotice (c : Nat) (s : State) : Option (Word × Word × State) :=
  let k := s.carrel c
  match k.nq.queue with
  | [] => none
  | n :: t => some (noticeHeader n k.nq.lost, n.payload, s.setCarrel c { k with nq := { k.nq with queue := t, lost := false } })

/-- WAITE returns two words on core c and commits (R140, R164). -/
def waiteWrite (c : Nat) (rd : BitVec 6) (h p : Word) (s : State) : State :=
  let s1 := s.setCore c { ((s.core c).put rd h).put (rd + 1) p with wait := none }
  agreeNote c 0 (commitTo c ((s.core c).pc + 1) s1)

/-- A core waiting in WAITE for carrel c takes the notice just queued (R140). -/
def waiteReturn (c : Nat) (s : State) : State :=
  match (List.range 16).find? fun k => decide ((s.core k).d1.toNat = c) && !(s.core k).idle &&
      (match (s.core k).wait with | some (.waite _ _) => true | _ => false) with
  | none => s
  | some k =>
    match (s.core k).wait, popNotice c s with
    | some (.waite rd _), some (h, p, s1) => waiteWrite k rd h p s1
    | _, _ => s

/-- Put a released event into a carrel's notice queue: only if its source is enabled now (R136), and not when the
queue is full, which loses it (R142). -/
def deliver (c : Nat) (e : Event) (late : Bool) (s : State) : State :=
  let k := s.carrel c
  let k1 : CarrelSt := { k with nq := { k.nq with last := max k.nq.last e.stamp } }
  let s1 := if late then s.addSat R.TIME_LATE_CNT F.TIME_LATE_CNT_COUNT 1 else s
  if !noticeEnabled c e.src s then s1.setCarrel c k1
  else if noticeDepth c s ≤ k1.nq.queue.length then
    s1.setCarrel c { k1 with nq := { k1.nq with lost := true },
                             dk := { k1.dk with nlost := if k1.dk.nlost = BitVec.allOnes 32 then k1.dk.nlost else k1.dk.nlost + 1 } }
  else
    let n : Notice := { src := e.src, late := late, stamp := e.stamp, payload := e.payload }
    let remote := s.bit (R.CARREL_Cc_CFG c) F.CARREL_Cc_CFG_REMOTE
    let g := if remote && k1.gather.isNone then some (s.now + 1000 * s.get (R.CARREL_Cc_SES_CTL c) F.CARREL_Cc_SES_CTL_GATHER)
             else k1.gather
    waiteReturn c (dozeWake c e.src (s1.setCarrel c { k1 with nq := { k1.nq with queue := k1.nq.queue ++ [n] }, gather := g }))

/-- A completion, event or notice that meets carrel c in carrel reset is discarded and counted (R510). -/
def lateWork (c : Nat) (s : State) : State :=
  let r := R.CARREL_Cc_STAT c
  if s.get r F.CARREL_Cc_STAT_STATE = 3 then s.addSat r F.CARREL_Cc_STAT_LATE 1 else s

/-- An event reaches a carrel's stream: it waits for its release, or is delivered at once as late when the stream has
already released a later stamp (R66, R68). -/
def notify (e : Event) (c : Nat) (s : State) : State :=
  if !takesNotices c s then lateWork c s
  else
    let k := s.carrel c
    if e.stamp < k.nq.last then deliver c e true s
    else s.setCarrel c { k with nq := { k.nq with wait := insEvent e k.nq.wait } }

/-- An event reaches several carrels, each once. -/
def notifyAll (e : Event) (cs : List Nat) (s : State) : State := cs.eraseDups.foldl (fun t c => notify e c t) s

/-- Who receives the events of an owned resource (R479). -/
def ownDest (a : Nat) (s : State) : List Nat :=
  if !s.bit a F.TIME_TRGn_OWN_V then [0]
  else if s.bit a F.TIME_TRGn_OWN_ABSENT then []
  else [s.get a F.TIME_TRGn_OWN_OWNER]

/-- The owner of a resource as the identity an engine acts with (R40): carrel 0 when unowned. -/
def ownerOf (a : Nat) (s : State) : Nat :=
  if s.bit a F.TIME_TRGn_OWN_V then s.get a F.TIME_TRGn_OWN_OWNER else 0
/-- The completion of an owned resource's work: to its owner's stream, or discarded and counted as late while the owner is
in carrel reset (R479, R510). -/
def raiseOwner (src : Nat) (payload : Word) (a : Nat) (s : State) : State :=
  if s.bit a F.TIME_TRGn_OWN_V && s.bit a F.TIME_TRGn_OWN_ABSENT then lateWork (s.get a F.TIME_TRGn_OWN_OWNER) s
  else notifyAll { stamp := s.now, src := src, payload := payload } (ownDest a s) s

/-- Is the owner of a resource in carrel reset (R479)? -/
def ownerAbsent (a : Nat) (s : State) : Bool := s.bit a F.TIME_TRGn_OWN_V && s.bit a F.TIME_TRGn_OWN_ABSENT

/-! ### The archive's input (R451, R452) -/

/-- Put an archive event in the order of R64. -/
def insArch (e : ArchEvent) : List ArchEvent → List ArchEvent
  | [] => [e]
  | x :: t => if Event.le x.ev e.ev then x :: insArch e t else e :: x :: t

/-- An event is offered to the archive: classes 0 and 4 find no place with 56 taken, the others with 64 taken; a
refused one is counted and marks the next entry (R452). -/
def archive (e : Event) (cls : Nat) (detail : BitVec 64) (s : State) : State :=
  let off := (decide (cls = 4) && !s.bit R.ARCH_CTL F.ARCH_CTL_EVT_EN) || (decide (cls = 0) && !s.bit R.ARCH_CTL F.ARCH_CTL_CORR_EN)
  let room := if cls = 0 ∨ cls = 4 then 56 else 64
  if off then s
  else if room ≤ s.arch.inq.length then
    let s1 := s.addSat R.ARCH_LOSS F.ARCH_LOSS_DROPPED 1
    let s2 := { s1 with arch := { s1.arch with gap := true, armed := false } }
    if s.arch.armed then notify { stamp := s.now, src := 0xC5B, payload := immw 0 } 0 s2 else s2
  else { s with arch := { s.arch with inq := insArch { ev := e, cls := BitVec.ofNat 3 cls, detail := detail } s.arch.inq } }

/-! ### Tiles and faults (R26, R44) -/

/-- Is a tile's port closed? -/
def tileClosed (t : Tile) (s : State) : Bool := s.closed.contains t
/-- Close a tile's ports (R26). -/
def closeTile (t : Tile) (s : State) : State := if s.closed.contains t then s else { s with closed := t :: s.closed }
/-- Reopen a tile's ports (R27). -/
def openTile (t : Tile) (s : State) : State := { s with closed := s.closed.filter (fun x => x ≠ t) }

/-- The tile whose unit raises a source number (R69), where the table ties it to one. -/
def srcTile (src : Nat) : Option Tile :=
  if src ≤ 7 then some .switches
  else if src ≤ 0x1F then some (.gates ⟨(src - 8) / 8 % 3, Nat.mod_lt _ (by decide)⟩)
  else if 0x200 ≤ src ∧ src ≤ 0x27F then some (.can ⟨(src - 0x200) / 32 % 4, Nat.mod_lt _ (by decide)⟩)
  else if 0x280 ≤ src ∧ src ≤ 0x2BF then some .lin
  else if 0x2C0 ≤ src ∧ src ≤ 0x2FF then some .netSleep
  else if 0x300 ≤ src ∧ src ≤ 0x31F then some .t1s
  else if 0x320 ≤ src ∧ src ≤ 0x34F then some .serdes
  else if 0x350 ≤ src ∧ src ≤ 0x35F then some .uplinks
  else if 0x360 ≤ src ∧ src ≤ 0x3C0 then some .switchCore
  else if 0x400 ≤ src ∧ src ≤ 0x43F then some (.cataloguer ⟨(src - 0x400) / 8 % 8, Nat.mod_lt _ (by decide)⟩)
  else if 0x440 ≤ src ∧ src ≤ 0x44F then some .collation
  else if 0x84 ≤ src ∧ src ≤ 0xBF then some .strongroom
  else if 0xC0 ≤ src ∧ src ≤ 0xFF then some .twinBridge
  else if 0x800 ≤ src ∧ src ≤ 0xBFF then some .carrelTable
  else if 0xC00 ≤ src ∧ src ≤ 0xC42 then some .time
  else if 0xC70 ≤ src ∧ src ≤ 0xC8F then some .ioc
  else none

/-- Is an event discarded because its tile's ports are closed (R26)? -/
def srcClosed (src : Nat) (s : State) : Bool :=
  match srcTile src with
  | some t => tileClosed t s
  | none => false

/-- A unit raises an event to carrels, stamped now, with an immediate payload (R69, R136). -/
def raiseTo (src : Nat) (payload : Word) (cs : List Nat) (s : State) : State :=
  if srcClosed src s then s
  else notifyAll { stamp := s.now, src := src, payload := payload } cs s

/-- Raise an event to which no rule gives a payload layout: the payload's value is free (assumption 2). -/
def raiseFree (src : Nat) (cs : List Nat) (s : State) : State :=
  let (v, s1) := s.drawFree 64
  raiseTo src (immw v) cs s1

/-- Raise to the librarian alone. -/
def raiseLib (src : Nat) (v : Nat) (s : State) : State := raiseTo src (immw (BitVec.ofNat 64 v)) [0] s

/-- Set the SEEN bit of a fault class (R51). -/
def seen (cls : Nat) (s : State) : State :=
  match cls with
  | 0 => s.flag R.SYS_FAULT_STAT F.SYS_FAULT_STAT_CORR_SEEN
  | 1 => s.flag R.SYS_FAULT_STAT F.SYS_FAULT_STAT_CONT_SEEN
  | 2 => s.flag R.SYS_FAULT_STAT F.SYS_FAULT_STAT_SILENT_SEEN
  | _ => s

/-- An event of a kind k (R570) is relayed to the twin while the link is up. -/
def relayTwin (k src : Nat) (payload : BitVec 64) (s : State) : State :=
  if s.bit R.TWIN_STAT F.TWIN_STAT_LINK_UP then
    { s with relays := s.relays ++ [(k, { stamp := s.now, src := src, payload := immw payload })] }
  else s

/-- A detected fault of a class (R44): its SEEN bit, its archive entry, and its notices, to the librarian and to the
carrels named. A device-class fault gives no notice and starts the compute-die reset, which the archive entry
precedes (R455). -/
def faultAt (stamp : Nat) (cls src : Nat) (payload detail : BitVec 64) (also : List Nat) (s : State) : State :=
  let e : Event := { stamp := stamp, src := src, payload := immw payload }
  let s1 := archive e cls detail (seen cls s)
  if cls = 3 then relayTwin 1 src payload { s1 with faults := { s1.faults with device := some (s1.faults.device.getD s.now) } }
  else notifyAll e (0 :: also) s1

/-- A fault detected now. -/
def fault (cls src : Nat) (payload detail : BitVec 64) (also : List Nat) (s : State) : State :=
  faultAt s.now cls src payload detail also s

/-- Is FAULT_N asserted (R46)? -/
def faultOut (s : State) : Bool :=
  let lvl := s.get R.SYS_FAULT_CTL F.SYS_FAULT_CTL_FAULT_LEVEL
  let st := R.SYS_FAULT_STAT
  (s.bit st F.SYS_FAULT_STAT_CORR_SEEN && decide (lvl = 0)) ||
  (s.bit st F.SYS_FAULT_STAT_CONT_SEEN && decide (lvl ≤ 1)) ||
  (s.bit st F.SYS_FAULT_STAT_SILENT_SEEN && decide (lvl ≤ 2)) ||
  s.bit st F.SYS_FAULT_STAT_DEVICE_SEEN || s.bit st F.SYS_FAULT_STAT_LOCKSTEP_BROKEN ||
  s.bit R.SYS_FAULT_CTL F.SYS_FAULT_CTL_FAULT_TEST || s.faults.device.isSome || s.faults.held

/-! ### Memory arrays and their errors (R437 to R442) -/

/-- The array an address belongs to, as R439 lists them. -/
inductive Arr where
  | sram (t : Nat) | mram | cat (t : Nat) | cells | canPool (n : Nat) | program (t : Nat) | other
  deriving DecidableEq, Repr

/-- The array of a word address (R11, R220, R301, R434, R436). -/
def arrOf (a : Nat) : Arr :=
  match regionOf a with
  | .sram => .sram (a / 0x100000)
  | .mram => .mram
  | .catMem => .cat ((a - 0x1000000) / 0x100000)
  | .slips => .cat ((a - 0x1800000) / 0x40000)
  | .cells => .cells
  | .mmio =>
    if blockOf a = 11 ∧ 0x440 ≤ (offsetOf a) % 0x1000 then .canPool (offsetOf a / 0x1000)
    else if blockOf a = 6 ∧ offsetOf a < 0x8000 then .program (offsetOf a / 0x1000)
    else .other
  | _ => .other

/-- The source number of an array's memory errors (R442). -/
def arrSrc : Arr → Nat
  | .sram t => 0xC50 + t
  | .mram => 0xC58
  | .cat t => 0xC5C + t
  | .cells => 0x3C1
  | .canPool _ => 0xC64
  | .program _ => 0xC65
  | .other => 0xC5A

/-- The tile of an array. -/
def arrTile : Arr → Tile
  | .sram t => .sram ⟨t % 8, Nat.mod_lt _ (by decide)⟩
  | .mram => .mram
  | .cat t => .catMem ⟨t % 4, Nat.mod_lt _ (by decide)⟩
  | .cells => .cellMem
  | .canPool n => .can ⟨n / 4 % 4, Nat.mod_lt _ (by decide)⟩
  | .program t => .cataloguer ⟨t % 8, Nat.mod_lt _ (by decide)⟩
  | .other => .fillScrub

/-- The DETAIL word of a memory error (R453). -/
def eccDetail (a bit : Nat) (uncorr scrub wd : Bool) : BitVec 64 :=
  BitVec.ofNat 64 (a % 2 ^ 48 + bit % 128 * 2 ^ 48 + (if uncorr then 2 ^ 55 else 0) + (if scrub then 2 ^ 56 else 0) +
    (if wd then 2 ^ 57 else 0))

/-- Count a corrected or an uncorrectable word in the array's counter (R466). -/
def countCe (r : Arr) (uncorr : Bool) (s : State) : State :=
  match r with
  | .sram t => s.addSat (R.STK_CEt t) (if uncorr then F.STK_CEt_UNCORR else F.STK_CEt_CORR) 1
  | .mram => s.addSat R.STK_CEM (if uncorr then F.STK_CEM_UNCORR else F.STK_CEM_CORR) 1
  | _ => s

/-- A key for each array tile's record of its last corrections (R441). -/
def ceKey (r : Arr) : Nat := arrSrc r * 64 + (match r with | .canPool n => n | .program t => t | _ => 0)

/-- Report a corrected word: class 0, its archive entry unless it repeats within 1 s (R439, R441). -/
def reportCorrected (a bit : Nat) (scrub : Bool) (s : State) : State :=
  let r := arrOf a
  let hist := spGet (fun _ => []) s.stk.ceHist (ceKey r)
  let repeat_ := s.bit R.STK_CTL F.STK_CTL_CE_SUPP && hist.any (fun e => decide (e.1 = a) && decide (s.now ≤ e.2 + 1000000000))
  let hist' := ((a, s.now) :: hist.filter (fun e => e.1 ≠ a)).take 4
  let s1 := countCe r false s
  let s2 := { s1 with stk := { s1.stk with ceHist := spPut (fun _ => []) s1.stk.ceHist (ceKey r) hist' } }
  let d := eccDetail a bit false scrub false
  if repeat_ then raiseTo (arrSrc r) (immw d) [0] (seen 0 s2)
  else fault 0 (arrSrc r) d d [] s2

/-- Set a page's withdrawal bit (R440, R449). -/
def withdrawPage (a : Nat) (s : State) : State :=
  match regionOf a with
  | .sram =>
    let n := a / 4096
    s.setReg (R.STK_WDk (n / 64)) (s.reg (R.STK_WDk (n / 64)) ||| (1#64 <<< (n % 64)))
  | .mram =>
    let n := (a - 0x10000000) / 4096
    s.setReg (R.STK_MWDk (n / 64)) (s.reg (R.STK_MWDk (n / 64)) ||| (1#64 <<< (n % 64)))
  | _ => s

/-- Report an uncorrectable word: contained to the page in general SRAM and MRAM (R440), to the frame in cell memory
(R258), and otherwise to the tile, whose ports close (R26, R439). -/
def reportUncorrectable (a : Nat) (scrub : Bool) (s : State) : State :=
  let r := arrOf a
  let s1 := countCe r true s
  match r with
  | .sram _ =>
    let wd := s.bit R.STK_CTL F.STK_CTL_AUTO_WD
    let d := eccDetail a 127 true scrub wd
    fault 1 (arrSrc r) d d [s.get (R.STK_TAGn (a / 4096)) F.STK_TAGn_OWNER] (if wd then withdrawPage a s1 else s1)
  | .mram =>
    let wd := s.bit R.STK_CTL F.STK_CTL_AUTO_WD
    let d := eccDetail a 127 true scrub wd
    fault 1 (arrSrc r) d d [] (if wd then withdrawPage a s1 else s1)
  | .cells =>
    let d := eccDetail a 127 true scrub false
    fault 1 (arrSrc r) d d [] s1
  | _ =>
    let d := eccDetail a 127 true scrub false
    closeTile (arrTile r) (fault 1 (arrSrc r) d d [] s1)

/-- Who reads an array: a fabric transaction, an engine of the array's own unit, or the scrubber (R439). -/
inductive Reader where
  | fabric | engine | scrub
  deriving DecidableEq, Repr

/-- A read of an array (R19, R437 to R439): the word as the read corrects it, or nothing when it is uncorrectable; the
report is made, and a correction write becomes due. A fabric read of a CAN pool or of program memory that finds an
uncorrectable word only receives its error response, and a cataloguer that finds one stops with cause 8. -/
def readArray (a : Nat) (who : Reader) (s : State) : Option Word × State :=
  let m := s.eccAt a
  match eccFinds m with
  | some 80 => (some (s.rdMem a ^^^ m.setWidth 72), s)
  | some bit =>
    let s1 := reportCorrected a bit (decide (who = .scrub)) s
    (some (s.rdMem a ^^^ (m ^^^ (1#80 <<< bit)).setWidth 72),
     { s1 with stk := { s1.stk with corr := if s1.stk.corr.contains a then s1.stk.corr else a :: s1.stk.corr } })
  | none =>
    match who, arrOf a with
    | .fabric, .canPool _ => (none, s)
    | .fabric, .program _ => (none, s)
    | .engine, .program _ => (none, s)
    | _, _ => (none, reportUncorrectable a (decide (who = .scrub)) s)

end Sys2Proof.Machine
end

