-- ==== Sys2Proof/Machine/TwinMap.lean ====
section
/-!
DEFINITION. The ownership map of the twins and the mirror's send queue (spec/15_twin.md R562, R563, R566 to R569), as
carrels, channels, wings and the catalogue use them.
-/
namespace Sys2Proof.Machine

open Sys2Proof

/-! ### The ownership map (R562, R563) -/

/-- What the map gives entries to. -/
inductive MapKind where
  | carrel | chan | wing
  deriving DecidableEq, Repr

/-- The register that holds an entry of the map and the entry's lowest bit. -/
def mapAt (k : MapKind) (n : Nat) : Nat × Nat :=
  match k with
  | .carrel => (R.TWIN_CMAPk (n / 16), 4 * (n % 16))
  | .chan => (0xF0120220 + n / 16, 4 * (n % 16))
  | .wing => (0xF0120222, 4 * (n % 16))
/-- The local side: 0 A, 1 B (R554). -/
def localSide (s : State) : Nat := s.get R.TWIN_STAT F.TWIN_STAT_SIDE
/-- An entry of the map; carrel 0's reads as the local side with TAKE = 0 (R562). -/
def mapEntry (k : MapKind) (n : Nat) (s : State) : Nat :=
  if k = .carrel ∧ n = 0 then localSide s
  else s.get (mapAt k n).1 ⟨(mapAt k n).2, 4⟩
/-- Set an entry of the map. -/
def setMapEntry (k : MapKind) (n v : Nat) (s : State) : State :=
  if k = .carrel ∧ n = 0 then s else s.set (mapAt k n).1 ⟨(mapAt k n).2, 4⟩ v
/-- Is a resource mapped to the twin and the map enforced (R555, R563)? -/
def mappedAway (k : MapKind) (n : Nat) (s : State) : Bool :=
  s.bit R.TWIN_CTL F.TWIN_CTL_PAIR_EN && decide (mapEntry k n s % 2 ≠ localSide s)
/-- Does a segment only listen: a member of a wing mapped to the twin (R563)? -/
def segListens (g : Nat) (s : State) : Bool :=
  let r := R.NM_SEGs_CFG g
  s.bit r F.NM_SEGs_CFG_MEMBER && mappedAway .wing (s.get r F.NM_SEGs_CFG_WING) s

/-! ### The mirror stream (R566, R569) -/

/-- Records leave the send queue, one each 18 ns while the link is up (R569); QDEPTH and SENT follow. -/
def mirrorDrain (s : State) : State :=
  let up := s.bit R.TWIN_STAT F.TWIN_STAT_LINK_UP
  let n := if up then min s.mirror.length ((s.now - s.mirrorAt) / 18) else 0
  let s1 := { s with mirror := s.mirror.drop n, mirrorAt := if up then s.mirrorAt + 18 * n else s.now }
  (s1.addWrap R.TWIN_MIR_CNT F.TWIN_MIR_CNT_SENT n).set R.TWIN_MIR_STAT F.TWIN_MIR_STAT_QDEPTH s1.mirror.length

/-- A record joins the send queue, or is dropped and counted (R569). -/
def mirrorPut (x : TwinRec) (s0 : State) : State :=
  let s := mirrorDrain s0
  if s.mirror.length < 4096 then
    let s1 := { s with mirror := s.mirror ++ [x], mirrorAt := if s.mirror.isEmpty then s.now else s.mirrorAt }
    s1.set R.TWIN_MIR_STAT F.TWIN_MIR_STAT_QDEPTH s1.mirror.length
  else
    let first := decide (s.get R.TWIN_MIR_STAT F.TWIN_MIR_STAT_DROPPED = 0)
    let s1 := s.addSat R.TWIN_MIR_STAT F.TWIN_MIR_STAT_DROPPED 1
    if first then raiseLib 0x0CE 0 s1 else s1

/-! ### Demand records (R568) -/

/-- The demand record of a channel, in the layout of TWIN_DEMc. -/
def demandWord (c : Nat) (s : State) : BitVec 64 :=
  let cmd := R.LOAD_CHc_CMD c
  fput (fput (fput (fput 0#64 F.TWIN_DEMc_MODE (s.get cmd F.LOAD_CHc_CMD_MODE)) F.TWIN_DEMc_DUTY (s.get cmd F.LOAD_CHc_CMD_DUTY))
    F.TWIN_DEMc_OUT (s.get (R.LOAD_CHc_STAT c) F.LOAD_CHc_STAT_OUT)) F.TWIN_DEMc_V 1
/-- A channel whose entry names the local side with TAKE = 1 sends a demand record while the twins are paired (R568). -/
def demandOffer (c : Nat) (s : State) : State :=
  let e := mapEntry .chan c s
  if s.get R.TWIN_STAT F.TWIN_STAT_STATE = 1 ∧ e % 2 = localSide s ∧ e.testBit 1 = true then mirrorPut (.demand c (demandWord c s)) s
  else s

end Sys2Proof.Machine
end

