-- ==== Sys2Proof/Machine/RegWrite.lean ====
section
/-!
DEFINITION. What a write does to a register's fields, by their access codes (R6), and which writes R7 refuses.
-/
namespace Sys2Proof.Machine

/-- The bits of a register that some field covers; the others are reserved. -/
def RSpec.covered (r : RSpec) : BitVec 64 := r.fields.foldl (fun m f => m ||| fmask f.fld) 0#64

/-- Does a written value of a field break its stated range or carry a reserved encoding (R7)? The reset value is always
accepted where a range is stated. -/
def FSpec.bad (f : FSpec) (w : BitVec 64) : Bool :=
  match f.acc with
  | .ro => false
  | _ =>
    match f.chk with
    | .any => false
    | .rng lo hi => (decide (fget w f.fld < lo) || decide (hi < fget w f.fld)) && decide (fget w f.fld ≠ f.rst)
    | .rsv lo hi => decide (lo ≤ fget w f.fld) && decide (fget w f.fld ≤ hi)

/-- Does a write break WONCE: the field has been changed from its reset value and the write carries another value (R6)? -/
def FSpec.onceBad (f : FSpec) (old w : BitVec 64) : Bool :=
  decide (f.acc = .wonce) && decide (fget old f.fld ≠ f.rst) && decide (fget w f.fld ≠ fget old f.fld)

/-- Is a write refused by R6 or R7 alone? -/
def RSpec.refuses (r : RSpec) (old w : BitVec 64) : Bool :=
  decide (w &&& ~~~r.covered ≠ 0#64) || r.fields.any (fun f => f.bad w) || r.fields.any (fun f => f.onceBad old w)

/-- One field after a write (R6). -/
def FSpec.apply (f : FSpec) (w v : BitVec 64) : BitVec 64 :=
  match f.acc with
  | .rw | .wonce => fput v f.fld (fget w f.fld)
  | .ro | .wo => v
  | .w1c => v &&& ~~~(w &&& fmask f.fld)
  | .w1s => v ||| (w &&& fmask f.fld)

/-- The register after a write that is not refused (R6). -/
def RSpec.apply (r : RSpec) (old w : BitVec 64) : BitVec 64 := r.fields.foldl (fun v f => f.apply w v) old

end Sys2Proof.Machine
end

