-- ==== Sys2Proof/Machine/Perm.lean ====
section
/-!
DEFINITION. Permits and ownership (spec/12_fabric_permits_bridges.md R470 to R483): the checks a target makes on a
transaction, in their order, and the PERM log.
-/
namespace Sys2Proof.Machine

open Sys2Proof

/-- Reason codes (R469). -/
def rTARGET : Reason := 0
/-- UNMAPPED (R469). -/
def rUNMAPPED : Reason := 1
/-- PERMIT (R469). -/
def rPERMIT : Reason := 2
/-- LOCKSTEP (R469). -/
def rLOCKSTEP : Reason := 3
/-- TAG (R469). -/
def rTAG : Reason := 4
/-- WITHDRAWN (R469). -/
def rWITHDRAWN : Reason := 5
/-- NARROW (R469). -/
def rNARROW : Reason := 6
/-- FAILED (R469). -/
def rFAILED : Reason := 7

/-- The word holding the permit entry of a master at an address's target (R472). -/
def permitAddr (a m : Nat) : Nat :=
  match regionOf a with
  | .sram => R.PERM_TABLE 0 m
  | .catMem | .slips => R.PERM_TABLE 1 m
  | .cells => R.PERM_TABLE 2 m
  | .rom => R.PERM_TABLE 3 m
  | .mram => R.PERM_TABLE 4 m
  | .xspi => R.PERM_TABLE 5 m
  | .twin => R.PERM_TABLE 6 m
  | .mmio => if blockOf a = 11 then R.PERM_TABLE 7 m else 0xF0000000 + 0x10000 * blockOf a + 0xF000 + m
  | .none => 0

/-- Is the address a permit entry, in a block's own table or in the PERM block's region tables (R472)? -/
def isPermitEntry (a : Nat) : Bool :=
  isBlockPermit a || (decide (R.PERM_TABLE 0 0 ≤ a) && decide (a ≤ R.PERM_TABLE 7 63))

/-- The entry whose CFG a write to a permit entry or an ownership register needs (R476): the master's own entry in the table
of the target the written word guards. -/
def cfgAddr (a m : Nat) : Nat :=
  if R.PERM_TABLE 0 0 ≤ a ∧ a ≤ R.PERM_TABLE 7 63 then R.PERM_TABLE ((a - R.PERM_TABLE 0 0) / 64) m else permitAddr a m

/-- The group of the lowest-numbered CAN buffer whose data area covers a pool word (R328). -/
def poolGroup (n word : Nat) (s : State) : Option Nat :=
  ((List.range 256).find? fun b =>
    let p := s.get (R.CANn_MBb_CFG n b) F.CANn_MBb_CFG_DPTR
    decide (p ≤ word) && decide (word < p + s.get (R.CANn_MBb_CFG n b) F.CANn_MBb_CFG_DSIZE)).map (· / 16)

/-- The ownership register of the resource an MMIO word belongs to (R478, R508), none where it belongs to none. -/
def ownRegOf (a : Nat) (s : State) : Option Nat :=
  let o := offsetOf a
  match blockOf a with
  | 1 => if 0x100 ≤ o ∧ o < 0x500 then some (R.TIME_TRGn_OWN ((o - 0x100) / 16)) else none
  | 6 => if o < 0x8000 then some (R.CATG_TLt_OWN (o / 0x1000))
         else if o < 0x8200 then some (R.CATG_TLt_OWN ((o - 0x8000) / 64))
         else if 0x8400 ≤ o ∧ o < 0x8440 then some (R.CATG_TLt_OWN ((o - 0x8400) / 8)) else none
  | 7 => if o < 0x100 then some (R.COLL_Un_OWN (o / 16)) else none
  | 8 => if 0x4000 ≤ o ∧ o < 0x4200 then some (R.CIRC_RINGr_OWN ((o - 0x4000) / 8)) else none
  | 11 =>
    let n := o / 0x1000
    let k := o % 0x1000
    if k < 0x20 then some (R.CANn_OWN n)
    else if k < 0x30 then some (R.CANn_MBGg_OWN n (k - 0x20))
    else if 0x40 ≤ k ∧ k < 0x440 then some (R.CANn_MBGg_OWN n ((k - 0x40) / 64))
    else if 0x440 ≤ k then
      (match poolGroup n (k - 0x440) s with
       | some g => some (R.CANn_MBGg_OWN n g)
       | none => some (R.CANn_OWN n))
    else some (R.CANn_OWN n)
  | 12 => if o < 0x2000 then some (R.LINm_OWN (o / 0x400)) else none
  | 13 => if 0x200 ≤ o ∧ o < 0x300 then some (R.NM_WINGw_OWN ((o - 0x200) / 16))
          else if 0x400 ≤ o ∧ o < 0x600 then some (R.NM_WINGw_OWN ((o - 0x400) / 32)) else none
  | 14 => if 0x1000 ≤ o ∧ o < 0x1200 then some (R.LOAD_CHc_OWN ((o - 0x1000) / 16)) else none
  | 17 => if 0x100 ≤ o ∧ o < 0x200 then some (R.VAULT_Qq_OWN ((o - 0x100) / 16)) else none
  | 19 => if o < 0x30 then some (R.IOC_GPIOBb_OWN (o / 8))
          else if 0x40 ≤ o ∧ o < 0x70 then some (R.IOC_GPIOBb_OWN ((o - 0x40) / 8))
          else if 0x100 ≤ o ∧ o < 0x200 then some (R.IOC_ADCg_OWN ((o - 0x100) / 16)) else none
  | _ => none

/-- Is the address an ownership register (R478)? -/
def isOwnReg (a : Nat) (s : State) : Bool :=
  isMmio a && (match ownRegOf a s with
    | some r => decide (r = a) && (regAt a).isSome
    | none => false)

/-- Every ownership register of the device (R508). -/
def allOwnRegs : List Nat :=
  (List.range 64).map R.TIME_TRGn_OWN ++ (List.range 8).map R.CATG_TLt_OWN ++ (List.range 16).map R.COLL_Un_OWN ++
  (List.range 64).map R.CIRC_RINGr_OWN ++ (List.range 16).map R.CANn_OWN ++
  ((List.range 16).flatMap fun n => (List.range 16).map (R.CANn_MBGg_OWN n)) ++ (List.range 8).map R.LINm_OWN ++
  (List.range 16).map R.NM_WINGw_OWN ++ (List.range 32).map R.LOAD_CHc_OWN ++ (List.range 16).map R.VAULT_Qq_OWN ++
  (List.range 6).map R.IOC_GPIOBb_OWN ++ (List.range 16).map R.IOC_ADCg_OWN

/-- Is the carrel in carrel reset (R479)? -/
def carrelResetting (c : Nat) (s : State) : Bool := decide (c ≠ 0) && decide (s.get (R.CARREL_Cc_STAT c) F.CARREL_Cc_STAT_STATE = 3)

/-- Is the owner rule met (R473)? -/
def ownerRule (a carrel : Nat) (s : State) : Bool :=
  match regionOf a with
  | .sram =>
    let t := R.STK_TAGn (a / 4096)
    s.bit t F.STK_TAGn_SHARED || decide (s.get t F.STK_TAGn_OWNER = carrel)
  | .mmio =>
    (match ownRegOf a s with
     | some r => s.bit r F.TIME_TRGn_OWN_V && !s.bit r F.TIME_TRGn_OWN_ABSENT && decide (s.get r F.TIME_TRGn_OWN_OWNER = carrel)
     | none => false)
  | _ => false

/-- The carrel rule of a permit entry (R473). -/
def carrelRule (e : Nat) (a : Nat) (id : Ident) (s : State) : Bool :=
  id.lib ||
  (match s.get e F.PERM_TABLE_RULE with
   | 0 => true
   | 1 => ownerRule a id.carrel.toNat s
   | 2 => decide (s.get e F.PERM_TABLE_CLO ≤ id.carrel.toNat) && decide (id.carrel.toNat ≤ s.get e F.PERM_TABLE_CHI)
   | _ => false)

/-- Does the entry give the right a kind needs (R468)? -/
def hasRight (e : Nat) (k : TKind) (s : State) : Bool :=
  match k with
  | .read | .walk => s.bit e F.PERM_TABLE_RD
  | .write => s.bit e F.PERM_TABLE_WR
  | .cas => s.bit e F.PERM_TABLE_RD && s.bit e F.PERM_TABLE_WR
  | .fetch => s.bit e F.PERM_TABLE_EXE

/-- Is the access a write? -/
def kWrite : TKind → Bool
  | .write | .cas => true
  | _ => false

/-- Registers that need the librarian flag, by block (R51, R399, R433, R466, R467, R498, R553, R580, R608, R622). -/
def needsLib (k : TKind) (a : Nat) : Bool :=
  let o := offsetOf a
  isMmio a && !isPermitEntry a &&
  (match blockOf a with
   | 0 => kWrite k
   | 2 => kWrite k || decide (0x1000 ≤ o)
   | 3 => kWrite k
   | 14 => kWrite k && (decide (o < 0x1000) || (decide (o < 0x1200) && decide (o % 16 ≤ 1)))
   | 15 => kWrite k
   | 16 => true
   | 17 => kWrite k && !(decide (0x100 ≤ o) && decide (o < 0x200))
   | 18 => kWrite k && !(decide (0x140 ≤ o) && decide (o < 0x160))
   | 19 => kWrite k && decide (a = R.IOC_BUSTX)
   | _ => false)

/-- The tile that serves an address (R11, R12), where the spec ties it to one. -/
def tileOf (a : Nat) : Option Tile :=
  match regionOf a with
  | .sram | .catMem | .slips | .cells | .mram => some (arrTile (arrOf a))
  | .xspi => some .xspi
  | .twin => some .twinBridge
  | .mmio =>
    let o := offsetOf a
    (match blockOf a with
     | 1 => some .time
     | 2 => some .archive
     | 3 => some (if 0x100 ≤ o ∧ o < 0x140 then .xspi else .fillScrub)
     | 6 => some (.cataloguer ⟨(if o < 0x8000 then o / 0x1000 else if o < 0x8400 then (o - 0x8000) / 64 else (o - 0x8400) / 8) % 8,
              Nat.mod_lt _ (by decide)⟩)
     | 7 => some .collation
     | 8 => some .switchCore
     | 9 => some (if o < 0x1000 then .t1s else if o < 0x2800 then .serdes else if o < 0x3000 then .uplinks else .switchCore)
     | 10 => some .macsec
     | 11 => some (.can ⟨o / 0x4000 % 4, Nat.mod_lt _ (by decide)⟩)
     | 12 => some .lin
     | 13 => some .netSleep
     | 14 => some .sequencer
     | 16 => some .carrelTable
     | 17 => some .strongroom
     | 18 => some .twinBridge
     | 19 => some .ioc
     | 20 => some .debug
     | _ => none)
  | _ => none

/-- Is the target's port closed, its die in reset, or its link down (R470 check 4)? -/
def targetDown (a : Nat) (s : State) : Bool :=
  s.power.computeHeld ||
  (match tileOf a with
   | some t => tileClosed t s
   | none => false) ||
  (decide (regionOf a = .mmio) && decide (blockOf a = 14) && (!s.linkUp || s.power.powerHeld)) ||
  (decide (regionOf a = .twin) && (!s.bit R.TWIN_BR_CTL F.TWIN_BR_CTL_OUT_EN || !s.bit R.TWIN_STAT F.TWIN_STAT_LINK_UP))

/-- Is a word's page or bank withdrawn for this access, or being filled or tested (R445, R448 to R450)? -/
def isWithdrawn (a : Nat) (lib : Bool) (s : State) : Bool :=
  match regionOf a with
  | .sram =>
    let page := a / 4096
    let bank := a / 0x40000
    let bankWd := (s.reg R.STK_BANKWD).getLsbD bank || s.stk.bankFill.contains bank
    let pageWd := (s.reg (R.STK_WDk (page / 64))).getLsbD (page % 64)
    let busy := match s.stk.fill with
      | some f => decide (f.page ≤ page) && decide (page < f.page + f.count)
      | none => false
    bankWd || busy || (pageWd && !lib)
  | .mram =>
    let page := (a - 0x10000000) / 4096
    (s.reg (R.STK_MWDk (page / 64))).getLsbD (page % 64) && !lib
  | _ => false

/-- Does the page tag refuse the access (R115)? -/
def tagRefuses (a : Nat) (id : Ident) (s : State) : Bool :=
  match regionOf a with
  | .sram =>
    let t := R.STK_TAGn (a / 4096)
    !id.lib && !s.bit t F.STK_TAGn_SHARED && decide (s.get t F.STK_TAGn_OWNER ≠ id.carrel.toNat)
  | _ => false

/-- The first word of the xSPI window's flash octets beyond the flash, or the window's own refusals (R435, R462). -/
def xspiBeyond (a : Nat) (s : State) : Bool :=
  let n := if s.bit R.STK_XSPI_CTL F.STK_XSPI_CTL_LAYOUT then 8 else 9
  decide (2 ^ s.get R.STK_XSPI_CTL F.STK_XSPI_CTL_SIZE <
    s.get R.STK_XSPI_BASE F.STK_XSPI_BASE_BASE + n * (a - 0x20000000) + n)

/-- Does pair p have BROKEN = 1 for a master number 2p or 2p + 1 (R470 check 5)? -/
def brokenMaster (m : BitVec 6) (s : State) : Bool :=
  decide (m.toNat < 16) && s.bit (R.EXEC_Pp_STAT (m.toNat / 2)) F.EXEC_Pp_STAT_BROKEN

/-- Checks 1 to 11 of R470, in order; the first that fails gives the reason. -/
def accessCheck (t : Txn) (s : State) : Option Reason :=
  let a := t.addr.toNat
  let e := permitAddr a t.id.master.toNat
  let c := cfgAddr a t.id.master.toNat
  if kWrite t.kind && !t.whole then some rNARROW
  else if regionOf a = .none then some rUNMAPPED
  else if regionOf a = .rom ∧ kWrite t.kind then some rUNMAPPED
  else if regionOf a = .xspi ∧ !kWrite t.kind ∧ xspiBeyond a s then some rUNMAPPED
  else if !t.portOk then some rFAILED
  else if targetDown a s then some rFAILED
  else if kWrite t.kind ∧ brokenMaster t.id.master s ∧ 2 ≤ t.id.crit.toNat then some rLOCKSTEP
  else if isPermitEntry a && kWrite t.kind then
    (if t.id.lib && s.bit c F.PERM_TABLE_CFG then none else some rPERMIT)
  else if isOwnReg a s && kWrite t.kind then
    (if t.id.lib && s.bit c F.PERM_TABLE_CFG then none else some rPERMIT)
  else if !hasRight e t.kind s then some rPERMIT
  else if !carrelRule e a t.id s then some rPERMIT
  else if kWrite t.kind ∧ t.id.crit.toNat < s.get e F.PERM_TABLE_FLOOR then some rPERMIT
  else if needsLib t.kind a && !t.id.lib then some rPERMIT
  else if isWithdrawn a t.id.lib s then some rWITHDRAWN
  else if tagRefuses a t.id s then some rTAG
  else none

/-- The code of a kind in PERM_LOG_ID.KIND (R491). -/
def kCode : TKind → Nat
  | .read => 0 | .write => 1 | .cas => 2 | .fetch => 3 | .walk => 4

/-- Count and record a refusal (R483): reasons 0 to 6, the first since PERM_LOG_CLR raising 0xC43. -/
def logRefusal (t : Txn) (r : Reason) (s : State) : State :=
  if r = rFAILED then s
  else
    let s1 := s.addSat R.PERM_LOG_ID F.PERM_LOG_ID_COUNT 1
    if !s.bit R.PERM_CTL F.PERM_CTL_LOG_EN then s1
    else
      let id := fput (fput (fput (fput (fput (fput (s1.reg R.PERM_LOG_ID) F.PERM_LOG_ID_MASTER t.id.master.toNat)
        F.PERM_LOG_ID_CARREL t.id.carrel.toNat) F.PERM_LOG_ID_LIB (if t.id.lib then 1 else 0))
        F.PERM_LOG_ID_REASON r.toNat) F.PERM_LOG_ID_KIND (kCode t.kind)) F.PERM_LOG_ID_CRIT t.id.crit.toNat
      let s2 := ((s1.setReg R.PERM_LOG_ID id).setReg R.PERM_LOG_ADDR (t.addr.setWidth 64)).setReg R.PERM_LOG_STAMP s.time.gtc
      if s.bridge.permArmed then
        raiseLib 0xC43 0 { s2 with bridge := { s2.bridge with permArmed := false } }
      else s2

/-- The refusals of writes to permit entries (R475, R476): entries 35 to 63 stay zero, EXE is reserved in table 6, and the
writer's own CFG cannot be cleared. -/
def permitRefuses (t : Txn) (w : BitVec 64) (s : State) : Bool :=
  let a := t.addr.toNat
  let m := (offsetOf a) % 64
  (decide (35 ≤ m) && decide (w ≠ 0#64)) ||
  (decide (R.PERM_TABLE 6 0 ≤ a) && decide (a ≤ R.PERM_TABLE 6 63) && decide (fget w F.PERM_TABLE_EXE = 1)) ||
  (decide (a = cfgAddr a t.id.master.toNat) && decide (fget w F.PERM_TABLE_CFG = 0) && s.bit a F.PERM_TABLE_CFG &&
    decide (m = t.id.master.toNat))

/-- An ownership register as a write leaves it: ABSENT follows the written OWNER's carrel reset (R479). -/
def ownWritten (w : BitVec 64) (s : State) : BitVec 64 :=
  fput (w &&& 0x3FF#64) F.TIME_TRGn_OWN_ABSENT (if carrelResetting (fget w F.TIME_TRGn_OWN_OWNER) s then 1 else 0)

/-- A carrel's CRIT ceiling (R36); ASIL D for carrel 0 (R474). -/
def ceilingOf (c : Nat) (s : State) : BitVec 2 :=
  if c = 0 then 0b11#2 else BitVec.ofNat 2 (s.get (R.CARREL_Cc_CFG c) F.CARREL_Cc_CFG_CEIL)

/-- The identity of an engine that acts for a carrel (R40, R474). -/
def engineId (master c : Nat) (s : State) : Ident :=
  { master := BitVec.ofNat 6 master, carrel := BitVec.ofNat 9 c, lib := false, crit := ceilingOf c s }

end Sys2Proof.Machine
end

