-- ==== Sys2Proof/Machine/CanOps.lean ====
section
/-!
DEFINITION. The CAN and LIN controllers' buffers (spec/07_can_and_lin.md R295 to R313, R320 to R328, R333, R334, R652) and
the isolation of sleeping segments (spec/08_network_sleep_and_wings.md R340, R341), shared by template copies, software
and the frames on the bus.
-/
namespace Sys2Proof.Machine

open Sys2Proof

/-! ### Units -/

/-- CAN controller n. -/
def State.can (s : State) (n : Nat) : CanSt := spGet (fun _ => ({} : CanSt)) s.cans n
/-- Replace a CAN controller. -/
def State.setCan (s : State) (n : Nat) (x : CanSt) : State := { s with cans := spPut (fun _ => ({} : CanSt)) s.cans n x }
/-- LIN controller m. -/
def State.lin (s : State) (m : Nat) : LinSt := spGet (fun _ => ({} : LinSt)) s.lins m
/-- Replace a LIN controller. -/
def State.setLin (s : State) (m : Nat) (x : LinSt) : State := { s with lins := spPut (fun _ => ({} : LinSt)) s.lins m x }
/-- Count up a 64-bit counter register, saturating. -/
def State.bump (s : State) (a : Nat) : State := if s.reg a = BitVec.allOnes 64 then s else s.setReg a (s.reg a + 1)
/-- The short stamp of a GTC (R63). -/
def shortStamp (g : Nat) : Nat := g % 2 ^ 32

/-! ### Isolation (R340, R341) -/

/-- The enabled wing of a segment (R336). -/
def segWing (seg : Nat) (s : State) : Option Nat :=
  let r := R.NM_SEGs_CFG seg
  let w := s.get r F.NM_SEGs_CFG_WING
  if s.bit r F.NM_SEGs_CFG_MEMBER && s.bit (R.NM_WINGw_CFG w) F.NM_WINGw_CFG_EN then some w else none
/-- A wing's state (R338). -/
def wingState (w : Nat) (s : State) : Nat := s.get (R.NM_WINGw_STAT w) F.NM_WINGw_STAT_STATE
/-- Is a segment off the medium: its wing asleep, or waking with the segment not yet up (R339)? -/
def segOff (seg : Nat) (s : State) : Bool :=
  match segWing seg s with
  | none => false
  | some w => decide (wingState w s = 4) || (decide (wingState w s = 5) && !s.bit (R.NM_SEGs_STAT seg) F.NM_SEGs_STAT_UP)

/-- Is the segment's wing asleep (R339)? -/
def segAsleep (seg : Nat) (s : State) : Bool :=
  match segWing seg s with
  | none => false
  | some w => decide (wingState w s = 4)

/-- What an item bound for a segment is matched by (R341): a CAN identifier with IDE, a LIN identifier, or a destination
address with its VLAN. -/
inductive WakeKey where
  | can (id : Nat) (ide : Bool)
  | lin (id : Nat)
  | eth (da vid : Nat)
  deriving DecidableEq, Repr

/-- Does wake-table entry e of wing w match an item for a segment (R341)? -/
def wakeMatch (w e seg : Nat) (k : WakeKey) (s : State) : Bool :=
  let a := R.NM_WINGw_WTe_A w e
  let b := R.NM_WINGw_WTe_B w e
  let id := s.get a F.NM_WINGw_WTe_A_ID
  let da := s.get b F.NM_WINGw_WTe_B_DA
  s.bit a F.NM_WINGw_WTe_A_V && decide (s.get a F.NM_WINGw_WTe_A_SEG = seg) &&
  (match k with
   | .can i ide => decide (s.get a F.NM_WINGw_WTe_A_KIND = 0) && decide (Nat.land (da % 2 ^ 29) (Nat.xor i id) = 0) &&
       (s.bit a F.NM_WINGw_WTe_A_IDE == ide)
   | .lin i => decide (s.get a F.NM_WINGw_WTe_A_KIND = 1) && decide (id % 64 = i)
   | .eth d v => decide (s.get a F.NM_WINGw_WTe_A_KIND = 2) && decide (d = da) &&
       (decide (s.get b F.NM_WINGw_WTe_B_VID = 0) || decide (s.get b F.NM_WINGw_WTe_B_VID = v)))

/-- Wing w. -/
def State.wing (s : State) (w : Nat) : Wing := spGet (fun _ => ({} : Wing)) s.wings w
/-- Replace a wing. -/
def State.setWing (s : State) (w : Nat) (x : Wing) : State := { s with wings := spPut (fun _ => ({} : Wing)) s.wings w x }

/-- Does a wake source count for a wing (R349)? -/
def wakeCounts (w src : Nat) (s : State) : Bool :=
  decide (src = 0x2D0 + w) ||
  (decide (0x100 ≤ src) && decide (src ≤ 0x13D) && (s.reg (R.NM_WINGw_WMASK w)).getLsbD (src - 0x100))

/-- A wake event becomes a request of every enabled wing it counts for (R349, R350). -/
def queueWake (e : Event) (s : State) : State :=
  (List.range 16).foldl (fun t w =>
    if t.bit (R.NM_WINGw_CFG w) F.NM_WINGw_CFG_EN && wakeCounts w e.src t then
      t.setWing w { t.wing w with wakes := insEvent e (t.wing w).wakes }
    else t) s

/-- A gateway or software wake request of wing w, with its notice to the wing's owner (R341, R349, R356). -/
def wingRequest (w : Nat) (pay : BitVec 64) (s : State) : State :=
  queueWake { stamp := s.now, src := 0x2D0 + w, payload := immw pay } (raiseTo (0x2D0 + w) (immw pay) (ownDest (R.NM_WINGw_OWN w) s) s)

/-- A discarded item is counted, the first since the counters were cleared raising 0x2F0 (R340, R357). -/
def countIsolated (seg : Nat) (s : State) : State :=
  let s1 := s.addSat (R.NM_SEGs_STAT seg) F.NM_SEGs_STAT_ISOLATED 1
  let seen := (List.range 36).any fun x => decide (s.get (R.NM_SEGs_STAT x) F.NM_SEGs_STAT_ISOLATED ≠ 0)
  if seen then s1 else raiseLib 0x2F0 seg s1

/-- An item bound for a segment meets its wing's isolation (R340, R341), or a listening segment (R563): whether it passes, and the state after the
gateway wake request or the counted discard. -/
def isolate (seg : Nat) (k : WakeKey) (s : State) : Bool × State :=
  if segListens seg s then (false, countIsolated seg s)
  else match segWing seg s with
  | none => (true, s)
  | some w =>
    if wingState w s ≠ 4 ∧ wingState w s ≠ 5 then (true, s)
    else match (List.range 16).find? fun e => wakeMatch w e seg k s with
      | some e =>
        let id := match k with
          | .can i _ => i
          | .lin i => i
          | .eth _ _ => e
        let s1 := wingRequest w (BitVec.ofNat 64 (1 + seg * 2 + id * 128)) s
        (match k with
         | .eth _ _ => (false, s1)
         | _ => (true, s1))
      | none => (false, countIsolated seg s)

/-! ### CAN buffers (R301 to R303, R333) -/

/-- A buffer's CFG. -/
abbrev mbCfg (n b : Nat) : Nat := R.CANn_MBb_CFG n b
/-- A buffer's STAT. -/
abbrev mbStat (n b : Nat) : Nat := R.CANn_MBb_STAT n b
/-- The address of a pool word (R301). -/
def poolAddr (n w : Nat) : Nat := 0xF00B0000 + 0x1000 * n + 0x440 + w

/-- Is the buffer an enabled transmit buffer? -/
def mbTx (n b : Nat) (s : State) : Bool := s.bit (mbCfg n b) F.CANn_MBb_CFG_EN && s.bit (mbCfg n b) F.CANn_MBb_CFG_DIR
/-- Has the buffer a pending request? -/
def mbReq (n b : Nat) (s : State) : Bool := s.bit (mbStat n b) F.CANn_MBb_STAT_TXREQ

/-- Who receives the notices of a buffer (R331). -/
def mbDest (n b : Nat) (s : State) : List Nat :=
  let g := R.CANn_MBGg_OWN n (b / 16)
  if s.bit g F.TIME_TRGn_OWN_V then ownDest g s else ownDest (R.CANn_OWN n) s
/-- A CAN event (R331). -/
def canEvent (n k pay : Nat) (dest : List Nat) (s : State) : State := raiseTo (0x200 + 8 * n + k) (immw (BitVec.ofNat 64 pay)) dest s
/-- CAN counter j of R332: 0 RX_OK, 1 TX_OK, 2 RX_ERR, 3 TX_ERR, 4 BUS_OFF, 5 LOST, 6 ESCALATED, 7 OVERWRITE, 8 TPL_ERR,
9 TUN_ENC, 10 TUN_DROP. -/
def canCount (n j : Nat) (s : State) : State := s.bump (R.CANn_CNT n j)

/-- Data octets a pool word carries, and the words before the data: AF takes word DPTR of a CAN XL buffer (R302). -/
def mbLay (n b : Nat) (s : State) : Nat × Nat :=
  (if s.bit (mbCfg n b) F.CANn_MBb_CFG_LAYOUT8 then 8 else 9, if s.bit (R.CANn_MBb_ID n b) F.CANn_MBb_ID_XLF then 1 else 0)

/-- Octets the data area of a buffer holds (R302). -/
def mbRoom (n b : Nat) (s : State) : Nat :=
  let (o, h) := mbLay n b s
  (s.get (mbCfg n b) F.CANn_MBb_CFG_DSIZE - h) * o

/-- A word of the data area from its octets: the eight-octet layout leaves octet 0 zero (R302). -/
def packWord (per : Nat) (xs : Octets) : Word := if per = 8 then octetsWord8 (xs.take 8) else octetsWord9 (xs.take 9)
where
  octetsWord9 (xs : Octets) : Word := (List.range 9).foldl (fun w k => setOctet w k (xs.getD k 0)) 0
  octetsWord8 (xs : Octets) : Word := octetsWord9 (0 :: xs)

/-- Write octets into consecutive words, `per` a word. -/
def putOctets (per : Nat) : Nat → Octets → Nat → State → State
  | 0, _, _, s => s
  | _, [], _, s => s
  | fuel + 1, xs, a, s => putOctets per fuel (xs.drop per) (a + 1) (s.wrMem a (packWord per xs))

/-- Read octets from consecutive words, `per` a word. -/
def getOctets (per len a : Nat) (s : State) : Octets :=
  (List.range len).map fun j => octet (s.rdMem (a + j / per)) (if per = 8 then 1 + j % 8 else j % 9)

/-- Write a frame's data, as far as the area holds it, and AF of a CAN XL frame (R302, R307). -/
def mbWriteData (n b : Nat) (f : CanFrame) (s : State) : State :=
  let p := s.get (mbCfg n b) F.CANn_MBb_CFG_DPTR
  let xl := s.bit (R.CANn_MBb_ID n b) F.CANn_MBb_ID_XLF
  let per := (mbLay n b s).1
  let room := s.get (mbCfg n b) F.CANn_MBb_CFG_DSIZE
  let s1 := if xl && decide (0 < room) then s.wrMem (poolAddr n p) ((f.af.setWidth 72) : Word) else s
  let q := if xl then 1 else 0
  putOctets per 300 (f.data.take ((room - q) * per)) (poolAddr n (p + q)) s1

/-- The controller reads some words of a buffer's data area (R439): a corrected word is reported, and an uncorrectable one
fails the frame. -/
def poolScan : List Nat → State → Bool × State
  | [], s => (true, s)
  | a :: t, s =>
    match readArray a .engine s with
    | (some _, s1) => poolScan t s1
    | (none, s1) => (false, s1)

/-- The frame a transmit buffer sends (R302, R309, R313). -/
def mbFrame (n b : Nat) (s : State) : CanFrame :=
  let p := s.get (mbCfg n b) F.CANn_MBb_CFG_DPTR
  let idr := s.reg (R.CANn_MBb_ID n b)
  let id0 : BitVec 52 := idr.setWidth 52
  let id := if (s.can n).esc.contains b then
      (id0 &&& ~~~(0x1FFFFFFF#52)) ||| BitVec.ofNat 52 (s.get (R.CANn_MBb_AUX n b) F.CANn_MBb_AUX_ESC_ID)
    else id0
  let len := s.get (mbCfg n b) F.CANn_MBb_CFG_TXLEN
  let (per, h) := mbLay n b s
  let rtr := s.bit (R.CANn_MBb_ID n b) F.CANn_MBb_ID_RTR
  { id := id
    data := if rtr then [] else getOctets per len (poolAddr n (p + h)) s
    rlen := len
    af := if h = 1 then (s.rdMem (poolAddr n p)).setWidth 32 else 0 }

/-- A frame's arbitration field as it compares on the bus: base identifier, then the bits that tell base, remote and
extended frames apart (R309). -/
def arbKey (f : CanFrame) : Nat :=
  let ide := f.id.getLsbD 29
  let rtr := f.id.getLsbD 30
  let v := (f.id.extractLsb' 0 29).toNat
  if ide then (v / 2 ^ 18) * 2 ^ 21 + 3 * 2 ^ 19 + (v % 2 ^ 18) * 2 + (if rtr then 1 else 0)
  else (v % 2048) * 2 ^ 21 + (if rtr then 2 ^ 20 else 0)

/-! ### Transmit requests (R309, R310, R312, R652) -/

/-- Does a buffer's frame fail the check of R652? -/
def txBad (n b : Nat) (s : State) : Bool :=
  let r := R.CANn_MBb_ID n b
  let mode := s.get (R.CANn_CTL n) F.CANn_CTL_MODE
  let fd := s.bit r F.CANn_MBb_ID_FDF
  let xl := s.bit r F.CANn_MBb_ID_XLF
  let rtr := s.bit r F.CANn_MBb_ID_RTR
  let len := s.get (mbCfg n b) F.CANn_MBb_CFG_TXLEN
  (fd && decide (mode = 0)) || (xl && decide (mode < 2)) || (rtr && (fd || xl)) ||
  (if xl then decide (len = 0) || decide (2048 < len)
   else if fd then !(decide (len ≤ 8) || [12, 16, 20, 24, 32, 48, 64].contains len)
   else decide (8 < len))

/-- Clear a buffer's request and what belongs to it. -/
def clearReq (n b : Nat) (s : State) : State :=
  let s1 := s.set (mbStat n b) F.CANn_MBb_STAT_TXREQ 0
  let c := s1.can n
  s1.setCan n { c with reqAt := c.reqAt.filter (fun e => e.1 ≠ b), esc := c.esc.filter (fun x => x ≠ b) }

/-- End a request without success (R310, R652). -/
def failReq (n b : Nat) (s : State) : State := (clearReq n b s).flag (mbStat n b) F.CANn_MBb_STAT_TXFAIL

/-- The check of R652 on a pending request of an enabled transmit buffer. -/
def checkReq (n b : Nat) (s : State) : State :=
  if mbTx n b s && mbReq n b s && txBad n b s then canCount n 3 (failReq n b s) else s

/-- TXREQ is set (R309): the request joins arbitration, or fails its check. -/
def txRequest (n b : Nat) (s : State) : State :=
  if mbReq n b s then s
  else
    let s1 := s.set (mbStat n b) F.CANn_MBb_STAT_TXREQ 1
    let c := s1.can n
    checkReq n b (s1.setCan n { c with reqAt := (b, s.now) :: c.reqAt.filter (fun e => e.1 ≠ b) })

/-- After hardware has ended a request: a TXREQ that software wrote in the same cycle requests again (R8). `s0` is the state
before the end. -/
def reqAgain (n b : Nat) (s0 s : State) : State :=
  if fget (s0.roseMask (mbStat n b)) F.CANn_MBb_STAT_TXREQ = 1 then txRequest n b s else s

/-- ABORT (R310): TXREQ clears; an attempt on the bus runs on without a retry. -/
def abortReq (n b : Nat) (s : State) : State :=
  let s1 := clearReq n b s
  let c := s1.can n
  match c.att with
  | some a => if a.buf = b then s1.setCan n { c with att := some { a with noRetry := true } } else s1
  | none => s1

/-- Is an attempt of the buffer on the bus? -/
def onBus (n b : Nat) (s : State) : Bool :=
  match (s.can n).att with
  | some a => decide (a.buf = b)
  | none => false

/-- Write a copy's octets and request the transmission (R311, R312). -/
def copyWrite (n b : Nat) (xs : Octets) (s : State) : State :=
  let p := s.get (mbCfg n b) F.CANn_MBb_CFG_DPTR
  let (per, h) := mbLay n b s
  let s1 := putOctets per 300 xs (poolAddr n (p + h)) s
  if mbReq n b s1 then canCount n 7 s1 else txRequest n b s1

/-- The identity of the CAN concentrator, or of LIN, for template copies (R311, R40). -/
def copyId (lin : Bool) : Ident := { master := if lin then 26 else 25, carrel := 0, lib := false, crit := 0b11#2 }

/-- A template copy into a CAN buffer (R311, R312, R340). -/
def canCopy (n b : Nat) (xs : Octets) (s : State) : State :=
  let ok := mbTx n b s && decide (s.get (mbCfg n b) F.CANn_MBb_CFG_TXLEN = xs.length) && decide (xs.length ≤ mbRoom n b s) &&
    (accessCheck { kind := .write, addr := BitVec.ofNat 48 (mbCfg n b), id := copyId false } s).isNone
  let r := R.CANn_MBb_ID n b
  match isolate n (.can (s.get r F.CANn_MBb_ID_ID) (s.bit r F.CANn_MBb_ID_IDE)) s with
  | (false, s1) => s1
  | (true, s1) =>
    if !ok then canEvent n 4 (b + 256) (mbDest n b s1) (canCount n 8 s1)
    else if onBus n b s1 then
      let c := s1.can n
      s1.setCan n { c with copies := (b, xs) :: c.copies.filter (fun e => e.1 ≠ b) }
    else copyWrite n b xs s1

/-- A copy that waited for an attempt is written once no attempt of its buffer is on the bus (R312). -/
def deferredCopy (n b : Nat) (s : State) : State :=
  let c := s.can n
  match c.copies.find? (fun e => e.1 = b) with
  | none => s
  | some (_, xs) =>
    if onBus n b s then s
    else
      let s1 := s.setCan n { c with copies := c.copies.filter (fun e => e.1 ≠ b) }
      -- retransmitted data keep their request; OVERWRITE counts only data replaced off the bus
      let p := s1.get (mbCfg n b) F.CANn_MBb_CFG_DPTR
      let (per, h) := mbLay n b s1
      txRequest n b (putOctets per 300 xs (poolAddr n (p + h)) s1)

/-! ### CAN register writes (R295, R296, R303, R310, R315, R316, R651, R652) -/

/-- Bit times in ns: nominal, data, XL (R295). -/
def nomBit (n : Nat) (s : State) : Nat :=
  let r := R.CANn_NBT n
  (s.get r F.CANn_NBT_BRP + 1) * 25 * (3 + s.get r F.CANn_NBT_TSEG1 + s.get r F.CANn_NBT_TSEG2)
/-- The data-phase bit time of a timing register in the CANn_DBT layout. -/
def phaseBit (r : Nat) (s : State) : Nat :=
  (s.get r F.CANn_DBT_BRP + 1) * 25 * (3 + s.get r F.CANn_DBT_TSEG1 + s.get r F.CANn_DBT_TSEG2)

/-- Does R296 refuse the value of CANn_CTL? -/
def canCtlBad (n : Nat) (nv : BitVec 64) (s : State) : Bool :=
  let mode := fget nv F.CANn_CTL_MODE
  let tn := nomBit n s
  let td := phaseBit (R.CANn_DBT n) s
  let tx := phaseBit (R.CANn_XBT n) s
  decide (fget nv F.CANn_CTL_EN = 1) &&
    (decide (tn < 1000) || decide (50000 < tn) ||
     (decide (1 ≤ mode) && (decide (td < 125) || decide (tn < td))) ||
     (decide (mode = 2) && (decide (tx < 100) || decide (tn < tx))) ||
     decide (s.get (R.CANn_NBT n) F.CANn_NBT_TSEG2 < s.get (R.CANn_NBT n) F.CANn_NBT_SJW) ||
     decide (s.get (R.CANn_DBT n) F.CANn_DBT_TSEG2 < s.get (R.CANn_DBT n) F.CANn_DBT_SJW) ||
     decide (s.get (R.CANn_XBT n) F.CANn_XBT_TSEG2 < s.get (R.CANn_XBT n) F.CANn_XBT_SJW))

/-- Does R303 refuse a CFG value that leaves the buffer enabled? -/
def mbEnBad (n b : Nat) (nv : BitVec 64) (s : State) : Bool :=
  let aux := R.CANn_MBb_AUX n b
  decide (fget nv F.CANn_MBb_CFG_EN = 1) &&
    (decide (3008 < fget nv F.CANn_MBb_CFG_DPTR + fget nv F.CANn_MBb_CFG_DSIZE) ||
     (decide (fget nv F.CANn_MBb_CFG_DIR = 1) &&
       (decide ((s.reg aux).extractLsb' 46 6 ≠ 0#6) ||
        (s.bit aux F.CANn_MBb_AUX_ESC_EN && decide (s.get aux F.CANn_MBb_AUX_DEADLINE = 0)))))

/-- The controller and the offset in its registers of an address in the CAN block. -/
def canSplit (a : Nat) : Nat × Nat := (offsetOf a / 0x1000, offsetOf a % 0x1000)

/-- Writes of the CAN block that its rules refuse; `nv` is the register as the write would leave it. -/
def canRefuses (a : Nat) (nv : BitVec 64) (s : State) : Bool :=
  let (n, k) := canSplit a
  if k = 0 then canCtlBad n nv s
  else if 1 ≤ k ∧ k ≤ 3 then s.bit (R.CANn_CTL n) F.CANn_CTL_EN
  else if 0x40 ≤ k ∧ k < 0x440 then
    let b := (k - 0x40) / 4
    let j := (k - 0x40) % 4
    let en := s.bit (mbCfg n b) F.CANn_MBb_CFG_EN
    if j = 0 then
      if en then decide (nv ≠ fput (s.reg (mbCfg n b)) F.CANn_MBb_CFG_EN 0) else mbEnBad n b nv s
    else if j ≤ 2 then en
    else false
  else false

/-- A buffer leaves matching and arbitration (R303). -/
def mbDisable (n b : Nat) (s : State) : State :=
  if s.bit (mbCfg n b) F.CANn_MBb_CFG_DIR && mbReq n b s then abortReq n b s else s

/-- What a write of the CAN block does beside setting fields; `old` is the register before it. -/
def canActs (a : Nat) (old w : BitVec 64) (s : State) : State :=
  let (n, k) := canSplit a
  if k = 0 then
    if fget old F.CANn_CTL_MODE = fget w F.CANn_CTL_MODE then s
    else (List.range 256).foldl (fun t b => checkReq n b t) s
  else if k = 5 then
    let c := s.can n
    let s1 := if fget w F.CANn_BORST_RESTART = 1 ∧ s.get (R.CANn_ERR n) F.CANn_ERR_STATE = 2 then s.setCan n { c with recover := true } else s
    if fget w F.CANn_BORST_RESUME = 1 then
      (s1.set (R.CANn_ERR n) F.CANn_ERR_NOACK 0).setCan n { s1.can n with noackDone := false }
    else s1
  else if k = 0x1E then
    if w.getLsbD 0 then (List.range 11).foldl (fun t j => t.setReg (R.CANn_CNT n j) 0#64) s else s
  else if 0x40 ≤ k ∧ k < 0x440 then
    let b := (k - 0x40) / 4
    let j := (k - 0x40) % 4
    if j = 0 then (if fget old F.CANn_MBb_CFG_EN = 1 ∧ fget w F.CANn_MBb_CFG_EN = 0 then mbDisable n b s else s)
    else if j = 3 then
      let s1 := if fget old F.CANn_MBb_STAT_TXREQ = 0 ∧ fget w F.CANn_MBb_STAT_TXREQ = 1 then
          txRequest n b (s.set (mbStat n b) F.CANn_MBb_STAT_TXREQ 0)
        else if fget w F.CANn_MBb_STAT_TXREQ = 1 then s.noteRose (mbStat n b) (fmask F.CANn_MBb_STAT_TXREQ) else s
      if fget w F.CANn_MBb_STAT_ABORT = 1 then abortReq n b s1 else s1
    else s
  else s

/-- A software write of a pool word (R303, R312): the word is written; data replaced under a request that is not on the
bus counts in OVERWRITE. -/
def poolWrite (a : Nat) (w : Word) (s : State) : State :=
  let (n, k) := canSplit a
  let p := k - 0x440
  let s1 := s.wrMem a w
  match (List.range 256).find? fun b => mbTx n b s && mbReq n b s && !onBus n b s &&
      decide (s.get (mbCfg n b) F.CANn_MBb_CFG_DPTR ≤ p) &&
      decide (p < s.get (mbCfg n b) F.CANn_MBb_CFG_DPTR + s.get (mbCfg n b) F.CANn_MBb_CFG_DSIZE) with
  | some _ => canCount n 7 s1
  | none => s1

/-! ### LIN entries (R320 to R328, R334) -/

/-- A frame-table entry's CFG. -/
abbrev frCfg (m i : Nat) : Nat := R.LINm_FRi_CFG m i
/-- Is the entry enabled with the direction: 1 publish, 2 subscribe? -/
def frDir (m i d : Nat) (s : State) : Bool := s.bit (frCfg m i) F.LINm_FRi_CFG_EN && decide (s.get (frCfg m i) F.LINm_FRi_CFG_DIR = d)
/-- A LIN event (R331); notices go to the controller's owner, who owns the frame table (R328). -/
def linEvent (m k pay : Nat) (s : State) : State :=
  raiseTo (0x280 + 8 * m + k) (immw (BitVec.ofNat 64 pay)) (ownDest (R.LINm_OWN m) s) s
/-- LIN counter j of R334: 0 RX_OK, 1 TX_OK, 2 RX_ERR, 3 TX_ERR, 4 SLOT_OVR, 5 TUN_DROP. -/
def linCount (m j : Nat) (s : State) : State := s.bump (R.LINm_CNT m j)

/-- Data octets as the DATA word holds them: octet k at bits [63 − 8k : 56 − 8k] (R321). -/
def linData (xs : Octets) : BitVec 64 :=
  (List.range 8).foldl (fun v k => v ||| (((xs.getD k 0).setWidth 64) <<< (56 - 8 * k))) 0#64
/-- The first octets of a DATA word. -/
def linOctets (v : BitVec 64) (len : Nat) : Octets := (List.range len).map fun k => v.extractLsb' (56 - 8 * k) 8

/-- Replace a publish entry's data and set its ND (R320, R324). -/
def linPut (m i : Nat) (xs : Octets) (s : State) : State :=
  (s.setReg (R.LINm_FRi_DATA m i) (linData xs)).flag (frCfg m i) F.LINm_FRi_CFG_ND

/-- A template copy into a LIN entry (R311, R340). -/
def linCopy (m i : Nat) (xs : Octets) (s : State) : State :=
  let ok := frDir m i 1 s && decide (s.get (frCfg m i) F.LINm_FRi_CFG_LEN = xs.length) &&
    (accessCheck { kind := .write, addr := BitVec.ofNat 48 (R.LINm_FRi_DATA m i), id := copyId true } s).isNone
  match isolate (16 + m) (.lin i) s with
  | (false, s1) => s1
  | (true, s1) => if ok then linPut m i xs s1 else s1

/-- The LIN controller and the offset in its registers. -/
def linSplit (a : Nat) : Nat × Nat := (offsetOf a / 0x400, offsetOf a % 0x400)

/-- Is the rate DIV + FRAC ÷ 16 outside 1 to 20 kbit/s (R322)? -/
def linRateBad (m : Nat) (s : State) : Bool :=
  let d := 16 * s.get (R.LINm_BAUD m) F.LINm_BAUD_DIV + s.get (R.LINm_BAUD m) F.LINm_BAUD_FRAC
  -- rate = 40 MHz ÷ d
  decide (d * 20000 < 40000000) || decide (40000000 < d * 1000)

/-- Writes of the LIN block that its rules refuse. -/
def linRefuses (a : Nat) (w nv : BitVec 64) (s : State) : Bool :=
  let (m, k) := linSplit a
  let old := s.reg a
  let en := s.bit (R.LINm_CTL m) F.LINm_CTL_EN
  if k = 0 then
    (en && decide (fget nv F.LINm_CTL_ROLE ≠ fget old F.LINm_CTL_ROLE)) ||
    (decide (fget nv F.LINm_CTL_EN = 1) && linRateBad m s)
  else if k = 1 then en
  else if 0x40 ≤ k ∧ k < 0xC0 ∧ k % 2 = 0 then
    (decide (fget old F.LINm_FRi_CFG_EN = 1) && decide (w.extractLsb' 1 7 ≠ old.extractLsb' 1 7)) ||
    (decide (fget nv F.LINm_FRi_CFG_EN = 1) && (decide (fget nv F.LINm_FRi_CFG_LEN = 0) || decide (8 < fget nv F.LINm_FRi_CFG_LEN)))
  else if 0x100 ≤ k ∧ k < 0x140 then
    s.bit (R.LINm_SCHED m) F.LINm_SCHED_RUN || (decide (fget nv F.LINm_SCHe_SLOT = 0) && decide (fget nv F.LINm_SCHe_TYPE ≠ 3))
  else false

/-- What a write of the LIN block does beside setting fields. -/
def linActs (a : Nat) (old w : BitVec 64) (s : State) : State :=
  let (m, k) := linSplit a
  let l := s.lin m
  if k = 2 then
    let start := fget w F.LINm_SCHED_START
    let s1 := if fget old F.LINm_SCHED_RUN = 0 ∧ fget w F.LINm_SCHED_RUN = 1 then
        (s.set (R.LINm_SCHED m) F.LINm_SCHED_CUR start).setLin m { l with table := start, slotEnd := s.now, sw := false, hdr := none, started := false, ovr := false }
      else s
    if fget w F.LINm_SCHED_SWITCH = 1 then s1.setLin m { s1.lin m with sw := true } else s1
  else if k = 0x1E then
    if w.getLsbD 0 then (List.range 6).foldl (fun t j => t.setReg (R.LINm_CNT m j) 0#64) s else s
  else if 0x40 ≤ k ∧ k < 0xC0 ∧ k % 2 = 1 then
    let i := (k - 0x40) / 2
    if s.get (frCfg m i) F.LINm_FRi_CFG_DIR = 1 then s.set (frCfg m i) F.LINm_FRi_CFG_ND 1 else s
  else s

end Sys2Proof.Machine
end

