-- ==== Sys2Proof/Machine/Pins.lean ====
section
/-!
DEFINITION. The levels at the general-purpose balls (spec/17_package_and_balls.md R616, R619, R620).
-/
namespace Sys2Proof.Machine

open Sys2Proof

/-- A slot's inactive level (R89): low for POL = 0. -/
def slotIdle (n : Nat) (s : State) : Bool := s.bit (R.TIME_TRGn_CTL n) F.TIME_TRGn_CTL_POL

/-- The level FUNC = 1 gives ball k (R620): the pulse of the slot that last pulsed it, or its inactive level; low when none
has. -/
def pulseLevel (k : Nat) (s : State) : Bool :=
  let n := spGet (fun _ => 64) s.pinLast k
  if n = 64 then false
  else if s.time.pulses.any (fun e => decide (e.1 = n)) then !slotIdle n s else slotIdle n s

/-- The segments that name ball k as their standby output (R339). -/
def stbSegs (k : Nat) (s : State) : List Nat :=
  (List.range 36).filter fun g =>
    let r := R.NM_SEGs_CFG g
    s.bit r F.NM_SEGs_CFG_STB_EN && decide (s.get r F.NM_SEGs_CFG_STB_PIN = k)

/-- The level FUNC = 2 gives ball k (R339, R620): active while a segment that names it sleeps; the active level is that of
the lowest-numbered such segment, or, with none asleep, the inactive level of the lowest that names it. -/
def standbyLevel (k : Nat) (s : State) : Bool :=
  let pol (g : Nat) : Bool := !s.bit (R.NM_SEGs_CFG g) F.NM_SEGs_CFG_STB_POL
  match (stbSegs k s).find? (fun g => segAsleep g s), stbSegs k s with
  | some g, _ => pol g
  | none, g :: _ => !pol g
  | none, [] => false

/-- The level of ball GPIOk (R619, R620); a ball nothing drives has the level outside gives it. -/
def pinLevel (k : Nat) (s : State) : Bool :=
  let r := R.IOC_GPIOk_CFG k
  let ext := s.pinExt.getLsbD k
  let drive (v : Bool) : Bool := if v && s.bit r F.IOC_GPIOk_CFG_OD then ext else v
  match s.get r F.IOC_GPIOk_CFG_FUNC with
  | 0 => if s.bit r F.IOC_GPIOk_CFG_OE then
      drive (Nat.testBit (s.get (R.IOC_GPIOBb_LVL (k / 8)) F.IOC_GPIOBb_LVL_OUT) (k % 8)) else ext
  | 1 => drive (pulseLevel k s)
  | _ => drive (standbyLevel k s)

/-- The levels of the eight balls of bank b. -/
def bankLevels (b : Nat) (s : State) : Nat :=
  (List.range 8).foldl (fun v j => if pinLevel (8 * b + j) s then v + 2 ^ j else v) 0

/-- GPIO0 to GPIO47 as levels at the balls (R82). -/
def gpioLevels (s : State) : Nat := (List.range 6).foldl (fun v b => v + bankLevels b s * 2 ^ (8 * b)) 0

end Sys2Proof.Machine
end

