-- ==== Sys2Proof/Machine/Time.lean ====
section
/-!
DEFINITION. Time, ordering and triggers (spec/02_time_and_ordering.md): the GTC and its copies, the almanac, PPS
capture, the time-trigger slots and the release of ordered events.
-/
namespace Sys2Proof.Machine

open Sys2Proof

/-! ### The clocks (R54, R56 to R60, R71 to R74) -/

/-- Nanoseconds in a second. -/
def giga : Nat := 1000000000

/-- The almanac moved by a signed number of nanoseconds, with carries and borrows; none when the seconds would leave
0 to 2^48 − 1 (R71, R73). -/
def almMove (sec : BitVec 48) (ns : BitVec 30) (d : Int) : Option (BitVec 48 × BitVec 30) :=
  let t : Int := (sec.toNat : Int) * giga + ns.toNat + d
  if t < 0 ∨ (2 ^ 48 : Int) * giga ≤ t then none
  else some (BitVec.ofNat 48 (t.toNat / giga), BitVec.ofNat 30 (t.toNat % giga))

/-- The almanac after some time-clock cycles: each adds 2 ns plus RATE × 2^−40 ns (R72). -/
def almRun (cycles : Nat) (t : Time) (rate : BitVec 32) : Time :=
  let fr : Int := (t.almFrac.toNat : Int) + (cycles : Int) * rate.toInt
  let whole : Int := fr / (2 ^ 40 : Int)
  let part : Int := fr % (2 ^ 40 : Int)
  match almMove t.almSec t.almNs (2 * (cycles : Int) + whole) with
  | some (sec, ns) => { t with almSec := sec, almNs := ns, almFrac := BitVec.ofNat 40 part.toNat }
  | none => { t with almFrac := BitVec.ofNat 40 part.toNat }

/-- TIME_ALM_RATE.RATE. -/
def almRate (s : State) : BitVec 32 := BitVec.ofNat 32 (s.get R.TIME_ALM_RATE F.TIME_ALM_RATE_RATE)

/-- Has start-up locked the PLLs and loaded the GTC (R60, R602)? -/
def pllsRun (s : State) : Bool :=
  !s.power.computeHeld && (match s.power.boot with
    | .waitPgood | .waitCrystal | .waitReconcile => false
    | _ => true)
/-- Do the time clock and the GTC run from PLL_TIME (R54)? They do in AWAKE and DOZE, and in start-up once the GTC has
been loaded from the coarse count (R60). -/
def gtcRuns (s : State) : Bool := !s.time.coarseRun && pllsRun s

/-- Units of 1/64 ns between night-clock edges (R58): 30 517.578125 ns. -/
def nightPeriod : Nat := 1953125

/-- The step of the coarse count at a night-clock edge and its accumulator after it (R58): 30 517 ns, 37/64 ns in the
accumulator, and 1 ns for a carry. -/
def nightStep (acc : BitVec 6) : Nat × BitVec 6 :=
  let a := acc.toNat + 37
  (30517 + a / 64, BitVec.ofNat 6 (a % 64))

/-- A night-clock edge while the coarse count carries the GTC (R58, R60). -/
def nightEdge (s : State) : State :=
  let (d, a) := nightStep s.time.coarseAcc
  let c := s.time.coarse + BitVec.ofNat 64 d
  let s1 := { s with time := { s.time with coarse := c, coarseAcc := a, pwrGtc := c, el := s.time.el + d, nightPhase := 0 } }
  s1.addWrap R.TIME_GTC_STAT F.TIME_GTC_STAT_PARK_TICKS 1

/-- The power die's copy after one cycle of the time clock (R56, R57): the reference, or, while the link is down, the
night clock's count, or nothing while it is held or its die is in reset. -/
def pwrCopy (s : State) (t : Time) : Time :=
  let held := s.bit R.TIME_GTC_STAT F.TIME_GTC_STAT_PWR_HELD
  let edge := decide (nightPeriod ≤ t.nightPhase)
  let t1 := if edge then { t with nightPhase := t.nightPhase - nightPeriod } else t
  if s.power.powerHeld || held then t1
  else if !s.linkUp then
    (if edge then
      let (d, a) := nightStep t.coarseAcc
      { t1 with pwrGtc := t1.pwrGtc + BitVec.ofNat 64 d, coarseAcc := a }
    else t1)
  else { t1 with pwrGtc := t1.gtc }

/-- One cycle of the time clock (R54, R56, R57, R72), or, while the coarse count carries the GTC, one night-clock edge
(R58). Before the first lock after a power-on reset no clock counts and only the elapsed time grows. This is what a
step does on an empty queue (assumption 1). -/
def tick (s : State) : State :=
  if s.time.coarseRun then nightEdge s
  else if !pllsRun s then { s with time := { s.time with el := s.time.el + 2 } }
  else
    let t1 := almRun 1 { s.time with gtc := s.time.gtc + 2, gtcDup := s.time.gtcDup + 2, el := s.time.el + 2,
                                      nightPhase := s.time.nightPhase + 128 } (almRate s)
    { s with time := pwrCopy s t1 }

/-! ### Almanac writes and gPTP (R73, R74, R77) -/

/-- Is a step of the almanac refused (R73)? -/
def almStepBad (w : BitVec 64) (s : State) : Bool := (almMove s.time.almSec s.time.almNs w.toInt).isNone
/-- The step applied (R73). -/
def almStep (w : BitVec 64) (s : State) : State :=
  match almMove s.time.almSec s.time.almNs w.toInt with
  | some (sec, ns) => { s with time := { s.time with almSec := sec, almNs := ns } }
  | none => s

/-- The two almanac domains' last Sync. -/
def syncLast (d : Nat) (s : State) : Nat := if d = 0 then s.time.sync0 else s.time.sync1
/-- Note a Sync message of a domain. -/
def noteSync (d : Nat) (s : State) : State :=
  if d = 0 then { s with time := { s.time with sync0 := s.now } } else { s with time := { s.time with sync1 := s.now } }

/-- Has the working domain been silent for longer than LOSS_MS (R74)? -/
def syncLost (s : State) : Bool :=
  let d := s.get R.TIME_ALM_CTL F.TIME_ALM_CTL_WORKING
  s.bit (R.TIME_DOMd_CFG d) F.TIME_DOMd_CFG_EN &&
  decide (syncLast d s + 1000000 * s.get (R.TIME_DOMd_CFG d) F.TIME_DOMd_CFG_LOSS_MS < s.now)

/-- The correctionField added to a relayed Sync of domain d (R77), in ns × 2^16: the residence time scaled by
1 + RATIO × 2^−40, plus the ingress port's link delay. -/
def syncCorrection (d residence port : Nat) (s : State) : Int :=
  let ratio : Int := (BitVec.ofNat 32 (s.get (R.TIME_DOMd_CFG d) F.TIME_DOMd_CFG_RATIO)).toInt
  let scaled : Int := ((residence : Int) * 2 ^ 40 + (residence : Int) * ratio) * 2 ^ 16 / 2 ^ 40
  scaled + (s.get (R.ETH_Pp_LINKDLY port) F.ETH_Pp_LINKDLY_DELAY : Int) * 2 ^ 16

/-! ### Time triggers (R81 to R88) -/

/-- A slot's base as nanoseconds: the GTC, or the almanac (R81). -/
def trgBase (n : Nat) (s : State) : Nat :=
  if s.bit (R.TIME_TRGn_CTL n) F.TIME_TRGn_CTL_BASE then s.time.almSec.toNat * giga + s.time.almNs.toNat else s.now
/-- A slot's compare value as nanoseconds (R81). -/
def trgCmp (n : Nat) (s : State) : Nat :=
  if s.bit (R.TIME_TRGn_CTL n) F.TIME_TRGn_CTL_BASE then
    s.get (R.TIME_TRGn_CMP_SEC n) F.TIME_TRGn_CMP_SEC_SEC * giga + (s.reg (R.TIME_TRGn_CMP n)).toNat
  else (s.reg (R.TIME_TRGn_CMP n)).toNat

/-- Is the slot due: enabled, in AWAKE or DOZE, with its base at or past the compare value (R81)? -/
def trgDue (n : Nat) (s : State) : Bool :=
  s.bit (R.TIME_TRGn_CTL n) F.TIME_TRGn_CTL_EN && decide (trgCmp n s ≤ trgBase n s) &&
  (decide (s.power.pstate = .awake) || decide (s.power.pstate = .doze))

/-- Is another enabled slot pulsing the pin (R84)? -/
def pinPulsedByOther (n pin : Nat) (s : State) : Bool :=
  (List.range 64).any fun m => decide (m ≠ n) && s.bit (R.TIME_TRGn_CTL m) F.TIME_TRGn_CTL_EN &&
    s.bit (R.TIME_TRGn_CTL m) F.TIME_TRGn_CTL_ACT_PULSE && decide (s.get (R.TIME_TRGn_CTL m) F.TIME_TRGn_CTL_PIN = pin)

/-- The refusals of R84 for a write of the CTL word of slot n; `nv` is the register as the write would leave it. -/
def trgCtlBad (n : Nat) (nv : BitVec 64) (s : State) : Bool :=
  let per := s.get (R.TIME_TRGn_PER n) F.TIME_TRGn_PER_PER
  let wid := s.get (R.TIME_TRGn_WID n) F.TIME_TRGn_WID_WID
  let periodic := decide (fget nv F.TIME_TRGn_CTL_PERIODIC = 1)
  let pulse := decide (fget nv F.TIME_TRGn_CTL_ACT_PULSE = 1)
  decide (fget nv F.TIME_TRGn_CTL_EN = 1) &&
    ((periodic && decide (per < 64)) || decide (per % 2 = 1) || decide (wid % 2 = 1) || (pulse && decide (wid = 0)) ||
     (periodic && pulse && decide (per ≤ wid)) || (pulse && pinPulsedByOther n (fget nv F.TIME_TRGn_CTL_PIN) s))

/-- Is a pulse of slot n in progress? -/
def pulsing (n : Nat) (s : State) : Bool := s.time.pulses.any (fun e => decide (e.1 = n))
/-- End a slot's pulse: its pin returns to the inactive level (R82, R86). -/
def endPulse (n : Nat) (s : State) : State := { s with time := { s.time with pulses := s.time.pulses.filter (fun e => e.1 ≠ n) } }

/-- Start slot n's pulse on a pin until a time; the pin remembers the slot (R82, R620). -/
def startPulse (n pin till : Nat) (s : State) : State :=
  let s1 := endPulse n s
  { s1 with
    time := { s1.time with pulses := s1.time.pulses ++ [(n, till)] }
    pinLast := spPut (fun _ => 64) s1.pinLast pin n }

/-- A slot's owner is absent: EN becomes 0 and its pin goes inactive (R86). -/
def trgOwnerAbsent (n : Nat) (s : State) : State := endPulse n (s.set (R.TIME_TRGn_CTL n) F.TIME_TRGn_CTL_EN 0)

/-- The next compare value of a periodic slot and the instants skipped (R83): the first one after the base. -/
def trgNext (cmp per base : Nat) : Nat × Nat :=
  let c1 := cmp + per
  if base < c1 then (c1, 0)
  else
    let k := (base - c1) / per + 1
    (c1 + k * per, k)

/-- Store a compare value in the slot's registers (R81). -/
def setCmp (n v : Nat) (s : State) : State :=
  if s.bit (R.TIME_TRGn_CTL n) F.TIME_TRGn_CTL_BASE then
    (s.setReg (R.TIME_TRGn_CMP n) (BitVec.ofNat 64 (v % giga))).set (R.TIME_TRGn_CMP_SEC n) F.TIME_TRGn_CMP_SEC_SEC (v / giga)
  else s.setReg (R.TIME_TRGn_CMP n) (BitVec.ofNat 64 v)

/-- A conversion group starts (R82, R87, R623): its stamp is kept until it completes, and it joins the queue of each SAR. -/
def adcStart (g stamp : Nat) (s : State) : State :=
  let s1 := s.set (R.IOC_ADCg_CFG g) F.IOC_ADCg_CFG_BUSY 1
  { s1 with adc := s1.adc ++ [(g, stamp)] }

/-- The firing of slot n (R82, R83): its actions, LAST, the counters, and the next compare value or the end of a
one-shot slot. `late` says that the compare value was reached when the slot was enabled or resumed (R85). -/
def trgFire (n : Nat) (late : Bool) (s : State) : State :=
  let ctl := R.TIME_TRGn_CTL n
  let st := R.TIME_TRGn_STAT n
  let now := s.now
  let s1 := ((s.addWrap st F.TIME_TRGn_STAT_FIRE_CNT 1).flag st F.TIME_TRGn_STAT_FIRED).setReg (R.TIME_TRGn_LAST n) s.time.gtc
  let s2 := if late then s1.flag st F.TIME_TRGn_STAT_LATE else s1
  let s3 := if s.bit ctl F.TIME_TRGn_CTL_ACT_PULSE then
      startPulse n (s.get ctl F.TIME_TRGn_CTL_PIN) (now + s.get (R.TIME_TRGn_WID n) F.TIME_TRGn_WID_WID) s2
    else s2
  let g := s.get ctl F.TIME_TRGn_CTL_ADC_GROUP
  let s4 := if s.bit ctl F.TIME_TRGn_CTL_ACT_ADC then
      if s3.bit (R.IOC_ADCg_CFG g) F.IOC_ADCg_CFG_BUSY then
        -- a group started in this same cycle starts once and sets no ADC_OVR (R87)
        (if s3.adc.any (fun e => decide (e.1 = g) && decide (e.2 = now)) then s3 else s3.flag st F.TIME_TRGn_STAT_ADC_OVR)
      else adcStart g now s3
    else s3
  let s5 := if s.bit ctl F.TIME_TRGn_CTL_ACT_SAMPLE then s4.set (R.TIME_TRGn_SAMP n) F.TIME_TRGn_SAMP_LEVELS (gpioLevels s) else s4
  let cnt := s5.get st F.TIME_TRGn_STAT_FIRE_CNT
  let s6 := if s.bit ctl F.TIME_TRGn_CTL_ACT_CYCLE then
      raiseTo (0xC00 + n) (immw (BitVec.ofNat 64 (n + cnt * 2 ^ 32))) (ownDest (R.TIME_TRGn_OWN n) s5) s5
    else s5
  if s.bit ctl F.TIME_TRGn_CTL_PERIODIC then
    let (c, k) := trgNext (trgCmp n s) (max 1 (s.get (R.TIME_TRGn_PER n) F.TIME_TRGn_PER_PER)) (trgBase n s)
    (setCmp n c s6).addSat st F.TIME_TRGn_STAT_SKIP_CNT k
  else s6.set ctl F.TIME_TRGn_CTL_EN 0

/-! ### Register writes of the TIME block (R84, R73) -/

/-- Writes of the TIME block that R73 or R84 refuse; `nv` is the register as the write would leave it. -/
def timeRefuses (a : Nat) (w nv : BitVec 64) (s : State) : Bool :=
  let o := offsetOf a
  if a = R.TIME_ALM_STEP then almStepBad w s
  else if a = R.TIME_ORDER_CTL then decide (fget w F.TIME_ORDER_CTL_TWIN_HOLD = 0)
  else if 0x100 ≤ o ∧ o < 0x500 then
    let n := (o - 0x100) / 16
    let k := o % 16
    if k = 0 then trgCtlBad n nv s
    else if 1 ≤ k ∧ k ≤ 4 then
      s.bit (R.TIME_TRGn_CTL n) F.TIME_TRGn_CTL_EN ||
      (decide (k = 1) && s.bit (R.TIME_TRGn_CTL n) F.TIME_TRGn_CTL_BASE && decide (2 ^ 30 ≤ nv.toNat))
    else false
  else false

/-- What a write of the TIME block does beside setting its fields; `old` is the register before it. -/
def timeActs (a : Nat) (old w : BitVec 64) (s : State) : State :=
  let o := offsetOf a
  if a = R.TIME_ALM_STEP then almStep w s
  else if a = R.TIME_LATE_CNT then
    if fget w F.TIME_LATE_CNT_CLR = 1 then s.set R.TIME_LATE_CNT F.TIME_LATE_CNT_COUNT 0 else s
  else if 0x100 ≤ o ∧ o < 0x500 ∧ o % 16 = 0 then
    let n := (o - 0x100) / 16
    if fget old F.TIME_TRGn_CTL_EN = 1 ∧ fget w F.TIME_TRGn_CTL_EN = 0 then endPulse n s
    -- a slot enabled with its compare value already reached fires at the next cycle, late (R85)
    else if fget old F.TIME_TRGn_CTL_EN = 0 ∧ fget w F.TIME_TRGn_CTL_EN = 1 ∧ trgCmp n s ≤ trgBase n s then
      { s with trgLate := n :: s.trgLate.filter (fun x => x ≠ n) }
    else s
  else s

end Sys2Proof.Machine
end

