-- ==== Sys2Proof/Machine/Load.lean ====
section
/-!
DEFINITION. Protected load channels (spec/09_load_channels.md): demand and its sources, holds and output, trips and the
retry counter, the wire model, the clamp budget, pulse generators, supply conditions, leases and their events.
-/
namespace Sys2Proof.Machine

open Sys2Proof

/-! ### Events of the power die (R395, R398) -/

/-- Does the power die treat the compute die as absent (R394, R595)? HOLD lasts until the librarian's release. -/
def computeAbsent (s : State) : Bool := s.power.computeHeld || decide (s.power.pstate = .hold) || !s.linkUp

/-- Who is told of a power-die event: the channel's owner, or the librarian (R358, R389, R398, R479). -/
def powerDest (src : Nat) (s : State) : List Nat := if src < 32 then ownDest (R.LOAD_CHc_OWN src) s else [0]

/-- A power-die event reaches the compute die: notice queues and the archive, as an event of class 4 (R395, R398). -/
def powerDeliver (e : Event) (s : State) : State := notifyAll e (powerDest e.src s) (archive e 4 0 s)

/-- The power die raises an event, stamped by its own copy of the GTC; while the compute die is absent up to 64 are kept
and the others counted (R395). -/
def powerRaise (src : Nat) (payload : BitVec 64) (s : State) : State :=
  let e : Event := { stamp := s.pnow, src := src, payload := immw payload }
  if computeAbsent s then
    if s.load.held.length < 64 then { s with load := { s.load with held := insArch { ev := e, cls := 4 } s.load.held } }
    else s.addSat R.LOAD_STAT F.LOAD_STAT_EVLOST 1
  else if srcClosed src s then s
  else powerDeliver e s

/-- A contained-class fault of the power die, from a source number no rule gives (assumption 2), is reported now or, while
the compute die is absent, kept (R44, R393, R395). -/
def powerFault (also : List Nat) (s : State) : State :=
  let (n, s1) := s.drawFree 12
  let (v, s2) := s1.drawFree 64
  let e : Event := { stamp := s.pnow, src := n.toNat, payload := immw v }
  if computeAbsent s then
    if s.load.held.length < 64 then { s2 with load := { s2.load with held := insArch { ev := e, cls := 1 } s2.load.held } }
    else s2.addSat R.LOAD_STAT F.LOAD_STAT_EVLOST 1
  else faultAt s.pnow 1 n.toNat v 0 also s2

/-- The kept events are delivered in stamp order (R395). -/
def deliverHeld (s : State) : State :=
  s.load.held.foldl (fun t x =>
    if x.cls = 1 then faultAt x.ev.stamp 1 x.ev.src (wv x.ev.payload) 0 [] t else powerDeliver x.ev t)
    { s with load := { s.load with held := [] } }

/-- The payload of a channel's event (R398). -/
def chanPayload (kind attempts : Nat) (cur : BitVec 20) : BitVec 64 :=
  BitVec.ofNat 64 (kind + attempts * 16 + cur.toNat * 256)

/-- Channel c raises a kind of event. -/
def chanEvent (c kind : Nat) (cur : BitVec 20) (s : State) : State :=
  powerRaise c (chanPayload kind (s.get (R.LOAD_CHc_STAT c) F.LOAD_CHc_STAT_ATTEMPTS) cur) s

/-! ### Profiles (R367 to R370) -/

/-- A field of the profile channel c uses. -/
def profOf (c : Nat) (s : State) : Nat := s.get (R.LOAD_CHc_PROF c) F.LOAD_CHc_PROF_PROF

/-- Is step k of profile p used? -/
def envUsed (p k : Nat) (s : State) : Bool := decide (s.get (R.LOAD_PROFp_ENVk p k) F.LOAD_PROFp_ENVk_T_END ≠ 0)

/-- T_AMB of a profile in °C. -/
def profAmb (p : Nat) (s : State) : Int := (BitVec.ofNat 8 (s.get (R.LOAD_PROFp_WIRE p) F.LOAD_PROFp_WIRE_T_AMB)).toInt
/-- T_MAX of a profile in °C. -/
def profMax (p : Nat) (s : State) : Int := (s.get (R.LOAD_PROFp_WIRE p) F.LOAD_PROFp_WIRE_T_MAX : Nat)
/-- HYST of a profile in °C. -/
def profHyst (p : Nat) (s : State) : Int := (s.get (R.LOAD_PROFp_WIRE p) F.LOAD_PROFp_WIRE_HYST : Nat)

/-- Is a profile invalid (R368)? -/
def profInvalid (p : Nat) (s : State) : Bool :=
  ((List.range 7).any fun k => envUsed p (k + 1) s &&
    (!envUsed p k s || decide (s.get (R.LOAD_PROFp_ENVk p (k + 1)) F.LOAD_PROFp_ENVk_T_END ≤
      s.get (R.LOAD_PROFp_ENVk p k) F.LOAD_PROFp_ENVk_T_END))) ||
  decide (s.get (R.LOAD_PROFp_WIRE p) F.LOAD_PROFp_WIRE_K = 0) || decide (s.get (R.LOAD_PROFp_WIRE p) F.LOAD_PROFp_WIRE_TAU = 0) ||
  decide (s.get (R.LOAD_PROFp_CFG p) F.LOAD_PROFp_CFG_BLANK = 0) || decide (s.get (R.LOAD_PROFp_CFG p) F.LOAD_PROFp_CFG_OC_FILT = 0) ||
  decide (s.get (R.LOAD_PROFp_RETRY p) F.LOAD_PROFp_RETRY_BACKOFF = 0) ||
  decide (s.get (R.LOAD_PROFp_RETRY p) F.LOAD_PROFp_RETRY_CLEAN = 0) ||
  decide (profMax p s ≤ profAmb p s) || decide (profMax p s - profAmb p s ≤ profHyst p s) ||
  decide (s.get (R.LOAD_PROFp_CFG p) F.LOAD_PROFp_CFG_SC_LIM ≤ s.get (R.LOAD_PROFp_CFG p) F.LOAD_PROFp_CFG_STEADY) ||
  decide (s.get (R.LOAD_PROFp_CLAMP p) F.LOAD_PROFp_CLAMP_E_REL < s.get (R.LOAD_PROFp_CLAMP p) F.LOAD_PROFp_CLAMP_E_MIN) ||
  decide (s.get (R.LOAD_PROFp_CLAMP p) F.LOAD_PROFp_CLAMP_E_MAX < s.get (R.LOAD_PROFp_CLAMP p) F.LOAD_PROFp_CLAMP_E_REL)

/-- Does a channel in service use the profile (R368)? -/
def profInUse (p : Nat) (s : State) : Bool :=
  (List.range 32).any fun c => s.bit (R.LOAD_CHc_PROF c) F.LOAD_CHc_PROF_EN && decide (profOf c s = p)

/-- The effective steady limit in mA (R369). -/
def steadyLimit (c : Nat) (s : State) : Nat :=
  let l := s.get (R.LOAD_PROFp_CFG (profOf c s)) F.LOAD_PROFp_CFG_STEADY
  if c < 8 then min l 5000 else l
/-- The effective short-circuit limit in mA (R369). -/
def shortLimit (c : Nat) (s : State) : Nat :=
  let l := s.get (R.LOAD_PROFp_CFG (profOf c s)) F.LOAD_PROFp_CFG_SC_LIM
  if c < 8 then min l 35000 else l

/-! ### Pulse generators (R386 to R388) -/

/-- PERIOD of channel c in sequencer cycles. -/
def pwmPeriod (c : Nat) (s : State) : Nat := s.get (R.LOAD_CHc_PWM c) F.LOAD_CHc_PWM_PERIOD
/-- The on-time of a duty: PERIOD × DUTY ÷ 65,536, rounded (R386). -/
def onTime (period duty : Nat) : Nat := (divNear (period * duty : Nat) 65536).toNat

/-- A demand with R362 applied: 0 off, 1 on, 2 a pulse that really pulses. -/
def effMode (c : Nat) (mode : BitVec 2) (duty : BitVec 16) (s : State) : Nat :=
  if mode = 0b10#2 then
    (if duty = 0 then 0 else if onTime (pwmPeriod c s) duty.toNat = pwmPeriod c s then 1 else 2)
  else if mode = 0b01#2 then 1 else 0

/-! ### Holds and the output (R385) -/

/-- The tile of channel c's switch or gate driver (R12). -/
def chanTile (c : Nat) : Tile := if c < 8 then .switches else .gates ⟨(c - 8) / 8 % 3, Nat.mod_lt _ (by decide)⟩

/-- Does SAFE_N force the safe state (R48)? -/
def safeForces (s : State) : Bool := s.faults.safeRec && s.bit R.SYS_FAULT_CTL F.SYS_FAULT_CTL_SAFE_IN_EN

/-- Row n (1 to 8) of the precedence table for channel c (R385). -/
def holdRow (c n : Nat) (s : State) : Bool :=
  let st := R.LOAD_CHc_STAT c
  let k := s.chan c
  match n with
  | 1 => !s.bit (R.LOAD_CHc_PROF c) F.LOAD_CHc_PROF_EN || s.power.powerHeld || tileClosed .sequencer s ||
         tileClosed .measurement s || tileClosed (chanTile c) s
  | 2 => s.bit R.LOAD_STAT F.LOAD_STAT_GNDLOSS ||
         (if c < 8 then s.bit R.LOAD_STAT F.LOAD_STAT_UV12 || s.bit st F.LOAD_CHc_STAT_REVCUR else s.bit R.LOAD_STAT F.LOAD_STAT_UVG)
  | 3 => s.bit st F.LOAD_CHc_STAT_THERM
  | 4 => s.bit st F.LOAD_CHc_STAT_EXHAUSTED
  | 5 => decide (s.el < k.restartAt) || k.wireWait
  | 6 => s.bit st F.LOAD_CHc_STAT_LOCK
  | 7 => k.shed
  | 8 => s.bit (R.LOAD_CHc_PROF c) F.LOAD_CHc_PROF_OV_DISC &&
         (if c < 8 then s.bit R.LOAD_STAT F.LOAD_STAT_OV12 else s.bit R.LOAD_STAT F.LOAD_STAT_OVG)
  | _ => false

/-- The lowest-numbered row that holds, 0 for none (R385). -/
def holdBy (c : Nat) (s : State) : Nat := ((List.range 8).find? fun n => holdRow c (n + 1) s).elim 0 (· + 1)

/-- The switch starts or stops conducting; the envelope clock counts conduction (R371). -/
def setCond (c : Nat) (b : Bool) (s : State) : State :=
  let k := s.chan c
  if k.cond = b then s
  else if b then s.setChan c { k with cond := true, condSince := s.el }
  else s.setChan c { k with cond := false, env := k.env + (s.el - k.condSince) }

/-- The envelope clock in ns (R371). -/
def envClock (c : Nat) (s : State) : Nat :=
  let k := s.chan c
  if k.cond then k.env + (s.el - k.condSince) else k.env

/-- A turn-on (R371, R383): the envelope clock restarts, STARTS counts, an open streak consumes an attempt, and a pending
restart is done. An on channel is no longer seen as driven or open from outside. -/
def turnOn (c mode : Nat) (s : State) : State :=
  let st := R.LOAD_CHc_STAT c
  let k := s.chan c
  let s1 := s.setChan c { k with amode := BitVec.ofNat 2 mode, env := 0, condSince := s.el, onSince := s.el, edgeAt := s.el, cond := true }
  let s2 := s1.addSat (R.LOAD_CHc_CNT c) F.LOAD_CHc_CNT_STARTS 1
  let s3 := if k.streak then s2.addSat st F.LOAD_CHc_STAT_ATTEMPTS 1 else s2
  demandOffer c <| (((s3.set st F.LOAD_CHc_STAT_OUT 1).set st F.LOAD_CHc_STAT_RESTART_PENDING 0).set st F.LOAD_CHc_STAT_OL_OFF 0).set st
    F.LOAD_CHc_STAT_EXT_DRIVEN 0

/-- The output goes off. -/
def turnOff (c : Nat) (s : State) : State :=
  let s1 := setCond c false s
  let k := s1.chan c
  demandOffer c ((s1.setChan c { k with amode := 0 }).set (R.LOAD_CHc_STAT c) F.LOAD_CHc_STAT_OUT 0)

/-- The sequencer's evaluation of one channel (R385): demand, holds and output. An on demand switches on at once; a pulse
demand waits for its on-edge (R387). -/
def chanEval (c : Nat) (s : State) : State :=
  let st := R.LOAD_CHc_STAT c
  let k := s.chan c
  let m := effMode c k.mode k.duty s
  let h := holdBy c s
  let s1 := ((s.set st F.LOAD_CHc_STAT_DEMAND m).set st F.LOAD_CHc_STAT_DSRC k.dsrc.toNat).set st F.LOAD_CHc_STAT_HOLDBY h
  let s2 := if h = 2 ∨ h = 8 then (if m = 0 then s1 else s1.flag (R.LOAD_CHc_TRIP c) F.LOAD_CHc_TRIP_SUPPLY) else s1
  let s3 := if m = 0 then s2.set st F.LOAD_CHc_STAT_RESTART_PENDING 0 else s2
  if m = 0 ∨ h ≠ 0 then (if s3.bit st F.LOAD_CHc_STAT_OUT then turnOff c s3 else s3)
  else if m = 1 then
    (if s3.bit st F.LOAD_CHc_STAT_OUT then
      let s4 := setCond c true s3
      s4.setChan c { s4.chan c with amode := 0b01#2 }
    else turnOn c 1 s3)
  else s3

/-- The members of a stagger set (R388): AUTO_PH = 1, the same PERIOD, and a pulse demand that is pulsing. -/
def staggerSet (period : Nat) (s : State) : List Nat :=
  (List.range 32).filter fun c => s.bit (R.LOAD_CHc_PWM c) F.LOAD_CHc_PWM_AUTO_PH && decide (pwmPeriod c s = period) &&
    decide (effMode c (s.chan c).mode (s.chan c).duty s = 2) && decide (holdBy c s = 0)

/-- The phase of channel c (R386, R388). -/
def pwmPhase (c : Nat) (s : State) : Nat :=
  if s.bit (R.LOAD_CHc_PWM c) F.LOAD_CHc_PWM_AUTO_PH then
    let m := staggerSet (pwmPeriod c s) s
    (match m.findIdx? (fun x => decide (x = c)) with
     | some i => i * pwmPeriod c s / m.length
     | none => s.get (R.LOAD_CHc_PWM c) F.LOAD_CHc_PWM_PHASE)
  else s.get (R.LOAD_CHc_PWM c) F.LOAD_CHc_PWM_PHASE

/-- Is now an on-edge of channel c's generator (R386)? While the link is down the power die's own oscillator, within
±2 %, times the edges (R364), so any instant may be one. -/
def onEdgeNow (c : Nat) (s : State) : Bool :=
  let t := s.el - s.load.releasedAt
  !s.linkUp || s.power.computeHeld ||
    (decide (t % 20 = 0) && decide ((t / 20 + pwmPeriod c s - pwmPhase c s % pwmPeriod c s) % pwmPeriod c s = 0))

/-- An on-edge (R386, R387): the generator takes DUTY, PERIOD and PHASE as they stand, unless an on-time is running. -/
def pulseOnEdge (c : Nat) (s : State) : State :=
  let k := s.chan c
  let m := effMode c k.mode k.duty s
  let running := k.amode = 0b10#2 ∧ k.cond = true ∧ s.el < k.onEnd
  if m ≠ 2 ∨ holdBy c s ≠ 0 ∨ onEdgeNow c s = false ∨ running then s
  else
    let s1 := if s.bit (R.LOAD_CHc_STAT c) F.LOAD_CHc_STAT_OUT then setCond c true s else turnOn c 2 s
    let k1 := s1.chan c
    s1.setChan c { k1 with amode := 0b10#2, edgeAt := s.el, onEnd := s.el + 20 * onTime (pwmPeriod c s) k.duty.toNat }

/-- The end of an on-time (R386). -/
def pulseOnTimeEnd (c : Nat) (s : State) : State :=
  let k := s.chan c
  if k.amode = 0b10#2 ∧ k.cond = true ∧ k.onEnd ≤ s.el then setCond c false s else s

/-! ### Demand (R362 to R366, R394) -/

/-- The safe state of channel c (R401): mode and duty. -/
def safeState (c : Nat) (s : State) : BitVec 2 × BitVec 16 :=
  (BitVec.ofNat 2 (s.get (R.LOAD_CHc_PROF c) F.LOAD_CHc_PROF_SAFE), BitVec.ofNat 16 (s.get (R.LOAD_CHc_PROF c) F.LOAD_CHc_PROF_SAFE_DUTY))

/-- Set the demand of channel c and evaluate it. -/
def setDemand (c : Nat) (mode : BitVec 2) (duty : BitVec 16) (dsrc : BitVec 3) (s : State) : State :=
  chanEval c (s.setChan c { s.chan c with mode := mode, duty := duty, dsrc := dsrc })
/-- The demand becomes the safe state under a row of R385. -/
def demandSafe (c : Nat) (dsrc : BitVec 3) (s : State) : State := setDemand c (safeState c s).1 (safeState c s).2 dsrc s
/-- The demand becomes off until a command: off, with no row deciding it. -/
def demandOff (c : Nat) (s : State) : State := setDemand c 0 0 4 s

/-- LOAD_STAT.ABSENT: some channel has not had its command since an absence (R394, R399). -/
def markAbsent (s : State) : State :=
  s.setBit R.LOAD_STAT F.LOAD_STAT_ABSENT ((List.range 32).any fun c => (s.chan c).absent)

/-- A command accepted for channel c (R362, R364): the demand is replaced, an absence or a lease ends, a shed ends for on
and pulse. -/
def acceptCommand (c : Nat) (mode : BitVec 2) (duty : BitVec 16) (origin : Nat) (s : State) : State :=
  let cmd := R.LOAD_CHc_CMD c
  let s1 := ((s.set cmd F.LOAD_CHc_CMD_MODE mode.toNat).set cmd F.LOAD_CHc_CMD_DUTY duty.toNat).set cmd F.LOAD_CHc_CMD_ORIGIN origin
  let k := s1.chan c
  let s2 := s1.setChan c { k with absent := false, leaseAt := none, sent := true, shed := k.shed && decide (mode = 0) }
  let changed := decide (s.get cmd F.LOAD_CHc_CMD_MODE ≠ mode.toNat) || decide (s.get cmd F.LOAD_CHc_CMD_DUTY ≠ duty.toNat)
  markAbsent (setDemand c mode duty 0 (if changed then demandOffer c s2 else s2))

/-- A refusal is counted, and the first since the counters were cleared raises kind 14 (R363). -/
def refuseCommand (c : Nat) (s : State) : State :=
  let cnt := R.LOAD_CHc_CNT c
  let first := decide (s.get cnt F.LOAD_CHc_CNT_REFUSED = 0)
  let s1 := s.addSat cnt F.LOAD_CHc_CNT_REFUSED 1
  if first then chanEvent c 14 (BitVec.ofNat 20 (s.get (R.LOAD_CHc_I c) F.LOAD_CHc_I_I_NOW)) s1 else s1

/-- Is a command of an origin accepted (R362, R363, R563)? -/
def commandOk (c origin : Nat) (s : State) : Bool :=
  let p := R.LOAD_CHc_PROF c
  s.bit p F.LOAD_CHc_PROF_EN && !safeForces s && (decide (origin = 2) || !mappedAway .chan c s) &&
  (match origin with
   | 0 => true
   | 1 => s.bit p F.LOAD_CHc_PROF_SLIP_EN
   | _ => s.bit p F.LOAD_CHc_PROF_TWIN_EN)

/-- A slip's command at the sequencer (R199, R363): refused and dropped, or accepted; one whose provenance failed QMASK
is a command for the safe state. -/
def slipCommand (x : LoadSlip) (s : State) : State :=
  let c := x.chan % 32
  if !s.linkUp || s.power.powerHeld then s
  else if !commandOk c 1 s then refuseCommand c s
  else if x.ok then acceptCommand c x.mode x.duty 1 s
  else acceptCommand c (safeState c s).1 (safeState c s).2 1 s

/-- The reflex queue delivers its oldest command to the sequencer. -/
def reflexStep (s : State) : State :=
  match s.load.reflex with
  | [] => s
  | x :: t => slipCommand x { s with load := { s.load with reflex := t } }

/-- SAFE_N begins to force (R48, R49): every demand becomes the safe state; it outranks the leases. -/
def forceSafe (s : State) : State := (List.range 32).foldl (fun t c => demandSafe c 1 t) s

/-- The absence of the compute die begins for channel c (R394). A channel whose demand SAFE_N still decides keeps it. -/
def leaseStartChan (c : Nat) (s : State) : State :=
  let k := s.chan c
  let p := R.LOAD_CHc_PROF c
  if k.absent then s
  else
    let s1 := s.setChan c { k with absent := true }
    if k.dsrc = 1 ∨ safeForces s = true then s1
    else match s.get p F.LOAD_CHc_PROF_LEASE with
      | 1 =>
        let k1 := s1.chan c
        chanEval c (s1.setChan c { k1 with dsrc := 2, leaseAt := some (s.el + msNs * s.get p F.LOAD_CHc_PROF_LEASE_MS) })
      | 2 => setDemand c 0b01#2 0 2 s1
      | _ => setDemand c 0 0 2 s1
/-- The absence begins for every channel. -/
def leaseStart (s : State) : State := markAbsent ((List.range 32).foldl (fun t c => leaseStartChan c t) s)

/-- A HOLD lease expires (R394): the safe state, and kind 13. -/
def leaseExpire (c : Nat) (s : State) : State :=
  let k := s.chan c
  match k.leaseAt with
  | some t =>
    if t ≤ s.el then
      let s1 := demandSafe c 2 (s.setChan c { k with leaseAt := none })
      chanEvent c 13 (BitVec.ofNat 20 (s.get (R.LOAD_CHc_I c) F.LOAD_CHc_I_I_NOW)) s1
    else s
  | none => s

/-- The compute die resends the current command of every channel it has commanded (R15); one that arrives while SAFE_N
forces is refused. -/
def resendAll (s : State) : State :=
  (List.range 32).foldl (fun t c =>
    if !(t.chan c).sent then t
    else if safeForces t || !t.bit (R.LOAD_CHc_PROF c) F.LOAD_CHc_PROF_EN then refuseCommand c t
    else
      let cmd := R.LOAD_CHc_CMD c
      acceptCommand c (BitVec.ofNat 2 (t.get cmd F.LOAD_CHc_CMD_MODE)) (BitVec.ofNat 16 (t.get cmd F.LOAD_CHc_CMD_DUTY))
        (t.get cmd F.LOAD_CHc_CMD_ORIGIN) t) s

/-- The owner of channel c is reset (R366): with OWNABS = 1 the demand becomes the safe state, unless SAFE_N or a lease
decides it. -/
def chanOwnerAbsent (c : Nat) (s : State) : State :=
  let k := s.chan c
  if s.bit (R.LOAD_CHc_PROF c) F.LOAD_CHc_PROF_OWNABS && decide (k.dsrc ≠ 1) && !k.absent then demandSafe c 3 s else s

/-! ### Trips and the retry counter (R371 to R374, R383, R384) -/

/-- BACKOFF × 2^ATTEMPTS ms, limited to 65,535 ms (R383). -/
def backoffMs (backoff attempts : Nat) : Nat := min (backoff * 2 ^ attempts) 65535

/-- A protective trip (R383): its flag, I_TRIP, the streak, EXHAUSTED or a restart, and the output off. -/
def protectiveTrip (c kind : Nat) (flag : Fld) (cur : BitVec 20) (s : State) : State :=
  let st := R.LOAD_CHc_STAT c
  let p := R.LOAD_PROFp_RETRY (profOf c s)
  let att := s.get st F.LOAD_CHc_STAT_ATTEMPTS
  let s1 := ((s.flag (R.LOAD_CHc_TRIP c) flag).set (R.LOAD_CHc_I c) F.LOAD_CHc_I_I_TRIP cur.toNat).addSat (R.LOAD_CHc_CNT c) F.LOAD_CHc_CNT_TRIPS 1
  let k := s1.chan c
  let last := decide (att = s.get p F.LOAD_PROFp_RETRY_RETRY_MAX)
  let at2 := if last then k.restartAt else s.el + msNs * backoffMs (s.get p F.LOAD_PROFp_RETRY_BACKOFF) att
  let s2 := s1.setChan c { k with streak := true, restartAt := at2, wireWait := k.wireWait || decide (kind = 4) }
  let s3 := if last then s2.set st F.LOAD_CHc_STAT_EXHAUSTED 1 else s2.set st F.LOAD_CHc_STAT_RESTART_PENDING 1
  let s4 := chanEvent c kind cur s3
  let s5 := if last then chanEvent c 9 cur s4 else s4
  chanEval c s5

/-- The current limit at the envelope clock (R373), in mA. -/
def envLimit (c : Nat) (s : State) : Nat :=
  let p := profOf c s
  match (List.range 8).find? fun k => envUsed p k s &&
      decide (envClock c s < 1000 * s.get (R.LOAD_PROFp_ENVk p k) F.LOAD_PROFp_ENVk_T_END) with
  | some k => s.get (R.LOAD_PROFp_ENVk p k) F.LOAD_PROFp_ENVk_LIMIT
  | none => steadyLimit c s

/-- BLANK in ns. -/
def blankNs (c : Nat) (s : State) : Nat := 1000 * s.get (R.LOAD_PROFp_CFG (profOf c s)) F.LOAD_PROFp_CFG_BLANK

/-- The last current sample of channel c becomes I_NOW (R397). -/
def setINow (c : Nat) (cur : BitVec 20) (s : State) : State := s.set (R.LOAD_CHc_I c) F.LOAD_CHc_I_I_NOW cur.toNat

/-- A current above the effective short-circuit limit (R372). -/
def shortTrip (c : Nat) (cur : BitVec 20) (s : State) : State :=
  let s1 := setINow c cur s
  if (s.chan c).cond ∧ (shortLimit c s : Int) < cur.toInt then protectiveTrip c 1 F.LOAD_CHc_TRIP_SC cur s1 else s1

/-- A drain-source voltage above DESAT_V after BLANK on a gate-driver channel (R372); `vds` in 10 mV. -/
def desatTrip (c : Nat) (vds : BitVec 16) (cur : BitVec 20) (s : State) : State :=
  let s1 := setINow c cur s
  let k := s.chan c
  if 8 ≤ c ∧ k.cond ∧ k.edgeAt + blankNs c s ≤ s.el ∧ 10 * s.get (R.LOAD_CHc_ELEC c) F.LOAD_CHc_ELEC_DESAT_V < vds.toNat then
    protectiveTrip c 3 F.LOAD_CHc_TRIP_DESAT cur s1
  else s1

/-- The last of OC_FILT consecutive samples above the limit (R373). -/
def overcurrentTrip (c : Nat) (cur : BitVec 20) (s : State) : State :=
  let s1 := setINow c cur s
  let k := s.chan c
  if k.cond ∧ k.onSince + blankNs c s ≤ s.el ∧ (envLimit c s : Int) < cur.toInt then
    protectiveTrip c 2 F.LOAD_CHc_TRIP_OC cur s1
  else s1

/-- The wire estimate shown in 1/256 °C (R376, R401). -/
def wireShown (w : Int) : BitVec 32 := BitVec.ofInt 32 (divNear w 16777216)

/-- One update of the wire estimate over `ms` milliseconds (R376, R396); `q` is the mean squared current in 2^-32 A². -/
def wireNext (p ms : Nat) (q : Nat) (w : Int) (s : State) : Int :=
  let amb : Int := profAmb p s * 4294967296
  let k : Int := (s.get (R.LOAD_PROFp_WIRE p) F.LOAD_PROFp_WIRE_K : Nat)
  let tau : Int := (s.get (R.LOAD_PROFp_WIRE p) F.LOAD_PROFp_WIRE_TAU : Nat)
  let w1 := w + divRound ((amb + divRound (k * (q : Int)) 1000 - w) * (ms : Int)) tau
  if w1 < amb then amb else w1

/-- Store the wire estimate. -/
def setWire (c : Nat) (w : Int) (s : State) : State :=
  (s.setChan c { s.chan c with wire := w }).set (R.LOAD_CHc_WIRE c) F.LOAD_CHc_WIRE_T_W (wireShown w).toNat

/-- The millisecond's update of channel c (R374, R376, R377, R396, R397): the wire estimate, the 1 ms mean and output
voltage, a wire trip at T_MAX, the end of the wait after one, and the end of an open-load or external-drive mark. In PARK
a step is one second with no current. -/
def wireUpdate (c : Nat) (q : BitVec 64) (mean : BitVec 20) (vout : BitVec 16) (s : State) : State :=
  let k := s.chan c
  let p := profOf c s
  let park := decide (s.power.pstate = .park)
  let step := if park then 1000 else 1
  if s.el < k.wireAt + msNs * step then s
  else
    let w := wireNext p step (if park then 0 else q.toNat) k.wire s
    let s1 := setWire c w (s.setChan c { k with wireAt := s.el })
    let st := R.LOAD_CHc_STAT c
    let s2 := ((s1.set (R.LOAD_CHc_I c) F.LOAD_CHc_I_I_MEAN mean.toNat).set (R.LOAD_CHc_V c) F.LOAD_CHc_V_V_OUT vout.toNat)
    let s3 := if (s.get (R.LOAD_PROFp_OL p) F.LOAD_PROFp_OL_OL_ON : Int) ≤ mean.toInt then s2.set st F.LOAD_CHc_STAT_OL_ON 0 else s2
    let s4 := if vout.toInt ≤ 300 then s3.set st F.LOAD_CHc_STAT_EXT_DRIVEN 0 else s3
    let s5 := if vout.toInt ≤ 200 then s4.set st F.LOAD_CHc_STAT_OL_OFF 0 else s4
    let k5 := s5.chan c
    let s6 := s5.setChan c { k5 with wireWait := k5.wireWait && decide ((profMax p s - profHyst p s) * 4294967296 < w) }
    if profMax p s * 4294967296 ≤ w ∧ s6.bit st F.LOAD_CHc_STAT_OUT then
      protectiveTrip c 4 F.LOAD_CHc_TRIP_WIRE mean s6
    else chanEval c s6

/-- A scheduled restart time arrives (R383): the channel turns on if its demand and the holds allow. -/
def restartDue (c : Nat) (s : State) : State :=
  let k := s.chan c
  if s.bit (R.LOAD_CHc_STAT c) F.LOAD_CHc_STAT_RESTART_PENDING ∧ k.restartAt ≤ s.el then
    (if k.wireWait then s else chanEval c (s.set (R.LOAD_CHc_STAT c) F.LOAD_CHc_STAT_RESTART_PENDING 0))
  else s

/-- The streak closes after CLEAN ms of output (R383). -/
def streakClean (c : Nat) (s : State) : State :=
  let k := s.chan c
  let clean := msNs * s.get (R.LOAD_PROFp_RETRY (profOf c s)) F.LOAD_PROFp_RETRY_CLEAN
  if k.streak ∧ s.bit (R.LOAD_CHc_STAT c) F.LOAD_CHc_STAT_OUT ∧ k.onSince + clean ≤ s.el then
    (s.setChan c { k with streak := false, restartAt := 0 }).set (R.LOAD_CHc_STAT c) F.LOAD_CHc_STAT_ATTEMPTS 0
  else s

/-- REARM (R384): EXHAUSTED and ATTEMPTS clear and the streak closes. -/
def rearm (c : Nat) (s : State) : State :=
  let st := R.LOAD_CHc_STAT c
  let s1 := (((s.set st F.LOAD_CHc_STAT_EXHAUSTED 0).set st F.LOAD_CHc_STAT_ATTEMPTS 0)).set st F.LOAD_CHc_STAT_RESTART_PENDING 0
  chanEval c (s1.setChan c { s1.chan c with streak := false, restartAt := 0 })

/-! ### Thermal latch, clamp budget, open load, shedding, reverse current (R359, R374, R375, R379 to R381) -/

/-- Is the sense of channel c one that can latch: an integrated switch, or a fitted group sensor (R379)? -/
def hasLatch (c : Nat) (s : State) : Bool := decide (c < 8) || s.bit (R.LOAD_TSg ((c - 8) / 8)) F.LOAD_TSg_TS_EN
/-- Does a reading count as 175 °C or above (R379)? -/
def tooHot (c : Nat) (t : BitVec 9) : Bool := decide (175 ≤ t.toInt) || (decide (8 ≤ c) && (decide (t.toInt < -50) || decide (200 < t.toInt)))

/-- Publish a temperature reading (R397). -/
def setTemp (c : Nat) (t : BitVec 9) (s : State) : State := s.set (R.LOAD_CHc_V c) F.LOAD_CHc_V_T_CH t.toNat

/-- The latch sets (R379). -/
def thermSet (c : Nat) (t : BitVec 9) (s : State) : State :=
  let st := R.LOAD_CHc_STAT c
  let s1 := setTemp c t s
  if hasLatch c s ∧ tooHot c t ∧ !s.bit st F.LOAD_CHc_STAT_THERM then
    let s2 := (s1.set st F.LOAD_CHc_STAT_THERM 1).flag (R.LOAD_CHc_TRIP c) F.LOAD_CHc_TRIP_THERM
    chanEval c (chanEvent c 5 (BitVec.ofNat 20 (s.get (R.LOAD_CHc_I c) F.LOAD_CHc_I_I_NOW)) s2)
  else s1

/-- The latch releases (R379). -/
def thermRelease (c : Nat) (t : BitVec 9) (s : State) : State :=
  let st := R.LOAD_CHc_STAT c
  let s1 := setTemp c t s
  if s.bit st F.LOAD_CHc_STAT_THERM ∧ !tooHot c t ∧ t.toInt < 145 then
    chanEval c (chanEvent c 6 (BitVec.ofNat 20 (s.get (R.LOAD_CHc_I c) F.LOAD_CHc_I_I_NOW)) (s1.set st F.LOAD_CHc_STAT_THERM 0))
  else s1

/-- The clamp budget in pJ, recovered at RECOV up to E_MAX (R380). -/
def budgetNow (c : Nat) (s : State) : Int :=
  let k := s.chan c
  let p := profOf c s
  let top : Int := (s.get (R.LOAD_PROFp_CLAMP p) F.LOAD_PROFp_CLAMP_E_MAX : Int) * 1000000000
  let b := k.budget + ((s.el - k.budgetAt) * s.get (R.LOAD_PROFp_RECOV p) F.LOAD_PROFp_RECOV_RECOV : Nat)
  if top ≤ k.budget then k.budget else if top < b then top else b

/-- The budget shown in µJ (R401). -/
def budgetShown (c : Nat) (s : State) : BitVec 32 := BitVec.ofInt 32 (divRound (budgetNow c s) 1000000)

/-- A clamp ends with some energy, in µJ (R380, R381). -/
def clampEnd (c : Nat) (e : BitVec 32) (s : State) : State :=
  let b := budgetNow c s - (e.toNat : Int) * 1000000
  let s1 := (s.setChan c { s.chan c with budget := b, budgetAt := s.el }).set (R.LOAD_CHc_CLAMP c) F.LOAD_CHc_CLAMP_LAST_E e.toNat
  let low : Int := (s.get (R.LOAD_PROFp_CLAMP (profOf c s)) F.LOAD_PROFp_CLAMP_E_MIN : Int) * 1000000000
  let st := R.LOAD_CHc_STAT c
  if b < low ∧ !s.bit st F.LOAD_CHc_STAT_LOCK then
    let s2 := (s1.set st F.LOAD_CHc_STAT_LOCK 1).flag (R.LOAD_CHc_TRIP c) F.LOAD_CHc_TRIP_LOCK
    chanEval c (chanEvent c 7 (BitVec.ofNat 20 (s.get (R.LOAD_CHc_I c) F.LOAD_CHc_I_I_NOW)) s2)
  else s1

/-- The clamp lock releases at E_REL (R381). -/
def clampLockRelease (c : Nat) (s : State) : State :=
  let st := R.LOAD_CHc_STAT c
  let rel : Int := (s.get (R.LOAD_PROFp_CLAMP (profOf c s)) F.LOAD_PROFp_CLAMP_E_REL : Int) * 1000000000
  if s.bit st F.LOAD_CHc_STAT_LOCK ∧ rel ≤ budgetNow c s then
    chanEval c (chanEvent c 8 (BitVec.ofNat 20 (s.get (R.LOAD_CHc_I c) F.LOAD_CHc_I_I_NOW)) (s.set st F.LOAD_CHc_STAT_LOCK 0))
  else s

/-- The end of the envelope of profile p in ns: the last used step (R373, R374). -/
def envEnd (p : Nat) (s : State) : Nat :=
  (List.range 8).foldl (fun m k => max m (1000 * s.get (R.LOAD_PROFp_ENVk p k) F.LOAD_PROFp_ENVk_T_END)) 0

/-- An on channel's mean current stayed below OL_ON for OL_T ms after its envelope (R374). -/
def openLoadOn (c : Nat) (mean : BitVec 20) (s : State) : State :=
  let p := profOf c s
  let st := R.LOAD_CHc_STAT c
  let s1 := s.set (R.LOAD_CHc_I c) F.LOAD_CHc_I_I_MEAN mean.toNat
  if s.bit st F.LOAD_CHc_STAT_OUT ∧ mean.toInt < (s.get (R.LOAD_PROFp_OL p) F.LOAD_PROFp_OL_OL_ON : Int) ∧
      !s.bit st F.LOAD_CHc_STAT_OL_ON ∧ envEnd p s + msNs * s.get (R.LOAD_PROFp_OL p) F.LOAD_PROFp_OL_OL_T ≤ envClock c s then
    chanEvent c 10 mean (s1.set st F.LOAD_CHc_STAT_OL_ON 1)
  else s1

/-- An off channel's output, in 10 mV, stayed above 2.0 V with the test current on (R374). -/
def openLoadOff (c : Nat) (v : BitVec 16) (s : State) : State :=
  let st := R.LOAD_CHc_STAT c
  let s1 := s.set (R.LOAD_CHc_V c) F.LOAD_CHc_V_V_OUT v.toNat
  if !s.bit st F.LOAD_CHc_STAT_OUT ∧ s.bit (R.LOAD_CHc_PROF c) F.LOAD_CHc_PROF_OL_OFF ∧ 200 < v.toInt ∧ !s.bit st F.LOAD_CHc_STAT_OL_OFF then
    chanEvent c 11 (BitVec.ofNat 20 (s.get (R.LOAD_CHc_I c) F.LOAD_CHc_I_I_NOW)) (s1.set st F.LOAD_CHc_STAT_OL_OFF 1)
  else s1

/-- An off channel's output stayed above 3.0 V with the test current off (R374). -/
def extDriven (c : Nat) (v : BitVec 16) (s : State) : State :=
  let st := R.LOAD_CHc_STAT c
  let s1 := s.set (R.LOAD_CHc_V c) F.LOAD_CHc_V_V_OUT v.toNat
  if !s.bit st F.LOAD_CHc_STAT_OUT ∧ !s.bit (R.LOAD_CHc_PROF c) F.LOAD_CHc_PROF_OL_OFF ∧ 300 < v.toInt ∧ !s.bit st F.LOAD_CHc_STAT_EXT_DRIVEN then
    chanEvent c 15 (BitVec.ofNat 20 (s.get (R.LOAD_CHc_I c) F.LOAD_CHc_I_I_NOW)) (s1.set st F.LOAD_CHc_STAT_EXT_DRIVEN 1)
  else s1

/-- The channel R375 sheds: the conducting integrated channel with the lowest SHED, and of equals the highest number. -/
def shedPick (s : State) : Option Nat :=
  ((List.range 8).filter fun c => (s.chan c).cond).foldl (fun best c =>
    match best with
    | none => some c
    | some b => if s.get (R.LOAD_CHc_PROF c) F.LOAD_CHc_PROF_SHED ≤ s.get (R.LOAD_CHc_PROF b) F.LOAD_CHc_PROF_SHED then some c else some b) none

/-- The 100 ms running mean of the HS currents exceeds 24 A (R375). -/
def shed (sum : BitVec 16) (s : State) : State :=
  let s1 := s.set R.LOAD_AGG F.LOAD_AGG_SUM sum.toNat
  if s.bit R.LOAD_CTL F.LOAD_CTL_AGG_EN ∧ 24000 < sum.toNat ∧ s.load.aggAt ≤ s.el then
    match shedPick s with
    | some c =>
      let s2 := { s1 with load := { s1.load with aggAt := s.el + 10 * msNs } }
      let s3 := (s2.setChan c { s2.chan c with shed := true }).flag (R.LOAD_CHc_TRIP c) F.LOAD_CHc_TRIP_SHED
      chanEval c (chanEvent c 12 (BitVec.ofNat 20 (s.get (R.LOAD_CHc_I c) F.LOAD_CHc_I_I_NOW)) s3)
    | none => s1
  else s1

/-- Reverse current above 0.5 A blocks a conducting integrated switch (R359); `cur` in mA, negative for reverse. -/
def reverseBlock (c : Nat) (cur : BitVec 20) (s : State) : State :=
  let s1 := setINow c cur s
  if c < 8 ∧ (s.chan c).cond ∧ cur.toInt < -500 then chanEval c (s1.set (R.LOAD_CHc_STAT c) F.LOAD_CHc_STAT_REVCUR 1) else s1
/-- Forward conditions held for 100 µs (R359). -/
def reverseRecover (c : Nat) (s : State) : State :=
  if s.bit (R.LOAD_CHc_STAT c) F.LOAD_CHc_STAT_REVCUR then chanEval c (s.set (R.LOAD_CHc_STAT c) F.LOAD_CHc_STAT_REVCUR 0) else s

/-! ### Supply conditions (R389 to R392) and the die temperature (R397) -/

/-- The status bit of supply condition k: 0 VBAT12 low, 1 VBATG low, 2 VBAT12 high, 3 VBATG high, 4 loss of ground. -/
def supplyBit (k : Nat) : Fld :=
  match k with
  | 0 => F.LOAD_STAT_UV12 | 1 => F.LOAD_STAT_UVG | 2 => F.LOAD_STAT_OV12 | 3 => F.LOAD_STAT_OVG | _ => F.LOAD_STAT_GNDLOSS
/-- The source of supply condition k (R389). -/
def supplySrc (k : Nat) : Nat := match k with | 0 | 2 => 0x20 | 1 | 3 => 0x21 | _ => 0x22
/-- Is a measured value past the detection threshold (R389)? -/
def supplyIn (k mv : Nat) : Bool :=
  match k with
  | 0 => decide (mv < 4500) | 1 => decide (mv < 5000) | 2 => decide (30000 < mv) | 3 => decide (62000 < mv) | _ => true
/-- Is a measured value past the clearing threshold (R389)? -/
def supplyOut (k mv : Nat) : Bool :=
  match k with
  | 0 => decide (5000 < mv) | 1 => decide (5500 < mv) | 2 => decide (mv < 27000) | 3 => decide (mv < 58000) | _ => true
/-- Publish a supply measurement in mV. -/
def setSupply (k mv : Nat) (s : State) : State :=
  match k with
  | 0 | 2 => s.set R.LOAD_SUPPLY F.LOAD_SUPPLY_VBAT12 mv
  | 1 | 3 => s.set R.LOAD_SUPPLY F.LOAD_SUPPLY_VBATG mv
  | _ => s
/-- The payload of a supply event (R389). -/
def supplyPayload (k mv on : Nat) : BitVec 64 := BitVec.ofNat 64 (on + (if k < 4 then mv % 65536 * 65536 else 0))
/-- Evaluate every channel. -/
def evalAll (s : State) : State := (List.range 32).foldl (fun t c => chanEval c t) s

/-- A supply condition is entered (R389). -/
def supplyEntry (k mv : Nat) (s : State) : State :=
  let s1 := setSupply k mv s
  if supplyIn k mv ∧ !s.bit R.LOAD_STAT (supplyBit k) then
    evalAll (powerRaise (supplySrc k) (supplyPayload k mv 1) (s1.set R.LOAD_STAT (supplyBit k) 1))
  else s1
/-- A supply condition clears (R389). -/
def supplyExit (k mv : Nat) (s : State) : State :=
  let s1 := setSupply k mv s
  if supplyOut k mv ∧ s.bit R.LOAD_STAT (supplyBit k) then
    evalAll (powerRaise (supplySrc k) (supplyPayload k mv 0) (s1.set R.LOAD_STAT (supplyBit k) 0))
  else s1

/-- The die temperature reaches DIE_WARN (R397). -/
def dieTempWarn (t : BitVec 9) (s : State) : State :=
  let s1 := s.set R.LOAD_TEMP F.LOAD_TEMP_DIE t.toNat
  if (s.get R.LOAD_CTL F.LOAD_CTL_DIE_WARN : Int) ≤ t.toInt then
    -- no rule gives this event a payload: free (assumption 2)
    let (v, s2) := s1.drawFree 64
    powerRaise 0x25 v s2
  else s1

/-- The power die's channels after it starts: every output and demand off, pulse generators counted from now (R31, R386,
R392); wire estimates, budgets, attempts, EXHAUSTED and thermal latches stand (R396). -/
def channelsOff (s : State) : State :=
  (List.range 32).foldl (fun t c =>
    let k := t.chan c
    demandOff c (turnOff c (t.setChan c { k with absent := false, leaseAt := none, shed := false })))
    { s with load := { s.load with releasedAt := s.el } }

/-- The channels a faulty power-die tile switches off stay off, after its reset too, until each receives a command
(R393). -/
def tileChannels (t : Tile) : List Nat :=
  match t with
  | .sequencer | .measurement => List.range 32
  | .switches => List.range 8
  | .gates g => (List.range 8).map (fun j => 8 + 8 * g.val + j)
  | _ => []
/-- A contained fault of a power-die tile: its channels go off until a command (R393). -/
def tileFaultOff (t : Tile) (s : State) : State :=
  (tileChannels t).foldl (fun u c =>
    demandOff c (u.flag (R.LOAD_CHc_TRIP c) F.LOAD_CHc_TRIP_TILE)) s

/-! ### Writes of the LOAD block (R363, R367, R368, R386, R388, R401) -/

/-- The origin of a write to LOAD_CHc_CMD (R362): 2 for the twin bridge inbound, else software. -/
def cmdOrigin (t : Txn) : Nat := if t.id.master = 29 then 2 else 0

/-- Writes the LOAD block refuses; `w` is the written value and `nv` the register as the write would leave it. -/
def loadRefuses (t : Txn) (w nv : BitVec 64) (s : State) : Bool :=
  let a := t.addr.toNat
  let o := offsetOf a
  if 0x100 ≤ o ∧ o < 0x300 then profInUse ((o - 0x100) / 16) s
  else if 0x1000 ≤ o ∧ o < 0x1200 then
    let c := (o - 0x1000) / 16
    (match o % 16 with
     | 0 =>
       let was := s.bit a F.LOAD_CHc_PROF_EN
       let en := decide (fget nv F.LOAD_CHc_PROF_EN = 1)
       let moved := decide (fget nv F.LOAD_CHc_PROF_PROF ≠ s.get a F.LOAD_CHc_PROF_PROF)
       (en && (!was || moved) && profInvalid (fget nv F.LOAD_CHc_PROF_PROF) s) ||
       (s.bit (R.LOAD_CHc_STAT c) F.LOAD_CHc_STAT_OUT && (moved || (was && !en)))
     | 1 => decide (c < 8)
     | 2 => decide (fget w F.LOAD_CHc_CMD_MODE = 3) || !commandOk c (cmdOrigin t) s
     | 3 =>
       let per := fget nv F.LOAD_CHc_PWM_PERIOD
       let autoWas := s.bit a F.LOAD_CHc_PWM_AUTO_PH
       let auto := decide (fget nv F.LOAD_CHc_PWM_AUTO_PH = 1)
       decide (per < (if c < 8 then 25000 else 2000)) || decide (1000000 < per) ||
       (!auto && decide (per ≤ fget nv F.LOAD_CHc_PWM_PHASE)) ||
       (autoWas && auto && decide (fget nv F.LOAD_CHc_PWM_PHASE ≠ pwmPhase c s) && decide (fget nv F.LOAD_CHc_PWM_PHASE ≠ s.get a F.LOAD_CHc_PWM_PHASE))
     | _ => false)
  else false

/-- What a refused write of the LOAD block still does: a refused command is counted (R363). -/
def loadRefusedActs (t : Txn) (w : BitVec 64) (s : State) : State :=
  let o := offsetOf t.addr.toNat
  if 0x1000 ≤ o ∧ o < 0x1200 ∧ o % 16 = 2 ∧ fget w F.LOAD_CHc_CMD_MODE ≠ 3 then refuseCommand ((o - 0x1000) / 16) s else s

/-- May the writer rearm channel c: its owner or the librarian (R384)? -/
def mayRearm (c : Nat) (t : Txn) (s : State) : Bool :=
  t.id.lib || (s.bit (R.LOAD_CHc_OWN c) F.TIME_TRGn_OWN_V && decide (s.get (R.LOAD_CHc_OWN c) F.TIME_TRGn_OWN_OWNER = t.id.carrel.toNat))

/-- What a write of the LOAD block does beside setting its fields; `old` is the register before it. -/
def loadActs (t : Txn) (old w : BitVec 64) (s : State) : State :=
  let a := t.addr.toNat
  let o := offsetOf a
  if 0x1000 ≤ o ∧ o < 0x1200 then
    let c := (o - 0x1000) / 16
    (match o % 16 with
     | 0 =>
       let amb : Int := profAmb (profOf c s) s * 4294967296
       let s1 := if fget old F.LOAD_CHc_PROF_PROF ≠ profOf c s ∧ (s.chan c).wire < amb then setWire c amb s else s
       if fget old F.LOAD_CHc_PROF_EN = 0 ∧ s.bit a F.LOAD_CHc_PROF_EN then
         (if safeForces s then demandSafe c 1 s1 else demandOff c s1)
       else chanEval c s1
     | 2 => acceptCommand c (BitVec.ofNat 2 (fget w F.LOAD_CHc_CMD_MODE)) (BitVec.ofNat 16 (fget w F.LOAD_CHc_CMD_DUTY)) (cmdOrigin t) s
     | 3 => chanEval c s
     | 5 => if fget w F.LOAD_CHc_TRIP_REARM = 1 ∧ mayRearm c t s then rearm c s else s
     | 11 => if fget w F.LOAD_CHc_CNTCLR_CLR = 1 then s.setReg (R.LOAD_CHc_CNT c) 0 else s
     | _ => s)
  else s

/-! ### Events of the sequencer -/

/-- SHORT_CIRCUIT_TRIP (R371). -/
def execShortCircuitTrip (c : Fin 32) (cur : BitVec 20) (s : State) : Host.Outcome State Fault Refusal := .next (shortTrip c.val cur s)
/-- DESAT_TRIP (R372). -/
def execDesatTrip (c : Fin 32) (vds : BitVec 16) (cur : BitVec 20) (s : State) : Host.Outcome State Fault Refusal :=
  .next (desatTrip c.val vds cur s)
/-- OVERCURRENT_TRIP (R373). -/
def execOvercurrentTrip (c : Fin 32) (cur : BitVec 20) (s : State) : Host.Outcome State Fault Refusal := .next (overcurrentTrip c.val cur s)
/-- WIRE_MODEL_UPDATE (R376). -/
def execWireModelUpdate (c : Fin 32) (q : BitVec 64) (mean : BitVec 20) (vout : BitVec 16) (s : State) : Host.Outcome State Fault Refusal :=
  .next (wireUpdate c.val q mean vout s)
/-- RESTART_DUE (R383). -/
def execRestartDue (c : Fin 32) (s : State) : Host.Outcome State Fault Refusal := .next (restartDue c.val s)
/-- STREAK_CLEAN (R383). -/
def execStreakClean (c : Fin 32) (s : State) : Host.Outcome State Fault Refusal := .next (streakClean c.val s)
/-- THERMAL_LATCH_SET (R379). -/
def execThermalLatchSet (c : Fin 32) (t : BitVec 9) (s : State) : Host.Outcome State Fault Refusal := .next (thermSet c.val t s)
/-- THERMAL_LATCH_RELEASE (R379). -/
def execThermalLatchRelease (c : Fin 32) (t : BitVec 9) (s : State) : Host.Outcome State Fault Refusal := .next (thermRelease c.val t s)
/-- CLAMP_END (R381). -/
def execClampEnd (c : Fin 32) (e : BitVec 32) (s : State) : Host.Outcome State Fault Refusal := .next (clampEnd c.val e s)
/-- CLAMP_LOCK_RELEASE (R381). -/
def execClampLockRelease (c : Fin 32) (s : State) : Host.Outcome State Fault Refusal := .next (clampLockRelease c.val s)
/-- OPEN_LOAD_ON (R374). -/
def execOpenLoadOn (c : Fin 32) (mean : BitVec 20) (s : State) : Host.Outcome State Fault Refusal := .next (openLoadOn c.val mean s)
/-- OPEN_LOAD_OFF (R374). -/
def execOpenLoadOff (c : Fin 32) (v : BitVec 16) (s : State) : Host.Outcome State Fault Refusal := .next (openLoadOff c.val v s)
/-- EXT_DRIVEN_DETECT (R374). -/
def execExtDrivenDetect (c : Fin 32) (v : BitVec 16) (s : State) : Host.Outcome State Fault Refusal := .next (extDriven c.val v s)
/-- SHED (R375). -/
def execShed (sum : BitVec 16) (s : State) : Host.Outcome State Fault Refusal := .next (shed sum s)
/-- REVERSE_CURRENT_BLOCK (R359). -/
def execReverseCurrentBlock (c : Fin 32) (cur : BitVec 20) (s : State) : Host.Outcome State Fault Refusal := .next (reverseBlock c.val cur s)
/-- REVERSE_CURRENT_RECOVER (R359). -/
def execReverseCurrentRecover (c : Fin 32) (s : State) : Host.Outcome State Fault Refusal := .next (reverseRecover c.val s)
/-- SUPPLY_CONDITION_ENTRY (R389). -/
def execSupplyConditionEntry (k : Fin 5) (mv : BitVec 16) (s : State) : Host.Outcome State Fault Refusal :=
  .next (supplyEntry k.val mv.toNat s)
/-- SUPPLY_CONDITION_EXIT (R389). -/
def execSupplyConditionExit (k : Fin 5) (mv : BitVec 16) (s : State) : Host.Outcome State Fault Refusal :=
  .next (supplyExit k.val mv.toNat s)
/-- LEASE_EXPIRY (R394). -/
def execLeaseExpiry (c : Fin 32) (s : State) : Host.Outcome State Fault Refusal := .next (leaseExpire c.val s)
/-- DIE_TEMP_WARN (R397). -/
def execDieTempWarn (t : BitVec 9) (s : State) : Host.Outcome State Fault Refusal := .next (dieTempWarn t s)
/-- PULSE_ON_EDGE (R386). -/
def execPulseOnEdge (c : Fin 32) (s : State) : Host.Outcome State Fault Refusal := .next (pulseOnEdge c.val s)
/-- PULSE_ON_TIME_END (R386). -/
def execPulseOnTimeEnd (c : Fin 32) (s : State) : Host.Outcome State Fault Refusal := .next (pulseOnTimeEnd c.val s)

end Sys2Proof.Machine
end

