-- ==== Sys2Proof/Machine/CoreOps.lean ====
section
/-!
DEFINITION. The execution cores (spec/03_yilfixa_programming_model.md): when a core may execute, traps and their return,
notices and WAITE, desk registers, and the release of ordered events.
-/
namespace Sys2Proof.Machine

open Sys2Proof

/-! ### Pairs and cores -/

/-- EXEC_Pp_STAT.STATE of pair p (R433). -/
def pairState (p : Nat) (s : State) : Nat := s.get (R.EXEC_Pp_STAT p) F.EXEC_Pp_STAT_STATE
/-- Does pair p run split? -/
def pairSplit (p : Nat) (s : State) : Bool := s.bit (R.EXEC_Pp_STAT p) F.EXEC_Pp_STAT_SPLIT
/-- Set the state of pair p. -/
def setPairState (p n : Nat) (s : State) : State := s.set (R.EXEC_Pp_STAT p) F.EXEC_Pp_STAT_STATE n

/-- Does core c exist as a core of its own: the leading copy of a lockstepped pair, or either core of a split one? -/
def coreExists (c : Nat) (s : State) : Bool := decide (c % 2 = 0) || pairSplit (c / 2) s
/-- May core c commit an instruction now: the die runs, its pair is RUNNING (or in DEBUG, where the leading copy runs
alone), its window is not idle, and no earlier instruction waits? -/
def coreLive (c : Nat) (s : State) : Bool :=
  !s.power.computeHeld && decide (s.power.parkStep = 0) && coreExists c s && (decide (pairState (c / 2) s = 2) || (decide (pairState (c / 2) s = 5) && decide (c % 2 = 0))) &&
  !(s.core c).idle && decide ((s.core c).wait = none)

/-- The desk registers of the carrel in D1 of core c. -/
def deskOf (c : Nat) (s : State) : Desk := (s.carrel (s.core c).d1.toNat).dk
/-- Replace them. -/
def setDesk (c : Nat) (d : Desk) (s : State) : State :=
  let n := (s.core c).d1.toNat
  s.setCarrel n { s.carrel n with dk := d }

/-- Change the mode of core c; the carrel's copy follows it in the carrel modes (R100, R106). -/
def setMode (c : Nat) (m : BitVec 2) (s : State) : State :=
  let s1 := s.setCore c { s.core c with mode := m }
  if m = 0b11#2 ∧ (s.core c).d1 ≠ 0 then s1 else setDesk c { deskOf c s1 with mode := m } s1

/-! ### Traps (R129 to R135, R422) -/

/-- TE of a trap status. -/
def tsTE (t : BitVec 4) : Bool := t.getLsbD 2
/-- PTE of a trap status. -/
def tsPTE (t : BitVec 4) : Bool := t.getLsbD 3
/-- PMODE of a trap status. -/
def tsPMode (t : BitVec 4) : BitVec 2 := t.extractLsb' 0 2
/-- The status a trap leaves: PMODE the mode, PTE the old TE, TE 0 (R132). -/
def tsEnter (t : BitVec 4) (m : BitVec 2) : BitVec 4 := BitVec.ofBool (tsTE t) ++ 0#1 ++ m
/-- The status a return leaves: TE the old PTE (R135). -/
def tsReturn (t : BitVec 4) : BitVec 4 := BitVec.ofBool (tsPTE t) ++ BitVec.ofBool (tsPTE t) ++ tsPMode t

/-- The cause word of a trap (R105). -/
def trapCause (cause reason : Nat) (async : Bool) (code : BitVec 24) (orig : Nat) : BitVec 44 :=
  BitVec.ofNat 44 (cause + reason * 2 ^ 8 + (if async then 2 ^ 11 else 0) + code.toNat * 2 ^ 12 + orig * 2 ^ 36)

/-- Entry into the librarian's handler on core c (R132). -/
def enterLib (c : Nat) (cw : BitVec 44) (addr : BitVec 64) (s : State) : State :=
  let k := s.core c
  s.setCore c { k with
    lk := { k.lk with tpc := k.pc, tcause := cw, taddr := addr, tstat := tsEnter k.lk.tstat k.mode },
    mode := 0b11#2, pc := k.lk.tvec }

/-- Entry into the supervisor's handler on core c (R132). -/
def enterSup (c : Nat) (cw : BitVec 44) (addr : BitVec 64) (s : State) : State :=
  let k := s.core c
  let d := deskOf c s
  let s1 := setDesk c { d with tpc := k.pc, tcause := cw, taddr := addr, tstat := tsEnter d.tstat k.mode } s
  setMode c 0b01#2 (s1.setCore c { s1.core c with pc := d.tvec })

/-- A fault that a rule classes but to which no rule gives a source number: the number is a free value (assumption 2). -/
def faultNoSrc (cls : Nat) (payload : BitVec 64) (s : State) : State :=
  let (n, s1) := s.drawFree 12
  fault cls n.toNat payload 0 [] s1

/-- A trap that a split core would hand to the librarian stops the carrel on that core instead (R422, R510). -/
def splitStop (c cause : Nat) (s : State) : State :=
  let n := (s.core c).d1.toNat
  let s1 := s.setCore c { s.core c with idle := true }
  let s2 := (s1.setCarrel n { s1.carrel n with halted := true }).set (R.CARREL_Cc_STAT n) F.CARREL_Cc_STAT_WHY 3
  let s3 := raiseLib (0x60 + c) (n + cause * 256) s2
  raiseLib (0x801 + 2 * n) 4 s3

/-- A synchronous trap to the librarian on core c (R132, R134, R422). -/
def trapLib (c cause reason : Nat) (code : BitVec 24) (orig : Nat) (addr : BitVec 64) (s : State) : State :=
  if pairSplit (c / 2) s then splitStop c cause s
  else if !tsTE (s.core c).lk.tstat then faultNoSrc 3 0 s
  else enterLib c (trapCause cause reason false code orig) addr s

/-- A synchronous trap on core c (R130, R132 to R134): its handler, escalation to DOUBLE, and entry. -/
def takeTrap (c cause reason : Nat) (code : BitVec 24) (addr : BitVec 64) (s : State) : State :=
  let d := deskOf c s
  if (s.core c).mode = 0b11#2 ∨ cause = 0x07 ∨ cause = 0x0F then trapLib c cause reason code 0 addr s
  else if !tsTE d.tstat ∨ d.tvec = 0 then trapLib c 0x10 0 0 cause addr s
  else enterSup c (trapCause cause reason false code 0) addr s

/-- Is a NOTICE trap due on core c (R143)? -/
def noticeTrapDue (c : Nat) (s : State) : Bool :=
  let k := s.core c
  let d := deskOf c s
  d.trapEn && decide ((s.carrel k.d1.toNat).nq.queue ≠ []) && tsTE d.tstat && decide (k.mode ≠ 0b11#2)

/-- The NOTICE trap on core c, between instructions (R132, R143). -/
def noticeTrap (c : Nat) (s : State) : State := agreeNote c 0 (enterSup c (trapCause 0x20 0 true 0 0) 0 s)

/-! ### Desk registers (R104 to R108) -/

/-- The access a mode has to a desk register: 0 none (PRIVILEGE), 1 read only, 2 read and write, 3 write only; none for a
reserved number (R105). -/
def deskAccess (n : Nat) (m : BitVec 2) : Option Nat :=
  let lib := decide (m = 0b11#2)
  let sup := decide (m ≠ 0b00#2)
  if n ≤ 3 then some 1
  else if n ≤ 12 then some (if sup then 2 else 0)
  else if n = 13 then some 2
  else if 16 ≤ n ∧ n ≤ 21 then some 1
  else if 32 ≤ n ∧ n ≤ 37 then some (if lib then 2 else 0)
  else if n = 48 then some (if sup then 1 else 0)
  else if n = 49 then some (if lib then 3 else 0)
  else none

/-- DK_NCTL as it reads (R105). -/
def deskNctl (d : Desk) (q : NoticeQ) : BitVec 64 :=
  BitVec.ofNat 64 ((if d.trapEn then 1 else 0) + (if q.queue = [] then 0 else 2) + 4 * q.queue.length)

/-- What a DRD of desk n returns on core c, with the effects of the read (R104 to R108). -/
def deskRead (c n : Nat) (s : State) : BitVec 64 × State :=
  let k := s.core c
  let d := deskOf c s
  match n with
  | 0 => (BitVec.ofNat 64 (c / 2 + (if pairSplit (c / 2) s then 16 + 8 * (c % 2) else 0)), s)
  | 1 => (k.d1.setWidth 64, s)
  | 2 => ((if k.d1 = 0 then k.mode else d.mode).setWidth 64, s)
  | 3 => ((ceilingOf k.d1.toNat s).setWidth 64, s)
  | 4 => (d.tstat.setWidth 64, s)
  | 5 => (d.tpc.setWidth 64, s)
  | 6 => (d.tcause.setWidth 64, s)
  | 7 => (d.taddr, s)
  | 8 => (d.tvec.setWidth 64, s)
  | 9 => (d.tscr, s)
  | 10 => (deskNctl d (s.carrel k.d1.toNat).nq, s)
  | 11 => (d.nmask, s)
  | 12 => (d.nlost.setWidth 64, s)
  | 13 => (d.fcsr.setWidth 64, s)
  | 16 => (s.time.gtc, agreeNote c 4 s)
  | 17 => (s.time.almSec.setWidth 64, agreeNote c 4 (s.setCore c { k with almCap := some s.time.almNs }))
  | 18 => ((k.almCap.getD s.time.almNs).setWidth 64, agreeNote c 4 s)
  | 19 =>
    -- the cycle count is timing, which the model leaves free (R108; assumption 2)
    let (v, s1) := s.drawFree 64
    (v, setDesk c { d with cycles := v } s1)
  | 20 => (d.retired, s)
  | 21 => (BitVec.ofNat 64 k.wend, s)
  | 32 => (k.lk.tstat.setWidth 64, s)
  | 33 => (k.lk.tpc.setWidth 64, s)
  | 34 => (k.lk.tcause.setWidth 64, s)
  | 35 => (k.lk.taddr, s)
  | 36 => (k.lk.tvec.setWidth 64, s)
  | 37 => (k.lk.tscr, s)
  | 48 => (s.reg (R.CARREL_Cc_TBASE k.d1.toNat), s)
  | _ => (0, s)

/-- Does a DWR carry a 1 in a reserved bit or an undefined encoding (R104, R105)? -/
def deskBad (n : Nat) (v : BitVec 64) : Bool :=
  let above (w : Nat) : Bool := decide (2 ^ w ≤ v.toNat)
  match n with
  | 4 => above 4 || decide (2 ≤ (v.extractLsb' 0 2).toNat)
  | 32 => above 4 || decide (v.extractLsb' 0 2 = 0b10#2)
  | 5 | 8 | 33 | 36 => above 49
  | 6 | 34 => above 44
  | 10 => above 13
  | 12 => above 32
  | 13 => above 7
  | 49 => above 10
  | _ => false

/-- Remove cached translations: of one carrel, or of all, from every core (R117). -/
def flushTlb (c : Nat) (all : Bool) (s : State) : State :=
  (List.range 16).foldl (fun t k =>
    t.setCore k { t.core k with tlb := (t.core k).tlb.filter (fun e => !all && decide (e.carrel ≠ c)) }) s

/-- What a DWR of desk n does on core c (R104, R105, R117). -/
def deskWrite (c n : Nat) (v : BitVec 64) (s : State) : State :=
  let k := s.core c
  let d := deskOf c s
  match n with
  | 4 => setDesk c { d with tstat := v.setWidth 4 } s
  | 5 => setDesk c { d with tpc := v.setWidth 49 } s
  | 6 => setDesk c { d with tcause := v.setWidth 44 } s
  | 7 => setDesk c { d with taddr := v } s
  | 8 => setDesk c { d with tvec := v.setWidth 49 } s
  | 9 => setDesk c { d with tscr := v } s
  | 10 => setDesk c { d with trapEn := v.getLsbD 0 } s
  | 11 => setDesk c { d with nmask := v } s
  | 12 => setDesk c { d with nlost := v.setWidth 32 } s
  | 13 => setDesk c { d with fcsr := v.setWidth 7 } s
  | 32 => s.setCore c { k with lk := { k.lk with tstat := v.setWidth 4 } }
  | 33 => s.setCore c { k with lk := { k.lk with tpc := v.setWidth 49 } }
  | 34 => s.setCore c { k with lk := { k.lk with tcause := v.setWidth 44 } }
  | 35 => s.setCore c { k with lk := { k.lk with taddr := v } }
  | 36 => s.setCore c { k with lk := { k.lk with tvec := v.setWidth 49 } }
  | 37 => s.setCore c { k with lk := { k.lk with tscr := v } }
  | 49 => flushTlb (v.extractLsb' 0 9).toNat (v.getLsbD 9) s
  | _ => s

/-! ### Release of ordered events (R65 to R68) -/

/-- The hold of a carrel's stream: the twin hold when a twin-origin source is enabled, else 64 ns (R66, R67, R137). -/
def streamHold (c : Nat) (s : State) : Nat :=
  if (noticeMask c s).getLsbD 3 then 1000 * s.get R.TIME_ORDER_CTL F.TIME_ORDER_CTL_TWIN_HOLD else 64

/-- The stream of carrel c releases its first event once the GTC reaches its stamp plus the hold (R66). -/
def eventRelease (c : Nat) (s : State) : State :=
  let k := s.carrel c
  match k.nq.wait with
  | [] => s
  | e :: t =>
    if s.now < e.stamp + streamHold c s then s
    else deliver c e false (s.setCarrel c { k with nq := { k.nq with wait := t } })

/-- EVENT_RELEASE (R66). -/
def execEventRelease (c : BitVec 9) (s : State) : Host.Outcome State Fault Refusal := .next (eventRelease c.toNat s)

/-- The GTC passes the deadline of a WAITE on core c with no notice (R140). -/
def waiteDeadline (c : Nat) (s : State) : State :=
  match (s.core c).wait with
  | some (.waite rd dl) =>
    if dl ≠ 0 ∧ dl < s.now then
      let h := noticeHeader { src := 0xFFF, stamp := s.now } false
      agreeNote c 2 (waiteWrite c rd h fillWord s)
    else s
  | _ => s

/-- WAITE_DEADLINE (R140). -/
def execWaiteDeadline (c : Fin 16) (s : State) : Host.Outcome State Fault Refusal := .next (waiteDeadline c.val s)

/-- NOTICE_TRAP (R143). -/
def execNoticeTrap (c : Fin 16) (s : State) : Host.Outcome State Fault Refusal :=
  .next (if coreLive c.val s && noticeTrapDue c.val s then noticeTrap c.val s else s)

end Sys2Proof.Machine
end

