-- ==== Sys2Proof/Machine/Crc.lean ====
section
/-!
DEFINITION. The check values of the collation units (spec/05_signal_catalogue.md R231), used also for the digests of
the execution pairs (R412).
-/
namespace Sys2Proof.Machine

/-- The parameters of a check value (R231): width, polynomial, initial value, reflection of input and output, and the
final XOR. -/
structure CrcP where
  width : Nat
  poly : BitVec 64
  init : BitVec 64
  refin : Bool
  refout : Bool
  xorout : BitVec 64
  deriving DecidableEq, Repr

/-- The fixed polynomials 0 to 7 (R231). -/
def crcFixed (n : Nat) : CrcP :=
  match n with
  | 0 => ⟨8, 0x1D#64, 0xFF#64, false, false, 0xFF#64⟩
  | 1 => ⟨8, 0x2F#64, 0xFF#64, false, false, 0xFF#64⟩
  | 2 => ⟨16, 0x1021#64, 0xFFFF#64, false, false, 0#64⟩
  | 3 => ⟨16, 0x8005#64, 0#64, true, true, 0#64⟩
  | 4 => ⟨32, 0x04C11DB7#64, 0xFFFFFFFF#64, true, true, 0xFFFFFFFF#64⟩
  | 5 => ⟨32, 0x1EDC6F41#64, 0xFFFFFFFF#64, true, true, 0xFFFFFFFF#64⟩
  | 6 => ⟨32, 0xF4ACFB13#64, 0xFFFFFFFF#64, true, true, 0xFFFFFFFF#64⟩
  | _ => ⟨64, 0x42F0E1EBA9EA3693#64, 0xFFFFFFFFFFFFFFFF#64, true, true, 0xFFFFFFFFFFFFFFFF#64⟩

/-- The bits of a check value's width. -/
def crcMask (w : Nat) : BitVec 64 := if w = 64 then BitVec.allOnes 64 else (1#64 <<< w) - 1#64

/-- One bit into the running value. -/
def crcBit (p : CrcP) (r : BitVec 64) (b : Bool) : BitVec 64 :=
  let top := r.getLsbD (p.width - 1)
  let s := (r <<< 1) &&& crcMask p.width
  if top != b then s ^^^ (p.poly &&& crcMask p.width) else s

/-- One octet into the running value, most significant bit first unless the input is reflected. -/
def crcOctet (p : CrcP) (r : BitVec 64) (x : BitVec 8) : BitVec 64 :=
  (List.range 8).foldl (fun v i => crcBit p v (x.getLsbD (if p.refin then i else 7 - i))) r

/-- Several octets into the running value. -/
def crcRun (p : CrcP) (r : BitVec 64) (xs : List (BitVec 8)) : BitVec 64 := xs.foldl (crcOctet p) r

/-- The low w bits of a value in reverse order. -/
def reflect (w : Nat) (r : BitVec 64) : BitVec 64 :=
  (List.range w).foldl (fun v i => if r.getLsbD i then v ||| (1#64 <<< (w - 1 - i)) else v) 0#64

/-- The check value of a running value. -/
def crcOut (p : CrcP) (r : BitVec 64) : BitVec 64 :=
  ((if p.refout then reflect p.width r else r) ^^^ p.xorout) &&& crcMask p.width

/-- The running value a check starts from. -/
def crcStart (p : CrcP) : BitVec 64 := p.init &&& crcMask p.width

/-- The check value of some octets. -/
def crcOf (p : CrcP) (xs : List (BitVec 8)) : BitVec 64 := crcOut p (crcRun p (crcStart p) xs)

/-- The nine octets of a word in the octet view (R3). -/
def wordOctets (w : Word) : List (BitVec 8) := (List.range 9).map (octet w)

end Sys2Proof.Machine
end

