-- ==== Sys2Proof/Machine/Exec.lean ====
section
/-!
DEFINITION. Execution pairs (spec/10_execution_pairs.md): faults of a pair and the stop, digests, the reserve pair,
debug entry, pair reset and release, and the writes of the EXEC block.
-/
namespace Sys2Proof.Machine

open Sys2Proof

/-- The librarian's pair (R430): the pair carrel 0 is bound to. -/
def libPair (s : State) : Nat := s.get (R.CARREL_Cc_CFG 0) F.CARREL_Cc_CFG_PAIR

/-- Is carrel c a configured local carrel bound to pair p? -/
def boundTo (p c : Nat) (s : State) : Bool :=
  let r := R.CARREL_Cc_CFG c
  s.bit r F.CARREL_Cc_CFG_V && !s.bit r F.CARREL_Cc_CFG_REMOTE && decide (s.get r F.CARREL_Cc_CFG_PAIR = p)
/-- The carrels bound to pair p. -/
def pairCarrels (p : Nat) (s : State) : List Nat := (List.range 512).filter fun c => boundTo p c s

/-- Carrel c's STATE (R493). -/
def carState (c : Nat) (s : State) : Nat := s.get (R.CARREL_Cc_STAT c) F.CARREL_Cc_STAT_STATE
/-- Set carrel c's STATE. -/
def setCarState (c n : Nat) (s : State) : State := s.set (R.CARREL_Cc_STAT c) F.CARREL_Cc_STAT_STATE n

/-- A carrel that does not survive a pair fault: STOPPED with FRESH = 0, and code 3 (R493, R510). -/
def stopCarrel (c : Nat) (s : State) : State :=
  if c = 0 ∨ carState c s ≠ 2 then s
  else
    let st := R.CARREL_Cc_STAT c
    raiseLib (0x801 + 2 * c) 3 ((((setCarState c 1 s).set st F.CARREL_Cc_STAT_FRESH 0).set st F.CARREL_Cc_STAT_WHY 2).set st F.CARREL_Cc_STAT_IN 0)

/-- The cores of a stopped or reset pair hold no context any more (R416, R432). -/
def dropContexts (p : Nat) (s : State) : State :=
  [2 * p, 2 * p + 1].foldl (fun t c =>
    let k := t.core c
    let t1 := if k.loaded then t.set (R.CARREL_Cc_STAT k.d1.toNat) F.CARREL_Cc_STAT_IN 0 else t
    t1.setCore c { k with loaded := false, idle := true, wait := none, shadow := none, outgoing := none, heldSwitch := false }) s

/-- Can the reserve pair take over from pair p (R426, R429)? -/
def reserveReady (p : Nat) (s : State) : Bool :=
  s.bit R.EXEC_RESERVE F.EXEC_RESERVE_EN && !s.bit R.EXEC_RESERVE F.EXEC_RESERVE_USED &&
  decide (s.get R.EXEC_RESERVE F.EXEC_RESERVE_PAIR ≠ p) && !pairSplit p s && s.handover.isNone

/-- The reaction of R416: the pair stops, its ports close, the fault is recorded, and the reserve pair takes over or the
pair's carrels stop. -/
def pairStop (p kind comp ledger slice : Nat) (s : State) : State :=
  let k := s.core (2 * p)
  let f := fput (fput (fput (fput (fput 0#64 F.EXEC_Pp_FAULT_KIND kind) F.EXEC_Pp_FAULT_COMP comp) F.EXEC_Pp_FAULT_LEDGER ledger)
    F.EXEC_Pp_FAULT_SLICE slice) F.EXEC_Pp_FAULT_COMMIT (s.reg (R.EXEC_Pp_COMMITS p)).toNat
  let pc := fput (fput 0#64 F.EXEC_Pp_FPC_PC k.pc.toNat) F.EXEC_Pp_FPC_CARREL k.d1.toNat
  let s1 := closeTile (.pair ⟨p % 8, Nat.mod_lt _ (by decide)⟩) (((setPairState p 4 s).setReg (R.EXEC_Pp_FAULT p) f).setReg (R.EXEC_Pp_FPC p) pc)
  let s2 := dropContexts p s1
  if reserveReady p s then { s2 with handover := some { pair := p, at_ := s.now } }
  else (pairCarrels p s).foldl (fun t c => stopCarrel c t) s2

/-- The class of a pair's fault (R430): device class for the librarian's pair with no reserve to take over. -/
def pairClass (p cls : Nat) (s : State) : Nat := if p = libPair s && !reserveReady p s then 3 else cls

/-- A fail-silent fault of pair p (R415 to R418): the notices and the archive entry, then the stop; a pair already stopped
only records it. -/
def pairFault (p k comp ledger slice : Nat) (s : State) : State :=
  let src := 0x40 + 4 * p + k
  let pay := BitVec.ofNat 64 ((s.reg (R.EXEC_Pp_COMMITS p)).toNat % 2 ^ 48 + comp * 2 ^ 48)
  if pairState p s = 4 then archive { stamp := s.now, src := src, payload := immw pay } 2 0 s
  else if pairState p s ≠ 2 ∨ pairSplit p s = true then s
  else
    let s1 := fault (pairClass p 2 s) src pay 0 (pairCarrels p s) s
    pairStop p (k + 1) comp ledger slice (relayTwin 0 src pay s1)

/-- A contained-class fault in a pair tile (R418, R423): reported as class 1, and the pair stops with KIND tile fault. -/
def pairTileFault (p : Nat) (s : State) : State :=
  let (n, s0) := s.drawFree 12
  let (v, s1) := s0.drawFree 64
  if pairState p s = 4 then archive { stamp := s.now, src := n.toNat, payload := immw v } 1 0 s1
  else
    let s2 := fault (pairClass p 1 s) n.toNat v 0 (pairCarrels p s) s1
    pairStop p 4 0 0 0 s2

/-! ### Digests (R412) -/

/-- The words of the leading copy's snapshot, in the order of R412. -/
def snapshot (p : Nat) (s : State) : List Word :=
  let k := s.core (2 * p)
  let d := deskOf (2 * p) s
  let q := (s.carrel k.d1.toNat).nq
  let w (v : BitVec 64) : Word := immw v
  (List.range 63).map (fun i => k.get (BitVec.ofNat 6 (i + 1))) ++
  [w (k.pc.setWidth 64), w (k.d1.setWidth 64), w (k.mode.setWidth 64), w (d.tstat.setWidth 64), w (d.tpc.setWidth 64),
   w (d.tcause.setWidth 64), w d.taddr, w (d.tvec.setWidth 64), w d.tscr, w (deskNctl d q), w d.nmask, w (d.nlost.setWidth 64),
   w (d.fcsr.setWidth 64), w d.cycles, w d.retired, w (k.lk.tstat.setWidth 64), w (k.lk.tpc.setWidth 64), w (k.lk.tcause.setWidth 64),
   w k.lk.taddr, w (k.lk.tvec.setWidth 64), w k.lk.tscr]

/-- The digest of a copy (R412). -/
def digestOf (p : Nat) (s : State) : BitVec 64 := crcOf (crcFixed 7) ((snapshot p s).flatMap wordOctets)

/-- DIGEST_REQUEST (R412): at a whole millisecond a running lockstepped pair takes its snapshot. -/
def execDigestRequest (p : Fin 8) (s : State) : Host.Outcome State Fault Refusal :=
  .next (if s.now % 1000000 < 2 ∧ pairState p.val s = 2 ∧ pairSplit p.val s = false then
      agreeNote (2 * p.val) 3 (s.setPair p.val { s.pair p.val with digLead := some (digestOf p.val s) })
    else s)

/-- DIGEST_COMPARE (R412): both digests are ready; `chk` is the checking copy's. -/
def execDigestCompare (p : Fin 8) (chk : BitVec 64) (s : State) : Host.Outcome State Fault Refusal :=
  .next (match (s.pair p.val).digLead with
    | none => s
    | some d =>
      let s1 := ((s.setPair p.val { s.pair p.val with digLead := none }).setReg (R.EXEC_Pp_DIGEST p.val) d).addSat
        (R.EXEC_Pp_DIGCNT p.val) F.EXEC_Pp_DIGCNT_COUNT 1
      if chk = d then s1 else pairFault p.val 2 3 0 0 s1)

/-- CORE_MISMATCH (R415): a comparator, 0 commit, 1 transaction or 2 agreement, finds a difference in a slice. -/
def execCoreMismatch (p : Fin 8) (comp : Fin 3) (ledger : BitVec 6) (slice : BitVec 5) (s : State) : Host.Outcome State Fault Refusal :=
  .next (pairFault p.val 0 comp.val ledger.toNat slice.toNat s)

/-- CHECKER_FAULT (R415): a dual-rail output or a parity check fails in a comparator. -/
def execCheckerFault (p : Fin 8) (comp : Fin 4) (slice : BitVec 5) (s : State) : Host.Outcome State Fault Refusal :=
  .next (pairFault p.val 1 comp.val 0 slice.toNat s)

/-! ### The reserve pair (R424 to R429) -/

/-- May pair p be designated as the reserve (R424, R431)? -/
def mayReserve (p : Nat) (s : State) : Bool :=
  decide (p ≠ 0) && (s.reg R.EXEC_INJ).getLsbD p && decide (pairCarrels p s = []) && !pairSplit p s &&
  !s.bit (R.EXEC_Pp_STAT p) F.EXEC_Pp_STAT_BROKEN && decide (pairState p s ≠ 4) && decide (pairState p s ≠ 5)

/-- Is carrel c excluded from the hand-over (R426, R433)? -/
def noResume (c : Nat) (s : State) : Bool := (s.reg (R.EXEC_NORESUMEk (c / 64))).getLsbD (c % 64)

/-- The hand-over of R426, steps 2 and 3. -/
def handOver (p : Nat) (s : State) : State :=
  let r := s.get R.EXEC_RESERVE F.EXEC_RESERVE_PAIR
  let s1 := (pairCarrels p s).foldl (fun t c =>
    if noResume c s then stopCarrel c t else t.set (R.CARREL_Cc_CFG c) F.CARREL_Cc_CFG_PAIR r) s
  let s2 := (s1.set R.EXEC_RESERVE F.EXEC_RESERVE_USED 1).set R.EXEC_RESERVE F.EXEC_RESERVE_REPLACED p
  let s3 := (s2.set (R.CARREL_Pp_TTk_STAT p 0) F.CARREL_Pp_TTk_STAT_RUNNER r)
  let s4 := (setPairState r 2 s3).set (R.EXEC_Pp_STAT r) F.EXEC_Pp_STAT_RELEASED 1
  { s4.setCore (2 * r) {} with handover := none }

/-- RESERVE_HANDOVER (R426): once the pair's transactions have ended, or 20 µs after the fault. -/
def execReserveHandover (s : State) : Host.Outcome State Fault Refusal :=
  .next (match s.handover with
    | none => s
    | some h =>
      let openTxn := s.bridge.open_.any (fun t => decide (t.core / 2 = h.pair)) || s.bridge.queue.any (fun t => decide (t.core / 2 = h.pair))
      if openTxn && decide (s.now < h.at_ + 20000) then s else handOver h.pair s)

/-! ### Debug (R103, R431) -/

/-- A pair enters debug (R431): it is split by debug, the break is recorded, reported and relayed. -/
def debugEnter (p : Nat) (s : State) : State :=
  let src := 0x43 + 4 * p
  let (v, s0) := s.drawFree 64
  let e : Event := { stamp := s.now, src := src, payload := immw v }
  let s1 := ((setPairState p 5 s0).set (R.EXEC_Pp_STAT p) F.EXEC_Pp_STAT_BROKEN 1).set R.SYS_FAULT_STAT F.SYS_FAULT_STAT_LOCKSTEP_BROKEN 1
  relayTwin 2 src v (notify e 0 (archive e 4 0 s1))

/-- DEBUG_ENTRY (R103, R431): the DEBUG block halts a running lockstepped pair, or arms or disarms its breakpoint entry. -/
def execDebugEntry (p : Fin 8) (arm : Option Bool) (s : State) : Host.Outcome State Fault Refusal :=
  .next (match arm with
    | some b => s.setPair p.val { s.pair p.val with bpArmed := b }
    | none => if pairState p.val s = 2 ∧ pairSplit p.val s = false then debugEnter p.val s else s)

/-! ### Release and reset (R419, R420, R432) -/

/-- A pair starts its timetable (R432). -/
def pairStart (p : Nat) (s : State) : State :=
  let s1 := (setPairState p 2 s).set (R.EXEC_Pp_STAT p) F.EXEC_Pp_STAT_RELEASED 1
  (s1.setCore (2 * p) {}).setCore (2 * p + 1) {}

/-- RELEASE of a HELD pair (R419, R421): a lockstepped pair is tested first, a split pair never. -/
def pairRelease (p : Nat) (s : State) : State :=
  if pairState p s ≠ 0 then s else if pairSplit p s then pairStart p s else setPairState p 1 s

/-- Pair reset (R432): the context is discarded, the cores and the agreement buffer cleared, the ports reopened. -/
def pairReset (p : Nat) (s : State) : State :=
  let s1 := dropContexts p s
  let s2 := ((s1.setCore (2 * p) {}).setCore (2 * p + 1) {}).setPair p { bpArmed := (s.pair p).bpArmed }
  let s3 := ((s2.setReg (R.EXEC_Pp_FAULT p) 0).setReg (R.EXEC_Pp_FPC p) 0).setReg (R.EXEC_Pp_COMMITS p) 0
  openTile (.pair ⟨p % 8, Nat.mod_lt _ (by decide)⟩) (setPairState p 0 s3)

/-! ### Writes of the EXEC block (R433) -/

/-- Writes the EXEC block refuses. -/
def exbRefuses (a : Nat) (w nv : BitVec 64) (s : State) : Bool :=
  let o := offsetOf a
  if a = R.EXEC_RESERVE then
    let p := fget nv F.EXEC_RESERVE_PAIR
    let en := decide (fget nv F.EXEC_RESERVE_EN = 1)
    let same := s.bit a F.EXEC_RESERVE_EN && decide (s.get a F.EXEC_RESERVE_PAIR = p)
    decide (p = 0) || (en && s.bit a F.EXEC_RESERVE_USED) || (en && !same && !mayReserve p s)
  else if 0x100 ≤ o ∧ o < 0x200 ∧ o % 0x20 = 0 then
    let p := (o - 0x100) / 0x20
    let split := decide (fget nv F.EXEC_Pp_CTL_SPLIT = 1)
    (split && decide (p = 0)) ||
    (decide (split ≠ s.bit a F.EXEC_Pp_CTL_SPLIT) && s.bit (R.EXEC_Pp_STAT p) F.EXEC_Pp_STAT_RELEASED) ||
    (decide (fget w F.EXEC_Pp_CTL_RESET = 1) && (decide (p = libPair s) || decide (pairState p s = 3)))
  else false

/-- What a write of the EXEC block does beside setting its fields. -/
def exbActs (a : Nat) (old w : BitVec 64) (s : State) : State :=
  let o := offsetOf a
  if a = R.EXEC_RESERVE then
    let p := s.get a F.EXEC_RESERVE_PAIR
    let was := decide (fget old F.EXEC_RESERVE_EN = 1)
    let q := fget old F.EXEC_RESERVE_PAIR
    let en := s.bit a F.EXEC_RESERVE_EN
    let s1 := if was && (!en || decide (p ≠ q)) then
        (if pairState q s = 3 then setPairState q 0 s else s).set a F.EXEC_RESERVE_USED 0
      else s
    if en && (!was || decide (p ≠ q)) then (setPairState p 3 s1).setCore (2 * p) {} else s1
  else if a = R.EXEC_NORESUMEk 0 then s.setReg a (s.reg a &&& ~~~1#64)
  else if 0x100 ≤ o ∧ o < 0x200 ∧ o % 0x20 = 0 then
    let p := (o - 0x100) / 0x20
    let s1 := s.setBit (R.EXEC_Pp_STAT p) F.EXEC_Pp_STAT_SPLIT (s.bit a F.EXEC_Pp_CTL_SPLIT)
    let held := decide (pairState p s = 0)
    let s2 := if fget w F.EXEC_Pp_CTL_RESET = 1 then pairReset p s1 else s1
    if fget w F.EXEC_Pp_CTL_RELEASE = 1 && held then pairRelease p s2 else s2
  else s

end Sys2Proof.Machine
end

