-- ==== Sys2Proof/Machine/CarrelTab.lean ====
section
/-!
DEFINITION. The carrel table (spec/13_carrels.md): the checks on its registers, START, the timetable's arithmetic and the
lending desks.
-/
namespace Sys2Proof.Machine

open Sys2Proof

/-! ### Configuration (R493 to R497, R511) -/

/-- May PAIR, CORE, REMOTE, CEIL, CTX, QBASE and QDEPTH of carrel c change (R511)? -/
def mayRebind (c : Nat) (s : State) : Bool :=
  let fresh := s.bit (R.CARREL_Cc_STAT c) F.CARREL_Cc_STAT_FRESH
  decide (carState c s = 0) || (decide (carState c s = 1) && (fresh ||
    decide (pairState (s.get (R.CARREL_Cc_CFG c) F.CARREL_Cc_CFG_PAIR) s = 4)))

/-- The notice region of a configuration overlaps that of another carrel, or leaves the store, or has a bad depth (R496). -/
def queueBad (c : Nat) (cfg : BitVec 64) (s : State) : Bool :=
  let b := fget cfg F.CARREL_Cc_CFG_QBASE
  let d := fget cfg F.CARREL_Cc_CFG_QDEPTH
  decide (d < 1) || decide (1024 < d) || decide (131072 < b + d) ||
  (List.range 512).any fun x =>
    let r := R.CARREL_Cc_CFG x
    decide (x ≠ c) && s.bit r F.CARREL_Cc_CFG_V && decide (b < s.get r F.CARREL_Cc_CFG_QBASE + s.get r F.CARREL_Cc_CFG_QDEPTH) &&
      decide (s.get r F.CARREL_Cc_CFG_QBASE < b + d)

/-- Is a CFG write refused (R493, R496, R511)? -/
def cfgBad (c : Nat) (nv : BitVec 64) (s : State) : Bool :=
  let r := R.CARREL_Cc_CFG c
  let v := decide (fget nv F.CARREL_Cc_CFG_V = 1)
  let moved := decide (s.reg r >>> 1 ≠ nv >>> 1)
  (s.bit r F.CARREL_Cc_CFG_V && !v && (decide (carState c s = 2) || decide (carState c s = 3))) ||
  (v && queueBad c nv s) || (moved && !mayRebind c s)

/-- Is START refused (R495, R510)? -/
def startBad (c : Nat) (s : State) : Bool :=
  let r := R.CARREL_Cc_CFG c
  let p := s.get r F.CARREL_Cc_CFG_PAIR
  let remote := s.bit r F.CARREL_Cc_CFG_REMOTE
  decide (carState c s ≠ 1) || mappedAway .carrel c s || decide (regionOf (128 * s.get (R.CARREL_Cc_CTX c) F.CARREL_Cc_CTX_BASE) ≠ .sram) ||
  queueBad c (s.reg r) s ||
  (!remote && (decide (pairState p s = 3) || (s.bit r F.CARREL_Cc_CFG_CORE && !pairSplit p s))) ||
  (remote && s.bit (R.CARREL_Cc_TBASE c) F.CARREL_Cc_TBASE_EN)

/-- START accepted (R493, R494, R510): ACTIVE, ABSENT cleared in every ownership register that names c, and code 1. -/
def carrelStart (c : Nat) (s : State) : State :=
  let s1 := setCarState c 2 (s.setCarrel c { s.carrel c with halted := false })
  let s2 := allOwnRegs.foldl (fun t a =>
    if t.get a F.TIME_TRGn_OWN_OWNER = c ∧ t.bit a F.TIME_TRGn_OWN_V then t.set a F.TIME_TRGn_OWN_ABSENT 0 else t) s1
  raiseLib (0x801 + 2 * c) 1 s2

/-- Notices allocated to configured carrels (R516). -/
def markUsed (s : State) : State :=
  s.set R.CARREL_STAT F.CARREL_STAT_NUSED ((List.range 512).foldl (fun n x =>
    if s.bit (R.CARREL_Cc_CFG x) F.CARREL_Cc_CFG_V then n + s.get (R.CARREL_Cc_CFG x) F.CARREL_Cc_CFG_QDEPTH else n) 0)

/-! ### The timetable (R502 to R504) -/

/-- The register of list k of pair p. -/
def ttCtl (p k : Nat) : Nat := R.CARREL_Pp_TTk_CTL p k

/-- A list's entries, first to last, as (carrel, idle, offset). -/
def ttEntries (p first len : Nat) (s : State) : List (Nat × Bool × Nat) :=
  (List.range len).map fun i =>
    let e := R.CARREL_Pp_TEi p ((first + i) % 1024)
    (s.get e F.CARREL_Pp_TEi_CARREL, s.bit e F.CARREL_Pp_TEi_IDLE, s.get e F.CARREL_Pp_TEi_OFFSET)

/-- Are the offsets rising, even, and the windows at least 4,000 ns, the last within the cycle (R503)? -/
def offsetsOk (cycle : Nat) : List Nat → Bool
  | [] => false
  | [o] => decide (o % 2 = 0) && decide (o + 4000 ≤ cycle)
  | o :: q :: t => decide (o % 2 = 0) && decide (o + 4000 ≤ q) && offsetsOk cycle (q :: t)

/-- Is a list one R503 accepts? -/
def ttOk (p first len cycle : Nat) (s : State) : Bool :=
  let os := (ttEntries p first len s).map (fun e => e.2.2)
  decide (1 ≤ len) && decide (first + len ≤ 1024) && decide (os.head? = some 0) && offsetsOk cycle os && decide (cycle % 2 = 0)

/-- The pair that runs list k of pair p (R504). -/
def ttRunner (p k : Nat) (s : State) : Nat := s.get (R.CARREL_Pp_TTk_STAT p k) F.CARREL_Pp_TTk_STAT_RUNNER
/-- The core that runs list k of pair p. -/
def ttCore (p k : Nat) (s : State) : Nat := 2 * ttRunner p k s + k

/-- May carrel c run on core x (R171, R422, R502): ACTIVE, bound to its pair and core, and of ceiling QM on a split core? -/
def boundToCore (x c : Nat) (s : State) : Bool :=
  let p := x / 2
  let r := R.CARREL_Cc_CFG c
  boundTo p c s && decide (s.get r F.CARREL_Cc_CFG_CORE = x % 2) &&
  (!pairSplit p s || decide (s.get r F.CARREL_Cc_CFG_CEIL = 0))

/-- The carrel an entry runs on its core, none for an idle window (R502). -/
def entryCarrel (x : Nat) (e : Nat × Bool × Nat) (s : State) : Option Nat :=
  if e.2.1 || decide (carState e.1 s ≠ 2) || !boundToCore x e.1 s || (s.carrel e.1).halted then none else some e.1

/-- The list in force for list k of pair p: first, length, cycle, base. -/
def ttList (p k : Nat) (s : State) : Nat × Nat × Nat × Nat :=
  let r := ttCtl p k
  (s.get r F.CARREL_Pp_TTk_CTL_FIRST, s.get r F.CARREL_Pp_TTk_CTL_LEN, s.get r F.CARREL_Pp_TTk_CTL_CYCLE,
   (s.reg (R.CARREL_Pp_TTk_BASE p k)).toNat)

/-- How far past the start of window i the joined window of its carrel runs: the end of the first window after which
another carrel's begins, looking at most `fuel` windows ahead (R502). -/
def joinEnd (es : List (Option Nat × Nat)) (cycle start : Nat) : Nat → Nat → Nat
  | 0, i => start + cycle * (i / es.length) + (es.getD (i % es.length) (none, 0)).2
  | fuel + 1, i =>
    let n := es.length
    let here := es.getD (i % n) (none, 0)
    let next := es.getD ((i + 1) % n) (none, 0)
    let e := start + cycle * ((i + 1) / n) + next.2
    if here.1 = next.1 then joinEnd es cycle start fuel (i + 1) else e

/-- The window of list k of pair p at a time: its entry, its carrel and the end of the joined window (R502, R503). -/
def ttWindow (p k now : Nat) (s : State) : Nat × Option Nat × Nat :=
  let (first, len, cycle, base) := ttList p k s
  let es := ttEntries p first len s
  let pos := (now - base) % max 1 cycle
  let i := (es.filter (fun e => decide (e.2.2 ≤ pos))).length - 1
  let x := ttCore p k s
  let os := es.map (fun e => (entryCarrel x e s, e.2.2))
  (first + i, (os.getD i (none, 0)).1, joinEnd os cycle (now - pos) len i)

/-- Is entry i of pair p inside a running list (R503)? -/
def inRunningList (p i : Nat) (s : State) : Bool :=
  [0, 1].any fun k =>
    let (first, len, _, _) := ttList p k s
    s.bit (ttCtl p k) F.CARREL_Pp_TTk_CTL_EN && decide (first ≤ i) && decide (i < first + len)

/-- TIMETABLE_ADOPT (R503): at a cycle boundary the pending list becomes the running list. -/
def execTimetableAdopt (p : Fin 8) (k : Fin 2) (s : State) : Host.Outcome State Fault Refusal :=
  let nx := R.CARREL_Pp_TTk_NEXT p.val k.val
  let (_, _, cycle, base) := ttList p.val k.val s
  .next (if s.bit nx F.CARREL_Pp_TTk_NEXT_PENDING ∧ s.bit (ttCtl p.val k.val) F.CARREL_Pp_TTk_CTL_EN ∧ base ≤ s.now ∧
        (s.now - base) % max 1 cycle < 2 then
      let r := ttCtl p.val k.val
      let s1 := ((s.set r F.CARREL_Pp_TTk_CTL_FIRST (s.get nx F.CARREL_Pp_TTk_NEXT_FIRST)).set r F.CARREL_Pp_TTk_CTL_LEN
        (s.get nx F.CARREL_Pp_TTk_NEXT_LEN)).set r F.CARREL_Pp_TTk_CTL_CYCLE (s.get nx F.CARREL_Pp_TTk_NEXT_CYCLE)
      -- the cycle that begins now is cycle 0 of the new list (assumption 30)
      (s1.setReg (R.CARREL_Pp_TTk_BASE p.val k.val) (BitVec.ofNat 64 (s.now - (s.now - base) % max 1 cycle))).set nx F.CARREL_Pp_TTk_NEXT_PENDING 0
    else s)

/-! ### The lending desks (R505 to R507) -/

/-- The desk word k of carrel c in one direction (inbound when the librarian fills it). -/
def deskWord (c : Nat) (inbound : Bool) (k : Nat) : Nat := 0xF0104000 + 0x20 * c + (if inbound then 0x10 else 0x18) + k
/-- Is the address a desk word, all 72 bits of which are data (R516)? -/
def isDeskWord (a : Nat) : Bool := decide (0xF0104000 ≤ a) && decide (a < 0xF0108000) && decide (0x10 ≤ a % 0x20)

/-- STATE of a direction. -/
def deskFull (c : Nat) (inbound : Bool) (s : State) : Bool :=
  s.bit (R.CARREL_Cc_DESK c) (if inbound then F.CARREL_Cc_DESK_IN_FULL else F.CARREL_Cc_DESK_OUT_FULL)
/-- DIRTY of a direction. -/
def deskDirty (inbound : Bool) : Fld := if inbound then F.CARREL_Cc_DESK_IN_DIRTY else F.CARREL_Cc_DESK_OUT_DIRTY
/-- SEQ of a direction. -/
def deskSeq (inbound : Bool) : Fld := if inbound then F.CARREL_Cc_DESK_IN_SEQ else F.CARREL_Cc_DESK_OUT_SEQ

/-- Does a desk operation on carrel c receive TARGET whatever it is: carrel 0, or a carrel in carrel reset (R505, R509)? -/
def deskRefuses (c : Nat) (s : State) : Bool := decide (c = 0) || carrelResetting c s || tileClosed .carrelTable s

/-- PUT by the librarian or by the carrel's side (R506); none when refused. -/
def deskPut (c : Nat) (lib : Bool) (k : Nat) (w : Word) (s : State) : Option State :=
  if deskRefuses c s || deskFull c lib s then none
  else
    let r := R.CARREL_Cc_DESK c
    some ((s.wrMem (deskWord c lib k) w).set r (deskDirty lib) ((s.get r (deskDirty lib)) ||| 2 ^ k))

/-- GET by the librarian or by the carrel's side (R506). -/
def deskGet (c : Nat) (lib : Bool) (k : Nat) (s : State) : Option Word :=
  if deskRefuses c s then none else some (s.rdMem (deskWord c (!lib) k))

/-- The doorbell's payload (R507). -/
def ringPayload (seq dirty : Nat) (handed released lib : Bool) : BitVec 64 :=
  BitVec.ofNat 64 (seq + dirty * 2 ^ 16 + (if handed then 2 ^ 24 else 0) + (if released then 2 ^ 25 else 0) + (if lib then 2 ^ 26 else 0))

/-- RING by the librarian or by the carrel's side (R506, R507): the release, the hand-over, the doorbell. -/
def deskRing (c : Nat) (lib : Bool) (s : State) : Option State :=
  if deskRefuses c s then none
  else
    let r := R.CARREL_Cc_DESK c
    let full (b : Bool) : Fld := if b then F.CARREL_Cc_DESK_IN_FULL else F.CARREL_Cc_DESK_OUT_FULL
    let released := deskFull c (!lib) s
    let s1 := if released then s.set r (full (!lib)) 0 else s
    let dirty := s1.get r (deskDirty lib)
    let handed := !deskFull c lib s1 && decide (dirty ≠ 0)
    let s2 := if handed then
        ((s1.set r (full lib) 1).set r (deskSeq lib) (s1.get r (deskSeq lib) + 1)).set r (deskDirty lib) 0
      else s1
    let pay := ringPayload (s2.get r (deskSeq lib)) (if handed then dirty else 0) handed released lib
    some (raiseTo (0x800 + 2 * c) (immw pay) [if lib then c else 0] s2)

/-- The desk of carrel c cleared (R509 step 4). -/
def deskClear (c : Nat) (s : State) : State :=
  let s1 := (List.range 8).foldl (fun t k => (t.wrMem (deskWord c true k) fillWord).wrMem (deskWord c false k) fillWord) s
  s1.setReg (R.CARREL_Cc_DESK c) 0

/-! ### Writes of the CARREL block (R516) -/

/-- May the session of carrel c be enabled (R512): MACsec on its uplink with strict validation? -/
def sessionOk (upl : Nat) (s : State) : Bool :=
  s.bit (R.MACSEC_Iu_CTL upl) F.MACSEC_Iu_CTL_EN && decide (s.get (R.MACSEC_Iu_CTL upl) F.MACSEC_Iu_CTL_VALIDATE = 2)

/-- Is the session of remote carrel c served on an uplink (R512)? -/
def sessionServed (c upl : Nat) (s : State) : Bool :=
  let r := R.CARREL_Cc_SES_CTL c
  s.bit (R.CARREL_Cc_CFG c) F.CARREL_Cc_CFG_REMOTE && decide (carState c s = 2) && s.bit r F.CARREL_Cc_SES_CTL_EN &&
  decide (s.get r F.CARREL_Cc_SES_CTL_UPL = upl)
/-- The sessions of an uplink stop being served, its link or its MACsec lost: code 5 for each (R510, R515). -/
def sessionsStop (upl : Nat) (s : State) : State :=
  ((List.range 512).filter fun c => sessionServed c upl s).foldl (fun t c => raiseLib (0x801 + 2 * c) 5 t) s

/-- Writes the CARREL block refuses. -/
def carrelRefuses (a : Nat) (w nv : BitVec 64) (s : State) : Bool :=
  let o := offsetOf a
  if 0x100 ≤ o ∧ o < 0x180 then
    let p := (o - 0x100) / 16
    (match o % 8 with
     | 0 => decide (fget nv F.CARREL_Pp_TTk_CTL_EN = 1) && !ttOk p (fget nv F.CARREL_Pp_TTk_CTL_FIRST) (fget nv F.CARREL_Pp_TTk_CTL_LEN)
              (fget nv F.CARREL_Pp_TTk_CTL_CYCLE) s
     | 2 => decide (fget w F.CARREL_Pp_TTk_NEXT_CHANGE = 1) && !ttOk p (fget nv F.CARREL_Pp_TTk_NEXT_FIRST) (fget nv F.CARREL_Pp_TTk_NEXT_LEN)
              (fget nv F.CARREL_Pp_TTk_NEXT_CYCLE) s
     | _ => false)
  else if 0x1000 ≤ o ∧ o < 0x3000 then inRunningList ((o - 0x1000) / 0x400) (o % 0x400) s
  else if 0x4000 ≤ o then
    let c := (o - 0x4000) / 32
    let k := o % 32
    if c = 0 then decide (k ≠ 2 ∧ k ≠ 5 ∧ k ≠ 7 ∧ k ≠ 8)
    else match k with
      | 0 => cfgBad c nv s
      | 1 =>
        let st := decide (fget w F.CARREL_Cc_CTL_START = 1)
        let rs := decide (fget w F.CARREL_Cc_CTL_RESET = 1)
        (st && rs) || (st && startBad c s) || (rs && decide (carState c s = 0))
      | 5 => decide (nv ≠ s.reg a) && !mayRebind c s
      | 10 => decide (fget nv F.CARREL_Cc_SES_CTL_EN = 1) && !sessionOk (fget nv F.CARREL_Cc_SES_CTL_UPL) s
      | _ => false
  else false

/-- The librarian's act on list k of pair p lets carrels stopped on a split core run again (R422). -/
def clearHalted (p : Nat) (s : State) : State :=
  s.carrels.foldl (fun t e => if e.2.halted ∧ boundTo p e.1 t then t.setCarrel e.1 { e.2 with halted := false } else t) s

/-- What a write of the CARREL block does beside setting its fields; a RESET is done where the block's other units are
in reach (carrelReset). -/
def carrelActs (a : Nat) (old w : BitVec 64) (s : State) : State :=
  let o := offsetOf a
  if a = R.CARREL_RC_CNTCLR then
    (if fget w F.CARREL_RC_CNTCLR_CLR = 1 then (s.setReg R.CARREL_RC_CNT 0).setReg R.CARREL_RC_CNT2 0 else s)
  else if 0x100 ≤ o ∧ o < 0x180 then
    let p := (o - 0x100) / 16
    let k := o / 8 % 2
    (match o % 8 with
     | 0 =>
       let s1 := clearHalted p s
       let x := ttCore p k s1
       let was := decide (fget old F.CARREL_Pp_TTk_CTL_EN = 1)
       let en := s1.bit a F.CARREL_Pp_TTk_CTL_EN
       -- the list starts in the cycle that holds the GTC, or at BASE; a list switched off ends its window now (R503, R504)
       if en && !was then s1.setCore x { s1.core x with wend := max s1.now (ttList p k s1).2.2.2 }
       else if was && !en then s1.setCore x { s1.core x with wend := s1.now }
       else s1
     | 2 => if fget w F.CARREL_Pp_TTk_NEXT_CHANGE = 1 then clearHalted p (s.set a F.CARREL_Pp_TTk_NEXT_PENDING 1) else s
     | _ => s)
  else if 0x4000 ≤ o then
    let c := (o - 0x4000) / 32
    (match o % 32 with
     | 0 =>
       let was := decide (fget old F.CARREL_Cc_CFG_V = 1)
       let v := s.bit a F.CARREL_Cc_CFG_V
       markUsed (if v && !was then (setCarState c 1 s).set (R.CARREL_Cc_STAT c) F.CARREL_Cc_STAT_FRESH 1
         else if was && !v then setCarState c 0 s else s)
     | 1 => if fget w F.CARREL_Cc_CTL_START = 1 then carrelStart c s else s
     | 10 =>
       if fget old F.CARREL_Cc_SES_CTL_EN = 1 ∧ s.bit a F.CARREL_Cc_SES_CTL_EN = false ∧ s.bit (R.CARREL_Cc_CFG c) F.CARREL_Cc_CFG_REMOTE ∧ carState c s = 2 then
         raiseLib (0x801 + 2 * c) 5 s
       else s
     | _ => s)
  else s

end Sys2Proof.Machine
end

