-- ==== Sys2Proof/Machine/Copies.lean ====
section
/-!
DEFINITION. Copies of switch frames and the copy records of the catalogue port, as far as a verdict touches them
(spec/05_signal_catalogue.md R208, spec/06_circulation_switch.md R272, R275).
-/
namespace Sys2Proof.Machine

open Sys2Proof

/-- Switch port p. -/
def State.port (s : State) (p : Nat) : Port := spGet (fun _ => ({} : Port)) s.sw.ports p
/-- Replace a switch port. -/
def State.setPort (s : State) (p : Nat) (x : Port) : State :=
  { s with sw := { s.sw with ports := spPut (fun _ => ({} : Port)) s.sw.ports p x } }

/-- Port counter j of R290: 0 RX_FRAMES, 1 RX_OCTETS, 2 RX_BAD, 3 RX_DROP, 4 TX_FRAMES, 5 TX_OCTETS, 6 TX_ABORTED,
7 TX_WITHDRAWN, 8 TX_UNDERRUN, 9 FLUSHED, 10 MC_LOST, 11 STAGE_DROP, 12 MS_NOSA_TX, 13 PLCA_BEACONS. -/
def ethCount (p j : Nat) (s : State) : State := s.bump (R.ETH_Pp_CNT p j)

/-- A copy of a template send has ended or been discarded: its record counts one less, and is freed at none (R275). -/
def recDone (c : Copy) (s : State) : State :=
  match c.rec_ with
  | none => s
  | some r =>
    let a := R.CIRC_COPYc_STAT r
    let n := s.get a F.CIRC_COPYc_STAT_PENDING - 1
    let s1 := s.set a F.CIRC_COPYc_STAT_PENDING n
    if n = 0 then (s1.set a F.CIRC_COPYc_STAT_V 0).setReg (R.CIRC_COPYc_MASK r) 0#64 else s1

/-- Replace a copy. -/
def putCopy (c : Copy) (s : State) : State :=
  { s with sw := { s.sw with copies := s.sw.copies.map fun x => if x.num = c.num then c else x } }
/-- Remove a copy and complete its record. -/
def endCopy (c : Copy) (s : State) : State :=
  recDone c { s with sw := { s.sw with copies := s.sw.copies.filter fun x => x.num ≠ c.num } }
/-- A copy is lost at its output: counter j counts it, and MC_LOST too for a multicast frame (R272). -/
def dropCopy (c : Copy) (j : Nat) (s : State) : State :=
  let s1 := endCopy c (ethCount c.out j s)
  if 1 < c.multi then ethCount c.out 10 s1 else s1

/-- The mask of a copy record (R275). -/
def recMask (r : Nat) (s : State) : BitVec 48 := (s.reg (R.CIRC_COPYc_MASK r)).setWidth 48

/-- Context p fails (R208): a copy on the wire ends in a bad colophon, one not started is discarded; a send waiting at
CATP is marked. -/
def copiesFail (p : Nat) (s : State) : State :=
  let hit := s.sw.copies.filter fun c => match c.rec_ with
    | some r => (recMask r s).getLsbD p
    | none => false
  let s1 := hit.foldl (fun t c => if c.start.isSome then putCopy { c with bad := true } t else dropCopy c 7 t) s
  let mark (x : CatSend) : CatSend := if x.mask.getLsbD p then { x with failed := true, mask := x.mask &&& ~~~(1#48 <<< p) } else x
  { s1 with cat := { s1.cat with out := s1.cat.out.map mark } }

/-- Context p passes: its bit leaves the masks of copy records and of sends waiting at CATP. -/
def copiesPass (p : Nat) (s : State) : State :=
  let s1 := (List.range 256).foldl (fun t r =>
    if ((recMask r t).getLsbD p) = true then t.setReg (R.CIRC_COPYc_MASK r) (t.reg (R.CIRC_COPYc_MASK r) &&& ~~~(1#64 <<< p)) else t) s
  { s1 with cat := { s1.cat with out := s1.cat.out.map fun x => { x with mask := x.mask &&& ~~~(1#48 <<< p) } } }

end Sys2Proof.Machine
end

