-- ==== Sys2Proof/Machine/Catalogue.lean ====
section
/-!
DEFINITION. The signal catalogue (spec/05_signal_catalogue.md R179 to R218, R228 to R246, R650): entries, intake, slips,
templates, provisional values and their ledger, verdicts, timeouts and end-to-end protection.
-/
namespace Sys2Proof.Machine

open Sys2Proof

/-! ### Words of the catalogue (R179, R180, R183) -/

/-- Word k of the entry at a shelfmark (R179). -/
def catA (sm k : Nat) : Nat := 0x1000000 + 4 * (sm % 2 ^ 20) + k
/-- A word of the slip store (R180). -/
def slipA (o : Nat) : Nat := 0x1800000 + o % 2 ^ 20

/-- The catalogue reads a word of its memory; an uncorrectable word is reported and its value is free (assumption 2). -/
def engRead (a : Nat) (s : State) : Word × State :=
  match readArray a .engine s with
  | (some w, s1) => (w, s1)
  | (none, s1) => s1.drawFree 72

/-- A descriptor (R183). -/
structure Desc where
  kind : Nat
  src : Nat
  tmo : Nat
  subst : Nat
  crit : BitVec 2
  noprov : Bool
  ptr : Nat
  rsv : Nat
  deriving DecidableEq, Repr

/-- A field of a word's value part. -/
def wf (w : Word) (lo n : Nat) : Nat := (w.extractLsb' lo n).toNat

/-- Read a descriptor word (R183). -/
def descOf (w : Word) : Desc :=
  { kind := wf w 0 2, src := wf w 2 6, tmo := wf w 8 16, subst := wf w 24 2, crit := w.extractLsb' 26 2, noprov := w.getLsbD 28,
    ptr := wf w 29 20, rsv := wf w 49 15 }

/-- Is a descriptor invalid for a shelfmark (R183)? -/
def descBad (sm : Nat) (d : Desc) : Bool :=
  decide (d.rsv ≠ 0) || (decide (d.kind = 1) && decide (48 ≤ d.src)) || (decide (d.subst = 1) && decide (d.ptr = 0)) ||
  (decide (d.ptr ≠ 0) && decide (d.ptr / 2 ^ 18 ≠ sm / 2 ^ 18))

/-- Extend a short stamp of n bits against a GTC (R63). -/
def extStamp (n x g : Nat) : Nat :=
  let e := g / 2 ^ n * 2 ^ n + x
  if g < e ∧ 2 ^ n ≤ e then e - 2 ^ n else e

/-- The computed test of staleness (R185). -/
def staleTest (d : Desc) (timing : Word) (g : Nat) : Bool :=
  let last := extStamp 48 (wf timing 0 48) g
  decide (d.tmo ≠ 0) && decide (last ≤ g) && decide (d.tmo * 100000 ≤ g - last)

/-- CATR (confirmed) and CATRP (current) of an entry, with STALE (R185). -/
def catRead (sm : Nat) (confirmed : Bool) (s : State) : Word × State :=
  let (w, s1) := engRead (catA sm (if confirmed then 1 else 0)) s
  let (d, s2) := engRead (catA sm 2) s1
  let (t, s3) := engRead (catA sm 3) s2
  (mkw (wv w) (pSetStale (pStale (wp w) || staleTest (descOf d) t s.now) (wp w)), s3)

/-! ### Units of the catalogue -/

/-- Reception context p (R202). -/
def State.rx (s : State) (p : Nat) : Rx := spGet (fun _ => ({} : Rx)) s.cat.rx p
/-- Replace a reception context. -/
def State.setRx (s : State) (p : Nat) (x : Rx) : State := { s with cat := { s.cat with rx := spPut (fun _ => ({} : Rx)) s.cat.rx p x } }
/-- Cataloguer n. -/
def State.cu (s : State) (n : Nat) : Cu := spGet (fun _ => ({} : Cu)) s.cat.cus n
/-- Replace a cataloguer; QDEPTH and WAITING follow (R247). -/
def State.setCu (s : State) (n : Nat) (x : Cu) : State :=
  let s1 := { s with cat := { s.cat with cus := spPut (fun _ => ({} : Cu)) s.cat.cus n x } }
  let a := R.CATG_CUn_STAT n
  (s1.set a F.CATG_CUn_STAT_QDEPTH x.q.length).setBit a F.CATG_CUn_STAT_WAITING (x.waitRd.isSome && x.q.isEmpty)

/-- An error count of CAT_ERR_CNT with its source, for which the spec gives no payload. -/
def catErr (f : Fld) (src : Nat) (s : State) : State := raiseFree src [0] (s.addSat R.CAT_ERR_CNT f 1)

/-! ### The ledger (R212, R213) -/

/-- Is a ledger item free? -/
def itemFree (s : State) : Bool := decide (s.cat.items.length < 4096)
/-- Replace the ledger; IN_USE and PEAK follow. -/
def setItems (l : List Item) (s : State) : State :=
  let s1 := { s with cat := { s.cat with items := l } }
  let a := R.CAT_PROV_STAT
  let s2 := s1.set a F.CAT_PROV_STAT_IN_USE l.length
  if s2.get a F.CAT_PROV_STAT_PEAK < l.length then s2.set a F.CAT_PROV_STAT_PEAK l.length else s2
/-- Take an item. -/
def takeItem (x : Item) (s : State) : State := setItems (s.cat.items ++ [x]) s
/-- An effect finds no item: FULL_CNT, and source 0x452 at the first since the counters were cleared (R213, R245). -/
def ledgerFull (s : State) : State :=
  let s1 := s.addSat R.CAT_PROV_STAT F.CAT_PROV_STAT_FULL_CNT 1
  if s1.cat.fullSeen then s1 else raiseFree 0x452 [0] { s1 with cat := { s1.cat with fullSeen := true } }

/-- The mask of an entry's provisional value (R212): that of its item. -/
def entryMask (sm : Nat) (s : State) : BitVec 48 :=
  s.cat.items.foldl (fun m x => match x.eff with
    | .entry k _ => if k = sm then m ||| x.mask else m
    | _ => m) 0
/-- Does the entry hold a provisional value? -/
def isProvisional (sm : Nat) (s : State) : Bool :=
  s.cat.items.any fun x => match x.eff with
    | .entry k _ => decide (k = sm)
    | _ => false
/-- Does a value for the entry wait in an open context (R181)? -/
def waitsInContext (sm : Nat) (s : State) : Bool := s.cat.rx.any fun e => e.2.open_ && e.2.vals.any fun v => decide (v.shelf = sm)

/-! ### Writes from the fabric (R181, R220) -/

/-- Is a fabric write of a catalogue word accepted (R180, R181)? -/
def catWriteOk (a : Nat) (w : Word) (s : State) : Bool :=
  if regionOf a = .slips then
    let o := a - 0x1800000
    !(decide (0x2200 ≤ o) && decide (o < 0x4000))
  else
    let sm := (a - 0x1000000) / 4
    if a % 4 = 2 then !isProvisional sm s && !waitsInContext sm s && !descBad sm (descOf w)
    else decide ((descOf (s.rdMem (catA sm 2))).kind = 0)

/-- Is a fabric write of program memory accepted: no cataloguer of the tile runs (R220)? -/
def progWriteOk (a : Nat) (s : State) : Bool :=
  let t := offsetOf a / 0x1000
  !((List.range 8).any fun k => s.bit (R.CATG_CUn_CTL (8 * t + k)) F.CATG_CUn_CTL_RUN)

/-! ### Bit positions (R190) -/

/-- The w bit positions of a field in the order the loop of R190 visits them. -/
def positions (start : Nat) (motorola : Bool) : Nat → List Nat
  | 0 => []
  | w + 1 => start :: positions (if motorola then (if start % 8 = 0 then start + 15 else start - 1) else start + 1) motorola w

/-- Bit b of a frame (R190). -/
def frameBit (f : Octets) (b : Nat) : Bool := (f.getD (b / 8) 0).getLsbD (b % 8)

/-- The field's value (R190): Intel puts the first position lowest, Motorola highest. -/
def unpack (f : Octets) (ps : List Nat) (motorola : Bool) : Nat :=
  let bits := ps.map (frameBit f)
  (if motorola then bits.reverse else bits).foldr (fun b v => 2 * v + (if b then 1 else 0)) 0

/-! ### Records for the twin (R566) -/

/-- Is the shelfmark in a mirror range with the given flag (R566, R567)? -/
def mirrorRange (sm : Nat) (f : Fld) (s : State) : Bool :=
  (List.range 8).any fun r => s.bit (R.TWIN_MIRk r) f && decide (s.get (R.TWIN_MIRk r) F.TWIN_MIRk_LO ≤ sm) &&
    decide (sm ≤ s.get (R.TWIN_MIRk r) F.TWIN_MIRk_HI)

/-- A new confirmed word is offered to the mirror stream (R209, R216, R566). -/
def mirrorOffer (sm : Nat) (w : Word) (timing : Word) (stamp : Nat) (s : State) : State :=
  if s.get R.TWIN_STAT F.TWIN_STAT_STATE = 1 ∧ s.bit R.TWIN_CTL F.TWIN_CTL_MIR_EN = true ∧
      mirrorRange sm F.TWIN_MIRk_SEND s = true then
    mirrorPut (.cat sm (wf timing 48 16) (timing.getLsbD 64) w stamp) s
  else s

/-! ### Accession (R186, R209) -/

/-- A timing word with TOFIRED, SEQ and LAST replaced (R184, R186); the word's other bits are kept (DEDUCED, log 90). -/
def timingWord (t : Word) (tofired : Bool) (seq : BitVec 16) (last : Nat) : Word :=
  (t.extractLsb' 65 7) ++ BitVec.ofBool tofired ++ seq ++ BitVec.ofNat 48 last

/-- An entry is accessioned: both words become the value with PROV = 0, LAST the stamp, SEQ counts, TOFIRED clears, and the
word is offered to the mirror. -/
def accession (sm : Nat) (w : Word) (stamp : Nat) (s : State) : State :=
  let w1 := mkw (wv w) (pSetProv false (wp w))
  let (t, s1) := engRead (catA sm 3) s
  let t1 : Word := timingWord t false (BitVec.ofNat 16 (wf t 48 16 + 1)) stamp
  let s2 := ((s1.wrMem (catA sm 0) w1).wrMem (catA sm 1) w1).wrMem (catA sm 3) t1
  mirrorOffer sm w1 t1 stamp s2

/-! ### Triggers of cataloguers (R211, R222) -/

/-- The notice of a fault or a lost trigger (R222). -/
def cuNotice (n cause fpc : Nat) (s : State) : State :=
  let lost := s.get (R.CATG_CUn_STAT n) F.CATG_CUn_STAT_LOST
  raiseTo (0x400 + n) (immw (BitVec.ofNat 64 (cause + fpc * 16 + lost * 2 ^ 32))) (0 :: ownDest (R.CATG_TLt_OWN (n / 8)) s) s

/-- A trigger to cataloguer n is lost (R222). -/
def cuLost (n : Nat) (s : State) : State :=
  let s1 := s.addSat (R.CATG_CUn_STAT n) F.CATG_CUn_STAT_LOST 1
  cuNotice n 0 0 (s1.setCu n { s1.cu n with lost := true })

/-- Remove the last element that meets a test. -/
def dropLast {α : Type} (p : α → Bool) (l : List α) : List α :=
  match l.reverse.findIdx? p with
  | none => l
  | some i => (l.reverse.eraseIdx i).reverse

/-- A trigger or an erratum reaches cataloguer n (R222). -/
def cuTrigger (n : Nat) (x : Trig) (s : State) : State :=
  if !s.bit (R.CATG_CUn_CTL n) F.CATG_CUn_CTL_RUN then s
  else
    let k := s.cu n
    if k.q.length < 32 then s.setCu n { k with q := k.q ++ [x] }
    else if x.kind = 0b10#2 ∧ k.q.any (fun y => decide (y.kind ≠ 0b10#2)) then
      cuLost n (s.setCu n { k with q := dropLast (fun y => decide (y.kind ≠ 0b10#2)) k.q ++ [x] })
    else cuLost n s

/-! ### Templates (R198, R200, R201) -/

/-- A template's two words (R200). -/
structure Tmpl where
  dest : Nat
  unit : Nat
  buf : Nat
  len : Nat
  ptr : Nat
  txmode : Nat
  provOk : Bool
  period : Nat
  hold : Nat
  e2e : Nat
  estart : Nat
  deriving DecidableEq, Repr

/-- Read template n's words (R200). -/
def tmplRead (n : Nat) (s : State) : Tmpl × State :=
  let (a, s1) := engRead (slipA (0x4000 + 2 * n)) s
  let (b, s2) := engRead (slipA (0x4001 + 2 * n)) s1
  ({ dest := wf a 0 2, unit := wf a 2 4, buf := wf a 6 8, len := wf a 14 12, ptr := wf a 26 20, txmode := wf a 46 2, provOk := a.getLsbD 48,
     period := wf b 0 24, hold := wf b 24 16, e2e := wf b 40 12, estart := wf b 52 12 }, s2)

/-- The slip-store bit that holds frame bit q of a body at BODY_PTR: 72 × offset + bit (R3, R200). -/
def bodyBit (ptr q : Nat) : Nat := (ptr + q / 8 / 9) % 2 ^ 20 * 72 + (64 - 8 * (q / 8 % 9) + q % 8)
/-- Read a bit of the slip store. -/
def slipBit (b : Nat) (s : State) : Bool := (s.rdMem (slipA (b / 72))).getLsbD (b % 72)
/-- Write a bit of the slip store. -/
def setSlipBit (b : Nat) (v : Bool) (s : State) : State :=
  let a := slipA (b / 72)
  let w := s.rdMem a
  let m : Word := 1#72 <<< (b % 72)
  s.wrMem a (if v then w ||| m else w &&& ~~~m)
/-- Octet j of a body. -/
def bodyOctet (ptr j : Nat) (s : State) : BitVec 8 := octet (s.rdMem (slipA (ptr + j / 9))) (j % 9)
/-- Write octet j of a body. -/
def setBodyOctet (ptr j : Nat) (x : BitVec 8) (s : State) : State :=
  let a := slipA (ptr + j / 9)
  s.wrMem a (setOctet (s.rdMem a) (j % 9) x)

/-- Bits of a later write leave the items of earlier ones (R198). -/
def supersede (bits : List Nat) (s : State) : State :=
  { s with cat := { s.cat with items := s.cat.items.map fun x => match x.eff with
      | .field bs => { x with eff := .field (bs.filter fun e => !bits.contains e.1) }
      | _ => x } }

/-- A SEND of a FRAME slip (R201): ignored with TXMODE = 0b01; otherwise it opens a gather, or is absorbed into an open
one. What TXMODE = 0b11, a reserved value, does with a SEND is not stated: it is free (assumption 2). -/
def tmplSend (n : Nat) (t : Tmpl) (s : State) : State :=
  let (go, s1) := if t.txmode = 3 then (let (b, u) := s.drawFree 1; (decide (b = 1#1), u)) else (decide (t.txmode ≠ 1), s)
  if go && !(s1.cat.gathers.any fun g => decide (g.1 = n)) then
    { s1 with cat := { s1.cat with gathers := s1.cat.gathers ++ [(n, s.now + t.hold)] } }
  else s1

/-! ### Slips (R193 to R199) -/

/-- An invalid slip (R195): counted, the list recorded, source 0x450. -/
def slipInvalid (w : Walk) (o : Nat) (s : State) : State :=
  let v := fput (fput (fput 0#64 F.CAT_ERR_SHELF_SHELF w.shelf) F.CAT_ERR_SHELF_SLIP o) F.CAT_ERR_SHELF_MAP (if w.map then 1 else 0)
  (catErr F.CAT_ERR_CNT_SLIP_ERR 0x450 s).setReg R.CAT_ERR_SHELF v

/-- Remember that a slip has acted provisionally (R197). -/
def noteActed (h : Home) (o : Nat) (s : State) : State :=
  match h with
  | .none => s
  | .rx p sm =>
    let r := s.rx p
    s.setRx p { r with vals := r.vals.map fun v => if v.shelf = sm ∧ v.written = true then { v with acted := o :: v.acted } else v }
  | .item sm => { s with cat := { s.cat with items := s.cat.items.map fun x => match x.eff with
      | .entry k a => if k = sm then { x with eff := .entry k (o :: a) } else x
      | _ => x } }
  | .emit n => { s with cat := { s.cat with emits := s.cat.emits.map fun e => if e.n = n then { e with acted := o :: e.acted } else e } }

/-- Queue a walk of an entry's list (R193): none where SLIP_PTR = 0. -/
def queueWalk (sm : Nat) (w : Word) (mask : BitVec 48) (mode : Nat) (acted : List Nat) (stamp : Nat) (home : Home) (s : State) : State :=
  let (d, s1) := engRead (catA sm 2) s
  let ptr := (descOf d).ptr
  if ptr = 0 then s1
  else { s1 with cat := { s1.cat with walks := s1.cat.walks ++
    [{ shelf := sm, ptr := ptr + 1, word := w, mask := mask, mode := mode, acted := acted, stamp := stamp, home := home }] } }

/-- A FRAME slip packs its value (R198): with `prov` the old content goes into a ledger item. -/
def slipFrame (w : Walk) (x : Word) (t : Tmpl) (prov : Bool) (s : State) : State :=
  let len := wf x 32 6 + 1
  let moto := decide (wf x 38 2 = 1)
  let ps := (positions (wf x 17 15) moto len).map (bodyBit t.ptr)
  let p := wp w.word
  let ones := x.getLsbD 41 && (decide (2 ≤ (pVal p).toNat) || pStale p)
  let order := if moto then ps.reverse else ps
  let old := order.map fun b => (b, slipBit b s)
  let s1 := supersede order s
  let s2 := (order.zip (List.range len)).foldl (fun u e => setSlipBit e.1 (ones || (wv w.word).getLsbD e.2) u) s1
  if prov then takeItem { mask := w.mask, eff := .field old } s2 else s2

/-- A LOAD slip's command joins the reflex queue (R199, R240). -/
def slipLoad (w : Walk) (x : Word) (s : State) : State :=
  let v := wv w.word
  let (m, d) : BitVec 2 × BitVec 16 := match wf x 10 2 with
    | 0 => (if v.getLsbD 0 then 1 else 0, 0)
    | 1 => (if v = 0#64 then 0 else 1, 0)
    | _ => (2, v.setWidth 16)
  let q : BitVec 18 := (x.extractLsb' 12 10).setWidth 18
  let p := wp w.word
  let ok := pMeets p (q ||| 0x8#18)
  let l := s.load.reflex ++ [{ chan := wf x 5 5, mode := m, duty := d, ok := ok, at_ := s.now }]
  let s1 := { s with load := { s.load with reflex := l } }
  let n := min l.length 255
  if s1.get R.CAT_REFLEX_STAT F.CAT_REFLEX_STAT_PEAK < n then s1.set R.CAT_REFLEX_STAT F.CAT_REFLEX_STAT_PEAK n else s1

/-- The bits of a slip that its type leaves reserved (R194). -/
def slipRsv (x : Word) : Nat :=
  match wf x 0 3 with
  | 1 => wf x 42 22
  | 2 => wf x 22 42
  | 3 => wf x 24 40
  | 4 => wf x 22 42
  | 5 => wf x 25 39
  | _ => 1

/-- Is a slip invalid by its own bits (R195)? -/
def slipBad (x : Word) : Bool :=
  decide (slipRsv x ≠ 0) ||
  (decide (wf x 0 3 = 1) && (decide (18431 < wf x 17 15) || decide (2 ≤ wf x 38 2))) ||
  (decide (wf x 0 3 = 2) && decide (wf x 10 2 = 3)) ||
  (decide (wf x 0 3 = 3) && decide (767 < wf x 14 10))

/-- An ENTRY slip writes a computed entry (R186, R194, R212). -/
def slipEntry (w : Walk) (o : Nat) (sm : Nat) (s : State) : State :=
  if w.mask = 0 then
    let s1 := setItems (s.cat.items.filter fun i => match i.eff with
      | .entry k _ => decide (k ≠ sm)
      | _ => true) s
    let w1 := mkw (wv w.word) (pSetProv false (wp w.word))
    queueWalk sm w1 0 1 [] s.now .none (accession sm w1 s.now s1)
  else
    let has := isProvisional sm s
    if !has && !itemFree s then ledgerFull s
    else
      let s1 := if has then
          { s with cat := { s.cat with items := s.cat.items.map fun i => match i.eff with
              | .entry k a => if k = sm then { mask := i.mask ||| w.mask, eff := .entry k [] } else { i with eff := .entry k a }
              | _ => i } }
        else takeItem { mask := w.mask, eff := .entry sm [] } s
      let s2 := noteActed w.home o (s1.wrMem (catA sm 0) w.word)
      queueWalk sm w.word (entryMask sm s2) 0 [] w.stamp (.item sm) s2

/-- One slip of a walk (R194 to R197). -/
def slipDo (w : Walk) (o : Nat) (x : Word) (s : State) : State :=
  let acc := decide (w.mode ≠ 0)
  let only := x.getLsbD 4
  if slipBad x then slipInvalid w o s
  else match wf x 0 3 with
  | 1 =>
    let (t, s1) := tmplRead (wf x 5 12) s
    let ps := positions (wf x 17 15) (decide (wf x 38 2 = 1)) (wf x 32 6 + 1)
    if t.dest = 0 ∨ ps.any (fun q => decide (t.len ≤ q / 8)) = true then slipInvalid w o s1
    else if acc then
      if w.acted.contains o then s1
      else
        let s2 := slipFrame w x t false s1
        if x.getLsbD 40 then tmplSend (wf x 5 12) t s2 else s2
    else if t.dest = 1 ∧ t.provOk = true ∧ only = false then
      if !itemFree s1 then ledgerFull s1
      else
        let s2 := noteActed w.home o (slipFrame w x t true s1)
        if x.getLsbD 40 then tmplSend (wf x 5 12) t s2 else s2
    else s1
  | 2 => if acc && !w.acted.contains o then slipLoad w x s else s
  | 3 =>
    if acc && !w.acted.contains o then
      notify { stamp := w.stamp, src := 0x500 + wf x 14 10, payload := w.word } (wf x 5 9) s
    else s
  | 4 =>
    let kind : BitVec 2 := if w.mode = 0 then 0b00#2 else if w.mode = 2 then 0b11#2 else 0b01#2
    let tr : Trig := { shelf := w.shelf, tag := wf x 11 11, kind := kind, prov := decide (w.mode = 0), stamp := s.now, word := w.word,
                       mask := if w.mode = 0 then w.mask else 0 }
    if acc then (if w.acted.contains o then s else cuTrigger (wf x 5 6) tr s)
    else if only then s
    else if !itemFree s then ledgerFull s
    else noteActed w.home o (cuTrigger (wf x 5 6) tr s)
  | _ =>
    let sm := wf x 5 20
    let (d, s1) := engRead (catA sm 2) s
    if (descOf d).kind ≠ 3 then slipInvalid w o s1
    else if acc then (if w.acted.contains o then s1 else slipEntry { w with mask := 0 } o sm s1)
    else if only then s1
    else slipEntry w o sm s1

/-- The slips of a list from an offset to its LAST, or past the end of the slip store (R193, R195). -/
def slipLoop (w : Walk) : Nat → Nat → State → State
  | 0, o, s => slipInvalid w o s
  | fuel + 1, o, s =>
    if 0xFFFFF < o then slipInvalid w 0xFFFFF s
    else
      let (x, s1) := engRead (slipA o) s
      let s2 := slipDo w o x s1
      if x.getLsbD 3 then s2 else slipLoop w fuel (o + 1) s2

/-- Walk one list. -/
def runWalk (w : Walk) (s : State) : State := slipLoop w 0x100001 w.ptr s

/-- Walk the queued lists in turn; a chain of ENTRY slips longer than the fuel goes on at the next walk (assumption 40). -/
def runWalks : Nat → State → State
  | 0, s => s
  | fuel + 1, s =>
    match s.cat.walks with
    | [] => s
    | w :: t => runWalks fuel (runWalk w { s with cat := { s.cat with walks := t } })

/-- How many lists one command walks. -/
def walkFuel : Nat := 4096

/-- CATW of an entry of KIND software (R186): both words at once, accessioned now; its list is queued for its walk. -/
def catWrite (sm : Nat) (w : Word) (s : State) : State :=
  let w1 := mkw (wv w) (pSetProv false (wp w))
  queueWalk sm w1 0 1 [] s.now .none (accession sm w1 s.now s)

/-! ### End-to-end protection (R229, R230, R235 to R237) -/

/-- An E2E context (R229). -/
structure E2eCfg where
  poly : Nat
  crcPos : Nat
  ctrPos : Nat
  wide : Bool
  hi : Bool
  dataId : Nat
  idMode : Nat
  maxDelta : Nat
  len : Nat
  be : Bool
  deriving DecidableEq, Repr

/-- Read the configuration word. -/
def e2eCfg (w : Word) : E2eCfg :=
  { poly := wf w 0 3, crcPos := wf w 3 12, ctrPos := wf w 15 12, wide := w.getLsbD 27, hi := w.getLsbD 28, dataId := wf w 29 16,
    idMode := wf w 45 2, maxDelta := wf w 47 4, len := wf w 51 12, be := w.getLsbD 63 }

/-- The DATA_ID octets fed before the region (R229). -/
def e2eId (c : E2eCfg) : Octets :=
  let lo := BitVec.ofNat 8 (c.dataId % 256)
  let hi := BitVec.ofNat 8 (c.dataId / 256)
  match c.idMode with
  | 0 => [lo, hi]
  | 1 => [hi, lo]
  | 2 => [lo]
  | _ => []

/-- Octets of the CRC field. -/
def crcLen (c : E2eCfg) : Nat := (crcFixed c.poly).width / 8
/-- The check of a region, its CRC field left out (R230). -/
def e2eCheck (c : E2eCfg) (region : Octets) : BitVec 64 :=
  crcOf (crcFixed c.poly) (e2eId c ++ region.take c.crcPos ++ region.drop (c.crcPos + crcLen c))
/-- The CRC field's octets for a value, in the order CRC_BE gives (R229). -/
def crcOctets (c : E2eCfg) (v : BitVec 64) : Octets :=
  let le := (List.range (crcLen c)).map fun k => v.extractLsb' (8 * k) 8
  if c.be then le.reverse else le
/-- The counter in a region. -/
def e2eCtr (c : E2eCfg) (region : Octets) : Nat :=
  let x := (region.getD c.ctrPos 0).toNat
  if c.wide then x else if c.hi then x / 16 else x % 16

/-- Apply a check word to a region (R230, R234, R235): the verdict is noted in the context, with what accession does to the
E2E context. A region that does not lie in the frame, a field outside its region and a check word that names no context
leave the verdict unstated: it is free (assumption 2). -/
def checkWord (p i : Nat) (x : Word) (frame : Octets) (s : State) : State :=
  let e := wf x 1 12
  let st := wf x 13 12
  let len := wf x 25 12
  let (c, s1) := engRead (slipA (0x6000 + 2 * e)) s
  let (k, s2) := engRead (slipA (0x6001 + 2 * e)) s1
  let cfg := e2eCfg c
  let region := (frame.drop st).take len
  let odd := decide (e = 0) || decide (len = 0) || decide (2308 < len) || decide (2307 < st) || decide (frame.length < st + len) ||
    decide (len < cfg.crcPos + crcLen cfg) || decide (len ≤ cfg.ctrPos) || decide (wf x 37 27 ≠ 0)
  let (v, s3) : RxChk × State :=
    if odd then (let (b, u) := s2.drawFree 2; ({ idx := i, e2e := b }, u))
    else if k.getLsbD 9 then ({ idx := i, e2e := 0b10#2 }, s2)
    else
      let same := decide ((region.drop cfg.crcPos).take (crcLen cfg) = crcOctets cfg (e2eCheck cfg region))
      let w := if cfg.wide then 256 else 16
      let ctr := e2eCtr cfg region
      let delta := (ctr + w - wf k 0 8 % w) % w
      let seq := k.getLsbD 8 && (decide (delta = 0) || decide (cfg.maxDelta < delta))
      let e2e : BitVec 2 := if !same then 0b10#2 else if seq then 0b11#2 else 0b01#2
      let cnt := wf k 32 32
      let k1 : Word := if e2e = 0b01#2 then k
        else (k &&& ~~~((0xFFFFFFFF#72) <<< 32)) ||| (BitVec.ofNat 72 (min (cnt + 1) 0xFFFFFFFF) <<< 32)
      ({ idx := i, e2e := e2e, ctx := e, ctr := ctr, match_ := same }, if e2e = 0b01#2 then s2 else s2.wrMem (slipA (0x6001 + 2 * e)) k1)
  let r := s3.rx p
  let upd (y : RxVal) : RxVal := if y.chk = some i then { y with word := mkw (wv y.word) (pSetE2e v.e2e (wp y.word)) } else y
  let vals := r.vals.map upd
  let s4 := s3.setRx p { r with chks := r.chks ++ [v], vals := vals }
  -- a value already written shows the verdict at once (R234)
  vals.foldl (fun t y => if y.written ∧ y.chk = some i then t.wrMem (catA y.shelf 0) y.word else t) s4

/-- At accession a receive context takes the counter (R235). -/
def e2eAccess (c : RxChk) (s : State) : State :=
  if !c.match_ then s
  else
    let a := slipA (0x6001 + 2 * c.ctx)
    let k := s.rdMem a
    s.wrMem a ((k &&& ~~~(0x1FF#72)) ||| 0x100#72 ||| BitVec.ofNat 72 c.ctr)

/-- Egress protection of a template (R235, R237); none where the context is a receive context. -/
def e2eEgress (t : Tmpl) (s : State) : Option State :=
  if t.e2e = 0 then some s
  else
    let a := slipA (0x6001 + 2 * t.e2e)
    let (c, s1) := engRead (slipA (0x6000 + 2 * t.e2e)) s
    let (k, s2) := engRead a s1
    let cfg := e2eCfg c
    if !k.getLsbD 9 then none
    else
      let w := if cfg.wide then 256 else 16
      let ctr := (wf k 0 8 + 1) % w
      let s3 := s2.wrMem a ((k &&& ~~~(0xFF#72)) ||| BitVec.ofNat 72 ctr)
      let j := t.estart + cfg.ctrPos
      let x := (bodyOctet t.ptr j s3).toNat
      let y := if cfg.wide then ctr else if cfg.hi then ctr * 16 + x % 16 else x / 16 * 16 + ctr
      let s4 := setBodyOctet t.ptr j (BitVec.ofNat 8 y) s3
      let region := (List.range cfg.len).map fun i => bodyOctet t.ptr (t.estart + i) s4
      let crc := crcOctets cfg (e2eCheck cfg region)
      some ((crc.zip (List.range crc.length)).foldl (fun u e => setBodyOctet t.ptr (t.estart + cfg.crcPos + e.2) e.1 u) s4)

/-- The mask of the provisional fields a body holds (R198, R201). -/
def bodyMask (t : Tmpl) (s : State) : BitVec 48 :=
  let lo := t.ptr * 72
  let hi := (t.ptr + (t.len + 8) / 9) * 72
  s.cat.items.foldl (fun m x => match x.eff with
    | .field bs => if bs.any (fun e => decide (lo ≤ e.1) && decide (e.1 < hi)) then m ||| x.mask else m
    | _ => m) 0

/-- Send a template (R200, R201, R237, R276). -/
def sendTemplate (n : Nat) (s : State) : State :=
  let (t, s0) := tmplRead n s
  if t.dest = 0 then s0
  else match e2eEgress t s0 with
    | none => catErr F.CAT_ERR_CNT_SLIP_ERR 0x450 s0
    | some s1 =>
      let data := (List.range t.len).map fun j => bodyOctet t.ptr j s1
      match t.dest with
      | 1 =>
        if !s1.bit R.CIRC_CTL F.CIRC_CTL_EN then ethCount 12 11 s1
        else { s1 with cat := { s1.cat with out := s1.cat.out ++ [{ data := data, mask := bodyMask t s1 }] } }
      | 2 => canCopy t.unit t.buf data s1
      | _ => if t.unit < 8 ∧ t.buf < 64 then linCopy t.unit t.buf data s1 else s1

/-- TEMPLATE_SEND (R201): the gather's HOLD has ended. -/
def execTemplateSend (n : BitVec 12) (s : State) : Host.Outcome State Fault Refusal :=
  .next (match s.cat.gathers.find? fun g => g.1 = n.toNat with
    | none => s
    | some g =>
      if s.now < g.2 then s
      else sendTemplate n.toNat { s with cat := { s.cat with gathers := s.cat.gathers.filter fun x => x.1 ≠ n.toNat } })

/-- TEMPLATE_PERIOD_EXPIRY (R201): the GTC is a whole multiple of PERIOD and TXMODE is periodic. -/
def execTemplatePeriodExpiry (n : BitVec 12) (s : State) : Host.Outcome State Fault Refusal :=
  let (t, s1) := tmplRead n.toNat s
  .next (if t.period ≠ 0 ∧ s.now % (t.period * 1000) = 0 ∧ (t.txmode = 1 ∨ t.txmode = 2) ∧ t.dest ≠ 0 then sendTemplate n.toNat s1 else s)

/-! ### Reception contexts (R202 to R206) -/

/-- A quotient rounded up. -/
def ceilDiv (a b : Nat) : Nat := (a + b - 1) / b

/-- Tenths of a nanosecond per bit at a port's speed (R290). -/
def bitTenths (p : Nat) (s : State) : Nat :=
  match s.get (R.ETH_Pp_STAT p) F.ETH_Pp_STAT_SPEED with
  | 0 => 1000
  | 1 => 100
  | 2 => 10
  | 3 => 4
  | 4 => 2
  | _ => 1

/-- W(t) of R203, R306 in ns. -/
def worstLeft (p : Nat) (x : Left) (received : Nat) (s : State) : Nat :=
  if p < 16 then
    (x.nom + ceilDiv x.stNom 4) * nomBit p s + (x.data + ceilDiv x.stData 4) * phaseBit (R.CANn_DBT p) s +
      (x.xl + ceilDiv x.xl 10) * phaseBit (R.CANn_XBT p) s
  else if p < 24 then
    let m := p - 16
    x.octets * 350 * (16 * s.get (R.LINm_BAUD m) F.LINm_BAUD_DIV + s.get (R.LINm_BAUD m) F.LINm_BAUD_FRAC)
  else (divRound (((s.rx p).maxlen - received) * 8 * bitTenths (p - 24) s : Nat) 10).toNat

/-- The source republishes its due time, which never increases (R203). -/
def republish (p : Nat) (x : Left) (received : Nat) (s : State) : State :=
  let d := s.now + worstLeft p x received s + 24
  let old := (s.reg (R.CAT_RXp_DUE p)).toNat
  s.setReg (R.CAT_RXp_DUE p) (BitVec.ofNat 64 (if old = 0 then d else min old d))

/-- Close context p. -/
def closeRx (p : Nat) (a : Await) (s : State) : State := (s.setRx p { await := a }).setReg (R.CAT_RXp_DUE p) 0#64

/-- Clear a context's bit in a mask. -/
def unmask (p : Nat) (m : BitVec 48) : BitVec 48 := m &&& ~~~(1#48 <<< p)

/-- Restore what an item with a failed context changed (R210 step 2). -/
def undoItem (x : Item) (s : State) : State :=
  match x.eff with
  | .entry sm _ => s.wrMem (catA sm 0) (s.rdMem (catA sm 1))
  | .field bs => bs.foldl (fun t e => setSlipBit e.1 e.2 t) s
  | .run _ _ => s

/-- Send the erratum of an item's run (R210 step 3, R211). A run that no trigger began has no triggering entry: its
shelfmark is free (assumption 2). -/
def sendErratum (x : Item) (s : State) : State :=
  match x.eff with
  | .run n tr =>
    let (sm, s1) : Nat × State := match tr with
      | some k => (k, s)
      | none => (let (v, u) := s.drawFree 20; (v.toNat, u))
    let s3 := if s1.bit (R.CATG_CUn_CTL n) F.CATG_CUn_CTL_RUN then s1.addSat R.CAT_WDRAW F.CAT_WDRAW_ERRATA 1 else s1
    cuTrigger n { shelf := sm, kind := 0b10#2, stamp := s.now, word := s.rdMem (catA sm 1) } s3
  | _ => s

/-- A context fails (R210). -/
def ctxFail (p : Nat) (a : Await) (s : State) : State :=
  let r := s.rx p
  if !r.open_ then s
  else
    let s0 := if r.vals.isEmpty then s else s.addSat R.CAT_WDRAW F.CAT_WDRAW_WITHDRAWN 1
    let s1 := closeRx p a s0
    let hit := s1.cat.items.filter fun x => x.mask.getLsbD p
    let s2 := copiesFail p (hit.foldl (fun t x => undoItem x t) s1)
    let s3 := (List.range 64).foldl (fun t n =>
      if (t.cu n).mask.getLsbD p || (t.cu n).q.any (fun y => y.mask.getLsbD p) then
        t.setCu n { t.cu n with failed := (t.cu n).failed || (t.cu n).mask.getLsbD p
                                q := (t.cu n).q.filter fun y => !y.mask.getLsbD p }
      else t) s2
    let s4 := { s3 with cat := { s3.cat with emits := s3.cat.emits.filter fun e => !e.mask.getLsbD p } }
    let s5 := setItems (s4.cat.items.filter fun x => !x.mask.getLsbD p) s4
    hit.foldl (fun t x => sendErratum x t) s5

/-- Step 5 of R209: context p's bit leaves every mask; items and words that depend on nothing more retire or act. -/
def clearContext (p : Nat) (s : State) : State :=
  let bit (x : Item) : Bool := x.mask.getLsbD p
  let done := s.cat.items.filter fun x => bit x && decide (unmask p x.mask = 0)
  let s1 := setItems ((s.cat.items.filter fun x => !(bit x && decide (unmask p x.mask = 0))).map
    fun x => { x with mask := unmask p x.mask }) s
  let s2 := (List.range 64).foldl (fun t n =>
    let k := t.cu n
    if (k.mask.getLsbD p && !k.failed) || k.q.any (fun y => y.mask.getLsbD p) then
      t.setCu n { k with mask := if k.failed then k.mask else unmask p k.mask, q := k.q.map fun y => { y with mask := unmask p y.mask } }
    else t) s1
  -- computed entries are accessioned as their items retire
  let s3 := done.foldl (fun t x => match x.eff with
    | .entry sm acted =>
      let (d, t1) := engRead (catA sm 2) t
      if (descOf d).kind = 3 then
        let w := t1.rdMem (catA sm 0)
        let w1 := mkw (wv w) (pSetProv false (wp w))
        queueWalk sm w1 0 1 acted t.now .none (accession sm w1 t.now t1)
      else t1
    | _ => t) s2
  let ready := s3.cat.emits.filter fun e => e.mask.getLsbD p && decide (unmask p e.mask = 0)
  let s4 := { s3 with cat := { s3.cat with
    emits := (s3.cat.emits.filter fun e => !(e.mask.getLsbD p && decide (unmask p e.mask = 0))).map fun e => { e with mask := unmask p e.mask } } }
  ready.foldl (fun t e =>
    { t with cat := { t.cat with walks := t.cat.walks ++
      [{ shelf := e.map, map := true, ptr := e.ptr, word := mkw (wv e.word) (pSetProv false (wp e.word)), mode := 1, acted := e.acted,
         stamp := t.now }] } }) s4

/-- A context passes (R209). -/
def ctxPass (p : Nat) (s : State) : State :=
  let r := s.rx p
  if !r.open_ then s
  else if r.ovf then ctxFail p .none s
  else
    let stamp := s.now
    let s1 := closeRx p .none s
    let s2 := r.chks.foldl (fun t c => e2eAccess c t) s1
    let s3 := r.vals.foldl (fun t v => accession v.shelf v.word stamp t) s2
    let s4 := r.vals.foldl (fun t v =>
      queueWalk v.shelf (mkw (wv v.word) (pSetProv false (wp v.word))) 0 1 v.acted stamp .none t) s3
    runWalks walkFuel (clearContext p (copiesPass p (runWalks walkFuel s4)))

/-- PASS_VERDICT (R204, R209): a verdict for a context that its due time closed is counted; one for a context that a tile
reset closed is ignored (R650). -/
def lateVerdict (p : Nat) (s : State) : State :=
  let r := s.rx p
  match r.await with
  | .none => s
  | .ignore => s.setRx p { r with await := .none }
  | .late => catErr F.CAT_ERR_CNT_LATE_VERDICT 0x458 (s.setRx p { r with await := .none })

/-- PASS_VERDICT (R209). -/
def execPassVerdict (p : Fin 48) (s : State) : Host.Outcome State Fault Refusal :=
  .next (if (s.rx p.val).open_ then ctxPass p.val s else lateVerdict p.val s)
/-- FAIL_VERDICT (R210). -/
def execFailVerdict (p : Fin 48) (s : State) : Host.Outcome State Fault Refusal :=
  .next (if (s.rx p.val).open_ then ctxFail p.val .none s else lateVerdict p.val s)
/-- DUE_TIME_EXPIRY (R204): no verdict by the due time. -/
def execDueTimeExpiry (p : Fin 48) (s : State) : Host.Outcome State Fault Refusal :=
  .next (if (s.rx p.val).open_ ∧ (s.reg (R.CAT_RXp_DUE p.val)).toNat ≤ s.now then ctxFail p.val .late s else s)

/-- The directory word of a frame on source p, and the greatest length of a switch frame, where the frame has one
(R180, R187, R304): for CAN the buffer it matched, for LIN the identifier, for the switch its stream entry with INTAKE. -/
def directoryOf (p : Nat) (s : State) : Option Nat :=
  if p < 16 then (if (s.can p).rxOn then (s.can p).rxBuf.map fun b => 256 * p + b else none)
  else if p < 24 then
    match (s.lin (p - 16)).hdr with
    | some i => if frDir (p - 16) i 2 s then some (0x1000 + 64 * (p - 16) + i) else none
    | none => none
  else if p = 36 ∨ p = 46 ∨ p = 47 then none
  else match (s.port (p - 24)).rx with
    | some f => f.intake.map fun e => 0x1200 + e
    | none => none

/-- RECEPTION_CONTEXT_OPEN (R188, R202, R305, R327). -/
def execReceptionContextOpen (p : Fin 48) (left : Left) (s : State) : Host.Outcome State Fault Refusal :=
  .next (match directoryOf p.val s with
    | none => s
    | some o =>
      if !s.bit R.CAT_CTL F.CAT_CTL_INTAKE_EN ∨ (s.rx p.val).open_ then s
      else
        let (x, s1) := engRead (slipA o) s
        let count := wf x 20 8
        let ml := wf x 28 12
        let sw := decide (24 ≤ p.val)
        let bad := decide (wf x 40 24 ≠ 0) || (sw && decide (ml ≠ 0) && (decide (ml < 64) || decide (2308 < ml))) || (!sw && decide (ml ≠ 0))
        if count = 0 then s1
        else if bad then s1.addSat R.CAT_ERR_CNT F.CAT_ERR_CNT_DROPPED 1
        else
          let maxlen := if ml = 0 then s1.get (R.ETH_Pp_CTL (p.val - 24)) F.ETH_Pp_CTL_MAX_FRAME else ml
          let got := match (s1.port (p.val - 24)).rx with
            | some f => f.octets.length
            | none => 0
          republish p.val left got (s1.setRx p.val { open_ := true, ptr := wf x 0 20, count := count, maxlen := if sw then maxlen else 0 }))

/-- Room in a tile's intake queue, which drains one value each ns (R243, R244), and the state with the value queued. -/
def intakeRoom (t : Nat) (s : State) : Bool × State :=
  let (n, at_) := spGet (fun _ => (0, 0)) s.cat.inq t
  let lvl := n - (s.now - at_)
  if lvl < 256 then (true, { s with cat := { s.cat with inq := spPut (fun _ => (0, 0)) s.cat.inq t (lvl + 1, s.now) } }) else (false, s)

/-- The check word that covers intake word i of a list (R189). -/
def coverChk (ptr i : Nat) (s : State) : Option Nat :=
  (List.range i).reverse.find? fun j => (s.rdMem (slipA (ptr + j))).getLsbD 0

/-- A received value enters the catalogue (R191, R206, R212, R213, R244). -/
def intake (p sm : Nat) (w : Word) (chk : Option Nat) (noprov : Bool) (s : State) : State :=
  let (room, s1) := intakeRoom (sm / 2 ^ 18) s
  let r := s1.rx p
  if !room then catErr F.CAT_ERR_CNT_INTAKE_OVF 0x451 (s1.setRx p { r with ovf := true })
  else
    let has := isProvisional sm s1
    let add (wr : Bool) (u : State) : State :=
      u.setRx p { u.rx p with vals := (u.rx p).vals ++ [{ shelf := sm, word := w, chk := chk, written := wr }] }
    -- in DOZE with a divided catalogue every entry is treated as NOPROV (R588)
    let slow := decide (s.power.pstate = .doze) && decide (s.get R.SYS_CLK_CTL F.SYS_CLK_CTL_CAT_DIV ≠ 0)
    if noprov || slow then add false s1
    else if !has && !itemFree s1 then ledgerFull (add false s1)
    else
      let s2 := if has then s1 else takeItem { mask := 1#48 <<< p, eff := .entry sm [] } s1
      runWalks walkFuel (queueWalk sm w (1#48 <<< p) 0 [] s2.now (.rx p sm) ((add true s2).wrMem (catA sm 0) w))

/-- A signal word's field has arrived (R190 to R192). -/
def signalWord (p i : Nat) (x : Word) (frame : Octets) (s : State) : State :=
  let sm := wf x 1 20
  let len := wf x 36 6 + 1
  let moto := decide (wf x 42 2 = 1)
  let ps := positions (wf x 21 15) moto len
  let (dw, s1) := engRead (catA sm 2) s
  let d := descOf dw
  let bad := decide (wf x 46 18 ≠ 0) || decide (18463 < wf x 21 15) || decide (2 ≤ wf x 42 2) || decide (d.kind ≠ 1) || decide (d.src ≠ p) ||
    ps.any (fun b => decide (frame.length ≤ b / 8))
  if bad then s1.addSat R.CAT_ERR_CNT F.CAT_ERR_CNT_DROPPED 1
  else
    let v := unpack frame ps moto
    let ext : BitVec 64 := if x.getLsbD 44 && decide (2 ^ (len - 1) ≤ v) then BitVec.ofInt 64 ((v : Int) - 2 ^ len) else BitVec.ofNat 64 v
    let vl : BitVec 2 := if x.getLsbD 45 && decide (v = 2 ^ len - 1) then 0b10#2 else 0b00#2
    let r := s1.rx p
    let en := s1.bit R.CAT_CTL F.CAT_CTL_E2E_EN
    let chk := if en then coverChk r.ptr i s1 else none
    let e2e : BitVec 2 := match chk with
      | some j => (match r.chks.find? fun c => c.idx = j with | some c => c.e2e | none => 0)
      | none => 0
    intake p sm (mkw ext (mkProv vl false true e2e d.crit)) chk d.noprov s1

/-- FIELD_UNPACK (R191, R203, R204, R234): bits of the frame on source p arrive (`frame` is what has arrived so far and
`left` what is still to come); the field or check region of intake word i ends with them. With i beyond the list only
the due time is republished. -/
def execFieldUnpack (p : Fin 48) (i : BitVec 8) (frame : Octets) (left : Left) (s : State) : Host.Outcome State Fault Refusal :=
  .next (
    let r := s.rx p.val
    if !r.open_ then s
    else if 24 ≤ p.val ∧ r.maxlen < frame.length then ctxFail p.val .none s
    else
      let s1 := republish p.val left frame.length s
      if r.count ≤ i.toNat then s1
      else
        let (x, s2) := engRead (slipA (r.ptr + i.toNat)) s1
        if x.getLsbD 0 then (if s2.bit R.CAT_CTL F.CAT_CTL_E2E_EN then checkWord p.val i.toNat x frame s2 else s2)
        else signalWord p.val i.toNat x frame s2)

/-- CATW_SLIP_WALK (R186): the oldest queued list is walked, with what it leads to. -/
def execCatwSlipWalk (s : State) : Host.Outcome State Fault Refusal := .next (runWalks walkFuel s)

/-! ### Timeouts (R215 to R218) -/

/-- TIMEOUT_ACTION (R216): the sweeper finds the entry expired. -/
def execTimeoutAction (sm : BitVec 20) (s : State) : Host.Outcome State Fault Refusal :=
  let k := sm.toNat
  let (dw, s1) := engRead (catA k 2) s
  let (tw, s2) := engRead (catA k 3) s1
  let d := descOf dw
  .next (
    if !s.bit R.CAT_CTL F.CAT_CTL_SWEEP_EN || tileClosed (.catMem ⟨k / 2 ^ 18 % 4, Nat.mod_lt _ (by decide)⟩) s || !staleTest d tw s.now ||
        tw.getLsbD 64 || decide (d.kind = 0) then s
    else
      let (c, s3) := engRead (catA k 1) s2
      let p := wp c
      let (hd, s4) := if d.subst = 1 then engRead (slipA d.ptr) s3 else (c, s3)
      let c1 : Word := match d.subst with
        | 1 => mkw (wv hd) (mkProv 0b01#2 true (pProv p) 0b00#2 (pCrit p))
        | 2 => mkw (wv c) (pSetStale true (pSetVal 0b10#2 p))
        | _ => mkw (wv c) (pSetStale true p)
      let t1 : Word := timingWord tw true (tw.extractLsb' 48 16) s.now
      let s5 := (s4.wrMem (catA k 1) c1).wrMem (catA k 3) t1
      let s6 := if isProvisional k s5 then s5 else s5.wrMem (catA k 0) c1
      let s7 := mirrorOffer k c1 t1 s.now s6
      let s8 := if d.subst = 0 then s7 else runWalks walkFuel (queueWalk k c1 0 2 [] s.now .none s7)
      if s8.bit R.CAT_CTL F.CAT_CTL_TO_EVT then raiseLib (0x454 + k / 2 ^ 18) k s8 else s8)

/-! ### Tile reset of catalogue memory (R650) -/

/-- A context holds a value of tile t, or a template field in t's share of the slip store depends on it. -/
def heldByTile (t p : Nat) (s : State) : Bool :=
  (s.rx p).open_ &&
  ((s.rx p).vals.any (fun v => decide (v.shelf / 2 ^ 18 = t)) ||
   s.cat.items.any fun x => x.mask.getLsbD p && (match x.eff with
     | .field bs => bs.any fun e => decide (e.1 / 72 / 2 ^ 18 = t)
     | .entry sm _ => decide (sm / 2 ^ 18 = t)
     | _ => false))

/-- The contexts that a reset of catalogue memory tile t fails (R650). -/
def tileContexts (t : Nat) (s : State) : State :=
  (List.range 48).foldl (fun u p => if heldByTile t p u then ctxFail p .ignore u else u) s

/-! ### Cataloguers (R221 to R224, R227) -/

/-- RUN is set (R221): the queue clears, L1 to L31 are 0 with provenance 0xC0, and the program starts at ENTRY. -/
def cuStart (n : Nat) (s : State) : State := s.setCu n { pc := s.get (R.CATG_CUn_CTL n) F.CATG_CUn_CTL_ENTRY }

/-- RUN is cleared (R221): the queue is discarded and the registers keep their values. -/
def cuStop (n : Nat) (s : State) : State :=
  let k := s.cu n
  s.setCu n { k with q := [], waitRd := none, stalled := false }

/-- A cataloguer fails (R227). -/
def cuFault (n cause : Nat) (s : State) : State :=
  let pc := (s.cu n).pc
  let a := R.CATG_CUn_STAT n
  let s1 := cuStop n (s.set (R.CATG_CUn_CTL n) F.CATG_CUn_CTL_RUN 0)
  let s2 := ((s1.flag a F.CATG_CUn_STAT_FAULT).set a F.CATG_CUn_STAT_CAUSE cause).set a F.CATG_CUn_STAT_FPC pc
  cuNotice n cause pc s2

/-- A cataloguer finds no free ledger item and stalls (R213). -/
def cuStall (n : Nat) (s : State) : State :=
  let k := s.cu n
  if k.stalled then s else ledgerFull (s.setCu n { k with stalled := true })

/-- The header of a trigger (R223). -/
def trigHeader (x : Trig) (lost : Bool) : Word :=
  (BitVec.ofNat 37 x.stamp) ++ (BitVec.ofBool lost) ++ (BitVec.ofBool x.prov) ++ x.kind ++ (BitVec.ofNat 11 x.tag) ++ (BitVec.ofNat 20 x.shelf)

/-- A ledger register of a cataloguer; L0 reads as value 0 with provenance 0xC0 (R35). -/
def Cu.get (k : Cu) (r : Nat) : Word := if r = 0 then immw 0 else spGet (fun _ => immw 0) k.l r
/-- Write a ledger register of a cataloguer. -/
def Cu.put (k : Cu) (r : Nat) (w : Word) : Cu := if r = 0 then k else { k with l := spPut (fun _ => immw 0) k.l r w }

/-- TRIGGER_DELIVERY (R223, R224): a waiting cataloguer takes its oldest trigger and its run starts, with a ledger item
where the triggering word is provisional. -/
def execTriggerDelivery (n : Fin 64) (s : State) : Host.Outcome State Fault Refusal :=
  let k := s.cu n.val
  .next (if !s.bit (R.CATG_CUn_CTL n.val) F.CATG_CUn_CTL_RUN then s
    else match k.waitRd, k.q with
    | some rd, x :: t =>
      if x.mask ≠ 0 ∧ !itemFree s then cuStall n.val s
      else
        let tr := if x.kind = 0b10#2 then none else some x.shelf
        let k1 : Cu := { (k.put rd (trigHeader x k.lost)).put (rd + 1) x.word with
          pc := k.pc + 1, waitRd := none, q := t, lost := false, mask := x.mask, failed := false, trig := tr, count := 0, stalled := false }
        let s1 := s.setCu n.val k1
        if x.mask ≠ 0 then takeItem { mask := x.mask, eff := .run n.val tr } s1 else s1
    | _, _ => s)

/-- LEDGER_STALL_END (R213): an item is free and the cataloguer resumes. -/
def execLedgerStallEnd (n : Fin 64) (s : State) : Host.Outcome State Fault Refusal :=
  let k := s.cu n.val
  .next (if k.stalled ∧ itemFree s then s.setCu n.val { k with stalled := false } else s)

/-- The item of a run, as its mask now stands (R224): taken when the mask becomes non-empty, widened by a later CATRP. -/
def runItem (n : Nat) (mask : BitVec 48) (s : State) : State :=
  let isRun (x : Item) : Bool := match x.eff with
    | .run k _ => decide (k = n)
    | _ => false
  let k := s.cu n
  if k.mask = 0 then takeItem { mask := mask, eff := .run n k.trig } (s.setCu n { k with mask := mask })
  else
    let l := match (s.cat.items.reverse.findIdx? isRun) with
      | none => s.cat.items
      | some i => (s.cat.items.reverse.modify i (fun x => { x with mask := x.mask ||| mask })).reverse
    setItems l (s.setCu n { k with mask := k.mask ||| mask })

/-! ### Register writes of the CAT, CATG and COLL blocks (R228, R233, R246, R247) -/

/-- Collation units lent to the catalogue. -/
def lentUnits (s : State) : Nat := ((List.range 16).filter fun u => (s.reg R.CAT_E2E_POOL).getLsbD u).length

/-- Writes of the CAT block that R228 and R246 refuse. -/
def catRefuses (a : Nat) (nv : BitVec 64) (s : State) : Bool :=
  if a = R.CAT_CTL then decide (fget nv F.CAT_CTL_E2E_EN = 1) && !s.bit R.CAT_CTL F.CAT_CTL_E2E_EN && decide (lentUnits s < 3)
  else if a = R.CAT_E2E_POOL then s.bit R.CAT_CTL F.CAT_CTL_E2E_EN
  else false

/-- What a write of the CAT block does beside setting fields. -/
def catActs (a : Nat) (w : BitVec 64) (s : State) : State :=
  if a = R.CAT_CNT_CLR then
    if w.getLsbD 0 then
      let s1 := (((s.set R.CAT_PROV_STAT F.CAT_PROV_STAT_PEAK 0).set R.CAT_PROV_STAT F.CAT_PROV_STAT_FULL_CNT 0).setReg R.CAT_WDRAW 0#64).setReg
        R.CAT_ERR_CNT 0#64
      let s2 := s1.set R.CAT_REFLEX_STAT F.CAT_REFLEX_STAT_PEAK 0
      { s2 with cat := { s2.cat with fullSeen := false } }
    else s
  else s

/-- Writes of the CATG registers that R247 refuses; `w` is the written word. -/
def catgRefuses (a : Nat) (w : BitVec 64) (s : State) : Bool :=
  let o := offsetOf a
  if 0x8000 ≤ o ∧ o < 0x8200 ∧ o % 8 = 0 then
    s.bit a F.CATG_CUn_CTL_RUN && decide (w ≠ fput (s.reg a) F.CATG_CUn_CTL_RUN 0)
  else false

/-- What a write of the CATG registers does beside setting fields. -/
def catgActs (a : Nat) (old w : BitVec 64) (s : State) : State :=
  let o := offsetOf a
  if 0x8000 ≤ o ∧ o < 0x8200 ∧ o % 8 = 0 then
    let n := (o - 0x8000) / 8
    if fget old F.CATG_CUn_CTL_RUN = 0 ∧ fget w F.CATG_CUn_CTL_RUN = 1 then cuStart n s
    else if fget old F.CATG_CUn_CTL_RUN = 1 ∧ fget w F.CATG_CUn_CTL_RUN = 0 then cuStop n s
    else s
  else s

/-- A collation unit beside its registers. -/
def State.collU (s : State) (u : Nat) : CollSt := spGet (fun _ => ({} : CollSt)) s.coll u
/-- Replace a collation unit. -/
def State.setColl (s : State) (u : Nat) (x : CollSt) : State := { s with coll := spPut (fun _ => ({} : CollSt)) s.coll u x }

/-- The parameters a unit's registers select (R231). -/
def collParams (u : Nat) (s : State) : CrcP :=
  let c := R.COLL_Un_CTL u
  if s.get c F.COLL_Un_CTL_POLY = 8 then
    { width := s.get c F.COLL_Un_CTL_WIDTH + 1, poly := s.reg (R.COLL_Un_POLY u), init := s.reg (R.COLL_Un_INIT u),
      refin := s.bit c F.COLL_Un_CTL_REFIN, refout := s.bit c F.COLL_Un_CTL_REFOUT, xorout := s.reg (R.COLL_Un_XOROUT u) }
  else crcFixed (s.get c F.COLL_Un_CTL_POLY)

/-- Writes of the COLL block that R228 and R233 refuse: a lent unit, and RUN, ADDR, LEN or CTL of a busy one but for STOP. -/
def collRefuses (a : Nat) (w : BitVec 64) (s : State) : Bool :=
  let o := offsetOf a
  if o < 0x100 then
    let u := o / 16
    let k := o % 16
    let busy := s.bit (R.COLL_Un_STAT u) F.COLL_Un_STAT_BUSY
    (s.reg R.CAT_E2E_POOL).getLsbD u ||
    (busy && (decide (k = 4) || decide (k = 5) || decide (k = 6) ||
      (decide (k = 0) && decide (fput w F.COLL_Un_CTL_STOP 0 ≠ s.reg a)))) ||
    (decide (k = 0) && decide (fget w F.COLL_Un_CTL_START = 1) && ownerAbsent (R.COLL_Un_OWN u) s)
  else false

/-- What a write of the COLL block does beside setting fields: START and STOP (R232, R233). -/
def collActs (a : Nat) (w : BitVec 64) (s : State) : State :=
  let o := offsetOf a
  if o < 0x100 ∧ o % 16 = 0 then
    let u := o / 16
    let busy := s.bit (R.COLL_Un_STAT u) F.COLL_Un_STAT_BUSY
    if busy then (if fget w F.COLL_Un_CTL_STOP = 1 then s.setColl u { s.collU u with stopAt := some s.now } else s)
    else if fget w F.COLL_Un_CTL_START = 1 then
      let s1 := if fget w F.COLL_Un_CTL_RESUME = 1 then s else s.setReg (R.COLL_Un_RUN u) (crcStart (collParams u s))
      (s1.set (R.COLL_Un_STAT u) F.COLL_Un_STAT_BUSY 1).setColl u { since := s.now, stopAt := none }
    else s
  else s

end Sys2Proof.Machine
end

