-- ==== Sys2Proof/Machine/CanEvents.lean ====
section
/-!
DEFINITION. What happens on the CAN and LIN buses (spec/07_can_and_lin.md R304 to R327): frames matched, received and
stored, transmit attempts, error states, escalation, the tunnel's messages, and the LIN schedule.
-/
namespace Sys2Proof.Machine

open Sys2Proof

/-- CAN controller n's tile. -/
def canTile (n : Nat) : Tile := .can ⟨n / 4 % 4, Nat.mod_lt _ (by decide)⟩
/-- Is the controller on the bus for a new frame (R315, R339, R651)? -/
def canLive (n : Nat) (s : State) : Bool :=
  s.bit (R.CANn_CTL n) F.CANn_CTL_EN && decide (s.get (R.CANn_ERR n) F.CANn_ERR_STATE ≠ 2) && !segOff n s && !tileClosed (canTile n) s

/-! ### Error states (R314 to R316) -/

/-- The state that the counters give (R314); bus-off lasts until its recovery (R315). -/
def canStateOf (tec rec_ : Nat) : Nat := if 255 < tec then 2 else if 127 < tec ∨ 127 < rec_ then 1 else 0

/-- Set the counters; a change of state raises its event, and bus-off fails the open context (R314, R315). -/
def canErrSet (n tec rec_ : Nat) (s : State) : State :=
  let a := R.CANn_ERR n
  let old := s.get a F.CANn_ERR_STATE
  let st := if old = 2 then 2 else canStateOf tec rec_
  let t := min tec 511
  let r := min rec_ 255
  let s1 := ((s.set a F.CANn_ERR_TEC t).set a F.CANn_ERR_REC r).set a F.CANn_ERR_STATE st
  if st = old then s1
  else
    let s2 := canEvent n 1 (st + t * 256 + r * 2 ^ 24) (ownDest (R.CANn_OWN n) s1) s1
    if st = 2 then
      let c := s2.can n
      let s3 := s2.setCan n { c with rxOn := false, rxBuf := none, att := none, recover := s2.bit (R.CANn_CTL n) F.CANn_CTL_BO_AUTO }
      canCount n 4 (ctxFail n .none s3)
    else s2

/-- A valid frame or an acknowledgement ends the count of acknowledgement errors (R316). -/
def noackClear (n : Nat) (s : State) : State := (s.set (R.CANn_ERR n) F.CANn_ERR_NOACK 0).setCan n { s.can n with noackDone := false }

/-- CAN_ERROR_DETECTED (R314, R316): `kind` is the error in the code of LEC, 7 a protocol exception; `tx` says that the
controller transmits, `strong` that ISO 11898-1 adds 8 and not 1 to a receiver's counter. -/
def execCanErrorDetected (n : Fin 16) (kind : BitVec 3) (tx strong : Bool) (s : State) : Host.Outcome State Fault Refusal :=
  let a := R.CANn_ERR n.val
  let c := s.can n.val
  .next (
    if !canLive n.val s && !c.rxOn && c.att.isNone then s
    else if kind = 0 then s
    else if kind = 7 then
      (if s.bit (R.CANn_CTL n.val) F.CANn_CTL_PXHD then s
       else canEvent n.val 6 0 (ownDest (R.CANn_OWN n.val) s) (s.setCan n.val { c with rxOn := false, rxBuf := none }))
    else
      let s1 := s.set a F.CANn_ERR_LEC kind.toNat
      let tec := s1.get a F.CANn_ERR_TEC
      let rec_ := s1.get a F.CANn_ERR_REC
      if tx then
        let s2 := canCount n.val 3 s1
        let passive := decide (s1.get a F.CANn_ERR_STATE = 1)
        let s3 := if kind = 3 ∧ passive = true then s2 else canErrSet n.val (tec + 8) rec_ s2
        if kind = 3 then
          let k := min (s3.get a F.CANn_ERR_NOACK + 1) 255
          let lim := s3.get (R.CANn_CTL n.val) F.CANn_CTL_NOACK_LIMIT
          let s4 := s3.set a F.CANn_ERR_NOACK k
          if lim ≠ 0 ∧ lim ≤ k ∧ (s4.can n.val).noackDone = false then
            canEvent n.val 2 k (ownDest (R.CANn_OWN n.val) s4) (s4.setCan n.val { s4.can n.val with noackDone := true })
          else s4
        else s3
      else
        let s2 := canErrSet n.val tec (rec_ + (if strong then 8 else 1)) (canCount n.val 2 s1)
        ctxFail n.val .none s2)

/-- BUS_OFF_RECOVERY_DONE (R315): the 128th run of 11 recessive bits. -/
def execBusOffRecoveryDone (n : Fin 16) (s : State) : Host.Outcome State Fault Refusal :=
  let a := R.CANn_ERR n.val
  .next (if s.get a F.CANn_ERR_STATE = 2 ∧ (s.can n.val).recover = true then
      let s1 := ((s.set a F.CANn_ERR_TEC 0).set a F.CANn_ERR_REC 0).set a F.CANn_ERR_STATE 0
      canEvent n.val 1 0 (ownDest (R.CANn_OWN n.val) s1) (s1.setCan n.val { s1.can n.val with recover := false })
    else s)

/-! ### Reception (R304 to R307, R317) -/

/-- The lowest enabled receive buffer whose ID agrees with the frame where AUX marks it; ESI is not compared (R304). -/
def canMatch (n : Nat) (id : BitVec 52) (s : State) : Option Nat :=
  (List.range 256).find? fun b =>
    s.bit (mbCfg n b) F.CANn_MBb_CFG_EN && !s.bit (mbCfg n b) F.CANn_MBb_CFG_DIR &&
    decide (((s.reg (R.CANn_MBb_ID n b)).setWidth 52 ^^^ id) &&& (s.reg (R.CANn_MBb_AUX n b)).setWidth 52 &&& ~~~(1#52 <<< 33) = 0#52)

/-- CAN_FRAME_MATCH (R304, R305): the last filtered bit of a frame whose start-of-frame bit came `ago` ns before. -/
def execCanFrameMatch (n : Fin 16) (id : BitVec 52) (ago : BitVec 32) (s : State) : Host.Outcome State Fault Refusal :=
  .next (if canLive n.val s then
      s.setCan n.val { s.can n.val with rxOn := true, rxBuf := canMatch n.val id s, rxSof := s.now - ago.toNat, rxId := id }
    else s)

/-- The store pass of R307 into buffer b. -/
def canStore (n b : Nat) (f : CanFrame) (sof : Nat) (s : State) : State :=
  let st := mbStat n b
  let lost := s.bit st F.CANn_MBb_STAT_ND
  let s1 := (s.flag st F.CANn_MBb_STAT_ND).addWrap st F.CANn_MBb_STAT_SEQ 1
  let s2 := if lost then canEvent n 4 b (mbDest n b s1) (canCount n 5 (s1.flag st F.CANn_MBb_STAT_LOST)) else s1
  let s3 := mbWriteData n b f (s2.setReg (R.CANn_MBb_ID n b) (f.id.setWidth 64))
  (s3.set st F.CANn_MBb_STAT_LEN f.data.length).set st F.CANn_MBb_STAT_STAMP (shortStamp sof)

/-- The notice of a buffer that received or completed a frame (R331). -/
def mbNotify (n b : Nat) (tx : Bool) (s : State) : State :=
  if s.bit (mbCfg n b) F.CANn_MBb_CFG_NOTIFY then
    canEvent n 0 (b + (if tx then 256 else 0) + s.get (mbStat n b) F.CANn_MBb_STAT_SEQ * 2 ^ 20) (mbDest n b s) s
  else s

/-- CAN_FRAME_END (R307, R317): the frame being received ends, validly with its data or in error. -/
def execCanFrameEnd (n : Fin 16) (ok : Bool) (data : Octets) (rlen : BitVec 12) (af : BitVec 32) (s : State) : Host.Outcome State Fault Refusal :=
  let c := s.can n.val
  .next (
    if !c.rxOn then s
    else
      let s0 := s.setCan n.val { c with rxOn := false, rxBuf := none }
      if !ok then ctxFail n.val .none s0
      else
        let a := R.CANn_ERR n.val
        let rec_ := s0.get a F.CANn_ERR_REC
        let (r1, s1) : Nat × State :=
          if rec_ = 0 then (0, s0) else if rec_ ≤ 127 then (rec_ - 1, s0)
          else (let (v, u) := s0.drawFree 4; (119 + v.toNat % 9, u))
        let s2 := canCount n.val 0 (noackClear n.val (canErrSet n.val (s1.get a F.CANn_ERR_TEC) r1 s1))
        match c.rxBuf with
        | none => s2
        | some b =>
          let f : CanFrame := { id := c.rxId, data := if c.rxId.getLsbD 30 then [] else data, rlen := rlen.toNat, af := af }
          let cfg := mbCfg n.val b
          if !s2.bit cfg F.CANn_MBb_CFG_EN || s2.bit cfg F.CANn_MBb_CFG_DIR then s2
          else
            let s3 := if s2.bit cfg F.CANn_MBb_CFG_STORE then canStore n.val b f c.rxSof s2 else s2
            let s4 := mbNotify n.val b false s3
            if s4.bit (R.CANn_TUN n.val) F.CANn_TUN_EN && s4.bit cfg F.CANn_MBb_CFG_TUN && !c.rxId.getLsbD 34 then
              let m : AcfMsg := { lin := false, bus := n.val, frame := f, gtc := c.rxSof }
              canCount n.val 9 { s4 with sw := { s4.sw with tunIn := s4.sw.tunIn ++ [(s4.get (R.CANn_TUN n.val) F.CANn_TUN_CTX, m)] } }
            else s4)

/-! ### Transmission (R309, R310, R312, R313, R319) -/

/-- The frame with the lowest arbitration field; a tie goes to the lower number, the tunnel head last (R309). -/
def bestTx : List (Nat × CanFrame) → Option (Nat × CanFrame)
  | [] => none
  | x :: t => match bestTx t with
    | none => some x
    | some y => if arbKey y.2 < arbKey x.2 then some y else some x

/-- The requests that compete (R309). -/
def txContenders (n : Nat) (s : State) : List (Nat × CanFrame) :=
  (((List.range 256).filter fun b => mbTx n b s && mbReq n b s).map fun b => (b, mbFrame n b s)) ++
  (match (s.can n).tq with
   | [] => []
   | f :: _ => [(256, f)])

/-- CAN_TX_ATTEMPT_START (R309): arbitration begins for the highest-priority request, and its data is copied. -/
def execCanTxAttemptStart (n : Fin 16) (s : State) : Host.Outcome State Fault Refusal :=
  let c := s.can n.val
  let ctl := R.CANn_CTL n.val
  .next (
    if !canLive n.val s || segListens n.val s || s.bit ctl F.CANn_CTL_MONITOR || s.bit ctl F.CANn_CTL_RESTRICT || c.att.isSome || c.rxOn ||
        (s.bit ctl F.CANn_CTL_NOACK_STOP && c.noackDone) then s
    else match bestTx (txContenders n.val s) with
      | none => s
      | some (b, f) =>
        let p := s.get (mbCfg n.val b) F.CANn_MBb_CFG_DPTR
        let k := if b = 256 then 0 else s.get (mbCfg n.val b) F.CANn_MBb_CFG_DSIZE
        match poolScan ((List.range k).map fun j => poolAddr n.val (p + j)) s with
        | (true, s1) => s1.setCan n.val { s1.can n.val with att := some { buf := b, frame := f, sof := s.now } }
        | (false, s1) =>
          (List.range 4).foldl (fun x j => ctxFail (4 * (n.val / 4) + j) .late x) (canCount n.val 3 (reqAgain n.val b s1 (failReq n.val b s1))))

/-- CAN_TX_ATTEMPT_END (R309, R310): the attempt on the bus succeeds or fails. -/
def execCanTxAttemptEnd (n : Fin 16) (ok : Bool) (s : State) : Host.Outcome State Fault Refusal :=
  let c := s.can n.val
  .next (match c.att with
    | none => s
    | some a =>
      let s0 := s.setCan n.val { c with att := none }
      if ok then
        let e := R.CANn_ERR n.val
        let s1 := canCount n.val 1 (noackClear n.val (canErrSet n.val (s0.get e F.CANn_ERR_TEC - 1) (s0.get e F.CANn_ERR_REC) s0))
        if a.buf = 256 then
          let t := (s1.can n.val).tq.drop 1
          (s1.setCan n.val { s1.can n.val with tq := t }).set (R.CANn_TUN n.val) F.CANn_TUN_TQ_DEPTH t.length
        else
          let st := mbStat n.val a.buf
          mbNotify n.val a.buf true (reqAgain n.val a.buf s1 (((clearReq n.val a.buf s1).flag st F.CANn_MBb_STAT_TXOK).set st F.CANn_MBb_STAT_STAMP
            (shortStamp a.sof)))
      else if a.buf = 256 then s0
      else if a.noRetry then s0.flag (mbStat n.val a.buf) F.CANn_MBb_STAT_TXFAIL
      else if s0.bit (mbCfg n.val a.buf) F.CANn_MBb_CFG_SINGLE then reqAgain n.val a.buf s0 (failReq n.val a.buf s0)
      else s0)

/-- CAN_DEFERRED_COPY (R312). -/
def execCanDeferredCopy (n : Fin 16) (b : BitVec 8) (s : State) : Host.Outcome State Fault Refusal := .next (deferredCopy n.val b.toNat s)

/-- CAN_ESCALATION (R313): the request's DEADLINE passes unfinished; a request escalates at most once. -/
def execCanEscalation (n : Fin 16) (b : BitVec 8) (s : State) : Host.Outcome State Fault Refusal :=
  let c := s.can n.val
  let aux := R.CANn_MBb_AUX n.val b.toNat
  .next (match c.reqAt.find? fun e => e.1 = b.toNat with
    | none => s
    | some (_, t) =>
      if !mbTx n.val b.toNat s || !mbReq n.val b.toNat s || !s.bit aux F.CANn_MBb_AUX_ESC_EN || c.esc.contains b.toNat ||
          decide (s.now < t + 1000 * s.get aux F.CANn_MBb_AUX_DEADLINE) then s
      else
        let s1 := s.setCan n.val { c with esc := b.toNat :: c.esc }
        canEvent n.val 3 b.toNat (mbDest n.val b.toNat s1) (canCount n.val 6 (s1.flag (mbStat n.val b.toNat) F.CANn_MBb_STAT_ESCALATED)))

/-- A decapsulated message for CANn (R319, R340). -/
def canTunnel (n : Nat) (f : CanFrame) (s : State) : State :=
  let c := s.can n
  let tun := R.CANn_TUN n
  let fd := f.id.getLsbD 31
  let drop := !s.bit tun F.CANn_TUN_DEC_EN || decide (32 ≤ c.tq.length) || (fd && decide (s.get (R.CANn_CTL n) F.CANn_CTL_MODE = 0)) ||
    (fd && f.id.getLsbD 30)
  match isolate n (.can ((f.id.extractLsb' 0 29).toNat) (f.id.getLsbD 29)) s with
  | (false, s1) => s1
  | (true, s1) =>
    if drop then canEvent n 5 0 (ownDest (R.CANn_OWN n) s1) (canCount n 10 s1)
    else
      let q := (s1.can n).tq ++ [f]
      (s1.setCan n { s1.can n with tq := q }).set tun F.CANn_TUN_TQ_DEPTH q.length

/-- A decapsulated message for LINm (R320, R340). -/
def linTunnel (m i : Nat) (xs : Octets) (s : State) : State :=
  match isolate (16 + m) (.lin i) s with
  | (false, s1) => s1
  | (true, s1) =>
    if s1.bit (R.LINm_CTL m) F.LINm_CTL_DEC_EN && frDir m i 1 s1 then linPut m i xs s1
    else linEvent m 5 0 (linCount m 5 s1)

/-! ### LIN (R321 to R327) -/

/-- The divisor in sixteenths: a bit lasts 25 ns times it (R322). -/
def linDiv (m : Nat) (s : State) : Nat := 16 * s.get (R.LINm_BAUD m) F.LINm_BAUD_DIV + s.get (R.LINm_BAUD m) F.LINm_BAUD_FRAC
/-- Is LINm in service (R339)? -/
def linLive (m : Nat) (s : State) : Bool := s.bit (R.LINm_CTL m) F.LINm_CTL_EN && !segOff (16 + m) s && !tileClosed .lin s

/-- An error of identifier i (R325). -/
def linError (m i lec : Nat) (tx : Bool) (s : State) : State :=
  linEvent m 1 (i + lec * 256) (linCount m (if tx then 3 else 2) (s.set (R.LINm_STAT m) F.LINm_STAT_LEC lec))

/-- Schedule entry e's field. -/
def schGet (m e : Nat) (f : Fld) (s : State) : Nat := s.get (R.LINm_SCHe m e) f

/-- The header a schedule entry sends, if any (R324). -/
def schHeader (m e : Nat) (s : State) : Option Nat :=
  let nd (i : Nat) : Bool := frDir m i 1 s && s.bit (frCfg m i) F.LINm_FRi_CFG_ND
  match schGet m e F.LINm_SCHe_TYPE s with
  | 2 => [schGet m e F.LINm_SCHe_ID s, schGet m e F.LINm_SCHe_ID2 s, schGet m e F.LINm_SCHe_ID3 s].find? nd
  | 3 => none
  | _ => some (schGet m e F.LINm_SCHe_ID s)

/-- LIN_SLOT_START (R323, R324): the slot has ended and the next entry begins; a frame still in progress extends it. -/
def execLinSlotStart (m : Fin 8) (s : State) : Host.Outcome State Fault Refusal :=
  let l := s.lin m.val
  let sch := R.LINm_SCHED m.val
  .next (
    if !linLive m.val s || segListens (16 + m.val) s || !s.bit (R.LINm_CTL m.val) F.LINm_CTL_ROLE || !s.bit sch F.LINm_SCHED_RUN || decide (s.now < l.slotEnd) ||
        l.wakeAt.isSome then s
    else if l.hdr.isSome then
      (if l.ovr then s
       else linEvent m.val 2 (s.get sch F.LINm_SCHED_CUR) (linCount m.val 4 (s.setLin m.val { l with ovr := true })))
    else
      let cur := s.get sch F.LINm_SCHED_CUR
      -- what follows entry 63 without an end of table is not stated: free (assumption 2)
      let (nxt, s0) : Nat × State :=
        if !l.started then (cur, s) else if l.sw then (s.get sch F.LINm_SCHED_NEXT, s)
        else if cur = 63 then (let (v, u) := s.drawFree 6; (v.toNat, u)) else (cur + 1, s)
      let table := if l.started && l.sw then nxt else l.table
      let e := if schGet m.val nxt F.LINm_SCHe_TYPE s0 = 3 then table else nxt
      let s1 := s0.set sch F.LINm_SCHED_CUR e
      let h := schHeader m.val e s1
      let slot := if schGet m.val e F.LINm_SCHe_TYPE s1 = 3 then 0 else schGet m.val e F.LINm_SCHe_SLOT s1 * 100000
      let own := match h with
        | some i => if frDir m.val i 1 s1 || frDir m.val i 2 s1 then some i else none
        | none => none
      s1.setLin m.val { s1.lin m.val with
        hdr := own, evt := decide (schGet m.val e F.LINm_SCHe_TYPE s1 = 1), brk := s.now, slotEnd := s.now + slot, table := table, sw := false,
        started := true, ovr := false, lastAct := if h.isSome then s.now else l.lastAct })

/-- LIN_BREAK_RECEIVED (R322, R326): a responder or a listening controller recognises a break that fell `ago` ns before, a sync field at `rate`
bit/s, and the identifier. -/
def execLinBreakReceived (m : Fin 8) (i : BitVec 6) (ago : BitVec 32) (rate : BitVec 21) (s : State) : Host.Outcome State Fault Refusal :=
  let ctl := R.LINm_CTL m.val
  .next (
    if !linLive m.val s || (s.bit ctl F.LINm_CTL_ROLE && !segListens (16 + m.val) s) then s
    else
      let l := s.lin m.val
      let auto_ := s.bit ctl F.LINm_CTL_AUTOBAUD
      let s1 := if auto_ then s.set (R.LINm_STAT m.val) F.LINm_STAT_MEAS rate.toNat else s
      let d := linDiv m.val s
      let off := rate.toNat * d * 100
      let bad := auto_ && (decide (114 * 40000000 < off) || decide (off < 86 * 40000000))
      if bad then linError m.val i.toNat 5 false (s1.setLin m.val { l with hdr := none, lastAct := s.now })
      else
        let use := (frDir m.val i.toNat 1 s1 && !segListens (16 + m.val) s1) || frDir m.val i.toNat 2 s1
        s1.setLin m.val { l with hdr := if use then some i.toNat else none, evt := false, brk := s.now - ago.toNat, lastAct := s.now })

/-- Encapsulate a LIN frame (R318). -/
def linEncap (m i : Nat) (xs : Octets) (brk : Nat) (s : State) : State :=
  let ctl := R.LINm_CTL m
  if s.bit ctl F.LINm_CTL_TUN_EN && s.bit (frCfg m i) F.LINm_FRi_CFG_TUN then
    let msg : AcfMsg := { lin := true, bus := m, frame := { id := BitVec.ofNat 52 i, data := xs }, gtc := brk }
    { s with sw := { s.sw with tunIn := s.sw.tunIn ++ [(s.get ctl F.LINm_CTL_TUN_CTX, msg)] } }
  else s

/-- The notice of a frame-table entry (R331). -/
def frNotify (m i : Nat) (tx : Bool) (s : State) : State :=
  if s.bit (frCfg m i) F.LINm_FRi_CFG_NOTIFY then
    linEvent m 0 (i + (if tx then 256 else 0) + s.get (frCfg m i) F.LINm_FRi_CFG_SEQ * 2 ^ 20) s
  else s

/-- LIN_RESPONSE_END (R324, R325, R327): the response of the header under way completes; `err` is 0, or the error in the
code of LEC. -/
def execLinResponseEnd (m : Fin 8) (err : BitVec 3) (data : Octets) (s : State) : Host.Outcome State Fault Refusal :=
  let l := s.lin m.val
  .next (match l.hdr with
    | none => s
    | some i =>
      let s0 := s.setLin m.val { l with hdr := none, lastAct := s.now }
      let cfg := frCfg m.val i
      let tx := frDir m.val i 1 s
      if err ≠ 0 then
        let s1 := linError m.val i err.toNat tx s0
        let s2 := if l.evt ∧ (err = 1 ∨ err = 2) then linEvent m.val 3 i s1 else s1
        if tx then s2 else ctxFail (16 + m.val) .none s2
      else if tx then
        let xs := linOctets (s0.reg (R.LINm_FRi_DATA m.val i)) (s0.get cfg F.LINm_FRi_CFG_LEN)
        linEncap m.val i xs l.brk (frNotify m.val i true (linCount m.val 1 (s0.set cfg F.LINm_FRi_CFG_ND 0)))
      else
        let s1 := linCount m.val 0 s0
        let s2 := if s1.bit cfg F.LINm_FRi_CFG_STORE then
            let lost := s1.bit cfg F.LINm_FRi_CFG_ND
            let u := (s1.flag cfg F.LINm_FRi_CFG_ND).addWrap cfg F.LINm_FRi_CFG_SEQ 1
            let u1 := if lost then u.flag cfg F.LINm_FRi_CFG_LOST else u
            (u1.setReg (R.LINm_FRi_DATA m.val i) (linData (data.take (u1.get cfg F.LINm_FRi_CFG_LEN)))).set cfg F.LINm_FRi_CFG_STAMP (shortStamp l.brk)
          else s1
        linEncap m.val i data l.brk (frNotify m.val i false s2))

/-- LIN_RESPONSE_TIMEOUT (R325): a subscribed response has not completed at 1.4 × (34 + 10 × (LEN + 1)) bit times. -/
def execLinResponseTimeout (m : Fin 8) (s : State) : Host.Outcome State Fault Refusal :=
  let l := s.lin m.val
  .next (match l.hdr with
    | none => s
    | some i =>
      let lim := (34 + 10 * (s.get (frCfg m.val i) F.LINm_FRi_CFG_LEN + 1)) * 35 * linDiv m.val s
      if frDir m.val i 2 s && decide (l.brk + lim ≤ s.now) then
        ctxFail (16 + m.val) .none (linError m.val i 3 false (s.setLin m.val { l with hdr := none }))
      else s)

/-- LIN_IDLE_TIMEOUT (R326): 4 s without bus activity; the spec gives its notice no payload. -/
def execLinIdleTimeout (m : Fin 8) (s : State) : Host.Outcome State Fault Refusal :=
  let l := s.lin m.val
  .next (if linLive m.val s && s.bit (R.LINm_CTL m.val) F.LINm_CTL_IDLE_TMO && decide (l.lastAct + 4000000000 ≤ s.now) then
      raiseFree (0x280 + 8 * m.val + 4) (ownDest (R.LINm_OWN m.val) s) (s.setLin m.val { l with lastAct := s.now })
    else s)

end Sys2Proof.Machine
end

