-- ==== Sys2Proof/Machine/VaultKeys.lean ====
section
/-!
DEFINITION. The strongroom's slots (spec/14_strongroom.md R517 to R529, R546, R549): attribute words, keys, invalidation
and the use MACsec makes of a slot.
-/
namespace Sys2Proof.Machine

open Sys2Proof

/-! ### Attribute words (R519) -/

/-- TYPE. -/
def aTYPE : Fld := ⟨0, 4⟩
/-- RIGHTS. -/
def aRIGHTS : Fld := ⟨4, 7⟩
/-- ORIGIN. -/
def aORIGIN : Fld := ⟨11, 1⟩
/-- SHARED. -/
def aSHARED : Fld := ⟨12, 1⟩
/-- OWNER. -/
def aOWNER : Fld := ⟨13, 9⟩
/-- WRAPPABLE. -/
def aWRAPPABLE : Fld := ⟨22, 1⟩
/-- ZEROISE. -/
def aZEROISE : Fld := ⟨23, 1⟩
/-- STMT. -/
def aSTMT : Fld := ⟨24, 1⟩
/-- PARENT. -/
def aPARENT : Fld := ⟨25, 11⟩
/-- STATE. -/
def aSTATE : Fld := ⟨36, 3⟩
/-- SALT. -/
def aSALT : Fld := ⟨39, 1⟩

/-- Does a key identifier name a slot (R517)? -/
def kidNames (kid : Nat) : Bool := decide (kid < 256) || (decide (1024 ≤ kid) && decide (kid ≤ 2047))
/-- The register that holds a slot's attribute word (R517, R553). -/
def attrReg (kid : Nat) : Nat := if kid < 256 then R.VAULT_Kk_ATTR kid else R.VAULT_DSn_ATTR (kid - 1024)
/-- A field of a slot's attribute word. -/
def slotAttr (kid : Nat) (f : Fld) (s : State) : Nat := s.get (attrReg kid) f
/-- The derived slots that are not empty, by KID, in ascending order. -/
def derivedUsed (s : State) : List Nat :=
  ((s.regs.filter fun e => decide (R.VAULT_DSn_ATTR 0 ≤ e.1) && decide (e.1 < R.VAULT_DSn_ATTR 1024)).map fun e =>
    e.1 - R.VAULT_DSn_ATTR 0 + 1024)
/-- Write a slot's attribute word; FREE counts the empty derived slots (R553). -/
def setAttr (kid : Nat) (v : BitVec 64) (s : State) : State :=
  let s1 := s.setReg (attrReg kid) v
  s1.set R.VAULT_STAT F.VAULT_STAT_FREE (1024 - (derivedUsed s1).length)
/-- Set a field of a slot's attribute word. -/
def setSlot (kid : Nat) (f : Fld) (n : Nat) (s : State) : State := setAttr kid (fput (s.reg (attrReg kid)) f n) s

/-! ### Keys (R518) -/

/-- The key of a persistent slot as the fuses hold it: eight words of secret and two of salt (R521; assumption 8). -/
def fuseKey (k : Nat) : VKey :=
  let o (n : Nat) : Octets := (List.range 8).map fun j => (Config.fuse n).extractLsb' (56 - 8 * j) 8
  { secret := (List.range 8).flatMap (fun j => o (0x200 + 8 * k + j)), salt := (o (0xA00 + 2 * k) ++ o (0xA01 + 2 * k)).take 12 }
/-- Octets of secret of a type (R518). -/
def secretLen (ty : Nat) : Nat :=
  match ty with
  | 1 => 16 | 2 | 3 | 5 | 7 | 8 | 9 => 32 | 4 | 10 => 64 | 6 => 48 | _ => 0
/-- The key a slot holds. -/
def slotKey (kid : Nat) (s : State) : VKey :=
  let k := (spGet (fun _ => none) s.vault.keys kid).getD (if kid < 256 then fuseKey kid else {})
  { k with secret := k.secret.take (secretLen (slotAttr kid aTYPE s)) }
/-- Store or remove a slot's key. -/
def setSlotKey (kid : Nat) (k : Option VKey) (s : State) : State :=
  { s with vault := { s.vault with keys := spPut (fun _ => none) s.vault.keys kid k } }

/-! ### Invalidation (R526) -/

/-- Every active derived slot whose PARENT names a slot of the list becomes orphaned, and its descendants too, over at
most `fuel` generations. KID 0x7FF in PARENT means no parent. -/
def orphanFrom : Nat → List Nat → State → State
  | 0, _, s => s
  | fuel + 1, kids, s =>
    let hit := (derivedUsed s).filter fun k =>
      decide (slotAttr k aSTATE s = 1) && decide (slotAttr k aPARENT s ≠ 0x7FF) && kids.contains (slotAttr k aPARENT s)
    if hit = [] then s else orphanFrom fuel hit (hit.foldl (fun t k => setSlot k aSTATE 3 t) s)
/-- A slot is invalidated: its descendants are orphaned (R526). -/
def orphanChildren (kid : Nat) (s : State) : State := orphanFrom 1024 [kid] s

/-- A derived slot is erased (R526, R533). -/
def eraseSlot (kid : Nat) (s : State) : State := orphanChildren kid (setSlotKey kid none (setAttr kid 0 s))
/-- A persistent slot's retire bit is programmed (R523, R548). -/
def retireSlot (kid : Nat) (s : State) : State := orphanChildren kid (setSlot kid aSTATE 2 s)
/-- Every derived slot is erased (R525, R547). -/
def eraseDerived (s : State) : State :=
  (derivedUsed s).foldl (fun t k => setSlotKey k none (setAttr k 0 t)) s

/-! ### The seal (R546, R549) -/

/-- Is the strongroom sealed? -/
def sealed (s : State) : Bool :=
  decide (s.get R.VAULT_TAMP_STAT F.VAULT_TAMP_STAT_LATCH ≠ 0) || s.bit R.VAULT_TAMP_STAT F.VAULT_TAMP_STAT_AON_LOST
/-- VAULT_STAT as it reads: SEALED follows the latches. -/
def vaultStat (s : State) : BitVec 64 := fput (s.reg R.VAULT_STAT) F.VAULT_STAT_SEALED (if sealed s then 1 else 0)

/-! ### MACsec (R529, R549) -/

/-- May a MACsec instance use derived slot n, to transmit or to receive, with an XPN suite or not? The slot's key length is
that of the suite. -/
def macsecKey (n : Nat) (tx : Bool) (cipher : Nat) (s : State) : Bool :=
  let k := 1024 + n
  let rights := slotAttr k aRIGHTS s
  !sealed s && !tileClosed .strongroom s && decide (slotAttr k aSTATE s = 1) &&
  decide (slotAttr k aTYPE s = (if cipher % 2 = 0 then 1 else 2)) &&
  rights.testBit (if tx then 0 else 1) && (decide (cipher < 2) || decide (slotAttr k aSALT s = 1))

end Sys2Proof.Machine
end

