-- ==== Sys2Proof/Machine/Switch.lean ====
section
/-!
DEFINITION. The circulation switch and the Ethernet ports (spec/06_circulation_switch.md): classification, cells and
their fixed transit, output queues and gates, cut-through and colophons, port states, MACsec, and the IEEE 1722 tunnel.
-/
namespace Sys2Proof.Machine

open Sys2Proof

/-! ### Ports (R248, R249, R273) -/

/-- Has the port a link of its own (R273)? -/
def isExternal (p : Nat) : Bool := decide (p < 12)
/-- The state of a port: 0 UP, 1 GRACE, 2 DOWN. -/
def portState (p : Nat) (s : State) : Nat := if 23 ≤ p then 2 else s.get (R.ETH_Pp_STAT p) F.ETH_Pp_STAT_STATE
/-- A port's tile. -/
def portTile (p : Nat) : Tile := if p < 4 then .t1s else if p < 10 then .serdes else if p < 12 then .uplinks else .switchCore
/-- An event of port p for which the spec gives no payload, to the librarian (R288). -/
def ethEvent (p k : Nat) (s : State) : State := raiseFree (0x300 + 8 * p + k) [0] s
/-- Move a port to a state, with its event (R273). -/
def setPortState (p st : Nat) (s : State) : State :=
  raiseLib (0x300 + 8 * p) st (s.set (R.ETH_Pp_STAT p) F.ETH_Pp_STAT_STATE st)

/-- The network segment of an external port (R335). -/
def portSegment (p : Nat) : Nat := 24 + p

/-! ### Durations in tenths of a nanosecond (R269) -/

/-- Does MACsec protect port p, and its octets per frame: SecTAG and ICV (R269, R281)? -/
def macsecOctets (p : Nat) (s : State) : Nat :=
  if p = 10 ∨ p = 11 then
    let c := R.MACSEC_Iu_CTL (p - 10)
    if s.bit c F.MACSEC_Iu_CTL_EN then (if s.bit c F.MACSEC_Iu_CTL_SCI_EN then 32 else 24) else 0
  else 0

/-- A copy's duration at its port, from the first preamble octet to the last FCS bit; internal ports have no wire. -/
def wireTenths (p len : Nat) (s : State) : Nat :=
  if isExternal p then (8 + max len 60 + macsecOctets p s + 4) * 8 * bitTenths p s else 0

/-- The length a gate counts with (R268): the frame's, or the port's MAX_FRAME while it is not known. -/
def gateLen (c : Copy) (s : State) : Nat := if c.len ≠ 0 then c.len else s.get (R.ETH_Pp_CTL c.inp) F.ETH_Pp_CTL_MAX_FRAME - 4

/-! ### Gates (R268) -/

/-- The almanac in nanoseconds. -/
def almNow (s : State) : Nat := s.time.almSec.toNat * giga + s.time.almNs.toNat
/-- Position in the operational cycle. -/
def gatePos (p : Nat) (s : State) : Nat := (((almNow s : Int) - (s.port p).gbase) % (max 1 (s.port p).gcycle : Nat)).toNat

/-- Operational entry j: its gates and its end within the cycle; the last entry holds until the cycle ends, and entries
beyond the cycle are cut off. -/
def gateEnds (p : Nat) (s : State) : List (Nat × Nat) :=
  let n := s.get (R.ETH_Pp_GCTL p) F.ETH_Pp_GCTL_OPER_LEN
  let cyc := max 1 (s.port p).gcycle
  let l := (List.range n).foldl (fun (acc : List (Nat × Nat) × Nat) j =>
    let e := acc.2 + s.get (R.ETH_Pp_GOPRj p j) F.ETH_Pp_GOPRj_INTERVAL
    (acc.1 ++ [(s.get (R.ETH_Pp_GOPRj p j) F.ETH_Pp_GOPRj_GATES, if j + 1 = n then cyc else min e cyc)], e)) ([], 0)
  l.1

/-- The entry of a position. -/
def gateIndex (p : Nat) (s : State) : Nat := ((gateEnds p s).findIdx? fun e => decide (gatePos p s < e.2)).getD 0

/-- Nanoseconds until the gate of class c next closes: 0 when it is closed, none when it never closes. The list is
followed for one cycle from the current entry. -/
def gateLeft (p c : Nat) (s : State) : Option Nat :=
  let es := gateEnds p s
  let pos := gatePos p s
  let cyc := max 1 (s.port p).gcycle
  let i := (s.port p).gate
  let ahead := (es.drop i).map (fun e => (e.1, e.2)) ++ (es.take i).map (fun e => (e.1, e.2 + cyc))
  if !s.bit (R.ETH_Pp_GCTL p) F.ETH_Pp_GCTL_EN || es.isEmpty then none
  else if !(s.get (R.ETH_Pp_GOPRj p i) F.ETH_Pp_GOPRj_GATES).testBit c then some 0
  else
    let run := ahead.takeWhile fun e => e.1.testBit c
    if run.length = es.length then none
    else some ((run.getLast?.map (·.2)).getD pos - pos)

/-- GATE_ENTRY_ADVANCE (R268): the entry that the almanac's position gives applies. -/
def execGateEntryAdvance (p : Fin 24) (s : State) : Host.Outcome State Fault Refusal :=
  .next (s.setPort p.val { s.port p.val with gate := gateIndex p.val s })

/-- GATE_LIST_CHANGE (R268): the administrative list becomes operational at its base time. -/
def execGateListChange (p : Fin 24) (s : State) : Host.Outcome State Fault Refusal :=
  let g := R.ETH_Pp_GCTL p.val
  .next (if s.bit g F.ETH_Pp_GCTL_PENDING ∧ (s.port p.val).gpend ≤ almNow s then
      let n := s.get g F.ETH_Pp_GCTL_ADMIN_LEN
      let s1 := (List.range n).foldl (fun t j => t.setReg (R.ETH_Pp_GOPRj p.val j) (t.reg (R.ETH_Pp_GADMj p.val j))) s
      let s2 := (s1.set g F.ETH_Pp_GCTL_OPER_LEN n).set g F.ETH_Pp_GCTL_PENDING 0
      let k := s2.port p.val
      let s3 := s2.setPort p.val { k with gbase := k.gpend, gcycle := s2.get (R.ETH_Pp_GCYCLE p.val) F.ETH_Pp_GCYCLE_CYCLE }
      ethEvent p.val 3 (s3.setPort p.val { s3.port p.val with gate := gateIndex p.val s3 })
    else s)

/-- CHANGE is written (R268, R290): the base time is noted; one already past moves to the next cycle boundary counted from
it, and is announced. -/
def gateChange (p : Nat) (s : State) : State :=
  let base := s.get (R.ETH_Pp_GBASE_SEC p) F.ETH_Pp_GBASE_SEC_SEC * giga + s.get (R.ETH_Pp_GBASE_NS p) F.ETH_Pp_GBASE_NS_NS
  let cyc := max 1 (s.get (R.ETH_Pp_GCYCLE p) F.ETH_Pp_GCYCLE_CYCLE)
  let past := decide (base ≤ almNow s)
  let at_ := if past then base + ((almNow s - base) / cyc + 1) * cyc else base
  let s1 := (s.setPort p { s.port p with gpend := at_ }).set (R.ETH_Pp_GCTL p) F.ETH_Pp_GCTL_PENDING 1
  if past then ethEvent p 3 s1 else s1

/-! ### Lookup (R259 to R262) -/

/-- An unsigned number from octets, most significant first. -/
def octNat (xs : Octets) : Nat := xs.foldl (fun v x => v * 256 + x.toNat) 0
/-- Octets of a number, most significant first. -/
def natOct (n v : Nat) : Octets := (List.range n).map fun k => BitVec.ofNat 8 (v / 256 ^ (n - 1 - k))

/-- The bucket of (VID, DA) (R261). -/
def fdbBucket (vid da : Nat) : Nat := (crcOf (crcFixed 2) (natOct 2 vid ++ natOct 6 da)).toNat % 2 ^ 14
/-- A forwarding entry's key and result words; unwritten entries are zero. -/
def fdbGet (i : Nat) (s : State) : BitVec 64 × BitVec 64 := spGet (fun _ => (0#64, 0#64)) s.sw.fdb i
/-- Look up (VID, DA): the result of the lowest way whose key matches (R261). -/
def fdbLookup (vid da : Nat) (s : State) : Option (BitVec 64) :=
  let b := 4 * fdbBucket vid da
  ((List.range 4).find? fun w =>
    let k := (fdbGet (b + w) s).1
    k.getLsbD 60 && decide ((k.extractLsb' 0 48).toNat = da) && decide ((k.extractLsb' 48 12).toNat = vid)).map fun w => (fdbGet (b + w) s).2

/-- What classification decides (R259). -/
structure Class where
  vid : Nat := 0
  pcp : Nat := 0
  tagged : Bool := false
  local_ : Bool := false
  dests : List Nat := []
  tc : Nat := 0
  stream : Option Nat := none
  intake : Option Nat := none
  maxSdu : Nat := 0
  drop : Bool := false
  deriving DecidableEq, Repr

/-- Is port p in a port mask? -/
def inMask (m p : Nat) : Bool := m.testBit p

/-- Classify a frame arriving at port p (R259). -/
def classify (p : Nat) (x : Octets) (s : State) : Class :=
  let ctl := R.ETH_Pp_CTL p
  let da := octNat (x.take 6)
  let tag := decide (octNat ((x.drop 12).take 2) = 0x8100)
  let tci := octNat ((x.drop 14).take 2)
  let tagged := tag && decide (tci % 4096 ≠ 0)
  let vid := if tagged then tci % 4096 else s.get ctl F.ETH_Pp_CTL_PVID
  let pcp := if tagged then tci / 8192 else s.get ctl F.ETH_Pp_CTL_DEF_PCP
  let acc := s.get ctl F.ETH_Pp_CTL_ACCEPT
  let vl := R.CIRC_VLAN vid
  let v := decide (vid ≠ 0) && decide (vid < 4095) && s.bit vl F.CIRC_VLAN_V
  let mem := s.get vl F.CIRC_VLAN_MEMBERS
  let c0 : Class := { vid := vid, pcp := pcp, tagged := tag }
  if (acc = 1 ∧ tagged = false) ∨ (acc = 2 ∧ tagged = true) ∨ (s.bit ctl F.ETH_Pp_CTL_INGRESS_FILTER = true ∧ inMask mem p = false) ∨ v = false then
    { c0 with drop := true }
  else if da / 16 = 0x0180C200000 then { c0 with local_ := true, tc := s.get (R.ETH_Pp_PCPMAP p) F.ETH_Pp_PCPMAP_MAP / 8 ^ pcp % 8 }
  else
    let hit := fdbLookup vid da s
    match hit with
    | none =>
      if !s.bit vl F.CIRC_VLAN_FLOOD then { c0 with drop := true }
      else
        let ds := (List.range 24).filter fun q => inMask mem q && decide (q ≠ p) && decide (q ≠ 12) && decide (q ≠ 23) && decide (portState q s ≠ 2)
        { c0 with dests := ds, tc := s.get (R.ETH_Pp_PCPMAP p) F.ETH_Pp_PCPMAP_MAP / 8 ^ pcp % 8, drop := ds.isEmpty }
    | some r =>
      if r.getLsbD 41 then { c0 with drop := true }
      else
        let ports := (r.extractLsb' 0 24).toNat
        let ds := (List.range 24).filter fun q => inMask ports q && inMask mem q && decide (q ≠ p) && decide (q ≠ 12) && decide (q ≠ 23) &&
          decide (portState q s ≠ 2)
        let st := (r.extractLsb' 24 12).toNat
        let se := R.CIRC_STREAM st
        let sv := r.getLsbD 36 && s.bit se F.CIRC_STREAM_V
        let tc := if sv && s.bit se F.CIRC_STREAM_TCV then s.get se F.CIRC_STREAM_TC
          else if r.getLsbD 40 then (r.extractLsb' 37 3).toNat
          else s.get (R.ETH_Pp_PCPMAP p) F.ETH_Pp_PCPMAP_MAP / 8 ^ pcp % 8
        let take := sv && s.bit se F.CIRC_STREAM_INTAKE
        { c0 with dests := ds, tc := tc, stream := if sv then some st else none, intake := if take then some st else none,
                  maxSdu := if sv then s.get se F.CIRC_STREAM_MAX_SDU else 0, drop := ds.isEmpty && !take }

/-- A frame as one copy leaves (R259 step 7). -/
def editVlan (c : Class) (out : Nat) (x : Octets) (s : State) : Octets :=
  let rest := if c.tagged then x.drop 16 else x.drop 12
  if inMask (s.get (R.CIRC_VLAN c.vid) F.CIRC_VLAN_UNTAGGED) out then x.take 12 ++ rest
  else x.take 12 ++ natOct 2 0x8100 ++ natOct 2 (c.pcp * 8192 + c.vid) ++ rest

/-! ### Cells (R250 to R252, R266) -/

/-- The staged cells of an input. -/
def stagedCells (i : Nat) (s : State) : Nat :=
  s.sw.copies.foldl (fun n c => if c.inp = i then n + (c.cells.filter fun x => x.phase = 0).length else n) 0
/-- Open copies of an input: each keeps one staging place (R266). -/
def openCopies (i : Nat) (s : State) : Nat := (s.sw.copies.filter fun c => decide (c.inp = i) && !c.closed).length

/-- Form the cells of a copy that its octets allow; the last one when the frame has ended. A cell that finds the staging
buffer full closes its copy with a bad LAST cell (R266). -/
def formCells : Nat → Nat → Bool → Bool → State → State
  | 0, _, _, _, s => s
  | fuel + 1, num, fin, bad, s =>
    match s.sw.copies.find? fun c => c.num = num with
    | none => s
    | some c =>
      let done := 72 * c.cells.length
      let left := c.data.length - done
      if c.closed then s
      else if 72 < left ∨ (left = 72 ∧ fin = false) then
        if 256 ≤ stagedCells c.inp s + openCopies c.inp s then
          ethCount c.inp 11 (putCopy { c with closed := true, cells := c.cells ++ [{ first := c.cells.isEmpty, last := true, octets := min left 72, bad := true }] } s)
        else formCells fuel num fin bad (putCopy { c with cells := c.cells ++ [{ first := c.cells.isEmpty, last := false, octets := 72 }] } s)
      else if fin then
        putCopy { c with closed := true, len := c.data.length,
                         cells := c.cells ++ [{ first := c.cells.isEmpty, last := true, octets := left, bad := bad }] } s
      else s

/-- The next copy number. -/
def newNum (s : State) : Nat × State := (s.sw.next, { s with sw := { s.sw with next := s.sw.next + 1 } })

/-- A cell interval in tenths of a nanosecond at an ingress (R264). -/
def inInterval (p : Nat) (s : State) : Nat :=
  if isExternal p then 576 * bitTenths p s
  else 192 / max 1 (s.get (R.ETH_Pp_SHARE p) F.ETH_Pp_SHARE_SHARE) * 40

/-- May n copies of a frame cut through from p to out (R264)? -/
def mayCut (p out n : Nat) (s : State) : Bool :=
  s.bit R.CIRC_CTL F.CIRC_CTL_CUT_EN && s.bit (R.ETH_Pp_CTL p) F.ETH_Pp_CTL_CUT_EN && s.bit (R.ETH_Pp_CTL out) F.ETH_Pp_CTL_CUT_EN &&
  isExternal out && decide (n * inInterval p s ≤ 576 * bitTenths out s)

/-- Discard copies toward isolated segments (R340). -/
def passIsolation (vid da : Nat) : List Nat → State → List Nat × State
  | [], s => ([], s)
  | q :: t, s =>
    let (ok, s1) := if isExternal q then isolate (portSegment q) (.eth da vid) s else (true, s)
    let (r, s2) := passIsolation vid da t s1
    (if ok then q :: r else r, s2)

/-- Form one copy per destination (R272). -/
def formCopies (p : Nat) (cl : Class) (ds : List Nat) (x : Octets) (rec_ : Option Nat) (proto : Copy) (s : State) : State :=
  let (f, s0) := newNum s
  ds.foldl (fun t q =>
    let (n, t1) := newNum t
    let c : Copy := { proto with
      num := n, frame := f, inp := p, out := q, tc := cl.tc, data := editVlan cl q x t1, len := 0, closed := false,
      cells := [], multi := ds.length, cut := mayCut p q ds.length t1, rec_ := rec_, stream := cl.stream }
    { t1 with sw := { t1.sw with copies := t1.sw.copies ++ [c] } }) s0

/-- One unedited copy for each destination (R286 with DIRECT, R515). -/
def directCopies (p tc : Nat) (ds : List Nat) (x : Octets) (proto : Copy) (s : State) : State :=
  let (f, s0) := newNum s
  ds.foldl (fun t q =>
    let (n, t1) := newNum t
    let c : Copy := { proto with num := n, frame := f, inp := p, out := q, tc := tc, data := x, multi := ds.length, cut := mayCut p q ds.length t1 }
    { t1 with sw := { t1.sw with copies := t1.sw.copies ++ [c] } }) s0

/-- A link-local copy for the management ring of port p (R259, R287): it travels to the DMA port of that ring. -/
def localCopy (p : Nat) (x : Octets) (tc : Nat) (proto : Copy) (s : State) : State :=
  let ctl := R.ETH_Pp_CTL p
  if !s.bit ctl F.ETH_Pp_CTL_RINGV then s
  else
    let r := s.get ctl F.ETH_Pp_CTL_RING
    let q := 14 + s.get (R.CIRC_RINGr_CTL r) F.CIRC_RINGr_CTL_PORTIDX
    if portState q s = 2 then s
    else
      let (f, s0) := newNum s
      let (n, s1) := newNum s0
      let c : Copy := { proto with num := n, frame := f, inp := p, out := q, tc := tc, data := x, len := 0, closed := false, cells := [], local_ := true }
      { s1 with sw := { s1.sw with copies := s1.sw.copies ++ [c] } }

/-- Form the cells of every open copy of an input. -/
def formAll (p : Nat) (fin bad : Bool) (s : State) : State :=
  (s.sw.copies.filter fun c => decide (c.inp = p) && !c.closed).foldl (fun t c => formCells 64 c.num fin bad t) s

/-- Close every open copy of an input with a bad LAST cell (R266). -/
def closeOpen (p : Nat) (s : State) : State := formAll p true true s

/-- The stamps of R78 for a frame whose start is now. -/
def stamped (s : State) (c : Copy) : Copy := { c with gtc := s.now, almSec := s.time.almSec.toNat, almNs := s.time.almNs.toNat }
/-- A copy with no content yet. -/
def protoCopy : Copy := { num := 0, frame := 0, inp := 0, out := 0, tc := 0, data := [], len := 0, closed := false, cells := [] }

/-! ### MACsec (R281, R282) -/

/-- MACsec counter j of R291: 0 InPktsOK, 1 InPktsInvalid, 2 InPktsNotValid, 3 InPktsLate, 4 InPktsNoSA,
5 OutPktsProtected, 6 OutPktsEncrypted. -/
def msCount (u j : Nat) (s : State) : State := s.bump (R.MACSEC_Iu_CNT u j)

/-- A frame's end at instance u: is it bad, and the counters and replay state after it. The rules are those of IEEE
802.1AE that R281 names (assumption 41). -/
def msReceive (u : Nat) (x : Option SecIn) (s : State) : Bool × State :=
  let ctl := R.MACSEC_Iu_CTL u
  let val := s.get ctl F.MACSEC_Iu_CTL_VALIDATE
  if !s.bit ctl F.MACSEC_Iu_CTL_EN then (false, s)
  else match x with
    | none => if val = 2 then (true, msCount u 4 s) else (false, s)
    | some f =>
      let key := R.MACSEC_Iu_RXSCc_SAa_KEY u f.sc.val f.an.val
      let pn := R.MACSEC_Iu_RXSCc_SAa_PN u f.sc.val f.an.val
      if !s.bit (R.MACSEC_Iu_RXSCc_CTL u f.sc.val) F.MACSEC_Iu_RXSCc_CTL_V || !s.bit key F.MACSEC_Iu_RXSCc_SAa_KEY_V ||
          !macsecKey (s.get key F.MACSEC_Iu_RXSCc_SAa_KEY_SLOT) false (s.get ctl F.MACSEC_Iu_CTL_CIPHER) s then
        (decide (val = 2), msCount u 4 s)
      else if s.bit ctl F.MACSEC_Iu_CTL_REPLAY && decide (f.pn.toNat < (s.reg pn).toNat) then (true, msCount u 3 s)
      else if !f.icv then
        (if val = 2 then (true, msCount u 2 s) else if val = 1 then (true, msCount u 1 s) else (false, s))
      else
        let win := s.get (R.MACSEC_Iu_WIN u) F.MACSEC_Iu_WIN_WINDOW
        let low := max (s.reg pn).toNat (f.pn.toNat + 1 - win)
        (false, msCount u 0 (s.setReg pn (BitVec.ofNat 64 low)))

/-- The transmitting SA of instance u: usable, with its next PN (R282). -/
def msTxReady (u : Nat) (s : State) : Bool :=
  let ctl := R.MACSEC_Iu_CTL u
  let a := s.get ctl F.MACSEC_Iu_CTL_TX_AN
  let lim := if s.get ctl F.MACSEC_Iu_CTL_CIPHER < 2 then 2 ^ 32 else 2 ^ 64
  !s.bit ctl F.MACSEC_Iu_CTL_EN ||
    (s.bit (R.MACSEC_Iu_TXSAa_KEY u a) F.MACSEC_Iu_TXSAa_KEY_V &&
     macsecKey (s.get (R.MACSEC_Iu_TXSAa_KEY u a) F.MACSEC_Iu_TXSAa_KEY_SLOT) true (s.get ctl F.MACSEC_Iu_CTL_CIPHER) s && decide ((s.reg (R.MACSEC_Iu_TXSAa_PN u a)).toNat < lim) &&
     decide ((s.reg (R.MACSEC_Iu_TXSAa_PN u a)).toNat ≠ 0))

/-- The source of instance u's PN threshold event: an uplink's port event or the twin's (R282, R570). -/
def msThreshold (u : Nat) (s : State) : State :=
  if u < 2 then ethEvent (10 + u) 4 s else raiseLib (0x0CB + (u - 2)) 0 s

/-- A frame is protected and sent: the PN counts, and the threshold is announced (R282). A PN that runs out becomes 0 and
the SA stops. -/
def msTransmit (u : Nat) (s : State) : State :=
  let ctl := R.MACSEC_Iu_CTL u
  if !s.bit ctl F.MACSEC_Iu_CTL_EN then s
  else
    let a := s.get ctl F.MACSEC_Iu_CTL_TX_AN
    let r := R.MACSEC_Iu_TXSAa_PN u a
    let nx := s.reg r + 1
    let s1 := s.setReg r nx
    let s2 := msCount u (if s.bit ctl F.MACSEC_Iu_CTL_CONF then 6 else 5) s1
    if nx = s.reg (R.MACSEC_Iu_PNTH u) then msThreshold u s2 else s2

/-! ### Ingress (R252, R259, R266) -/

/-- Is the port able to receive: UP, its tile open, forwarding on? -/
def rxAble (p : Nat) (s : State) : Bool := decide (portState p s = 0) && !tileClosed (portTile p) s

/-- A frame's first octets at port p are classified and its copies formed; a dropped one is counted (R259). -/
def classifyFirst (p : Nat) (x : Octets) (whole : Bool) (s : State) : State × Option Nat :=
  if !s.bit R.CIRC_CTL F.CIRC_CTL_EN then (ethCount p 3 s, none)
  else
    let cl := classify p x s
    let long := whole && decide (cl.maxSdu ≠ 0) && decide (cl.maxSdu < x.length + 4)
    let proto := stamped s protoCopy
    if cl.drop ∨ long then (ethCount p 3 s, if long then none else cl.intake)
    else if cl.local_ then (localCopy p x cl.tc proto s, none)
    else
      let (ds, s1) := passIsolation cl.vid (octNat (x.take 6)) cl.dests s
      (formCopies p cl ds x none proto s1, cl.intake)

/-- A whole frame of n octets before the FCS has entered at port p: RX_FRAMES, and RX_OCTETS from DA to FCS (R290, assumption 91). -/
def rxCount (p n : Nat) (s : State) : State :=
  let s1 := ethCount p 0 s
  s1.setReg (R.ETH_Pp_CNT p 1) (BitVec.ofNat 64 (min ((s1.reg (R.ETH_Pp_CNT p 1)).toNat + n + 4) (2 ^ 64 - 1)))

/-- Is a whole frame dropped at ingress, by its classification or by MAX_SDU (R259)? -/
def rxDrops (cl : Class) (x : Octets) : Bool := cl.drop || (decide (cl.maxSdu ≠ 0) && decide (cl.maxSdu < x.length + 4))

/-- Octets of a frame arrive at port p from its wire (R252, R259, R266, R282). -/
def wireIn (p : Nat) (x : Octets) (fin bad : Bool) (sec : Option SecIn) (s : State) : State :=
  if !isExternal p || !rxAble p s then s
  else
    let maxF := s.get (R.ETH_Pp_CTL p) F.ETH_Pp_CTL_MAX_FRAME - 4
    let k := s.port p
    let had := (k.rx.map (·.octets)).getD []
    let room := maxF - had.length
    let cut := decide (room < x.length)
    let x1 := x.take room
    let (s1, f) : State × RxFrame := match k.rx with
      | none =>
        let (u, i) := classifyFirst p x1 fin s
        (u, { octets := x1, intake := i, sof := s.now })
      | some f =>
        let more (c : Copy) : Copy := if c.inp = p ∧ c.closed = false then { c with data := c.data ++ x1 } else c
        let u := { s with sw := { s.sw with copies := s.sw.copies.map more } }
        (u, { f with octets := f.octets ++ x1 })
    let end_ := fin || cut
    let (mbad, s2) : Bool × State := if end_ && (decide (p = 10) || decide (p = 11)) then msReceive (p - 10) sec s1 else (false, s1)
    let sdu := (classify p f.octets s).maxSdu
    let b := bad || cut || mbad || (decide (sdu ≠ 0) && decide (sdu < f.octets.length + 4))
    let s3 := s2.setPort p { s2.port p with rx := if end_ then none else some f }
    let s4 := formAll p end_ b s3
    if end_ then
      let s6 := rxCount p f.octets.length s4
      if b then ctxFail (24 + p) .none (ethCount p 2 s6) else s6
    else s4

/-- CATP takes the oldest template send (R272, R275): a send with a mask takes a copy record; without a free one it waits. -/
def freeRecord (s : State) : Option Nat := (List.range 256).find? fun r => !s.bit (R.CIRC_COPYc_STAT r) F.CIRC_COPYc_STAT_V

/-- Send a template's frame as copies, with its record (R275). -/
def catSend (x : CatSend) (rec_ : Option Nat) (u : State) : State :=
  let s := rxCount 12 x.data.length u
  let cl := classify 12 x.data s
  if rxDrops cl x.data ∨ s.bit R.CIRC_CTL F.CIRC_CTL_EN = false then ethCount 12 3 s
  else
    let (ds, s1) := passIsolation cl.vid (octNat (x.data.take 6)) cl.dests s
    if ds.isEmpty then s1
    else
      let s2 := match rec_ with
        | none => s1
        | some r =>
          ((s1.setReg (R.CIRC_COPYc_MASK r) (x.mask.setWidth 64)).set (R.CIRC_COPYc_STAT r) F.CIRC_COPYc_STAT_PENDING ds.length).set
            (R.CIRC_COPYc_STAT r) F.CIRC_COPYc_STAT_V 1
      formAll 12 true false (formCopies 12 cl ds x.data rec_ (stamped s2 protoCopy) s2)

/-- The head of CATP's sends is taken, or waits for a copy record (R275). -/
def catpIn (s : State) : State :=
  match s.cat.out with
  | [] => s
  | x :: t =>
    let pop := { s with cat := { s.cat with out := t } }
    if portState 12 s ≠ 0 then s
    else if x.mask = 0 ∧ x.failed = false ∧ x.waited = false then catSend x none pop
    else if x.waited then s
    else match freeRecord s with
      | some r => if x.failed then ethCount 12 7 pop else catSend x (some r) pop
      | none =>
        let s1 := { s with cat := { s.cat with out := { x with waited := true } :: t } }
        if s1.sw.recArmed then raiseFree 0x3C4 [0] { s1 with sw := { s1.sw with recArmed := false } } else s1

/-- COPY_RECORD_WAIT_END (R275): every context of the waiting send has closed; it is discarded if one failed, and sent with
DEP = 0 otherwise. -/
def execCopyRecordWaitEnd (s : State) : Host.Outcome State Fault Refusal :=
  .next (match s.cat.out with
    | x :: t =>
      if x.waited ∧ x.mask = 0 then
        let pop := { s with cat := { s.cat with out := t } }
        if x.failed then ethCount 12 7 pop else catSend x none pop
      else s
    | [] => s)

/-- The tunnel port or the remote carrel port sends the next frame it has (R283, R513). -/
def internalIn (p : Nat) (s : State) : State :=
  if portState p s ≠ 0 ∨ s.bit R.CIRC_CTL F.CIRC_CTL_EN = false then s
  else if p = 12 then catpIn s
  else if p = 13 then
    match s.sw.tunOut with
    | [] => s
    | (tc, x) :: t =>
      let s0 := rxCount 13 x.length { s with sw := { s.sw with tunOut := t } }
      let cl := classify 13 x s0
      if rxDrops cl x then ethCount 13 3 s0
      else
        let (ds, s1) := passIsolation cl.vid (octNat (x.take 6)) cl.dests s0
        formAll 13 true false (formCopies 13 { cl with tc := tc } ds x none (stamped s1 protoCopy) s1)
  else if p = 22 then
    match s.sw.rcOut with
    | [] => s
    | (q, tc, x) :: t =>
      let s0 := rxCount 22 x.length { s with sw := { s.sw with rcOut := t } }
      let (ds, s1) := passIsolation 0 (octNat (x.take 6)) (if portState q s0 = 2 then [] else [q]) s0
      formAll 22 true false (directCopies 22 tc ds x (stamped s1 protoCopy) s1)
  else s

/-- SYNC_RELAY (R74, R77, R263): a Sync of domain d whose start came `ago` ns before arrives whole on SLAVE_PORT. -/
def execSyncRelay (d : Fin 2) (x : Octets) (ago : BitVec 32) (s : State) : Host.Outcome State Fault Refusal :=
  let g := R.CIRC_GPTPd d.val
  let p := s.get g F.CIRC_GPTPd_SLAVE_PORT
  .next (
    if !isExternal p || !rxAble p s then s
    else
      let sof := s.now - ago.toNat
      let s0 := noteSync d.val s
      let proto := stamped s0 protoCopy
      let tc := s.get (R.ETH_Pp_PCPMAP p) F.ETH_Pp_PCPMAP_MAP / 8 ^ s.get (R.ETH_Pp_CTL p) F.ETH_Pp_CTL_DEF_PCP % 8
      let s1 := formAll p true false (localCopy p x tc { proto with gtc := sof } s0)
      if s.bit g F.CIRC_GPTPd_RELAY_EN && s.bit (R.TIME_DOMd_CFG d.val) F.TIME_DOMd_CFG_ONE_STEP && s.bit R.CIRC_CTL F.CIRC_CTL_EN then
        let m := s.get g F.CIRC_GPTPd_MASTER_PORTS
        let ds := (List.range 24).filter fun q => inMask m q && decide (q ≠ 12) && decide (q ≠ 23) && decide (portState q s1 ≠ 2)
        let (f, s2) := newNum s1
        let s3 := ds.foldl (fun t q =>
          let (n, t1) := newNum t
          let c : Copy := { proto with num := n, frame := f, inp := p, out := q, tc := tc, data := x, multi := ds.length, sync := some (d.val, sof, p) }
          { t1 with sw := { t1.sw with copies := t1.sw.copies ++ [c] } }) s2
        formAll p true false s3
      else s1)

/-! ### Admission and release (R253 to R258, R271) -/

/-- The fabric slot (R253). The fabric's cycle count is taken as the GTC (assumption 42). -/
def slotNow (s : State) : Nat := s.now / 4

/-- Does a staged cell of a copy find room: fewer than 2 cells for its output in buffer m (R254)? -/
def bufRoom (m out : Nat) (s : State) : Bool :=
  decide (s.sw.copies.foldl (fun n c => if c.out = out then
    n + (c.cells.filter fun x => decide (x.phase = 1) && decide (x.buf = m) && decide (s.now + 8 ≤ x.arrive)).length else n) 0 < 2)

/-- Is copy x before y at its input: CATP by class, then by frame, cell and copy (R254, R276)? -/
def stageBefore (x y : Copy) (i : Nat) : Bool :=
  let cx := (x.cells.filter fun c => decide (c.phase ≠ 0)).length
  let cy := (y.cells.filter fun c => decide (c.phase ≠ 0)).length
  if i = 12 ∧ x.tc ≠ y.tc then decide (y.tc < x.tc)
  else decide (x.frame < y.frame) || (decide (x.frame = y.frame) && (decide (cx < cy) || (decide (cx = cy) && decide (x.num < y.num))))

/-- The first of some copies in an order. -/
def firstBy (lt : Copy → Copy → Bool) : List Copy → Option Copy
  | [] => none
  | x :: t => match firstBy lt t with
    | none => some x
    | some y => if lt y x then some y else some x

/-- May the input admit in this slot under its share and gap (R255)? -/
def paced (i : Nat) (s : State) : Bool :=
  let k := slotNow s
  let sh := s.get (R.ETH_Pp_SHARE i) F.ETH_Pp_SHARE_SHARE
  let as_ := (s.port i).admits
  decide (sh ≠ 0) && decide ((as_.filter fun a => decide (k < a + 192)).length < sh) &&
  (match as_ with
   | [] => true
   | a :: _ => decide (a + 192 / sh ≤ k) && decide (a < k))

/-- CELL_ADMISSION (R254, R255): input i admits its oldest staged cell whose output has room in the buffer of this slot. -/
def execCellAdmission (i : Fin 24) (s : State) : Host.Outcome State Fault Refusal :=
  let k := slotNow s
  let m := (i.val + k) % 24
  .next (
    if !paced i.val s || tileClosed .switchCore s then s
    else
      let cand := s.sw.copies.filter fun c => decide (c.inp = i.val) && (c.cells.any fun x => decide (x.phase = 0)) && bufRoom m c.out s
      match firstBy (fun x y => stageBefore x y i.val) cand with
      | none => s
      | some c =>
        let key := i.val * 24 + c.out
        let q := spGet (fun _ => 0#8) s.sw.seqs key
        let base := k + 1 + (c.out + 48 - m - (k + 1) % 24) % 24
        let busy := s.sw.copies.any fun d => decide (d.out = c.out) &&
          d.cells.any fun x => decide (x.phase = 1) && decide (x.buf = m) && decide (base * 4 + 8 ≤ x.arrive)
        let arr := (if busy then base + 24 else base) * 4 + 8
        let j := (c.cells.findIdx? fun x => decide (x.phase = 0)).getD 0
        let cells := c.cells.modify j fun x => { x with phase := 1, stamp := s.now, seq := q, arrive := arr, buf := m }
        let s1 := putCopy { c with cells := cells } s
        let s2 := { s1 with sw := { s1.sw with seqs := spPut (fun _ => 0#8) s1.sw.seqs key (q + 1) } }
        s2.setPort i.val { s2.port i.val with admits := (k :: (s2.port i.val).admits).take 256 })

/-- Cells of a copy that have been released. -/
def relCells (c : Copy) : Nat := (c.cells.filter fun x => decide (x.phase = 2)).length
/-- Cells a queue holds; with tc = 8 the whole port. -/
def queueCells (o tc : Nat) (s : State) : Nat :=
  s.sw.copies.foldl (fun n c => if c.out = o ∧ (c.tc = tc ∨ tc = 8) then n + relCells c else n) 0
/-- Cells in use (R271, R289): from their arrival in output cell memory until they are sent or discarded. -/
def cellsInUse (s : State) : Nat :=
  s.sw.copies.foldl (fun n c => n + (c.cells.filter fun x => decide (x.phase = 2) || (decide (x.phase = 1) && decide (x.arrive ≤ s.now))).length) 0
/-- Frame descriptors in use (R289). -/
def framesInUse (s : State) : Nat := (s.sw.copies.filter fun c => c.queued).length
/-- Copy records in use (R289). -/
def recordsInUse (s : State) : Nat := ((List.range 256).filter fun r => s.bit (R.CIRC_COPYc_STAT r) F.CIRC_COPYc_STAT_V).length

/-- A copy is dropped at the tail of its queue (R271). -/
def tailDrop (c : Copy) (s : State) : State :=
  let s1 := s.bump (R.ETH_Pp_Qq_DROP c.out c.tc)
  let s2 := endCopy c (if 1 < c.multi then ethCount c.out 10 s1 else s1)
  let k := s2.port c.out
  if k.tdArmed then ethEvent c.out 2 (s2.setPort c.out { k with tdArmed := false }) else s2

/-- A cell that has not arrived by its release time (R258): a contained-class fault of the switch core, whose ports close
and whose sources' contexts fail (R26, R204). No rule gives the payload of 0x3C0: it is free (assumption 2). -/
def fabricFault (s : State) : State :=
  let (v, s1) := s.drawFree 64
  if s.faults.device.isSome then archive { stamp := s.now, src := 0x3C0, payload := immw v } 1 0 s1
  else (List.range 24).foldl (fun x p => ctxFail (24 + p) .late x) (closeTile .switchCore (fault 1 0x3C0 v 0 [] s1))

/-- CELL_RELEASE (R257, R258, R271, R273): the next cell of input i is released at output o at its STAMP + 200 ns. -/
def execCellRelease (o i : Fin 24) (s : State) : Host.Outcome State Fault Refusal :=
  let flight := s.sw.copies.filter fun c => decide (c.inp = i.val) && decide (c.out = o.val) && c.cells.any fun x => decide (x.phase = 1)
  let stampOf (c : Copy) : Nat := ((c.cells.find? fun x => decide (x.phase = 1)).map (·.stamp)).getD 0
  .next (match firstBy (fun x y => decide (stampOf x < stampOf y)) flight with
    | none => s
    | some c =>
      match c.cells.findIdx? fun x => decide (x.phase = 1) with
      | none => s
      | some j =>
        let x := c.cells.getD j { first := true, last := true, octets := 0 }
        if s.now < x.stamp + 200 then s
        else if x.stamp + 200 < x.arrive then (if tileClosed .switchCore s then s else fabricFault s)
        else
          let s0 := s
          if portState o.val s0 = 2 then dropCopy c 9 s0
          else
            let full := decide (131072 ≤ cellsInUse s0)
            let c1 := { c with cells := c.cells.modify j fun y => { y with phase := 2 } }
            let warn (u : State) : State :=
              let n := cellsInUse u
              let above := decide (u.get R.CIRC_POOL F.CIRC_POOL_WARN < n)
              if above && !u.sw.warned then raiseFree 0x3C2 [0] { u with sw := { u.sw with warned := true } }
              else { u with sw := { u.sw with warned := above } }
            if x.first then
              if s0.get (R.ETH_Pp_Qq o.val c.tc) F.ETH_Pp_Qq_THRESH ≤ queueCells o.val c.tc s0 ∨
                  s0.get (R.ETH_Pp_SHARE o.val) F.ETH_Pp_SHARE_POOL_MAX ≤ queueCells o.val 8 s0 ∨ 16384 ≤ framesInUse s0 then tailDrop c s0
              else warn (putCopy { c1 with queued := true, enqAt := s.now, dlAt := s.now } s0)
            else if full then
              (if c.start.isSome then putCopy { c with bad := true, closed := true, cells := c.cells.take j } s0 else tailDrop c s0)
            else warn (putCopy c1 s0))

/-! ### Output selection (R264, R267 to R270) -/

/-- Does copy x stand before y in its queue (R267, R270)? -/
def queueBefore (x y : Copy) : Bool := decide (x.enqAt < y.enqAt) || (decide (x.enqAt = y.enqAt) && decide (x.num < y.num))
/-- The head copy of a class. -/
def queueHead (o tc : Nat) (s : State) : Option Copy :=
  firstBy queueBefore (s.sw.copies.filter fun c => decide (c.out = o) && decide (c.tc = tc) && c.queued && c.start.isNone)

/-- Are all the cells of a copy released, its LAST among them? -/
def allReleased (c : Copy) : Bool := c.closed && c.cells.all fun x => decide (x.phase = 2)

/-- The latest due time of the contexts a copy depends on; none where it depends on no open one (R207). -/
def dueOf (c : Copy) (s : State) : Option Nat :=
  match c.rec_ with
  | none => none
  | some r =>
    let m := recMask r s
    if m = 0 then none
    else some ((List.range 48).foldl (fun d p => if m.getLsbD p then max d (s.reg (R.CAT_RXp_DUE p)).toNat else d) 0)

/-- The earliest start of a copy under R207, in tenths of a nanosecond; 0 when nothing holds it. -/
def startTenths (c : Copy) (s : State) : Nat :=
  match dueOf c s with
  | none => 0
  | some d => (d + 40) * 10 - wireTenths c.out (gateLen c s) s

/-- May a copy start but for R207: its gate with the guard of R268, and R264? -/
def mayStart (c : Copy) (s : State) : Bool :=
  (c.cut || allReleased c) &&
  (match gateLeft c.out c.tc s with
   | none => true
   | some l => decide (wireTenths c.out (gateLen c s) s < l * 10) || (decide (l ≠ 0) && decide (wireTenths c.out (gateLen c s) s = l * 10)))

/-- The copy an output starts now: the highest class whose head may start; a copy that waits for R207 lets another class go
only if that ends before it starts (R267, R269). -/
def chooseStart (o : Nat) (s : State) : Option Copy :=
  if portState o s ≠ 0 ∨ (s.sw.copies.any fun c => decide (c.out = o) && c.start.isSome) = true ∨ tileClosed (portTile o) s = true then none
  else
    let heads := ((List.range 8).reverse.filterMap fun tc => queueHead o tc s).filter fun c => mayStart c s
    let waiting := heads.filter fun c => decide (s.now * 10 < startTenths c s)
    heads.find? fun c => decide (startTenths c s ≤ s.now * 10) &&
      waiting.all fun w => decide (s.now * 10 + wireTenths o (gateLen c s) s ≤ startTenths w s)

/-- Add to the correctionField of an untagged Sync (R263). -/
def correctSync (x : Octets) (c : Int) : Octets :=
  let v : Int := (BitVec.ofNat 64 (octNat ((x.drop 22).take 8))).toInt + c
  x.take 22 ++ natOct 8 (BitVec.ofInt 64 v).toNat ++ x.drop 30

/-- Start a copy on its port: MACsec's SA counts or the frame is discarded (R282); a relayed Sync gets its correction. -/
def startCopy (c : Copy) (s : State) : State :=
  let ms := decide (c.out = 10) || decide (c.out = 11)
  if ms && !msTxReady (c.out - 10) s then dropCopy c 12 s
  else
    let c1 := match c.sync with
      | some (d, sof, p) => { c with data := correctSync c.data (syncCorrection d (s.now - sof) p s) }
      | none => c
    putCopy { c1 with start := some s.now } (if ms then msTransmit (c.out - 10) s else s)

/-- Has the started copy's time on the wire passed? -/
def wireDone (c : Copy) (s : State) : Bool :=
  match c.start with
  | none => false
  | some t => decide (t * 10 + wireTenths c.out c.data.length s ≤ s.now * 10)

/-- A started copy leaves the MAC, with a good or a bad colophon (R265): a good one counts in TX_FRAMES and TX_OCTETS, a bad one
in TX_ABORTED (assumption 91); and whether it ended bad. -/
def finishCopy (c : Copy) (s : State) : Bool × State :=
  let under := !allReleased c
  let bad := c.bad || under || c.cells.any (fun x => x.bad)
  let s1 := if under then ethCount c.out 8 s else s
  let s2 := if bad then ethCount c.out 6 (if 1 < c.multi then ethCount c.out 10 s1 else s1)
    else
      let s3 := ethCount c.out 4 s1
      s3.setReg (R.ETH_Pp_CNT c.out 5) (BitVec.ofNat 64 (min ((s3.reg (R.ETH_Pp_CNT c.out 5)).toNat + c.data.length + 4) (2 ^ 64 - 1)))
  (bad, endCopy c s2)

/-- AGING_PROMOTION (R270): the oldest overdue copy of a class goes to the next one. -/
def execAgingPromotion (o : Fin 24) (tc : Fin 7) (s : State) : Host.Outcome State Fault Refusal :=
  let dl := s.get (R.ETH_Pp_Qq o.val tc.val) F.ETH_Pp_Qq_DEADLINE
  let late := s.sw.copies.filter fun c => decide (c.out = o.val) && decide (c.tc = tc.val) && c.queued && c.start.isNone &&
    decide (c.dlAt + 100 * dl ≤ s.now)
  .next (if dl = 0 then s
    else match firstBy queueBefore late with
      | none => s
      | some c => putCopy { c with tc := tc.val + 1, dlAt := s.now } (s.bump (R.ETH_Pp_Qq_AGED o.val tc.val)))

/-! ### Port states (R265, R273, R274) -/

/-- A port leaves UP: the frame on the wire is completed bad, or abandoned when the link is lost; reception ends; GRACE
begins, and with GRACE = 0 the port goes DOWN at once. -/
def flushPort (p : Nat) (s : State) : State :=
  let qs := s.sw.copies.filter fun c => decide (c.out = p) && c.queued && c.start.isNone
  let s1 := qs.foldl (fun t c => dropCopy c 9 t) s
  ethEvent p 1 (setPortState p 2 s1)

/-- The port leaves UP (R273, R274). -/
def portLeaves (p : Nat) (lost : Bool) (s : State) : State :=
  let s1 := match s.sw.copies.find? fun c => decide (c.out = p) && c.start.isSome with
    | none => s
    | some c => if lost then dropCopy c 6 s else putCopy { c with bad := true } s
  let s2 := ctxFail (24 + p) .none ((closeOpen p s1).setPort p { s1.port p with rx := none })
  let g := s.get (R.ETH_Pp_CTL p) F.ETH_Pp_CTL_GRACE
  let s3 := setPortState p 1 (s2.setPort p { s2.port p with graceAt := s.now + 1000 * g })
  if g = 0 then flushPort p s3 else s3

/-- Link and EN decide a port's return to UP (R273). -/
def portReturns (p : Nat) (s : State) : State :=
  let up := !isExternal p || s.bit (R.ETH_Pp_STAT p) F.ETH_Pp_STAT_LINK
  if s.bit (R.ETH_Pp_CTL p) F.ETH_Pp_CTL_EN && up && decide (portState p s ≠ 0) && decide (p < 23) && !(isExternal p && segAsleep (portSegment p) s) then
    setPortState p 0 s
  else s

/-- ETH_LINK_LOSS (R273, R274). -/
def execEthLinkLoss (p : Fin 12) (s : State) : Host.Outcome State Fault Refusal :=
  let s1 := s.set (R.ETH_Pp_STAT p.val) F.ETH_Pp_STAT_LINK 0
  let s2 := if portState p.val s = 0 then portLeaves p.val true s1 else s1
  .next (if p.val = 10 ∨ p.val = 11 then sessionsStop (p.val - 10) s2 else s2)

/-- ETH_LINK_UP (R273): the link comes up at a speed of R290. -/
def execEthLinkUp (p : Fin 12) (speed : Fin 6) (s : State) : Host.Outcome State Fault Refusal :=
  .next (portReturns p.val ((s.set (R.ETH_Pp_STAT p.val) F.ETH_Pp_STAT_LINK 1).set (R.ETH_Pp_STAT p.val) F.ETH_Pp_STAT_SPEED speed.val))

/-- GRACE_EXPIRY (R273). -/
def execGraceExpiry (p : Fin 23) (s : State) : Host.Outcome State Fault Refusal :=
  .next (if portState p.val s = 1 ∧ (s.port p.val).graceAt ≤ s.now then flushPort p.val s else s)

/-- PLCA_BEACON (R280). -/
def execPlcaBeacon (p : Fin 4) (s : State) : Host.Outcome State Fault Refusal :=
  .next ((ethCount p.val 13 (s.set (R.ETH_Pp_STAT p.val) F.ETH_Pp_STAT_PLCA_LOST 0)).setPort p.val { s.port p.val with beacon := s.now })

/-- PLCA_BEACON_TIMEOUT (R280): a follower has heard no beacon for 4 × TO × node count bit times of 100 ns. -/
def execPlcaBeaconTimeout (p : Fin 4) (s : State) : Host.Outcome State Fault Refusal :=
  let r := R.ETH_Pp_PLCA p.val
  let id := s.get r F.ETH_Pp_PLCA_NODE_ID
  let lim := 4 * s.get r F.ETH_Pp_PLCA_TO_TIMER * s.get r F.ETH_Pp_PLCA_NODE_CNT * 100
  .next (if s.get (R.ETH_Pp_CTL p.val) F.ETH_Pp_CTL_MODE = 1 ∧ id ≠ 0 ∧ id ≠ 255 ∧ (s.port p.val).beacon + lim ≤ s.now ∧
        s.bit (R.ETH_Pp_STAT p.val) F.ETH_Pp_STAT_PLCA_LOST = false then
      ethEvent p.val 4 (s.set (R.ETH_Pp_STAT p.val) F.ETH_Pp_STAT_PLCA_LOST 1)
    else s)

/-! ### The tunnel (R283, R284, R317 to R320) -/

/-- Encapsulation context e. -/
def State.enc (s : State) (e : Nat) : Enc := spGet (fun _ => ({} : Enc)) s.sw.encs e
/-- Replace an encapsulation context. -/
def State.setEnc (s : State) (e : Nat) (x : Enc) : State := { s with sw := { s.sw with encs := spPut (fun _ => ({} : Enc)) s.sw.encs e x } }

/-- A number as bits, most significant first. -/
def natBits (n v : Nat) : List Bool := (List.range n).map fun k => v.testBit (n - 1 - k)
/-- Octets from bits, most significant first. -/
def bitsOct : Nat → List Bool → Octets
  | 0, _ => []
  | n + 1, bs => (BitVec.ofNat 8 ((bs.take 8).foldl (fun v b => 2 * v + (if b then 1 else 0)) 0)) :: bitsOct n (bs.drop 8)

/-- The almanac time of a GTC in the past, in nanoseconds, modulo 2^64 (R284). -/
def almAt (g : Nat) (s : State) : Nat := (almNow s - (s.now - g)) % 2 ^ 64

/-- One ACF message (R283, R317): the field layout is that of IEEE 1722-2016 (assumption 43). -/
def acfOctets (m : AcfMsg) (mtv : Bool) (s : State) : Octets :=
  let pad := (4 - m.frame.data.length % 4) % 4
  let body := m.frame.data ++ List.replicate pad 0
  let f := m.frame.id
  let ts := if mtv then almAt m.gtc s else 0
  let bit (b : Bool) : Nat := if b then 1 else 0
  if m.lin then
    bitsOct 12 (natBits 7 3 ++ natBits 9 (3 + body.length / 4) ++ natBits 2 pad ++ natBits 1 (bit mtv) ++ natBits 5 m.bus ++
      natBits 8 f.toNat ++ natBits 64 ts) ++ body
  else
    bitsOct 16 (natBits 7 1 ++ natBits 9 (4 + body.length / 4) ++ natBits 2 pad ++ natBits 1 (bit mtv) ++ natBits 1 (bit (f.getLsbD 30)) ++
      natBits 1 (bit (f.getLsbD 29)) ++ natBits 1 (bit (f.getLsbD 32)) ++ natBits 1 (bit (f.getLsbD 31)) ++ natBits 1 (bit (f.getLsbD 33)) ++
      natBits 3 0 ++ natBits 5 m.bus ++ natBits 64 ts ++ natBits 3 0 ++ natBits 29 ((f.extractLsb' 0 29).toNat)) ++ body

/-- Send a context's NTSCF frame (R284). The frame's source address is not stated: it is free (assumption 2). -/
def encSend (e : Nat) (s : State) : State :=
  let k := s.enc e
  let dest := R.CIRC_ENCe_DEST e
  let ctl := R.CIRC_ENCe_CTL e
  let mtv := s.bit ctl F.CIRC_ENCe_CTL_MTV && !s.bit R.TIME_ALM_CTL F.TIME_ALM_CTL_HOLDOVER
  let acf := k.msgs.flatMap fun m => acfOctets m mtv s
  let (sa, s1) := s.drawFree 48
  let tci := s.get dest F.CIRC_ENCe_DEST_PCP * 8192 + s.get dest F.CIRC_ENCe_DEST_VID
  let hdr := bitsOct 12 (natBits 8 0x82 ++ natBits 1 1 ++ natBits 3 0 ++ natBits 1 0 ++ natBits 11 acf.length ++ natBits 8 k.seq.toNat ++
    natBits 64 (s.reg (R.CIRC_ENCe_STREAM e)).toNat)
  let x := natOct 6 (s.get dest F.CIRC_ENCe_DEST_DA) ++ natOct 6 sa.toNat ++ natOct 2 0x8100 ++ natOct 2 tci ++ natOct 2 0x22F0 ++ hdr ++ acf
  let s2 := (s1.addSat (R.CIRC_ENCe_CNT e) F.CIRC_ENCe_CNT_FRAMES 1).setEnc e { seq := k.seq + 1 }
  { s2 with sw := { s2.sw with tunOut := s2.sw.tunOut ++ [(s.get ctl F.CIRC_ENCe_CTL_TC, x)] } }

/-- ENCAP_MESSAGE (R284, R317, R318): the oldest message handed over joins its context. -/
def execEncapMessage (s : State) : Host.Outcome State Fault Refusal :=
  .next (match s.sw.tunIn with
    | [] => s
    | (e, m) :: t =>
      let s0 := { s with sw := { s.sw with tunIn := t } }
      if !s.bit (R.CIRC_ENCe_DEST e) F.CIRC_ENCe_DEST_V then s0
      else
        let k := s0.enc e
        let s1 := (s0.addSat (R.CIRC_ENCe_CNT e) F.CIRC_ENCe_CNT_MSGS 1).setEnc e
          { k with msgs := k.msgs ++ [m], since := if k.msgs.isEmpty then s.now else k.since }
        if s1.get (R.CIRC_ENCe_CTL e) F.CIRC_ENCe_CTL_MAXMSG ≤ k.msgs.length + 1 then encSend e s1 else s1)

/-- ENCAP_GATHER_EXPIRY (R284). -/
def execEncapGatherExpiry (e : Fin 64) (s : State) : Host.Outcome State Fault Refusal :=
  let k := s.enc e.val
  .next (if k.msgs.isEmpty then s
    else if k.since + 100 * s.get (R.CIRC_ENCe_CTL e.val) F.CIRC_ENCe_CTL_GATHER ≤ s.now then encSend e.val s else s)

/-- DECAP_MESSAGE (R284, R319, R320): a message of ACF type `ty` on a stream, for a bus, with its identifier fields and
data. -/
def execDecapMessage (stream : BitVec 64) (ty : BitVec 7) (bus : BitVec 5) (id : BitVec 52) (data : Octets) (s : State) : Host.Outcome State Fault Refusal :=
  let d := (List.range 64).find? fun d => s.bit (R.CIRC_DECd_CTL d) F.CIRC_DECd_CTL_V && decide (s.reg (R.CIRC_DECd_STREAM d) = stream)
  .next (if portState 13 s ≠ 0 then s
    else match d with
    | none => raiseFree 0x3C3 [0] s
    | some d =>
      let ctl := R.CIRC_DECd_CTL d
      let can := decide (ty = 1) || decide (ty = 2)
      let ok := (can && decide (bus.toNat < 16) && (s.get ctl F.CIRC_DECd_CTL_CAN_MASK).testBit bus.toNat) ||
        (decide (ty = 3) && decide (bus.toNat < 8) && (s.get ctl F.CIRC_DECd_CTL_LIN_MASK).testBit bus.toNat)
      if !ok then raiseFree 0x3C3 [0] (s.addSat ctl F.CIRC_DECd_CTL_DROPS 1)
      else if can then canTunnel bus.toNat { id := id, data := data, rlen := data.length } s
      else linTunnel bus.toNat (id.toNat % 64) data s)

/-! ### Management interfaces and register writes (R255, R261, R285, R289 to R291) -/

/-- MDIO_FRAME_DONE (R290): the management frame completes with what the PHY returned. -/
def execMdioFrameDone (n : Fin 2) (rdata : BitVec 16) (s : State) : Host.Outcome State Fault Refusal :=
  let c := R.ETH_MDIOn_CMD n.val
  .next (if s.bit c F.ETH_MDIOn_CMD_BUSY then
      let s1 := s.set c F.ETH_MDIOn_CMD_BUSY 0
      if 2 ≤ s.get c F.ETH_MDIOn_CMD_OP then s1.set c F.ETH_MDIOn_CMD_RDATA rdata.toNat else s1
    else s)

/-- Writes of the CIRC block that its rules refuse. -/
def circRefuses (a : Nat) (w nv : BitVec 64) (s : State) : Bool :=
  let o := offsetOf a
  if a = R.CIRC_FDB_CMD then decide (fget w F.CIRC_FDB_CMD_WRITE = 1) && decide (fget w F.CIRC_FDB_CMD_READ = 1)
  else if o = 0x1000 ∨ o = 0x1FFF then true
  else if 0x4000 ≤ o ∧ o < 0x4200 then
    let r := (o - 0x4000) / 8
    let en := s.bit (R.CIRC_RINGr_CTL r) F.CIRC_RINGr_CTL_EN
    (match o % 8 with
     | 0 => en || decide (fget nv F.CIRC_RINGr_BASE_BASE % 4 ≠ 0)
     | 1 => en && decide (fget nv F.CIRC_RINGr_CTL_PORTIDX ≠ fget (s.reg a) F.CIRC_RINGr_CTL_PORTIDX)
     | _ => false)
  else false

/-- What a write of the CIRC block does beside setting fields. -/
def circActs (a : Nat) (w : BitVec 64) (s : State) : State :=
  if a = R.CIRC_FDB_CMD then
    let i := fget w F.CIRC_FDB_CMD_INDEX
    if fget w F.CIRC_FDB_CMD_WRITE = 1 then
      { s with sw := { s.sw with fdb := spPut (fun _ => (0#64, 0#64)) s.sw.fdb i (s.reg R.CIRC_FDB_KEY, s.reg R.CIRC_FDB_RES) } }
    else if fget w F.CIRC_FDB_CMD_READ = 1 then
      (s.setReg R.CIRC_FDB_KEY (fdbGet i s).1).setReg R.CIRC_FDB_RES (fdbGet i s).2
    else s
  else s

/-- The sum of the admission shares (R255). -/
def shareSum (s : State) : Nat := (List.range 24).foldl (fun n p => n + s.get (R.ETH_Pp_SHARE p) F.ETH_Pp_SHARE_SHARE) 0

/-- The highest MODE a port of its kind has (R7, R290): T1S 1, SDS 2, UPL 1; the other ports have none but the reset value. -/
def ethModeMax (p : Nat) : Nat := if p < 4 then 1 else if p < 10 then 2 else if p < 12 then 1 else 0

/-- Writes of the ETH block that its rules refuse. -/
def ethRefuses (a : Nat) (nv : BitVec 64) (s : State) : Bool :=
  let o := offsetOf a
  if o < 0x6000 then
    let p := o / 0x400
    let k := o % 0x400
    if k = 0 then decide (ethModeMax p < fget nv F.ETH_Pp_CTL_MODE)
    else if k = 2 then decide (176 < shareSum s - s.get a F.ETH_Pp_SHARE_SHARE + fget nv F.ETH_Pp_SHARE_SHARE)
    else if k = 5 then decide (4 ≤ p)
    else if 0x100 ≤ k ∧ k < 0x180 then decide (fget nv F.ETH_Pp_GADMj_INTERVAL % 2 = 1) || decide (fget nv F.ETH_Pp_GADMj_INTERVAL < 16)
    else false
  else if 0x8000 ≤ o ∧ o < 0x8020 ∧ o % 16 = 0 then s.bit a F.ETH_MDIOn_CMD_BUSY
  else false

/-- What a write of the ETH block does beside setting fields. -/
def ethActs (a : Nat) (old w : BitVec 64) (s : State) : State :=
  let o := offsetOf a
  if o < 0x6000 then
    let p := o / 0x400
    let k := o % 0x400
    if k = 0 then
      if fget old F.ETH_Pp_CTL_EN = 1 ∧ fget w F.ETH_Pp_CTL_EN = 0 then (if portState p s = 0 then portLeaves p false s else s)
      else if fget w F.ETH_Pp_CTL_EN = 1 then portReturns p s
      else s
    else if k = 2 then s.set R.CIRC_STAT F.CIRC_STAT_SHARE_SUM (shareSum s)
    else if k = 0x1F then
      if w.getLsbD 0 then
        let s1 := (List.range 14).foldl (fun t j => t.setReg (R.ETH_Pp_CNT p j) 0#64) s
        let s2 := (List.range 8).foldl (fun t q => (t.setReg (R.ETH_Pp_Qq_DROP p q) 0#64).setReg (R.ETH_Pp_Qq_AGED p q) 0#64) s1
        let s3 := s2.setPort p { s2.port p with tdArmed := true }
        if p = 12 then { s3 with sw := { s3.sw with recArmed := true } } else s3
      else s
    else if k = 0x20 then (if fget w F.ETH_Pp_GCTL_CHANGE = 1 then gateChange p s else s)
    else s
  else if 0x8000 ≤ o ∧ o < 0x8020 ∧ o % 16 = 0 then
    if fget w F.ETH_MDIOn_CMD_START = 1 then s.set a F.ETH_MDIOn_CMD_BUSY 1 else s
  else s

/-- Writes of the MACSEC block that R291 refuses: the registers of an SA in use. -/
def macsecRefuses (a : Nat) (s : State) : Bool :=
  let u := offsetOf a / 0x1000
  let k := offsetOf a % 0x1000
  let ctl := R.MACSEC_Iu_CTL u
  let en := s.bit ctl F.MACSEC_Iu_CTL_EN
  if 0x10 ≤ k ∧ k < 0x20 then
    let sa := (k - 0x10) / 4
    en && decide (s.get ctl F.MACSEC_Iu_CTL_TX_AN = sa) && s.bit (R.MACSEC_Iu_TXSAa_KEY u sa) F.MACSEC_Iu_TXSAa_KEY_V
  else if 0x100 ≤ k ∧ k < 0x180 ∧ 4 ≤ k % 16 then
    let c := (k - 0x100) / 16
    let sa := (k % 16 - 4) / 3
    en && s.bit (R.MACSEC_Iu_RXSCc_CTL u c) F.MACSEC_Iu_RXSCc_CTL_V && s.bit (R.MACSEC_Iu_RXSCc_SAa_KEY u c sa) F.MACSEC_Iu_RXSCc_SAa_KEY_V
  else false

/-- What a write of the MACSEC block does beside setting fields. -/
def macsecActs (a : Nat) (w : BitVec 64) (s : State) : State :=
  if offsetOf a % 0x1000 = 0x20F ∧ w.getLsbD 0 = true then
    (List.range 7).foldl (fun t j => t.setReg (R.MACSEC_Iu_CNT (offsetOf a / 0x1000) j) 0#64) s
  else s

end Sys2Proof.Machine
end

