-- ==== Sys2Proof/Machine/NetSleep.lean ====
section
/-!
DEFINITION. Network sleep: wings, closing rounds, the lock-up instant, wake requests and selective wake
(spec/08_network_sleep_and_wings.md R335 to R357).
-/
namespace Sys2Proof.Machine

open Sys2Proof

/-! ### Wings and their segments (R335 to R339) -/

/-- The segments of a wing. -/
def wingSegs (w : Nat) (s : State) : List Nat :=
  (List.range 36).filter fun g => s.bit (R.NM_SEGs_CFG g) F.NM_SEGs_CFG_MEMBER && decide (s.get (R.NM_SEGs_CFG g) F.NM_SEGs_CFG_WING = w)
/-- Its ring segments. -/
def ringSegs (w : Nat) (s : State) : List Nat := (wingSegs w s).filter segRing
/-- A segment's MEMBERS. -/
def segMembers (g : Nat) (s : State) : Nat := s.get (R.NM_SEGs_CFG g) F.NM_SEGs_CFG_MEMBERS
/-- A timing field of a wing in ns. -/
def wingMs (w : Nat) (f : Fld) (s : State) : Nat := msNs * s.get (R.NM_WINGw_CFG w) f

/-- A wing enters a state, with its event (R338, R356). -/
def setWingState (w st : Nat) (s : State) : State :=
  let a := R.NM_WINGw_STAT w
  let s1 := s.set a F.NM_WINGw_STAT_STATE st
  let s2 := if st = 3 then s1 else s1.setReg (R.NM_WINGw_LOCKUP w) 0#64
  let pay := st + s2.get a F.NM_WINGw_STAT_CAUSE * 16 + s2.get a F.NM_WINGw_STAT_OVERRULED * 2 ^ 16
  raiseTo (0x2C0 + w) (immw (BitVec.ofNat 64 pay)) (ownDest (R.NM_WINGw_OWN w) s2) s2

/-- Is the segment in service: its controller on, or its port UP? -/
def segServed (g : Nat) (s : State) : Bool :=
  if g < 16 then s.bit (R.CANn_CTL g) F.CANn_CTL_EN
  else if g < 24 then s.bit (R.LINm_CTL (g - 16)) F.LINm_CTL_EN
  else decide (portState (g - 24) s = 0)

/-- Set UP of every segment of a wing that is in service. -/
def noteUp (w : Nat) (s : State) : State :=
  (wingSegs w s).foldl (fun t g => t.setBit (R.NM_SEGs_STAT g) F.NM_SEGs_STAT_UP (segServed g t)) s

/-- A wing enters AWAKE (R338); `fresh` starts the time of R353 anew. -/
def enterAwake (w : Nat) (fresh : Bool) (s : State) : State :=
  let k := s.wing w
  setWingState w 1 (s.setWing w { k with awakeAt := s.now, enteredAt := if fresh then s.now else k.enteredAt, rounds := [] })

/-! ### Tokens (R342 to R345) -/

/-- A token's body (R343). -/
def tokenBody (next code round members consent lockup : Nat) : Octets :=
  [BitVec.ofNat 8 (next + 16 * code), BitVec.ofNat 8 round, BitVec.ofNat 8 members, BitVec.ofNat 8 (members / 256),
   BitVec.ofNat 8 consent, BitVec.ofNat 8 (consent / 256), BitVec.ofNat 8 (lockup / 256), BitVec.ofNat 8 lockup]

/-- Send a token on a segment of wing w. -/
def sendToken (w g code next consent lockup : Nat) (s : State) : State :=
  let body := tokenBody next code (s.get (R.NM_WINGw_STAT w) F.NM_WINGw_STAT_ROUND) (segMembers g s) consent lockup
  { s with tokens := spPut (fun _ => []) s.tokens g body }

/-- The lowest member above a node, 0 when there is none (R342, R344). -/
def nextMember (members n : Nat) : Nat := ((List.range 16).find? fun k => decide (n < k) && members.testBit k).getD 0

/-- Send ABORT on the ring segments whose round has not failed (R344, R346, R348). -/
def sendAborts (w : Nat) (s : State) : State :=
  (ringSegs w s).foldl (fun t g =>
    if (t.wing w).rounds.any (fun r => decide (r.seg = g) && decide (r.status = 2)) then t
    else sendToken w g 5 0 (t.get (R.NM_SEGs_STAT g) F.NM_SEGs_STAT_CONSENT) 0 t) s

/-- Send COMPLETE on every ring segment and enter LOCKUP (R345, R353). -/
def enterLockup (w : Nat) (overruled : Bool) (s : State) : State :=
  let win := s.get (R.NM_WINGw_CFG w) F.NM_WINGw_CFG_WINDOW
  let s1 := s.setWing w { s.wing w with doneAt := s.now }
  let s2 := (s1.setReg (R.NM_WINGw_LOCKUP w) (BitVec.ofNat 64 (s.now + win * msNs))).setBit (R.NM_WINGw_STAT w) F.NM_WINGw_STAT_OVERRULED overruled
  let s3 := (ringSegs w s2).foldl (fun t g => sendToken w g 4 0 (t.get (R.NM_SEGs_STAT g) F.NM_SEGs_STAT_CONSENT) win t) s2
  setWingState w 3 s3

/-- Every ring segment's round is complete: LOCKUP (R338, R345). -/
def tryComplete (w : Nat) (s : State) : State :=
  if (s.wing w).rounds.all fun r => decide (r.status = 1) then
    enterLockup w false (s.addSat (R.NM_WINGw_CNT w) F.NM_WINGw_CNT_ROUNDS 1)
  else s

/-- A wing enters CLOSING and starts a round on every ring segment (R342). -/
def enterClosing (w : Nat) (s : State) : State :=
  let s1 := setWingState w 2 (s.addWrap (R.NM_WINGw_STAT w) F.NM_WINGw_STAT_ROUND 1)
  let gs := ringSegs w s1
  let s2 := gs.foldl (fun t g =>
    let m := segMembers g t
    let n := nextMember m 0
    let t1 := (t.set (R.NM_SEGs_STAT g) F.NM_SEGs_STAT_CONSENT 1).set (R.NM_SEGs_STAT g) F.NM_SEGs_STAT_LAST_NODE n
    if m = 1 then t1 else sendToken w g 1 n 1 0 t1) s1
  let rounds := gs.map fun g =>
    ({ seg := g, status := if segMembers g s1 = 1 then 1 else 0, node := nextMember (segMembers g s1) 0, sentAt := s.now } : Round)
  tryComplete w (s2.setWing w { s2.wing w with rounds := rounds })

/-- A wing leaves AWAKE for CLOSING when READY = 1, MIN_AWAKE has elapsed and no retry wait runs (R338). -/
def tryClosing (w : Nat) (s : State) : State :=
  let k := s.wing w
  if s.bit (R.NM_WINGw_CFG w) F.NM_WINGw_CFG_EN && s.bit R.NM_CTL F.NM_CTL_EN && decide (wingState w s = 1) &&
      s.bit (R.NM_WINGw_CTL w) F.NM_WINGw_CTL_READY && decide (k.awakeAt + wingMs w F.NM_WINGw_CFG_MIN_AWAKE s ≤ s.now) &&
      decide (k.retryAt ≤ s.now) then enterClosing w s
  else s

/-- MIN_AWAKE_EXPIRY (R338). -/
def execMinAwakeExpiry (w : Fin 16) (s : State) : Host.Outcome State Fault Refusal := .next (tryClosing w.val s)
/-- RETRY_EXPIRY (R344). -/
def execRetryExpiry (w : Fin 16) (s : State) : Host.Outcome State Fault Refusal := .next (tryClosing w.val s)

/-- A round fails (R344): reason 0 refused, 1 silent, 2 mismatch. -/
def roundFail (w g reason node : Nat) (s : State) : State :=
  let k := s.wing w
  let s1 := s.setWing w { k with rounds := k.rounds.map fun r => if r.seg = g then { r with status := 2 } else r }
  let s2 := sendAborts w s1
  let missing := Nat.land (segMembers g s) (0xFFFF - s.get (R.NM_SEGs_STAT g) F.NM_SEGs_STAT_CONSENT)
  let s3 := (s2.addSat (R.NM_WINGw_CNT w) F.NM_WINGw_CNT_FAILED 1).setWing w
    { s2.wing w with retryAt := s.now + msNs * s.get (R.NM_WINGw_TIME w) F.NM_WINGw_TIME_RETRY }
  let pay := g + reason * 64 + node * 256 + missing * 4096
  enterAwake w false (raiseTo (0x2E0 + w) (immw (BitVec.ofNat 64 pay)) (ownDest (R.NM_WINGw_OWN w) s3) s3)

/-- TOKEN_RECEIVED (R344, R345): a token's body from a node reaches the coordinator on a ring segment. -/
def execTokenReceived (g : Fin 36) (node : BitVec 4) (body : BitVec 64) (s : State) : Host.Outcome State Fault Refusal :=
  let o (k : Nat) : Nat := (body.extractLsb' (56 - 8 * k) 8).toNat
  let next := o 0 % 16
  let code := o 0 / 16
  let consent := o 4 + 256 * o 5
  .next (match segWing g.val s with
    | none => s
    | some w =>
      if !segRing g.val then s
      else if o 1 ≠ s.get (R.NM_WINGw_STAT w) F.NM_WINGw_STAT_ROUND ∨ code = 1 ∨ code = 4 ∨ code = 6 then
        s.addSat (R.NM_SEGs_STAT g.val) F.NM_SEGs_STAT_RING_ERR 1
      else if wingState w s ≠ 2 ∨ ((s.wing w).rounds.any fun r => decide (r.seg = g.val) && decide (r.status = 0)) = false then s
      else if code = 3 then roundFail w g.val 0 node.toNat s
      else if code = 2 then
        let s1 := s.set (R.NM_SEGs_STAT g.val) F.NM_SEGs_STAT_CONSENT consent
        if next = 0 then
          (if consent = segMembers g.val s then
            let k := s1.wing w
            tryComplete w (s1.setWing w { k with rounds := k.rounds.map fun r => if r.seg = g.val then { r with status := 1 } else r })
           else roundFail w g.val 2 node.toNat s1)
        else
          let k := s1.wing w
          (s1.set (R.NM_SEGs_STAT g.val) F.NM_SEGs_STAT_LAST_NODE next).setWing w
            { k with rounds := k.rounds.map fun r => if r.seg = g.val then { r with node := next, sentAt := s.now } else r }
      else s)

/-- HOP_TIMEOUT (R344): the addressed node has been silent for HOP_TMO. -/
def execHopTimeout (g : Fin 36) (s : State) : Host.Outcome State Fault Refusal :=
  .next (match segWing g.val s with
    | none => s
    | some w =>
      match (s.wing w).rounds.find? fun r => decide (r.seg = g.val) && decide (r.status = 0) with
      | none => s
      | some r => if wingState w s = 2 ∧ r.sentAt + wingMs w F.NM_WINGw_CFG_HOP_TMO s ≤ s.now then roundFail w g.val 1 r.node s else s)

/-! ### Sleep and waking (R339, R347, R355) -/

/-- A segment leaves the medium as its wing enters ASLEEP (R339). -/
def segSleep (g : Nat) (s : State) : State :=
  let s0 := s.set (R.NM_SEGs_STAT g) F.NM_SEGs_STAT_UP 0
  if g < 16 then
    (List.range 256).foldl (fun t b => if !mbReq g b t then t else if onBus g b t then abortReq g b t else failReq g b t) s0
  else if g < 24 then s0.setLin (g - 16) { s0.lin (g - 16) with hdr := none, wakeAt := none, lastAct := s.now }
  else if portState (g - 24) s0 = 0 then portLeaves (g - 24) false s0
  else s0

/-- LOCKUP_INSTANT (R347): once no earlier wake request can arrive, source 0x1FF is raised and the wing enters ASLEEP. Of
wings with equal stamps the lowest comes first. -/
def execLockupInstant (w : Fin 16) (s : State) : Host.Outcome State Fault Refusal :=
  let at_ := (s.reg (R.NM_WINGw_LOCKUP w.val)).toNat
  let hold := if (s.reg (R.NM_WINGw_WMASK w.val)).getLsbD 61 then 1000 * s.get R.TIME_ORDER_CTL F.TIME_ORDER_CTL_TWIN_HOLD else 64
  let before := (List.range w.val).any fun x => decide (wingState x s = 3) && decide ((s.reg (R.NM_WINGw_LOCKUP x)).toNat = at_)
  .next (
    if wingState w.val s ≠ 3 ∨ s.now < at_ + hold ∨ before = true then s
    else
      let e : Event := { stamp := at_, src := 0x1FF, payload := immw (BitVec.ofNat 64 w.val) }
      let s1 := notifyAll e (ownDest (R.NM_WINGw_OWN w.val) s) s
      let s2 := setWingState w.val 4 s1
      (wingSegs w.val s2).foldl (fun t g => segSleep g t) s2)

/-- A segment is released as its wing enters WAKING (R339). -/
def segRelease (g : Nat) (s : State) : State :=
  if g < 16 then s
  else if g < 24 then s.setLin (g - 16) { s.lin (g - 16) with wakeAt := some (s.now + 101 * msNs) }
  else portReturns (g - 24) s

/-- A wing enters WAKING (R338, R355). -/
def enterWaking (w src : Nat) (s : State) : State :=
  let s1 := setWingState w 5 ((s.set (R.NM_WINGw_STAT w) F.NM_WINGw_STAT_CAUSE src).setWing w { s.wing w with wakingAt := s.now })
  let s2 := (wingSegs w s1).foldl (fun t g => segRelease g t) s1
  -- a wing that enters WAKING ends DOZE (R587)
  if s2.power.dozeReq || decide (s2.power.pstate = .doze) then
    { (s2.set R.SYS_PWR_STAT F.SYS_PWR_STAT_WAKE_SRC src).setBit R.SYS_PWR_STAT F.SYS_PWR_STAT_WAKE_PARK false with
      power := { s2.power with exitPending := true } }
  else s2

/-- A segment is up; the wing enters AWAKE when all are (R339, R355). -/
def segUp (g : Nat) (s : State) : State :=
  match segWing g s with
  | none => s
  | some w =>
    let s1 := s.set (R.NM_SEGs_STAT g) F.NM_SEGs_STAT_UP 1
    let s2 := if segRing g then sendToken w g 6 0 0 0 s1 else s1
    if wingState w s2 = 5 ∧ ((wingSegs w s2).all fun x => s2.bit (R.NM_SEGs_STAT x) F.NM_SEGs_STAT_UP) = true then enterAwake w true s2 else s2

/-- SEGMENT_UP (R339, R355): a CAN controller has rejoined its bus, or a port is UP. -/
def execSegmentUp (g : Fin 36) (s : State) : Host.Outcome State Fault Refusal :=
  .next (match segWing g.val s with
    | none => s
    | some w =>
      if (wingState w s = 5 ∨ wingState w s = 1) ∧ s.bit (R.NM_SEGs_STAT g.val) F.NM_SEGs_STAT_UP = false ∧ segServed g.val s = true ∧
          ¬(16 ≤ g.val ∧ g.val < 24) then segUp g.val s
      else s)

/-- LIN_WAKE_RESUME (R339): 100 ms after the wake pulse the schedule resumes at START. -/
def execLinWakeResume (m : Fin 8) (s : State) : Host.Outcome State Fault Refusal :=
  let l := s.lin m.val
  .next (match l.wakeAt with
    | none => s
    | some t =>
      if s.now < t then s
      else
        let st := s.get (R.LINm_SCHED m.val) F.LINm_SCHED_START
        let s1 := (s.set (R.LINm_SCHED m.val) F.LINm_SCHED_CUR st).setLin m.val
          { l with wakeAt := none, table := st, slotEnd := s.now, sw := false, hdr := none, started := false, ovr := false, lastAct := s.now }
        segUp (16 + m.val) s1)

/-- WAKE_TMO_EXPIRY (R355): the wing enters AWAKE with the late segments recorded. -/
def execWakeTmoExpiry (w : Fin 16) (s : State) : Host.Outcome State Fault Refusal :=
  let lim := msNs * s.get (R.NM_WINGw_TIME w.val) F.NM_WINGw_TIME_WAKE_TMO
  .next (if wingState w.val s = 5 ∧ (s.wing w.val).wakingAt + lim ≤ s.now then
      let late := (wingSegs w.val s).filter fun g => !s.bit (R.NM_SEGs_STAT g) F.NM_SEGs_STAT_UP
      let m := late.foldl (fun v g => v ||| (1#64 <<< g)) 0#64
      enterAwake w.val true (s.flagBits (R.NM_WINGw_SEGLATE w.val) m)
    else s)

/-! ### Wake requests (R346, R348 to R350, R354) -/

/-- Does a request order before an instant whose own source is 0x1FF (R64, R70)? -/
def beforeInstant (e : Event) (at_ : Nat) : Bool := decide (e.stamp < at_) || (decide (e.stamp = at_) && decide (e.src < 0x1FF))

/-- WAKE_REQUEST (R338, R346, R348, R349, R354, R593): wing w weighs its first request. One that orders after the lock-up
instant waits for ASLEEP; while NM_CTL.EN = 0 every request is held. -/
def execWakeRequest (w : Fin 16) (s : State) : Host.Outcome State Fault Refusal :=
  let k := s.wing w.val
  .next (match k.wakes with
    | [] => s
    | e :: t =>
      if !s.bit R.NM_CTL F.NM_CTL_EN then s
      else
        let s0 := s.setWing w.val { k with wakes := t }
        match wingState w.val s with
        | 2 => enterAwake w.val false ((sendAborts w.val s0).set (R.NM_WINGw_STAT w.val) F.NM_WINGw_STAT_CAUSE e.src)
        | 3 =>
          let at_ := (s.reg (R.NM_WINGw_LOCKUP w.val)).toNat
          let absent := s.bit (R.NM_WINGw_STAT w.val) F.NM_WINGw_STAT_OVERRULED && decide (e.src ≤ 0x13D) &&
            !(s.reg (R.NM_WINGw_OVRMASK w.val)).getLsbD (e.src - 0x100)
          if !beforeInstant e at_ then s
          else if absent then s0
          else
            let s1 := (sendAborts w.val s0).set (R.NM_WINGw_STAT w.val) F.NM_WINGw_STAT_CAUSE e.src
            -- a request that orders before the completion instant aborts the round and counts nothing (R346)
            if e.stamp < k.doneAt ∧ s.bit (R.NM_WINGw_STAT w.val) F.NM_WINGw_STAT_OVERRULED = false then enterAwake w.val false s1
            else enterAwake w.val false (s1.addSat (R.NM_WINGw_CNT w.val) F.NM_WINGw_CNT_CANCELLED 1)
        | 4 => enterWaking w.val e.src s0
        | _ => s0)

/-- OVERRULE (R353): MAX_AWAKE has expired. The archive and notice payloads name the overruled segment as R356 lays them
out; the notice is one for the wing, and the segment and node it names are not stated: free (assumption 2). -/
def execOverrule (w : Fin 16) (s : State) : Host.Outcome State Fault Refusal :=
  let mx := s.get (R.NM_WINGw_CFG w.val) F.NM_WINGw_CFG_MAX_AWAKE
  let st := wingState w.val s
  .next (
    if mx = 0 ∨ (st ≠ 1 ∧ st ≠ 2) ∨ s.now < (s.wing w.val).enteredAt + mx * 1000000000 then s
    else
      let s0 := if st = 2 then sendAborts w.val s else s
      let s1 := s0.setWing w.val { s0.wing w.val with rounds := [] }
      let s2 := (ringSegs w.val s1).foldl (fun t g =>
        let miss := Nat.land (segMembers g t) (0xFFFE - Nat.land 0xFFFE (t.get (R.NM_SEGs_STAT g) F.NM_SEGs_STAT_CONSENT))
        let pay := BitVec.ofNat 64 (g + 3 * 64 + miss * 4096)
        archive { stamp := t.now, src := 0x2E0 + w.val, payload := immw pay } 0 pay (seen 0 t)) s1
      let (f, s3) := s2.drawFree 64
      let pay := (f &&& ~~~(0xC0#64)) ||| 0xC0#64
      let s4 := raiseTo (0x2E0 + w.val) (immw pay) (ownDest (R.NM_WINGw_OWN w.val) s3) s3
      enterLockup w.val true (s4.addSat (R.NM_WINGw_CNT w.val) F.NM_WINGw_CNT_OVERRULES 1))

/-! ### Wake sources (R350 to R352, R591, R592, R608) -/

/-- Has a PARK request been accepted, or is the device in PARK (R591, R592)? -/
def parking (s : State) : Bool := decide (s.power.pstate = .park) || decide (s.power.parkStep ≠ 0)

/-- Does a source end PARK: enabled in SYS_PARK_WMASK, or in the WMASK of a wing that was enabled at entry (R591)? -/
def endsPark (src : Nat) (s : State) : Bool :=
  let k := src - 0x100
  decide (0x100 ≤ src) && decide (k ≤ 61) &&
  ((s.reg R.SYS_PARK_WMASK).getLsbD k || s.power.parkWings.any fun w => (s.reg (R.NM_WINGw_WMASK w)).getLsbD k)

/-- A wake source of the always-on tile is produced (R350): in PARK the tile keeps up to 16 with their stamps (R591);
otherwise it is an event of the power die and a request of the wings it counts for. -/
def wakeSource (src : Nat) (pay : BitVec 64) (s : State) : State :=
  let e : Event := { stamp := s.pnow, src := src, payload := immw pay }
  if parking s then
    let s0 := if endsPark src s && s.power.parkWake.isNone then { s with power := { s.power with parkWake := some src } } else s
    if s0.power.wakes.length < 16 then { s0 with power := { s0.power with wakes := s0.power.wakes ++ [e] } }
    else s0.addSat R.SYS_PWR_STAT F.SYS_PWR_STAT_WAKE_LOST 1
  else if decide (s.power.pstate = .off) then s
  else queueWake e (powerRaise src pay s)

/-- A wake source for which the spec gives no payload. -/
def wakeFree (src : Nat) (s : State) : State :=
  let (v, s1) := s.drawFree 64
  wakeSource src v s1

/-- WAKE_PIN_EDGE (R350, R399): input k crosses its threshold: WAKE0 to WAKE7, then HVIN0 to HVIN15 at a level in 10 mV. -/
def execWakePinEdge (k : Fin 24) (rising : Bool) (lvl : BitVec 12) (s : State) : Host.Outcome State Fault Refusal :=
  .next (if s.power.powerHeld then s
    else if k.val < 8 then wakeFree (0x100 + k.val) s
    else
      let i := k.val - 8
      let a := R.LOAD_HVINi i
      let s1 := s.set a F.LOAD_HVINi_LEVEL lvl.toNat
      let ed := s.get a F.LOAD_HVINi_WAKE_EDGE
      let hit := decide (ed = 2) || (decide (ed = 0) && rising) || (decide (ed = 1) && !rising)
      if s.bit a F.LOAD_HVINi_WAKE_EN && hit then wakeFree (0x12C + i) s1 else s1)

/-- Does the decoder of CANn run (R350)? -/
def swRuns (n : Nat) (s : State) : Bool :=
  s.bit (R.NM_SWn_CFG n) F.NM_SWn_CFG_EN &&
  (parking s || !s.bit (R.CANn_CTL n) F.CANn_CTL_EN ||
   (match segWing n s with
    | some w => decide (wingState w s = 3) || decide (wingState w s = 4)
    | none => false))

/-- SELECTIVE_WAKE_MATCH (R351): a Classical CAN frame ends its CRC delimiter at the decoder of CANn; a wake-up frame
raises 0x108 + n. A correctly decoded frame takes 1 from FDC (R352). -/
def execSelectiveWakeMatch (n : Fin 16) (id : BitVec 29) (ide rtr : Bool) (dlc : BitVec 4) (data : BitVec 64) (s : State) : Host.Outcome State Fault Refusal :=
  let c := R.NM_SWn_CFG n.val
  let st := R.NM_SWn_STAT n.val
  let i := R.NM_SWn_ID n.val
  .next (
    if !swRuns n.val s then s
    else
      let s1 := s.set st F.NM_SWn_STAT_FDC (s.get st F.NM_SWn_STAT_FDC - 1)
      let mask := BitVec.ofNat 29 (s.get i F.NM_SWn_ID_MASK)
      let idOk := decide ((BitVec.ofNat 29 (s.get i F.NM_SWn_ID_ID) ^^^ id) &&& mask = 0#29) && (s.bit c F.NM_SWn_CFG_IDE == ide)
      let dOk := !s.bit c F.NM_SWn_CFG_DATA_EN || decide (dlc = 0) || decide (data &&& s.reg (R.NM_SWn_DATA n.val) ≠ 0#64)
      if idOk && !rtr && decide (dlc.toNat = s.get c F.NM_SWn_CFG_DLC) && dOk then
        let s2 := (s1.flag st F.NM_SWn_STAT_MATCH).addSat st F.NM_SWn_STAT_MATCHES 1
        wakeSource (0x108 + n.val) (BitVec.ofNat 64 (id.toNat * 2)) s2
      else s1)

/-- SW_DECODE_ERROR (R352): above 31 the decoder wakes with ERR_WAKE; no identifier has matched, so that field is free. -/
def execSwDecodeError (n : Fin 16) (s : State) : Host.Outcome State Fault Refusal :=
  let st := R.NM_SWn_STAT n.val
  .next (
    if !swRuns n.val s then s
    else if s.get st F.NM_SWn_STAT_FDC < 31 then s.addWrap st F.NM_SWn_STAT_FDC 1
    else
      let (f, s1) := s.drawFree 29
      wakeSource (0x108 + n.val) (BitVec.ofNat 64 (1 + f.toNat * 2)) ((s1.set st F.NM_SWn_STAT_FDC 0).flag st F.NM_SWn_STAT_ERR_WAKE))

/-- LIN_WAKE_PULSE (R350, R352): a dominant level of 150 µs or longer on RX ends. -/
def execLinWakePulse (m : Fin 8) (s : State) : Host.Outcome State Fault Refusal :=
  .next (if parking s || segAsleep (16 + m.val) s then wakeFree (0x118 + m.val) s else s)

/-- AON_TIMER_EXPIRY (R608): the countdown reaches zero. -/
def execAonTimerExpiry (s : State) : Host.Outcome State Fault Refusal :=
  .next (match s.power.aonAt with
    | some t => if t ≤ s.el then wakeFree 0x13C ({ s with power := { s.power with aonAt := none } }.setReg R.SYS_AON_TIMER 0#64) else s
    | none => s)

/-! ### Register writes (R336, R338, R349, R357) -/

/-- Does R336 refuse the enabling of wing w? -/
def wingEnBad (w : Nat) (s : State) : Bool :=
  let gs := wingSegs w s
  gs.isEmpty || !s.bit R.NM_CTL F.NM_CTL_EN ||
  gs.any (fun g => decide (16 ≤ g) && decide (g < 24) && !s.bit (R.LINm_CTL (g - 16)) F.LINm_CTL_ROLE) ||
  (ringSegs w s).any (fun g => !(segMembers g s).testBit 0 || (decide (g < 16) && decide (0x7EF < s.get (R.NM_SEGs_CFG g) F.NM_SEGs_CFG_TOKEN_BASE))) ||
  ((ringSegs w s).any (fun g => decide (24 ≤ g)) && (decide (s.reg R.NM_TOKEN_DA = 0#64) || decide (s.reg R.NM_TOKEN_SA = 0#64)))

/-- Writes of the NM block that R336 or R563 refuse. -/
def nmRefuses (a : Nat) (w nv : BitVec 64) (s : State) : Bool :=
  let o := offsetOf a
  if 0x100 ≤ o ∧ o < 0x148 ∧ o % 2 = 0 then (segWing ((o - 0x100) / 2) s).isSome
  else if 0x200 ≤ o ∧ o < 0x300 ∧ o % 16 = 0 then
    let k := (o - 0x200) / 16
    if s.bit a F.NM_WINGw_CFG_EN then decide (w ≠ fput (s.reg a) F.NM_WINGw_CFG_EN 0)
    else decide (fget nv F.NM_WINGw_CFG_EN = 1) && (wingEnBad k s || mappedAway .wing k s)
  else false

/-- EN of a wing is cleared (R338). -/
def wingDisable (w : Nat) (s : State) : State :=
  let s1 := setWingState w 0 (s.setWing w {})
  (wingSegs w s1).foldl (fun t g =>
    if g < 16 then t
    else if g < 24 then t.setLin (g - 16) { t.lin (g - 16) with wakeAt := none }
    else portReturns (g - 24) t) s1

/-- What a write of the NM block does beside setting fields. -/
def nmActs (a : Nat) (old w : BitVec 64) (s : State) : State :=
  let o := offsetOf a
  if a = R.NM_CNTCLR then
    if w.getLsbD 0 then
      let s1 := (List.range 36).foldl (fun t g => (t.set (R.NM_SEGs_STAT g) F.NM_SEGs_STAT_RING_ERR 0).set (R.NM_SEGs_STAT g) F.NM_SEGs_STAT_ISOLATED 0) s
      let s2 := (List.range 16).foldl (fun t k => t.setReg (R.NM_WINGw_CNT k) 0#64) s1
      (List.range 16).foldl (fun t n => t.set (R.NM_SWn_STAT n) F.NM_SWn_STAT_MATCHES 0) s2
    else s
  else if 0x200 ≤ o ∧ o < 0x300 then
    let k := (o - 0x200) / 16
    match o % 16 with
    | 0 =>
      if fget old F.NM_WINGw_CFG_EN = 0 ∧ fget w F.NM_WINGw_CFG_EN = 1 then tryClosing k (enterAwake k true (noteUp k (s.setWing k {})))
      else if fget old F.NM_WINGw_CFG_EN = 1 ∧ fget w F.NM_WINGw_CFG_EN = 0 then wingDisable k s
      else s
    | 4 =>
      let s1 := if fget old F.NM_WINGw_CTL_READY = 0 ∧ fget w F.NM_WINGw_CTL_READY = 1 then tryClosing k s
        else if fget old F.NM_WINGw_CTL_READY = 1 ∧ fget w F.NM_WINGw_CTL_READY = 0 ∧ wingState k s = 2 ∧
            s.bit (R.NM_WINGw_CFG k) F.NM_WINGw_CFG_EN = true then enterAwake k false (sendAborts k s)
        else s
      if fget w F.NM_WINGw_CTL_WAKE = 1 ∧ s.bit (R.NM_WINGw_CFG k) F.NM_WINGw_CFG_EN = true then wingRequest k 0#64 s1 else s1
    | _ => s
  else if a = R.NM_CTL ∧ fget old F.NM_CTL_EN = 0 ∧ fget w F.NM_CTL_EN = 1 then
    -- the wakes held since PARK are delivered and act, in stamp order (R591, R593)
    (s.power.wakes.foldl (fun t e => queueWake e (powerDeliver e t)) { s with power := { s.power with wakes := [] } })
  else s

end Sys2Proof.Machine
end

