-- ==== Sys2Proof/Machine/TimeCmd.lean ====
section
/-!
DEFINITION. The events of the clocks, the almanac and the time triggers (spec/02_time_and_ordering.md R53 to R88).
-/
namespace Sys2Proof.Machine

open Sys2Proof

/-- A GTC fault or the loss of a clock: a device-class fault of the GTC monitor (R55, R69, R584). No rule gives its
payload: free (assumption 2). -/
def gtcFault (s : State) : State :=
  let (v, s1) := s.drawFree 64
  fault 3 0xC40 v 0 [] s1

/-- GTC_COUNTER_MISMATCH (R54, R55): bits of the second counter flip, and the compare of the next cycle finds it. -/
def execGtcCounterMismatch (flip : BitVec 64) (s : State) : Host.Outcome State Fault Refusal :=
  let s1 := { s with time := { s.time with gtcDup := s.time.gtcDup ^^^ flip } }
  .next (if gtcRuns s ∧ s1.time.gtcDup ≠ s1.time.gtc then gtcFault s1 else s1)

/-- Is a PLL in use: 0 PLL_CORE, 1 PLL_FAB, 2 PLL_TIME (R55, R582, R584)? -/
def pllInUse (p : Nat) (s : State) : Bool :=
  pllsRun s && (decide (p ≠ 0) || decide (s.power.pstate ≠ .doze))

/-- PLL_LOSS_OF_LOCK (R55, R584). -/
def execPllLossOfLock (p : Fin 3) (s : State) : Host.Outcome State Fault Refusal :=
  .next (if pllInUse p.val s then gtcFault s else s)

/-- REFERENCE_CLOCK_LOSS (R584). -/
def execReferenceClockLoss (s : State) : Host.Outcome State Fault Refusal := .next (if pllsRun s then gtcFault s else s)

/-- ALIGNMENT_WORD (R56): every 1,024 ns the power die measures its deviation, a signed number of ns, and corrects it;
beyond 8 ns it is a GTC fault. -/
def execAlignmentWord (dev : BitVec 8) (s : State) : Host.Outcome State Fault Refusal :=
  .next (if gtcRuns s ∧ s.linkUp = true ∧ s.power.powerHeld = false ∧ s.now % 1024 < 2 then
      let s1 := s.set R.TIME_GTC_STAT F.TIME_GTC_STAT_PWR_DEV dev.toNat
      if dev.toInt < -8 ∨ 8 < dev.toInt then gtcFault s1 else s1
    else s)

/-- PWR_COPY_HOLD_END (R57): the reference reaches the held copy. -/
def execPwrCopyHoldEnd (s : State) : Host.Outcome State Fault Refusal :=
  .next (if s.bit R.TIME_GTC_STAT F.TIME_GTC_STAT_PWR_HELD ∧ s.pnow ≤ s.now then
      { s.set R.TIME_GTC_STAT F.TIME_GTC_STAT_PWR_HELD 0 with time := { s.time with pwrGtc := s.time.gtc } }
    else s)

/-- The link returns (R57): the copy jumps forward to the reference, or is held until the reference reaches it. -/
def alignCopy (s : State) : State :=
  if s.pnow ≤ s.now then { s with time := { s.time with pwrGtc := s.time.gtc } }
  else s.set R.TIME_GTC_STAT F.TIME_GTC_STAT_PWR_HELD 1

/-- NIGHT_CRYSTAL_FAIL (R61): the RC oscillator takes over; the corrected-class entry follows when the archive runs. -/
def execNightCrystalFail (s : State) : Host.Outcome State Fault Refusal :=
  let s1 := s.set R.TIME_GTC_STAT F.TIME_GTC_STAT_NIGHT_SRC 1
  .next (if s.bit R.TIME_GTC_STAT F.TIME_GTC_STAT_NIGHT_SRC then s
    else if s.bit R.STK_STAT F.STK_STAT_FILLED && pllsRun s then faultNoSrc 0 0 s1
    else { s1 with time := { s1.time with nightDue := true } })

/-- The almanac moved on by some GTC time at the rate in force at entry (R74). -/
def almAdvance (ns : Nat) (s : State) : State :=
  let r : Int := (almRate s).toInt
  let fr : Int := (s.time.almFrac.toNat : Int) + divRound ((ns : Int) * r) 2
  let t := s.time
  let s1 := match almMove t.almSec t.almNs ((ns : Int) + fr / (2 ^ 40 : Int)) with
    | some (sec, n) => { s with time := { t with almSec := sec, almNs := n, almFrac := BitVec.ofNat 40 (fr % (2 ^ 40 : Int)).toNat } }
    | none => s
  s1.flag R.TIME_ALM_CTL F.TIME_ALM_CTL_HOLDOVER

/-- The GTC passes to the coarse count (R58, R59). -/
def coarseEnter (s : State) : State :=
  if s.time.coarseRun then s
  else
    { s.set R.TIME_GTC_STAT F.TIME_GTC_STAT_PARK_TICKS 0 with
      time := { s.time with coarse := s.time.pwrGtc, coarseAcc := 0, coarseRun := true, parkGtc := s.time.pwrGtc, nightPhase := 0 } }

/-- GTC_RECONCILE (R60, R74): after lock, at a night-clock edge, both dies take the coarse count. -/
def execGtcReconcile (s : State) : Host.Outcome State Fault Refusal :=
  .next (match s.power.boot with
    | .waitReconcile =>
      let g := s.time.coarse
      let s1 := { s with
        time := { s.time with gtc := g, gtcDup := g, pwrGtc := g, coarseRun := false, nightPhase := 0 }
        power := { s.power with boot := .filling } }
      if s.time.coarseRun then almAdvance (g.toNat - s.time.parkGtc.toNat) s1 else s1
    | _ => s)

/-- SYNC_LOSS_TIMEOUT (R74). -/
def execSyncLossTimeout (s : State) : Host.Outcome State Fault Refusal :=
  .next (if syncLost s then s.flag R.TIME_ALM_CTL F.TIME_ALM_CTL_HOLDOVER else s)

/-- PPS_CAPTURE (R80): the selected edge captures the almanac and the GTC; the event's payload is not stated: free
(assumption 2). -/
def execPpsCapture (rising : Bool) (s : State) : Host.Outcome State Fault Refusal :=
  let ctl := R.TIME_PPS_CTL
  .next (if gtcRuns s ∧ s.bit ctl F.TIME_PPS_CTL_CAP_EN ∧ s.bit ctl F.TIME_PPS_CTL_EDGE ≠ rising then
      let s1 := if s.time.ppsUnread then s.flag ctl F.TIME_PPS_CTL_OVR else s
      let s2 := ((s1.setReg R.TIME_PPS_CAP_NS (s.time.almNs.setWidth 64)).setReg R.TIME_PPS_CAP_SEC (s.time.almSec.setWidth 64)).setReg
        R.TIME_PPS_CAP_GTC s.time.gtc
      raiseFree 0xC42 [0] { s2 with time := { s2.time with ppsUnread := true } }
    else s)

/-- TRIGGER_FIRE (R81 to R83, R85). -/
def execTriggerFire (n : Fin 64) (s : State) : Host.Outcome State Fault Refusal :=
  .next (if trgDue n.val s then
      let late := s.trgLate.contains n.val
      trgFire n.val late { s with trgLate := s.trgLate.filter (fun x => x ≠ n.val) }
    else s)

/-- PULSE_END (R82). -/
def execPulseEnd (n : Fin 64) (s : State) : Host.Outcome State Fault Refusal :=
  .next (if s.time.pulses.any (fun e => decide (e.1 = n.val) && decide (e.2 ≤ s.now)) then endPulse n.val s else s)

end Sys2Proof.Machine
end

