-- ==== Sys2Proof/Machine/FaultCmd.lean ====
section
/-!
DEFINITION. Faults, SAFE_N and the die-to-die link (spec/01_architecture.md R13 to R17, R26, R44 to R52), and the writes of
the fault registers.
-/
namespace Sys2Proof.Machine

open Sys2Proof

/-! ### SAFE_N (R48, R49) -/

/-- SAFE_N_FALL (R48): a low level begins on the ball. -/
def execSafeNFall (s : State) : Host.Outcome State Fault Refusal :=
  .next (if s.faults.safeLow then s else { s with faults := { s.faults with safeLow := true, safeSince := s.el } })

/-- SAFE_N_RECOGNISED (R48, R49): the level has lasted 2 µs. -/
def execSafeNRecognised (s : State) : Host.Outcome State Fault Refusal :=
  .next (if s.faults.safeLow ∧ s.faults.safeRec = false ∧ s.power.powerHeld = false ∧ s.faults.safeSince + 2000 ≤ s.el then
      let s1 := relayTwin 3 0x24 1 (powerRaise 0x24 1 { s with faults := { s.faults with safeRec := true } })
      if safeForces s1 then forceSafe s1 else s1
    else s)

/-- SAFE_N_RISE (R48, R49): the ball returns high; forcing ends, and no demand changes by itself. -/
def execSafeNRise (s : State) : Host.Outcome State Fault Refusal :=
  let s1 := { s with faults := { s.faults with safeLow := false, safeRec := false } }
  .next (if s.faults.safeRec then powerRaise 0x24 0 s1 else s1)

/-! ### Writes of the fault registers (R51) -/

/-- Writes the fault registers refuse: any write of a locked SYS_FAULT_CTL. -/
def faultRefuses (a : Nat) (s : State) : Bool := decide (a = R.SYS_FAULT_CTL) && s.bit a F.SYS_FAULT_CTL_LOCK

/-- What a write of the fault registers does beside setting fields: SAFE_IN_EN may start to force (R48). -/
def faultActs (a : Nat) (old : BitVec 64) (s : State) : State :=
  if a = R.SYS_FAULT_CTL ∧ fget old F.SYS_FAULT_CTL_SAFE_IN_EN = 0 ∧ safeForces s = true then forceSafe s else s

/-- SYS_FAULT_STAT as it reads: SAFE_IN and FAULT_OUT follow the device (R51). -/
def faultStat (s : State) : BitVec 64 :=
  let r := s.reg R.SYS_FAULT_STAT
  fput (fput r F.SYS_FAULT_STAT_SAFE_IN (if s.faults.safeRec then 1 else 0)) F.SYS_FAULT_STAT_FAULT_OUT (if faultOut s then 1 else 0)

/-! ### The die-to-die link (R13 to R15, R57) -/

/-- The link is lost for the power die: it takes the compute die as absent (R15, R394). -/
def linkLost (s : State) : State :=
  if !s.linkUp then s
  else
    let s1 := { s with linkUp := false }
    if s.power.powerHeld || computeAbsent s then s1 else leaseStart s1

/-- D2D_LINK_DOWN (R13, R15): an uncorrectable word; a device-class fault of the compute die. -/
def execD2dLinkDown (s : State) : Host.Outcome State Fault Refusal :=
  .next (if !s.linkUp then s
    else
      let s1 := linkLost s
      if s.power.computeHeld then s1
      else
        let (v, s2) := s1.drawFree 64
        fault 3 0x26 v 0 [] s2)

/-- D2D_LINK_UP (R15, R57, R395): training ends; the compute die, when it runs, resends its commands and takes the kept
events. -/
def execD2dLinkUp (s : State) : Host.Outcome State Fault Refusal :=
  .next (if s.linkUp || s.power.powerHeld then s
    else
      let s1 := { s with linkUp := true }
      if computeAbsent s1 then s1 else deliverHeld (resendAll (alignCopy s1)))

/-! ### Contained faults of a tile (R17, R26, R44, R45) -/

/-- The ownership register of unit u of a tile, where its units are owned (R478). -/
def tileOwner (t : Tile) (u : Nat) : Option Nat :=
  match t with
  | .can k => some (R.CANn_OWN (4 * k.val + u % 4))
  | .lin => some (R.LINm_OWN (u % 8))
  | .cataloguer k => some (R.CATG_TLt_OWN k.val)
  | .collation => some (R.COLL_Un_OWN (u % 16))
  | .time => some (R.TIME_TRGn_OWN (u % 64))
  | .strongroom => some (R.VAULT_Qq_OWN (u % 16))
  | .netSleep => some (R.NM_WINGw_OWN (u % 16))
  | .switches => some (R.LOAD_CHc_OWN (u % 8))
  | .gates g => some (R.LOAD_CHc_OWN (8 + 8 * g.val + u % 8))
  | .ioc => some (R.IOC_GPIOBb_OWN (u % 6))
  | _ => none

/-- The reception contexts whose source lies in a tile (R202, R204): CAN n is n, LIN m is 16 + m, port p is 24 + p. -/
def tileSources (t : Tile) : List Nat :=
  match t with
  | .can k => (List.range 4).map (fun j => 4 * k.val + j)
  | .lin => (List.range 8).map (fun j => 16 + j)
  | .t1s => (List.range 4).map (fun j => 24 + j)
  | .serdes => (List.range 6).map (fun j => 28 + j)
  | .uplinks => [34, 35]
  | .switchCore => (List.range 24).map (fun j => 24 + j)
  | _ => []

/-- Is it a tile of the power die (R12)? -/
def powerTile (t : Tile) : Bool :=
  match t with
  | .aon | .sequencer | .switches | .gates _ | .measurement => true
  | _ => false

/-- A contained-class fault of unit u in a tile: the report, the closed ports, the failed contexts, the channels off (R26,
R204, R393, R418). While a class-3 reaction is under way only the archive records it (R45). -/
def tileFault (t : Tile) (u : Nat) (s : State) : State :=
  let also := match tileOwner t u with
    | some r => ownDest r s
    | none => []
  if s.faults.device.isSome then
    let (n, s1) := s.drawFree 12
    archive { stamp := s.now, src := n.toNat } 1 0 s1
  else match t with
    | .pair p => pairTileFault p.val s
    | _ =>
      if powerTile t then tileFaultOff t (closeTile t (powerFault also s))
      else
        let (n, s1) := s.drawFree 12
        let (v, s2) := s1.drawFree 64
        let s3 := closeTile t (fault 1 n.toNat v 0 also s2)
        (tileSources t).foldl (fun x p => ctxFail p .late x) s3

/-- PARITY_MISMATCH (R17): parity or duplication fails in unit u of a tile. -/
def execParityMismatch (t : Tile) (u : BitVec 6) (s : State) : Host.Outcome State Fault Refusal :=
  .next (if s.power.computeHeld && !powerTile t then s else tileFault t u.toNat s)

end Sys2Proof.Machine
end

