-- ==== Sys2Proof/Machine/StkCmd.lean ====
section
/-!
DEFINITION. Stacks, fill, scrub, archive and xSPI (spec/11_stacks_and_memory.md R436 to R467): what the engines of the
stacks do, and the writes of the STK and ARCH blocks.
-/
namespace Sys2Proof.Machine

open Sys2Proof

/-! ### Fill (R443, R445, R450) -/

/-- Remove the listed words of a range of addresses: they read as the fill word, with good check bits (R443). -/
def fillRange (lo n : Nat) (s : State) : State :=
  let keep (a : Nat) : Bool := decide (a < lo) || decide (lo + n ≤ a)
  { s with
    mem := spKeep keep s.mem
    stk := { s.stk with ecc := spKeep keep s.stk.ecc, corr := s.stk.corr.filter keep } }

/-- Is an SRAM page withdrawn, by its own bit or with its bank (R449)? -/
def pageWithdrawn (n : Nat) (s : State) : Bool :=
  (s.reg (R.STK_WDk (n / 64))).getLsbD (n % 64) || (s.reg R.STK_BANKWD).getLsbD (n / 64) || s.stk.bankFill.contains (n / 64)

/-- Fill the pages of a list that are not withdrawn. -/
def fillPages (ps : List Nat) (s : State) : State :=
  ps.foldl (fun t n => if pageWithdrawn n t then t else fillRange (4096 * n) 4096 t) s

/-- FILL_BUSY follows the running fill, test and bank fills (R450, R466). -/
def markFill (s : State) : State :=
  s.setBit R.STK_STAT F.STK_STAT_FILL_BUSY (s.stk.fill.isSome || decide (s.stk.bankFill ≠ []))

/-- FILL_COMPLETE (R445): a range fill, or a page test with the pages that failed it, ends. -/
def execFillComplete (failing : List (BitVec 11)) (s : State) : Host.Outcome State Fault Refusal :=
  .next (match s.stk.fill with
    | none => s
    | some f =>
      let ps := (List.range f.count).map (fun i => f.page + i)
      let bad := if f.test then ps.filter (fun n => !pageWithdrawn n s && failing.contains (BitVec.ofNat 11 n)) else []
      let s1 := fillPages ps s
      let s2 := markFill { s1 with stk := { s1.stk with fill := none } }
      let first := bad.headD 0
      let s3 := if f.test then
          let t := (s2.set R.STK_TEST_RES F.STK_TEST_RES_PAGE first).set R.STK_TEST_RES F.STK_TEST_RES_FAILS bad.length
          if bad = [] then t.set R.STK_STAT F.STK_STAT_TEST_FAIL 0 else t.flag R.STK_STAT F.STK_STAT_TEST_FAIL
        else s2
      raiseLib 0xC5A (first + (if bad = [] then 0 else 2048) + bad.length * 4096) s3)

/-- BANK_FILL_DONE (R450): the bank's pages whose own bits are 0 are filled, and it accepts transactions. -/
def execBankFillDone (b : Fin 32) (s : State) : Host.Outcome State Fault Refusal :=
  .next (if s.stk.bankFill.contains b.val then
      let s1 := { s with stk := { s.stk with bankFill := s.stk.bankFill.filter (fun x => x ≠ b.val) } }
      markFill (fillPages ((List.range 64).map (fun i => 64 * b.val + i)) s1)
    else s)

/-! ### Correction and scrub (R438, R446, R447) -/

/-- CORRECTION_WRITE (R438): made only if no write has reached the word since the read that found the error. -/
def execCorrectionWrite (a : BitVec 48) (s : State) : Host.Outcome State Fault Refusal :=
  let x := a.toNat
  .next (if s.stk.corr.contains x then
      let m := s.eccAt x
      match eccFinds m with
      | some bit => s.wrMem x (s.rdMem x ^^^ (if bit = 80 then m else m ^^^ (1#80 <<< bit)).setWidth 72)
      | none => { s with stk := { s.stk with corr := s.stk.corr.filter (fun y => y ≠ x) } }
    else s)

/-- Is the word in an array the scrubber reads (R434, R439, R446)? -/
def scrubbed (a : Nat) : Bool :=
  match arrOf a with
  | .other => false
  | _ => true

/-- The index of a live archive entry's word (R467). -/
def liveIndex (a : Nat) : Option (Nat × Nat) :=
  if R.ARCH_CTL + 0x1000 ≤ a ∧ a < R.ARCH_CTL + 0x2000 then some ((a - (R.ARCH_CTL + 0x1000)) / 4, a % 4) else none

/-- An archive entry that cannot be read is rewritten as zero and counted (R439, R442). -/
def archDamaged (i : Nat) (s : State) : State :=
  let s1 := s.addSat R.ARCH_LOSS F.ARCH_LOSS_DAMAGED 1
  let s2 := { s1 with arch := { s1.arch with live := spDel s1.arch.live i, armed := false } }
  if s.arch.armed then raiseLib 0xC5B 0 s2 else s2

/-- SCRUB_READ (R437, R439, R446, R447): the scrubber reads a word some of whose 80 stored bits have changed since its
last access; `last` marks the last read of a pass. Where the word is uncorrectable and its tile's ports close, the open
contexts of the tile's sources fail (R204). -/
def execScrubRead (a : BitVec 48) (flips : BitVec 80) (last : Bool) (s : State) : Host.Outcome State Fault Refusal :=
  let x := a.toNat
  .next (if s.bit R.STK_CTL F.STK_CTL_SCRUB_EN = false ∨ s.bit R.STK_STAT F.STK_STAT_FILLED = false ∨ pllsRun s = false then s
    else
      let s0 := if last then s.addWrap R.STK_STAT F.STK_STAT_PASSES 1 else s
      match liveIndex x with
      | some (i, _) =>
        (match eccFinds flips with
         | some 80 => s0
         | some _ => faultNoSrc 0 0 s0
         | none => archDamaged i s0)
      | none =>
        if !scrubbed x || isWithdrawn x false s then s0
        else
          let s1 := s0.setEcc x (s0.eccAt x ^^^ flips)
          let (r, s2) := readArray x .scrub s1
          if r.isNone && tileClosed (arrTile (arrOf x)) s2 && !tileClosed (arrTile (arrOf x)) s1 then
            (tileSources (arrTile (arrOf x))).foldl (fun t p => ctxFail p .late t) s2
          else s2)

/-! ### The archive (R451 to R455, R467) -/

/-- An entry is written to the live ring and the retained store (R451, R453, R454). -/
def archWrite (e : ArchEntry) (s : State) : State :=
  let st := R.ARCH_STAT
  let i := s.get st F.ARCH_STAT_HEAD
  let n := s.get st F.ARCH_STAT_COUNT
  let s1 := if n = 1024 then s.addSat R.ARCH_LOSS F.ARCH_LOSS_OVERWRITTEN 1 else s.set st F.ARCH_STAT_COUNT (n + 1)
  let s2 := s1.set st F.ARCH_STAT_HEAD (i + 1)
  let kept := s2.arch.retained ++ [e]
  { s2 with arch := { s2.arch with
      live := spIns s2.arch.live i e
      retained := kept.drop (kept.length - 64) } }

/-- ARCHIVE_ENTRY_WRITE (R66, R68, R451, R452): the archive's stream releases its first event, at once when it is late, and
writes its entry under the next sequence number. -/
def execArchiveEntryWrite (s : State) : Host.Outcome State Fault Refusal :=
  .next (match s.arch.inq with
    | [] => s
    | x :: t =>
      let late := decide (x.ev.stamp < s.arch.last)
      if tileClosed .archive s || !pllsRun s || !s.bit R.STK_STAT F.STK_STAT_FILLED || (!late && decide (s.now < x.ev.stamp + 64)) then s
      else
        let seq := s.get R.ARCH_STAT F.ARCH_STAT_SEQ
        let e : ArchEntry :=
          { stamp := BitVec.ofNat 64 x.ev.stamp, src := BitVec.ofNat 12 x.ev.src, cls := x.cls, gap := s.arch.gap
            late := late, seq := BitVec.ofNat 32 seq, payload := wv x.ev.payload, detail := x.detail }
        let s1 := { s with arch := { s.arch with inq := t, gap := false, last := max s.arch.last x.ev.stamp } }
        let s2 := archWrite e (s1.addWrap R.ARCH_STAT F.ARCH_STAT_SEQ 1)
        if late then s2.addSat R.TIME_LATE_CNT F.TIME_LATE_CNT_COUNT 1 else s2)

/-- Word w of an archive entry (R453). -/
def ArchEntry.word (e : ArchEntry) (w : Nat) : BitVec 64 :=
  match w with
  | 0 => e.stamp
  | 1 => e.seq ++ 0#14 ++ BitVec.ofBool e.late ++ BitVec.ofBool e.prior ++ BitVec.ofBool e.gap ++ e.cls ++ e.src
  | 2 => e.payload
  | _ => e.detail

/-- Word w of live entry i; a place that holds no entry reads as the fill leaves it, value 0 (R443, R453). -/
def liveWord (i w : Nat) (s : State) : BitVec 64 := (spGet (fun _ => ({} : ArchEntry)) s.arch.live i).word w

/-- What a write of the ARCH block does (R467). -/
def archActs (a : Nat) (w : BitVec 64) (s : State) : State :=
  if a = R.ARCH_CLR then
    let s1 := if fget w F.ARCH_CLR_CLR = 1 then
        let s0 := (s.set R.ARCH_STAT F.ARCH_STAT_COUNT 0).setReg R.ARCH_LOSS 0
        { s0 with arch := { s0.arch with live := [], armed := true } }
      else s
    if fget w F.ARCH_CLR_RET_CLR = 1 then { s1 with arch := { s1.arch with retained := [] } } else s1
  else if a = R.ARCH_PUT then archive { stamp := s.now, src := 0x800, payload := immw w } 4 0 s
  else s

/-! ### Writes of the STK block (R450, R461, R463, R464, R466) -/

/-- Writes the STK block refuses. -/
def stkRefuses (a : Nat) (w nv : BitVec 64) (s : State) : Bool :=
  if a = R.STK_FILL then
    (decide (fget w F.STK_FILL_START = 1) || decide (fget w F.STK_FILL_TEST = 1)) &&
      (s.bit R.STK_STAT F.STK_STAT_FILL_BUSY || decide (2048 < fget nv F.STK_FILL_PAGE + fget nv F.STK_FILL_COUNT))
  else if a = R.STK_XSPI_CTL then decide (fget nv F.STK_XSPI_CTL_PROTO ≠ 0) && decide (fget nv F.STK_XSPI_CTL_ADDR4 = 0)
  else if a = R.STK_XSPI_CMD then decide (fget w F.STK_XSPI_CMD_START = 1) && s.stk.cmdRun
  else if a = R.STK_XSPI_COPY then decide (fget w F.STK_XSPI_COPY_START = 1) && s.stk.copyRun
  else false

/-- What a write of the STK block does beside setting its fields. -/
def stkActs (a : Nat) (old w : BitVec 64) (s : State) : State :=
  if a = R.STK_FILL then
    let t := decide (fget w F.STK_FILL_TEST = 1)
    if t || decide (fget w F.STK_FILL_START = 1) then
      markFill { s with stk := { s.stk with fill := some { page := s.get a F.STK_FILL_PAGE, count := s.get a F.STK_FILL_COUNT, test := t } } }
    else s
  else if a = R.STK_BANKWD then
    let cleared := (List.range 32).filter fun b => old.getLsbD b && !w.getLsbD b
    let again := (List.range 32).filter fun b => w.getLsbD b
    let still := s.stk.bankFill.filter (fun b => !again.contains b)
    markFill { s with stk := { s.stk with bankFill := still ++ cleared.filter (fun b => !still.contains b) } }
  else if a = R.STK_CECLR then
    (if fget w F.STK_CECLR_CLR = 1 then ((List.range 8).foldl (fun t k => t.setReg (R.STK_CEt k) 0) s).setReg R.STK_CEM 0 else s)
  else if a = R.STK_XSPI_CMD then
    (if fget w F.STK_XSPI_CMD_START = 1 then { s.set a F.STK_XSPI_CMD_BUSY 1 with stk := { s.stk with cmdRun := true } } else s)
  else if a = R.STK_XSPI_COPY then
    (if fget w F.STK_XSPI_COPY_START = 1 then { s.set a F.STK_XSPI_COPY_BUSY 1 with stk := { s.stk with copyRun := true } } else s)
  else s

/-! ### xSPI (R462 to R464) -/

/-- A flash octet; the flash is outside the device, and an octet nothing has told reads as 0xFF, as an erased one
(assumption 3). -/
def flashOctet (o : Nat) (s : State) : BitVec 8 := spGet (fun _ => 0xFF#8) s.stk.flash o
/-- The window word at an offset (R462). -/
def windowWord (w : Nat) (s : State) : Word :=
  let n := if s.bit R.STK_XSPI_CTL F.STK_XSPI_CTL_LAYOUT then 8 else 9
  let b := s.get R.STK_XSPI_BASE F.STK_XSPI_BASE_BASE + n * w
  packWord n ((List.range n).map (fun j => flashOctet (b + j) s))

/-- XSPI_COMMAND_DONE (R463): a command ends, with the octets the flash returned and the flash octets it changed, or
without an answer. -/
def execXspiCommandDone (ok : Bool) (data : Octets) (chg : List (BitVec 31 × BitVec 8)) (s : State) : Host.Outcome State Fault Refusal :=
  let cmd := R.STK_XSPI_CMD
  .next (if !s.stk.cmdRun then s
    else
      let s1 := { s.set cmd F.STK_XSPI_CMD_BUSY 0 with stk := { s.stk with cmdRun := false } }
      let s2 := if !ok then s1.flag cmd F.STK_XSPI_CMD_ERR
        else
          let s3 := { s1 with stk := { s1.stk with flash := chg.foldl (fun m e => spPut (fun _ => 0xFF#8) m e.1.toNat e.2) s1.stk.flash } }
          if s.bit cmd F.STK_XSPI_CMD_DIR then s3
          else (List.range (s.get cmd F.STK_XSPI_CMD_LEN)).foldl (fun t j =>
            t.set (R.STK_XSPI_BUFk (j / 8)) ⟨56 - 8 * (j % 8), 8⟩ (data.getD j 0).toNat) s3
      raiseFree 0xC59 [0] s2)

end Sys2Proof.Machine
end

