-- ==== Sys2Proof/Machine/Bridge.lean ====
section
/-!
DEFINITION. The twin bridge's outbound side (spec/12_fabric_permits_bridges.md R484 to R486, R489): how an access that waits
for the twin ends on its core, the answer to the open transaction, and the failure of what is open when the link goes down.
-/
namespace Sys2Proof.Machine

open Sys2Proof

/-- The twin-window access that core c waits for is answered: the LDW or STW commits, or traps (R130, R161). -/
def finishWait (c : Nat) (r : Resp) (s : State) : State :=
  let k := s.core c
  match k.wait with
  | some (.twin rd va) =>
    let s1 := s.setCore c { k with wait := none }
    (match r, rd with
     | .err e, some _ => takeTrap c 0x0D e.toNat 0 va s1
     | .err e, none => takeTrap c 0x0E e.toNat 0 va s1
     | .word w, some x => commitTo c (k.pc + 1) (s1.setLreg c x w)
     | _, _ => commitTo c (k.pc + 1) s1)
  | _ => s

/-- An outbound transaction ends: its core goes on, or the requester outside the cores has its response. A core that has left
its wait and issued another access ignores the answer to the first. -/
def outDone (o : OutTxn) (r : Resp) (s : State) : State :=
  if 16 ≤ o.core then { s with resp := r }
  else if s.bridge.queue.any (fun x => x.core = o.core) then s
  else finishWait o.core r s

/-- The open transaction is answered and the bridge's port is free (R485). -/
def bridgeAnswer (r : Resp) (s : State) : State :=
  match s.bridge.open_ with
  | none => s
  | some o =>
    let s1 := { s with bridge := { s.bridge with open_ := none, tmoAt := none, retryAt := none } }
    let st := R.TWIN_BR_STAT
    outDone o r ((s1.set st F.TWIN_BR_STAT_OUT_OPEN 0).set st F.TWIN_BR_STAT_TRY 0)

/-- The transactions that wait to issue receive FAILED. -/
def queueFail : List OutTxn → State → State
  | [], s => s
  | o :: t, s => queueFail t (outDone o (.err 7) { s with bridge := { s.bridge with queue := t } })

/-- The twin link goes down: what is open or waits to issue receives FAILED, and an inbound transaction that waits is gone
with the twin that sent it (R469, R489). -/
def bridgeFail (s : State) : State :=
  let s1 := bridgeAnswer (.err 7) s
  let s2 := queueFail s1.bridge.queue s1
  { s2 with bridge := { s2.bridge with inWait := none } }

end Sys2Proof.Machine
end

