-- ==== Sys2Proof/Machine/IocCmd.lean ====
section
/-!
DEFINITION. General-purpose balls and analogue inputs (spec/17_package_and_balls.md R619 to R625).
-/
namespace Sys2Proof.Machine

open Sys2Proof

/-! ### Edges (R621) -/

/-- Does EDGE of ball k select a change to a level? -/
def edgeChosen (k : Nat) (up : Bool) (s : State) : Bool :=
  match s.get (R.IOC_GPIOk_CFG k) F.IOC_GPIOk_CFG_EDGE with
  | 1 => up
  | 2 => !up
  | 3 => true
  | _ => false

/-- The balls of bank b whose level differs from the one last seen, where their EDGE selects the change. -/
def bankEdges (b : Nat) (s : State) : Nat :=
  (List.range 8).foldl (fun v j =>
    let k := 8 * b + j
    let l := pinLevel k s
    if l ≠ s.pinSeen.getLsbD k ∧ edgeChosen k l s then v + 2 ^ j else v) 0

/-- The levels of bank b are seen. -/
def seeBank (b : Nat) (s : State) : State :=
  { s with pinSeen := (s.pinSeen &&& ~~~((255#48) <<< (8 * b))) ||| ((BitVec.ofNat 48 (bankLevels b s)) <<< (8 * b)) }

/-- GPIO_EDGE (R621): outside applies levels to bank b; the levels that have held for 4 ns are seen and their edges noted. -/
def execGpioEdge (b : Fin 6) (ext : BitVec 8) (s : State) : Host.Outcome State Fault Refusal :=
  let k := b.val
  let s0 := { s with pinExt := (s.pinExt &&& ~~~((255#48) <<< (8 * k))) ||| ((ext.setWidth 48) <<< (8 * k)) }
  let r := R.IOC_GPIOBb_EVT k
  let old := s0.get r F.IOC_GPIOBb_EVT_EVT
  let hit := bankEdges k s0
  let new := Nat.land hit (255 - old)
  .next (if !gtcRuns s || !(decide (s.power.pstate = .awake) || decide (s.power.pstate = .doze)) then seeBank k s0
    else
      let s1 := (seeBank k s0).flagBits r (BitVec.ofNat 64 hit)
      if new = 0 || srcClosed (0xC70 + k) s then s1
      else notifyAll { stamp := s.now - 4, src := 0xC70 + k, payload := immw (BitVec.ofNat 64 (new + 256 * bankLevels k s0)) }
        (ownDest (R.IOC_GPIOBb_OWN k) s) s1)

/-! ### Conversion groups (R623, R624) -/

/-- Entry i of group g names this input (R625). -/
def adcInput (g i : Nat) (s : State) : Nat := s.get (R.IOC_ADCg_CFG g) F.IOC_ADCg_CFG_SEL / 2 ^ (4 * i) % 16
/-- The entries of a group that a SAR converts. -/
def adcEntries (g sar : Nat) (s : State) : Nat :=
  ((List.range (s.get (R.IOC_ADCg_CFG g) F.IOC_ADCg_CFG_LEN + 1)).filter (fun i => adcInput g i s / 4 = sar)).length
/-- The shortest time from a group's start to its last conversion, on idle converters. -/
def adcSpan (g : Nat) (s : State) : Nat := 20 + 200 * (List.range 4).foldl (fun m a => max m (adcEntries g a s)) 0
/-- Does a group started earlier still hold a SAR the group needs? -/
def adcBlocked (g : Nat) (s : State) : Bool :=
  (s.adc.takeWhile (fun e => e.1 ≠ g)).any fun e =>
    (List.range 4).any fun a => decide (0 < adcEntries e.1 a s) && decide (0 < adcEntries g a s)

/-- The word of a result (R624). -/
def adcWord (code crit : Nat) : Word := mkw (BitVec.ofNat 64 (code % 4096)) (mkProv 0 false false 0 (BitVec.ofNat 2 crit))

/-- ADC_GROUP_COMPLETE (R623, R624): the group's codes, entry i in bits [12i+11:12i], and its stamp appear together. -/
def execAdcGroupComplete (g : Fin 16) (codes : BitVec 96) (s : State) : Host.Outcome State Fault Refusal :=
  let r := R.IOC_ADCg_CFG g.val
  .next (match s.adc.find? (fun e => e.1 = g.val) with
    | none => s
    | some (_, stamp) =>
      if adcBlocked g.val s || decide (s.now < stamp + adcSpan g.val s) then s
      else
        let s1 := (List.range (s.get r F.IOC_ADCg_CFG_LEN + 1)).foldl (fun t i =>
          t.wrMem (R.IOC_ADCg_STAMP g.val + 1 + i) (adcWord (codes.toNat / 2 ^ (12 * i)) (s.get r F.IOC_ADCg_CFG_CRIT))) s
        let s2 := (s1.setReg (R.IOC_ADCg_STAMP g.val) (BitVec.ofNat 64 stamp)).set r F.IOC_ADCg_CFG_BUSY 0
        let s3 := { s2 with adc := s2.adc.filter (fun e => e.1 ≠ g.val) }
        if s.bit r F.IOC_ADCg_CFG_NOTIFY then raiseTo (0xC80 + g.val) (immw (BitVec.ofNat 64 g.val)) (ownDest (R.IOC_ADCg_OWN g.val) s) s3
        else s3)

/-! ### Writes of the IOC block (R625) -/

/-- Is the address a group's CFG? -/
def isAdcCfg (a : Nat) : Bool := decide (0x100 ≤ offsetOf a) && decide (offsetOf a < 0x200) && decide (offsetOf a % 16 = 9)

/-- Writes the IOC block refuses: a group's CFG while it converts. -/
def iocRefuses (a : Nat) (s : State) : Bool := isAdcCfg a && s.bit a F.IOC_ADCg_CFG_BUSY

/-- What a write of the IOC block does beside setting fields. -/
def iocActs (a : Nat) (w : BitVec 64) (s : State) : State :=
  let o := offsetOf a
  if 0x40 ≤ o ∧ o < 0x70 then
    let r := R.IOC_GPIOBb_LVL ((o - 0x40) / 8)
    let out := s.get r F.IOC_GPIOBb_LVL_OUT
    (match o % 8 with
     | 1 => s.set r F.IOC_GPIOBb_LVL_OUT (Nat.lor out (fget w F.IOC_GPIOBb_SET_SET))
     | 2 => s.set r F.IOC_GPIOBb_LVL_OUT (Nat.land out (255 - fget w F.IOC_GPIOBb_CLR_CLR))
     | _ => s)
  else if isAdcCfg a ∧ fget w F.IOC_ADCg_CFG_START = 1 then adcStart ((o - 0x100) / 16) s.now s
  else s

/-- IOC_GPIOBb_LVL as it reads: IN follows the balls (R625). -/
def lvlRead (b : Nat) (s : State) : BitVec 64 := fput (s.reg (R.IOC_GPIOBb_LVL b)) F.IOC_GPIOBb_LVL_IN (bankLevels b s)

end Sys2Proof.Machine
end

