-- ==== Sys2Proof/Machine/VaultOps.lean ====
section
/-!
DEFINITION. The strongroom's command queues and its tamper reaction (spec/14_strongroom.md R527, R532 to R536, R546 to
R550): START, ABORT, completion, entropy, zeroise.
-/
namespace Sys2Proof.Machine

open Sys2Proof

/-! ### Completion codes (R535) -/

/-- SEALED, the code of a refusal while sealed. -/
def vSEALED : Nat := 4
/-- TAMPER. -/
def vTAMPER : Nat := 10
/-- FORMAT. -/
def vFORMAT : Nat := 13
/-- ABORTED. -/
def vABORTED : Nat := 15

/-- Queue q's command beside its registers. -/
def vjob (q : Nat) (s : State) : VJob := spGet (fun _ => ({} : VJob)) s.vault.jobs q
/-- Replace queue q's command. -/
def setVjob (q : Nat) (j : VJob) (s : State) : State :=
  { s with vault := { s.vault with jobs := spPut (fun _ => ({} : VJob)) s.vault.jobs q j } }
/-- Is queue q's command under way? -/
def vbusy (q : Nat) (s : State) : Bool := s.bit (R.VAULT_Qq_STAT q) F.VAULT_Qq_STAT_BUSY
/-- The operation in queue q. -/
def vop (q : Nat) (s : State) : Nat := s.get (R.VAULT_Qq_CMD q) F.VAULT_Qq_CMD_OP
/-- KID2 of queue q, none with KID2_AUTO = 1. -/
def vkid2 (q : Nat) (s : State) : Option Nat :=
  if s.bit (R.VAULT_Qq_CMD q) F.VAULT_Qq_CMD_KID2_AUTO then none else some (s.get (R.VAULT_Qq_KEY q) F.VAULT_Qq_KEY_KID2)

/-- START of queue q (R522, R532): BUSY, a place in the order of starts, and the claim of an empty persistent slot by a
GENERATE or UNWRAP that carries the librarian flag. -/
def vStart (q : Nat) (lib : Bool) (s : State) : State :=
  let claim := match vkid2 q s with
    | some k => if lib && (decide (vop q s = 0x0C) || decide (vop q s = 0x0D)) && decide (k < 256) && decide (slotAttr k aSTATE s = 0)
        then some k else none
    | none => none
  let s1 := match claim with
    | some k => setSlot k aSTATE 5 s
    | none => s
  let s2 := setVjob q { lib := lib, seq := s1.vault.seq, claim := claim } (s1.set (R.VAULT_Qq_STAT q) F.VAULT_Qq_STAT_BUSY 1)
  { s2 with vault := { s2.vault with seq := s2.vault.seq + 1 } }

/-- The command of queue q stops with a code: it completes at its VAULT_COMMAND_DONE (R534). -/
def vStop (q code : Nat) (s : State) : State :=
  let j := vjob q s
  if vbusy q s && j.code.isNone then setVjob q { j with code := some code } s else s

/-- Queue q's command completes (R534, R536): STAT, the claim of a failed command given up, and 0x090 + q to the queue's
owner. -/
def vFinish (q code reason kid len : Nat) (s : State) : State :=
  let j := vjob q s
  let s1 := match j.claim with
    | some k => if code ≠ 0 ∧ slotAttr k aSTATE s = 5 ∧ (s.vault.prog.any fun e => decide (e.1 = k)) = false then setSlot k aSTATE 0 s else s
    | none => s
  let st := R.VAULT_Qq_STAT q
  let v := fput (fput (fput (fput (fput (fput (s1.reg st) F.VAULT_Qq_STAT_BUSY 0) F.VAULT_Qq_STAT_DONE 1)
    F.VAULT_Qq_STAT_CODE code) F.VAULT_Qq_STAT_REASON reason) F.VAULT_Qq_STAT_RESULT_KID kid) F.VAULT_Qq_STAT_OUTLEN len
  let v1 := if code = 0 then v else fput v F.VAULT_Qq_STAT_ERR 1
  let m := fmask F.VAULT_Qq_STAT_DONE ||| (if code = 0 then 0#64 else fmask F.VAULT_Qq_STAT_ERR)
  let s2 := setVjob q {} ((s1.setReg st v1).noteRose st m)
  raiseOwner (0x090 + q) (immw (BitVec.ofNat 64 (code + kid * 2 ^ 5 + len % 2 ^ 32 * 2 ^ 16))) (R.VAULT_Qq_OWN q) s2

/-! ### Random output (R544, R545) -/

/-- Is random output available? -/
def drbgOk (s : State) : Bool := s.bit R.VAULT_STAT F.VAULT_STAT_DRBG_OK
/-- Random octets: free values (assumption 2); each draw is one request to the DRBG. -/
def randomOctets (n : Nat) (s : State) : Octets × State :=
  let (v, s1) := s.drawFree (8 * n)
  ((List.range n).map (fun k => v.extractLsb' (8 * (n - 1 - k)) 8),
   { s1 with vault := { s1.vault with reqs := s1.vault.reqs + 1 } })

/-- ENTROPY_HEALTH_FAILURE (R544): bit 0 a repetition count test, bit 1 an adaptive proportion test. -/
def execEntropyHealthFailure (kind : BitVec 2) (s : State) : Host.Outcome State Fault Refusal :=
  .next (if kind = 0 then s
    else
      let s1 := s.set R.VAULT_STAT F.VAULT_STAT_ENT_OK 0
      let s2 := if kind.getLsbD 0 then s1.addSat R.VAULT_ENT_STAT F.VAULT_ENT_STAT_RCT_FAIL 1 else s1
      let s3 := if kind.getLsbD 1 then s2.addSat R.VAULT_ENT_STAT F.VAULT_ENT_STAT_APT_FAIL 1 else s2
      raiseLib 0x084 kind.toNat s3)

/-- ENTROPY_RECOVERY (R544): 1,024 consecutive samples have passed. -/
def execEntropyRecovery (s : State) : Host.Outcome State Fault Refusal := .next (s.set R.VAULT_STAT F.VAULT_STAT_ENT_OK 1)

/-- Is a reseed due (R545): the first seeding, 2^16 requests, 1 s, or one that could not be made? -/
def reseedDue (s : State) : Bool :=
  !s.vault.seeded || decide (65536 ≤ s.vault.reqs) || decide (s.vault.seedAt + giga ≤ s.el) || !drbgOk s

/-- DRBG_RESEED (R545): a due reseed is made, or DRBG_OK clears and 0x085 is raised. The first seeding is no reseed. -/
def execDrbgReseed (s : State) : Host.Outcome State Fault Refusal :=
  .next (if !reseedDue s then s
    else if s.bit R.VAULT_STAT F.VAULT_STAT_ENT_OK then
      let s1 := s.set R.VAULT_STAT F.VAULT_STAT_DRBG_OK 1
      let s2 := if s.vault.seeded then s1.addWrap R.VAULT_ENT_STAT F.VAULT_ENT_STAT_RESEEDS 1 else s1
      { s2 with vault := { s2.vault with seeded := true, reqs := 0, seedAt := s.el } }
    else if drbgOk s then raiseLib 0x085 0 (s.set R.VAULT_STAT F.VAULT_STAT_DRBG_OK 0)
    else s)

/-! ### Slots in time -/

/-- SLOT_PROGRAMMING_DONE (R522): 1 ms after its programming began a persistent slot becomes active. -/
def execSlotProgrammingDone (k : BitVec 8) (s : State) : Host.Outcome State Fault Refusal :=
  .next (match s.vault.prog.find? fun e => decide (e.1 = k.toNat) && decide (e.2 + msNs ≤ s.el) with
    | some _ =>
      setSlot k.toNat aSTATE 1 { s with vault := { s.vault with prog := s.vault.prog.filter (fun e => e.1 ≠ k.toNat) } }
    | none => s)

/-- Does a started command use a slot (R526)? -/
def slotInUse (kid : Nat) (s : State) : Bool :=
  s.vault.jobs.any fun e => e.2.started && e.2.kids.contains kid

/-- ORPHAN_ERASE (R526): an orphaned slot that no started command uses is erased, and its owner told. -/
def execOrphanErase (kid : BitVec 11) (s : State) : Host.Outcome State Fault Refusal :=
  .next (let k := kid.toNat
    if 1024 ≤ k ∧ slotAttr k aSTATE s = 3 ∧ slotInUse k s = false then
      raiseTo 0x089 (immw (BitVec.ofNat 64 k)) [slotAttr k aOWNER s] (eraseSlot k s)
    else s)

/-- The retire bit of the slot at place j of a zeroise is programmed (R548). -/
def zeroRetired (j : Nat) (s : State) : Bool := decide (s.vault.zeroAt + 1050000 * j + 50000 ≤ s.el)
/-- The secret of the slot at place j of a zeroise reads as ones (R548). -/
def zeroDone (j : Nat) (s : State) : Bool := decide (s.vault.zeroAt + 1050000 * (j + 1) ≤ s.el)
/-- A slot's secret bits are programmed to 1 (R548). -/
def burnSlot (k : Nat) (s : State) : State :=
  setSlotKey k (some { slotKey k s with secret := List.replicate 64 0xFF#8 }) s

/-- A zeroise as far as it has come by now (R548). -/
def zeroiseRun (s : State) : State :=
  (s.vault.zero.zipIdx).foldl (fun t e =>
    let t1 := if zeroRetired e.2 s && decide (slotAttr e.1 aSTATE t ≠ 2) then retireSlot e.1 t else t
    if zeroDone e.2 s then burnSlot e.1 t1 else t1) s

/-- ZEROISE_COMPLETE (R548): the last slot is done. -/
def execZeroiseComplete (s : State) : Host.Outcome State Fault Refusal :=
  .next (let n := s.vault.zero.length
    if n ≠ 0 ∧ zeroDone (n - 1) s = true then
      let s1 := (zeroiseRun s).set R.VAULT_TAMP_STAT F.VAULT_TAMP_STAT_ZPEND 0
      raiseLib 0x08A n { s1 with vault := { s1.vault with zero := [] } }
    else s)

/-- The attribute word of a persistent slot as it reads: retired once a zeroise has programmed its retire bit. -/
def slotShown (k : Nat) (s : State) : BitVec 64 :=
  match s.vault.zero.zipIdx.find? fun e => decide (e.1 = k) with
  | some e => if zeroRetired e.2 s then fput (s.reg (attrReg k)) aSTATE 2 else s.reg (attrReg k)
  | none => s.reg (attrReg k)

/-! ### Tamper (R546, R547) -/

/-- The persistent slots a tamper zeroises: those with ZEROISE = 1 that are not empty, in ascending KID order. -/
def zeroiseSlots (s : State) : List Nat :=
  (List.range 256).filter fun k => decide (slotAttr k aZEROISE s = 1) && decide (slotAttr k aSTATE s ≠ 0)

/-- The state of a recognition: 0 start-up, 1 sleep or reset, 2 a command running, 3 idle (R547). -/
def tamperWhen (s : State) : Nat :=
  if s.power.computeHeld then 1
  else if s.power.boot ≠ .running then 0
  else if s.power.pstate = .awake ∨ s.power.pstate = .doze then
    (if s.vault.jobs.any (fun e => e.2.started && e.2.code.isNone) then 2 else 3)
  else 1

/-- A recognised tamper (R546, R547): the latch, the event, and in AWAKE or DOZE the end of every started command, the
derived slots erased and the zeroise begun. -/
def tamper (i : Nat) (s : State) : State :=
  let when_ := tamperWhen s
  let st := R.VAULT_TAMP_STAT
  let latch := s.get st F.VAULT_TAMP_STAT_LATCH
  let s1 := if latch = 0 then s.set st F.VAULT_TAMP_STAT_WHEN when_ else s
  let s2 := s1.set st F.VAULT_TAMP_STAT_LATCH (latch ||| 2 ^ i)
  let s3 := if s.power.computeHeld then powerRaise (0x080 + i) (BitVec.ofNat 64 when_) s2
    else relayTwin 4 (0x080 + i) (BitVec.ofNat 64 when_)
      (powerDeliver { stamp := s.now, src := 0x080 + i, payload := immw (BitVec.ofNat 64 when_) } s2)
  if when_ < 2 then s3
  else
    let s4 := (List.range 16).foldl (fun t q => if (vjob q t).started then vStop q vTAMPER t else t) s3
    let s5 := eraseDerived s4
    let zs := zeroiseSlots s5
    if zs = [] ∨ s5.vault.zero ≠ [] then s5
    else
      let s6 := s5.set st F.VAULT_TAMP_STAT_ZPEND 1
      { s6 with vault := { s6.vault with zero := zs, zeroAt := s.el } }

/-! ### Writes of the VAULT block (R532, R553) -/

/-- Writes the VAULT block refuses. -/
def vaultRefuses (a : Nat) (w : BitVec 64) (s : State) : Bool :=
  let o := offsetOf a
  if 4 ≤ o ∧ o < 8 then decide (fget w F.VAULT_TAMPi_CFG_FILT = 0)
  else if 0x100 ≤ o ∧ o < 0x200 then
    let q := (o - 0x100) / 16
    let k := o % 16
    if k < 8 then vbusy q s
    else if k = 8 then decide (fget w F.VAULT_Qq_CTL_START = 1) && (vbusy q s || ownerAbsent (R.VAULT_Qq_OWN q) s)
    else false
  else false

/-- What a write of the VAULT block does beside setting its fields. -/
def vaultActs (a : Nat) (w : BitVec 64) (lib : Bool) (s : State) : State :=
  let o := offsetOf a
  if 0x100 ≤ o ∧ o < 0x200 ∧ o % 16 = 8 then
    let q := (o - 0x100) / 16
    let s1 := if fget w F.VAULT_Qq_CTL_START = 1 then vStart q lib s else s
    if fget w F.VAULT_Qq_CTL_ABORT = 1 then vStop q vABORTED s1 else s1
  else s

end Sys2Proof.Machine
end

