-- ==== Sys2Proof/Machine/CarrelReset.lean ====
section
/-!
DEFINITION. Carrel reset (spec/13_carrels.md R509, R510; R528): the steps taken at the RESET write and at the end of the
quiesce, over every unit that works for carrels.
-/
namespace Sys2Proof.Machine

open Sys2Proof

/-- Carrel c's semaphores on the local side are released (R489). -/
def semRelease (side c : Nat) (s : State) : State :=
  (List.range 32).foldl (fun t k =>
    let r := R.TWIN_SEMs k
    if t.bit r F.TWIN_SEMs_HELD && decide (t.get r F.TWIN_SEMs_SIDE = side) && decide (t.get r F.TWIN_SEMs_CARREL = c) then t.setReg r 0 else t) s

/-- The resource of an ownership register that names a carrel being reset takes its owner-absent behaviour (R86, R329, R366,
R508). -/
def resourceAbsent (a : Nat) (s : State) : State :=
  let o := offsetOf a
  match blockOf a with
  | 1 => trgOwnerAbsent ((o - 0x100) / 16) s
  | 11 =>
    let n := o / 0x1000
    let k := o % 0x1000
    if 0x20 ≤ k ∧ k < 0x30 then
      (List.range 16).foldl (fun t j =>
        let b := 16 * (k - 0x20) + j
        if !mbReq n b t then t else if onBus n b t then abortReq n b t else clearReq n b t) s
    else s
  | 14 => chanOwnerAbsent ((o - 0x1000) / 16) s
  | _ => s

/-- Every ownership register that names carrel c sets ABSENT, and its resource follows (R479). -/
def ownersAbsent (c : Nat) (s : State) : State :=
  allOwnRegs.foldl (fun t a =>
    if t.bit a F.TIME_TRGn_OWN_V && decide (t.get a F.TIME_TRGn_OWN_OWNER = c) then resourceAbsent a (t.set a F.TIME_TRGn_OWN_ABSENT 1)
    else t) s

/-- Carrel c leaves the core it is switched in on, without a save (R509 step 2); a copy of its context that is being read
or written is dropped. A core in librarian mode goes on with the librarian's program. -/
def leaveCore (c : Nat) (s : State) : State :=
  (List.range 16).foldl (fun t x =>
    let k := t.core x
    let sh := match k.shadow with
      | some y => if y.carrel.toNat = c then none else some y
      | none => none
    let og := match k.outgoing with
      | some y => if y.carrel.toNat = c then none else some y
      | none => none
    let t1 := t.setCore x { k with shadow := sh, outgoing := og }
    if k.loaded && decide (k.d1.toNat = c) && decide (k.mode ≠ 0b11#2) then
      agreeNote x 1 (t1.setCore x { t1.core x with loaded := false, idle := true, wait := none })
    else t1) s

/-- RESET of carrel c (R509 steps 1 and 2); one under way takes the request in. -/
def carrelReset (c : Nat) (s : State) : State :=
  if carState c s = 3 then s
  else
    let st := R.CARREL_Cc_STAT c
    let s1 := (setCarState c 3 s).addWrap st F.CARREL_Cc_STAT_EPOCH 1
    let s2 := semRelease (localSide s) c (ownersAbsent c s1)
    let s3 := (leaveCore c s2).set st F.CARREL_Cc_STAT_IN 0
    s3.setCarrel c { s3.carrel c with quiesceBy := s.now + 20000 }

/-- Does work go on for carrel c: a strongroom command or a collation run of a resource it owns (R509 step 3)? -/
def carrelWorks (c : Nat) (s : State) : Bool :=
  ((List.range 16).any fun q => vbusy q s && decide (ownerOf (R.VAULT_Qq_OWN q) s = c)) ||
  ((List.range 16).any fun u => s.bit (R.COLL_Un_STAT u) F.COLL_Un_STAT_BUSY && decide (ownerOf (R.COLL_Un_OWN u) s = c))

/-- What still works for carrel c is aborted (R509 step 3, R508, R528). -/
def abortWork (c : Nat) (s : State) : State :=
  let s1 := (List.range 16).foldl (fun t q =>
    if vbusy q t && decide (ownerOf (R.VAULT_Qq_OWN q) t = c) then vStop q vABORTED t else t) s
  (List.range 16).foldl (fun t u =>
    if t.bit (R.COLL_Un_STAT u) F.COLL_Un_STAT_BUSY && decide (ownerOf (R.COLL_Un_OWN u) t = c) then
      t.setColl u { t.collU u with stopAt := some t.now }
    else t) s1

/-- The derived slots that carrel c owns alone are erased (R528). -/
def eraseOwned (c : Nat) (s : State) : State :=
  ((derivedUsed s).filter fun k => decide (slotAttr k aOWNER s = c) && decide (slotAttr k aSHARED s = 0)).foldl
    (fun t k => eraseSlot k t) s

/-- The end of a quiesce (R509 steps 4 and 5). -/
def quiesceEnd (c : Nat) (s : State) : State :=
  if c = 0 ∨ carState c s ≠ 3 ∨ (carrelWorks c s = true ∧ s.now < (s.carrel c).quiesceBy) then s
  else
    let s1 := eraseOwned c (abortWork c s)
    let k := s1.carrel c
    let s2 := s1.setCarrel c { k with
      nq := {}, dk := { k.dk with nlost := 0 }, reqs := [], gather := none, halted := false, quiesceBy := 0 }
    let st := R.CARREL_Cc_STAT c
    let s3 := flushTlb c false (deskClear c s2)
    let s4 := ((setCarState c 1 s3).set st F.CARREL_Cc_STAT_FRESH 1).set st F.CARREL_Cc_STAT_WHY 1
    raiseLib (0x801 + 2 * c) (2 + s4.get st F.CARREL_Cc_STAT_LATE * 2 ^ 32) s4

/-- CARREL_QUIESCE_END (R509). -/
def execCarrelQuiesceEnd (c : BitVec 9) (s : State) : Host.Outcome State Fault Refusal := .next (quiesceEnd c.toNat s)

end Sys2Proof.Machine
end

