-- ==== Sys2Proof/Machine/TwinOps.lean ====
section
/-!
DEFINITION. The twins (spec/15_twin.md): the link, the sideband, the connection states, the ownership map, mirror records,
takeover and yield.
-/
namespace Sys2Proof.Machine

open Sys2Proof

/-! ### Connection states (R555, R561) -/

/-- TWIN_STAT.STATE: 0 UNPAIRED, 1 PAIRED, 2 LINK_DOWN, 3 ALIVE_LOST, 4 WITNESS, 5 LOST, 6 PEER_PARKED. -/
def twinState (s : State) : Nat := s.get R.TWIN_STAT F.TWIN_STAT_STATE
/-- Set TWIN_STAT.STATE. -/
def setTwinState (n : Nat) (s : State) : State := s.set R.TWIN_STAT F.TWIN_STAT_STATE n
/-- Is the twin link up? -/
def twinLinkUp (s : State) : Bool := s.bit R.TWIN_STAT F.TWIN_STAT_LINK_UP
/-- Is the sideband present? -/
def aliveOk (s : State) : Bool := s.bit R.TWIN_STAT F.TWIN_STAT_ALIVE_OK
/-- The conditions of R555. -/
def pairedNow (s : State) : Bool :=
  s.bit R.TWIN_CTL F.TWIN_CTL_PAIR_EN && twinLinkUp s && s.twin.peerPair && decide (s.twin.peerSide = some (decide (localSide s = 0)))
/-- Is TW_TAKE_OUT asserted (R560)? -/
def takeOut (s : State) : Bool :=
  s.bit R.TWIN_CTL F.TWIN_CTL_ORDER || (s.faults.device.isSome && s.bit R.TWIN_CTL F.TWIN_CTL_AUTO_TAKE) || s.power.computeHeld

/-- The twins become PAIRED (R561): the records of channels start anew, and a demand record goes out for every channel
served with TAKE = 1 (R568, R580). -/
def enterPaired (s : State) : State :=
  let s1 := (List.range 32).foldl (fun t c => t.setReg (R.TWIN_DEMc c) 0) (setTwinState 1 s)
  (List.range 32).foldl (fun t c => demandOffer c t) { s1 with twin := { s1.twin with peerWake := false } }
/-- From UNPAIRED and LOST to PAIRED when R555 holds with the sideband present; the maps have been reconciled at link-up
(R561, R565). -/
def tryPair (s : State) : State :=
  if (twinState s = 0 ∨ twinState s = 5) ∧ pairedNow s = true ∧ aliveOk s = true then enterPaired s else s
/-- The connection ends: PAIR_EN cleared or a side clash (R561). -/
def unpair (s : State) : State := if twinState s = 0 then s else setTwinState 0 s

/-! ### Takeover and yield (R562, R571 to R574) -/

/-- Every resource the map names. -/
def mapAll : List (MapKind × Nat) :=
  (List.range 32).map (fun n => (.chan, n)) ++ (List.range 16).map (fun n => (.wing, n)) ++ (List.range 512).map (fun n => (.carrel, n))

/-- EN of wing w is set by hardware, as a write would. -/
def wingEnable (w : Nat) (s : State) : State :=
  let a := R.NM_WINGw_CFG w
  let old := s.reg a
  let nv := fput old F.NM_WINGw_CFG_EN 1
  nmActs a old nv (s.setReg a nv)
/-- EN of wing w is cleared by hardware, as a write would. -/
def wingClear (w : Nat) (s : State) : State :=
  let a := R.NM_WINGw_CFG w
  let old := s.reg a
  let nv := fput old F.NM_WINGw_CFG_EN 0
  nmActs a old nv (s.setReg a nv)

/-- The action of a takeover on a resource already mapped to the local side (R573): the field that counts it, or none when
it fails. -/
def takeAction (k : MapKind) (n : Nat) (s : State) : Option Fld × State :=
  match k with
  | .chan =>
    let d := R.TWIN_DEMc n
    let v := s.bit d F.TWIN_DEMc_V
    let m := if v then BitVec.ofNat 2 (s.get d F.TWIN_DEMc_MODE) else 0
    let u := if v then BitVec.ofNat 16 (s.get d F.TWIN_DEMc_DUTY) else 0
    if !s.linkUp || s.power.powerHeld then (none, s)
    else if commandOk n 2 s then (some F.TWIN_TK_STAT_CHANNELS, acceptCommand n m u 2 s)
    else (none, refuseCommand n s)
  | .wing =>
    if s.bit (R.NM_WINGw_CFG n) F.NM_WINGw_CFG_EN || wingEnBad n s then (none, s) else (some F.TWIN_TK_STAT_WINGS, wingEnable n s)
  | .carrel =>
    if s.bit (R.CARREL_Cc_CFG n) F.CARREL_Cc_CFG_V && s.bit (R.CARREL_Cc_STAT n) F.CARREL_Cc_STAT_FRESH && !startBad n s then
      (some F.TWIN_TK_STAT_CARRELS, carrelStart n s)
    else (none, s)

/-- Takeover (R573): `cause` 1 TW_TAKE, 2 paths lost on side A, 3 paths lost on side B. -/
def takeover (cause : Nat) (s : State) : State :=
  let me := localSide s
  let tk := R.TWIN_TK_STAT
  let verdict := s.get tk F.TWIN_TK_STAT_VERDICT
  let s0 := (s.setReg tk (fput (fput 0#64 F.TWIN_TK_STAT_CAUSE cause) F.TWIN_TK_STAT_VERDICT (if cause = 3 then verdict else 0))).setReg
    R.TWIN_TK_TIME s.time.gtc
  let s1 := mapAll.foldl (fun t e =>
    let v := mapEntry e.1 e.2 t
    if decide (v % 2 ≠ me) && v.testBit 1 then
      let (f, t1) := takeAction e.1 e.2 (setMapEntry e.1 e.2 (v / 2 * 2 + me ||| 4) t)
      (match f with
       | some f => t1.addSat tk f 1
       | none => t1.addSat tk F.TWIN_TK_STAT_FAILED 1)
    else t) s0
  raiseLib 0x0C7 ((s1.reg tk).toNat % 2 ^ 35) (setTwinState 5 s1)

/-- A resource is released (R565, R574): a channel receives an off demand of origin twin, a wing has EN cleared, a carrel is
reset. -/
def releaseResource (k : MapKind) (n : Nat) (s : State) : State :=
  match k with
  | .chan => if !s.linkUp || s.power.powerHeld then s else acceptCommand n 0 0 2 s
  | .wing => wingClear n s
  | .carrel => if n = 0 ∨ carState n s = 0 then s else carrelReset n s

/-- Side B yields (R574). -/
def yield_ (s : State) : State :=
  let tk := R.TWIN_TK_STAT
  let verdict := s.get tk F.TWIN_TK_STAT_VERDICT
  let s0 := (s.setReg tk (fput (fput (fput 0#64 F.TWIN_TK_STAT_CAUSE 3) F.TWIN_TK_STAT_VERDICT verdict) F.TWIN_TK_STAT_YIELDED 1)).setReg
    R.TWIN_TK_TIME s.time.gtc
  let s1 := mapAll.foldl (fun t e =>
    let v := mapEntry e.1 e.2 t
    if decide (v % 2 = 1) && v.testBit 1 then releaseResource e.1 e.2 (setMapEntry e.1 e.2 (v - 1) t) else t) s0
  raiseLib 0x0C7 ((s1.reg tk).toNat % 2 ^ 35) (setTwinState 5 s1)

/-- The twin is lost (R571): by TW_TAKE, or by the loss of both paths. -/
def twinLost (take : Bool) (s : State) : State :=
  let s1 := raiseLib 0x0C5 (if take then 1 else 0) s
  if take then takeover 1 s1
  else if localSide s = 0 then takeover 2 s1
  else { setTwinState 4 s1 with twin := { s1.twin with witAt := s.now } }

/-! ### The link (R557, R558, R561, R565, R489) -/

/-- Is the compute die running, so that its twin block works? -/
def twinRuns (s : State) : Bool := !s.power.computeHeld && !tileClosed .twinBridge s

/-- The link goes down (R489, R557, R558): the semaphores of side B come free on side A, VALID clears, and the state
follows. -/
def twinLinkLost (s : State) : State :=
  let st := R.TWIN_STAT
  let s1 := raiseLib 0x0C3 (s.get st F.TWIN_STAT_LANES) (s.set st F.TWIN_STAT_LINK_UP 0)
  let held := (List.range 32).filter fun k =>
    s.bit (R.TWIN_SEMs k) F.TWIN_SEMs_HELD && decide (s.get (R.TWIN_SEMs k) F.TWIN_SEMs_SIDE = 1)
  let s2 := if localSide s = 0 then
      raiseLib 0x0C2 (held.foldl (fun n k => n + 2 ^ k) 0) (held.foldl (fun t k => t.setReg (R.TWIN_SEMs k) 0) s1)
    else s1
  let s3 := if s.bit R.TWIN_GTC_STAT F.TWIN_GTC_STAT_VALID then raiseLib 0x0CD 0 (s2.set R.TWIN_GTC_STAT F.TWIN_GTC_STAT_VALID 0) else s2
  let s4 := bridgeFail { s3 with twin := { s3.twin with meas := 0, peerPair := false } }
  match twinState s with
  | 1 => setTwinState 2 s4
  | 3 => twinLost false s4
  | _ => s4

/-- LANE_DOWN (R557): a lane has lost block lock for 1 µs; the loss of the last lane is the link's. -/
def execLaneDown (lane : Fin 2) (s : State) : Host.Outcome State Fault Refusal :=
  let st := R.TWIN_STAT
  .next (
    let l := s.get st F.TWIN_STAT_LANES
    if !twinRuns s || !l.testBit lane.val then s
    else
      let s1 := s.set st F.TWIN_STAT_LANES (l - 2 ^ lane.val)
      if twinLinkUp s && decide (l = 2 ^ lane.val) then twinLinkLost s1
      else raiseLib 0x0C3 (l - 2 ^ lane.val) s1)

/-- LANE_UP (R557): a lane regains block lock while the link stays up. -/
def execLaneUp (lane : Fin 2) (s : State) : Host.Outcome State Fault Refusal :=
  let st := R.TWIN_STAT
  .next (
    let l := s.get st F.TWIN_STAT_LANES
    if !twinRuns s || !twinLinkUp s || l.testBit lane.val then s
    else raiseLib 0x0C3 (l + 2 ^ lane.val) (s.set st F.TWIN_STAT_LANES (l + 2 ^ lane.val)))

/-- TWIN_LINK_DOWN (R557): neither lane has delivered a heartbeat word for 60 µs. -/
def execTwinLinkDown (s : State) : Host.Outcome State Fault Refusal :=
  .next (if twinRuns s && twinLinkUp s && decide (s.twin.hbAt + 60000 ≤ s.now) then twinLinkLost s else s)

/-- The place of a map entry in the list the twins exchange. -/
def mapIndex (k : MapKind) (n : Nat) : Nat :=
  match k with
  | .carrel => n | .chan => 512 + n | .wing => 544 + n
/-- The twin's entry for a resource. -/
def peerEntry (k : MapKind) (n : Nat) (s : State) : Nat := (spGet (fun _ => 0#4) s.twin.peerMap (mapIndex k n)).toNat

/-- Is a resource in use here (R564, R565)? -/
def resourceUsed (k : MapKind) (n : Nat) (s : State) : Bool :=
  match k with
  | .carrel => !(decide (carState n s = 0) || (decide (carState n s = 1) && s.bit (R.CARREL_Cc_STAT n) F.CARREL_Cc_STAT_FRESH))
  | .chan => s.bit (R.LOAD_CHc_STAT n) F.LOAD_CHc_STAT_OUT
  | .wing => s.bit (R.NM_WINGw_CFG n) F.NM_WINGw_CFG_EN

/-- One entry is reconciled (R565): the only side with TAKEN = 1 prevails, else side A; a used resource that is lost is
released with 0x0CA. -/
def reconcileEntry (k : MapKind) (n : Nat) (s : State) : State :=
  let me := localSide s
  let v := mapEntry k n s
  let p := peerEntry k n s
  let mine := v.testBit 2
  let theirs := p.testBit 2
  let win := if mine = theirs then decide (me = 0) else mine
  if k = .carrel ∧ n = 0 then s
  else if win then s
  else
    let nv := v / 8 * 8 + p % 4
    let keep := if decide (p % 2 = me) && mine then nv + 4 else nv
    let s1 := setMapEntry k n keep s
    if decide (v % 2 = me) && decide (p % 2 ≠ me) && resourceUsed k n s then
      let code := (match k with | .carrel => 0 | .chan => 1 | .wing => 2)
      raiseLib 0x0CA (code + 4 * n) (releaseResource k n s1)
    else s1

/-- TWIN_LINK_UP (R557, R561, R565): the link comes up on some lanes; `peer` is the twin's map as exchanged. -/
def execTwinLinkUp (lanes : BitVec 2) (peer : List (BitVec 10 × BitVec 4)) (s : State) : Host.Outcome State Fault Refusal :=
  let st := R.TWIN_STAT
  .next (
    if !twinRuns s || twinLinkUp s || decide (lanes = 0) then s
    else
      let pm := peer.foldl (fun m e => spPut (fun _ => 0#4) m e.1.toNat e.2) []
      let s1 := (s.set st F.TWIN_STAT_LANES lanes.toNat).set st F.TWIN_STAT_LINK_UP 1
      let s2 := { s1 with twin := { s1.twin with hbAt := s.now, meas := 0, peerMap := pm }, mirrorAt := s.now }
      let s3 := mapAll.foldl (fun t e => reconcileEntry e.1 e.2 t) (raiseLib 0x0C3 lanes.toNat s2)
      if twinState s3 = 2 then setTwinState 1 s3 else s3)

/-- HEARTBEAT_WORD (R555, R557, R561): the twin's side and PAIR_EN as a lane delivers them. -/
def execHeartbeatWord (lane : Fin 2) (side pairEn : Bool) (s : State) : Host.Outcome State Fault Refusal :=
  let st := R.TWIN_STAT
  .next (
    if !twinRuns s || !twinLinkUp s || !Nat.testBit (s.get st F.TWIN_STAT_LANES) lane.val then s
    else
      let s1 := { s with twin := { s.twin with hbAt := s.now, peerPair := pairEn, peerSide := some side } }
      let clash := decide (side = decide (localSide s = 1)) && pairEn && s.bit R.TWIN_CTL F.TWIN_CTL_PAIR_EN
      if clash then
        let s2 := unpair s1
        if s.bit st F.TWIN_STAT_SIDE_CLASH then s2 else raiseLib 0x0CF 0 (s2.set st F.TWIN_STAT_SIDE_CLASH 1)
      else if !s.bit R.TWIN_CTL F.TWIN_CTL_PAIR_EN then s1
      else if twinState s = 6 then (if pairEn then enterPaired s1 else s1)
      else if !pairEn && decide (twinState s = 1) then unpair s1
      else tryPair s1)

/-- TIME_WORD (R558): a measurement of the offset, in ns, and of the relative rate; the fourth since link-up makes them
valid. -/
def execTimeWord (ofs : BitVec 64) (rate : BitVec 16) (s : State) : Host.Outcome State Fault Refusal :=
  .next (
    if !twinRuns s || !twinLinkUp s then s
    else
      let n := s.twin.meas + 1
      let s1 := (s.setReg R.TWIN_GTC_OFS ofs).set R.TWIN_GTC_STAT F.TWIN_GTC_STAT_RATE rate.toNat
      let s2 := if 4 ≤ n then s1.set R.TWIN_GTC_STAT F.TWIN_GTC_STAT_VALID 1 else s1
      { s2 with twin := { s2.twin with meas := n } })

/-- A stamp of the twin in local time (R62). -/
def localStamp (stamp : Nat) (s : State) : Nat := ((stamp : Int) - (s.reg R.TWIN_GTC_OFS).toInt).toNat

/-! ### The sideband (R559, R560) -/

/-- TW_ALIVE_TOGGLE (R559): every 20 µs outside PARK, unless the twin is parked and not to be woken. -/
def execTwAliveToggle (s : State) : Host.Outcome State Fault Refusal :=
  .next (if twinRuns s && decide (s.power.pstate ≠ .park) && (decide (twinState s ≠ 6) || s.twin.peerWake) &&
      decide (s.twin.aliveAt + 20000 ≤ s.now) then
      { s with twin := { s.twin with aliveOut := !s.twin.aliveOut, aliveAt := s.now } }
    else s)

/-- SIDEBAND_LOST (R559, R561): TW_ALIVE_IN has shown no edge for 60 µs. -/
def execSidebandLost (s : State) : Host.Outcome State Fault Refusal :=
  .next (
    if !twinRuns s || !aliveOk s then s
    else
      let s1 := raiseLib 0x0C4 1 (s.set R.TWIN_STAT F.TWIN_STAT_ALIVE_OK 0)
      match twinState s with
      | 1 => setTwinState 3 s1
      | 2 => twinLost false s1
      | _ => s1)

/-- SIDEBAND_RECOVERED (R559, R561): two edges 18 µs to 22 µs apart. -/
def execSidebandRecovered (s : State) : Host.Outcome State Fault Refusal :=
  .next (
    if !twinRuns s || aliveOk s then s
    else
      let s1 := raiseLib 0x0C4 0 (s.set R.TWIN_STAT F.TWIN_STAT_ALIVE_OK 1)
      if twinState s = 3 then setTwinState 1 s1 else tryPair s1)

/-- TW_TAKE_IN_RECOGNISED (R555, R560, R561): the order is ignored while PAIR_EN = 0, and acted on in PAIRED, LINK_DOWN,
ALIVE_LOST and PEER_PARKED while TW_TAKE_OUT is not asserted. -/
def execTwTakeInRecognised (s : State) : Host.Outcome State Fault Refusal :=
  .next (
    if !twinRuns s || !s.bit R.TWIN_CTL F.TWIN_CTL_PAIR_EN then s
    else
      let s1 := raiseLib 0x0C8 0 s
      let st := twinState s
      if (st = 1 ∨ st = 2 ∨ st = 3 ∨ st = 6) ∧ takeOut s = false then twinLost true s1 else s1)

/-! ### The witness (R572) -/

/-- Is a channel considered? -/
def considered (c : Nat) (s : State) : Bool :=
  let e := mapEntry .chan c s
  let d := R.TWIN_DEMc c
  decide (e % 2 = 0) && e.testBit 1 && e.testBit 3 && s.bit d F.TWIN_DEMc_V && decide (s.get d F.TWIN_DEMc_MODE = 1) &&
  s.bit d F.TWIN_DEMc_OUT && !s.bit (R.LOAD_CHc_STAT c) F.LOAD_CHc_STAT_OUT && !holdRow c 2 s &&
  !s.bit (R.LOAD_CHc_STAT c) F.LOAD_CHc_STAT_OL_OFF

/-- WITNESS_WINDOW_END (R572): 100 µs after it opened; `above` names the channels whose output stayed above 3.0 V for 20 µs
within the window. -/
def execWitnessWindowEnd (above : BitVec 32) (s : State) : Host.Outcome State Fault Refusal :=
  .next (
    if !twinRuns s || decide (twinState s ≠ 4) || decide (s.now < s.twin.witAt + 100000) then s
    else
      let cs := (List.range 32).filter fun c => considered c s
      let ds := cs.filter fun c => above.getLsbD c
      let mask (l : List Nat) : Nat := l.foldl (fun n c => n + 2 ^ c) 0
      let verdict := if cs = [] then 3 else if ds = [] then 1 else 2
      let w := fput (fput 0#64 F.TWIN_WIT_CONSIDERED (mask cs)) F.TWIN_WIT_DRIVEN (mask ds)
      let s1 := (s.setReg R.TWIN_WIT w).set R.TWIN_TK_STAT F.TWIN_TK_STAT_VERDICT verdict
      let s2 := raiseLib 0x0C6 (verdict + 4 * mask cs) s1
      if verdict = 1 ∨ (verdict = 3 ∧ s.bit R.TWIN_CTL F.TWIN_CTL_INCONCL = false) then takeover 3 s2 else yield_ s2)

/-! ### The map's writes (R562, R564) -/

/-- The resource of nibble i of a map register; none where there is none. -/
def mapRes (a i : Nat) : MapKind × Nat :=
  let o := a - 0xF0120200
  if o < 0x20 then (.carrel, 16 * o + i) else if o < 0x22 then (.chan, 16 * (o - 0x20) + i) else (.wing, i)
/-- Is the address a register of the map? -/
def isMapReg (a : Nat) : Bool := decide (0xF0120200 ≤ a) && decide (a ≤ 0xF0120222)

/-- Does a write of the map receive TARGET: a reserved bit, or a used resource moved away from the local side (R564)? -/
def mapRefuses (a : Nat) (w : BitVec 64) (s : State) : Bool :=
  (List.range 16).any fun i =>
    let (k, n) := mapRes a i
    let v := (w.extractLsb' (4 * i) 4).toNat
    (v.testBit 3 && decide (k ≠ .chan)) ||
    (!(decide (k = .carrel) && decide (n = 0)) && decide (mapEntry k n s % 2 = localSide s) && decide (v % 2 ≠ localSide s) && resourceUsed k n s)

/-- A write of the map applies: SIDE, TAKE and WIT as written, TAKEN clear (R562, R564). -/
def mapApply (a : Nat) (w : BitVec 64) (s : State) : State :=
  (List.range 16).foldl (fun t i =>
    let (k, n) := mapRes a i
    let v := (w.extractLsb' (4 * i) 4).toNat
    setMapEntry k n (v - (if v.testBit 2 then 4 else 0)) t) s

/-- A map register as it reads: carrel 0's entry is the local side (R562). -/
def mapShown (a : Nat) (s : State) : BitVec 64 :=
  if a = R.TWIN_CMAPk 0 then fput (s.reg a) ⟨0, 4⟩ (localSide s) else s.reg a

/-! ### Records and relayed events (R567, R568, R570, R579) -/

/-- MIRROR_RECORD_APPLY (R558, R567): a catalogue record from the twin; the response says what is reported back. -/
def execMirrorRecordApply (shelf : BitVec 20) (seq : BitVec 16) (tofired : Bool) (word : Word) (last : BitVec 64) (s : State) :
    Host.Outcome State Fault Refusal :=
  .next (
    let k := shelf.toNat
    if !twinRuns s || !twinLinkUp s || !s.bit R.TWIN_GTC_STAT F.TWIN_GTC_STAT_VALID then s
    else
      let (d, s1) := engRead (catA k 2) s
      let e := permitAddr (catA k 0) 29
      if !mirrorRange k F.TWIN_MIRk_RECV s || decide ((descOf d).kind ≠ 0) then { s1 with resp := .err rTARGET }
      else if !hasRight e .write s1 then { s1 with resp := .err rPERMIT }
      else
        let (t0, s0) := engRead (catA k 3) s1
        let t := timingWord t0 tofired seq (localStamp last.toNat s)
        let s2 := ((s0.wrMem (catA k 0) word).wrMem (catA k 1) word).wrMem (catA k 3) t
        { s2.addWrap R.TWIN_MIR_CNT F.TWIN_MIR_CNT_APPLIED 1 with resp := .done })

/-- DEMAND_RECORD (R558, R568): the twin's demand for channel c, in the layout of TWIN_DEMc. -/
def execDemandRecord (c : Fin 32) (w : BitVec 19) (s : State) : Host.Outcome State Fault Refusal :=
  .next (if !twinRuns s || !twinLinkUp s || !s.bit R.TWIN_GTC_STAT F.TWIN_GTC_STAT_VALID then s
    else (s.setReg (R.TWIN_DEMc c.val) (fput (w.setWidth 64) F.TWIN_DEMc_V 1)).addWrap R.TWIN_MIR_CNT F.TWIN_MIR_CNT_APPLIED 1)

/-- TWIN_RELAY_EVENT (R558, R570): an event of kind k relayed from the twin. -/
def execTwinRelayEvent (k : Fin 6) (src : BitVec 12) (payload stamp : BitVec 64) (s : State) : Host.Outcome State Fault Refusal :=
  .next (
    if !twinRuns s || !twinLinkUp s || !s.bit R.TWIN_GTC_STAT F.TWIN_GTC_STAT_VALID then s
    else
      let s1 := if k.val = 2 then s.set R.TWIN_STAT F.TWIN_STAT_PEER_BROKEN 1 else s
      let pay := BitVec.ofNat 64 (src.toNat + payload.toNat % 2 ^ 32 * 2 ^ 16)
      notify { stamp := localStamp stamp.toNat s, src := 0x0D0 + k.val, payload := immw pay, twin := true,
               sideB := decide (localSide s = 0) } 0 s1)

/-- DEPART_RECEIVED (R561, R579): the paired twin announces PARK. -/
def execDepartReceived (s : State) : Host.Outcome State Fault Refusal :=
  .next (if twinRuns s && twinLinkUp s && decide (twinState s = 1) then
      let s1 := relayTwin 5 0x0C9 0 (raiseLib 0x0C9 0 (setTwinState 6 s))
      { s1 with twin := { s1.twin with peerWake := false } }
    else s)

/-! ### Writes of the TWIN block (R580) -/

/-- Writes of the TWIN block its rules refuse; the map's are refused in mapRefuses. -/
def twinRefuses (a : Nat) (s : State) : Bool :=
  (decide (R.TWIN_MIRk 0 ≤ a) && decide (a ≤ R.TWIN_MIRk 7) && s.bit R.TWIN_CTL F.TWIN_CTL_MIR_EN)

/-- What a write of the TWIN block does beside setting its fields. -/
def twinActs (a : Nat) (old w : BitVec 64) (s : State) : State :=
  if a = R.TWIN_CTL then
    let s1 := if fget old F.TWIN_CTL_PAIR_EN = 1 ∧ fget w F.TWIN_CTL_PAIR_EN = 0 then unpair s else tryPair s
    if fget w F.TWIN_CTL_PEER_WAKE = 1 ∧ twinState s1 = 6 then { s1 with twin := { s1.twin with peerWake := true } } else s1
  else if a = R.TWIN_CNTCLR then
    (if fget w F.TWIN_CNTCLR_CLR = 1 then
      (mirrorDrain s).setReg R.TWIN_MIR_CNT 0 |>.set R.TWIN_MIR_STAT F.TWIN_MIR_STAT_DROPPED 0
    else s)
  else s

/-- TWIN_STAT as it reads: TAKE_OUT follows the device, and TAKE_IN is the level outside gives the ball, a free value
(assumption 2). -/
def twinStatRead (s : State) : BitVec 64 × State :=
  let (v, s1) := s.drawFree 1
  (fput (fput (s.reg R.TWIN_STAT) F.TWIN_STAT_TAKE_IN v.toNat) F.TWIN_STAT_TAKE_OUT (if takeOut s then 1 else 0), s1)

end Sys2Proof.Machine
end

