-- ==== Sys2Proof/Machine/Reset.lean ====
section
/-!
DEFINITION. What a reset leaves of the state (spec/16_clocks_power_reset.md R598 to R600, R607; R23, R27, R330, R393, R650):
the resets of the dies, and those of a tile and a unit.
-/
namespace Sys2Proof.Machine

open Sys2Proof

/-! ### The survival table (R607) -/

/-- The columns of R607 for the resets of a die. -/
inductive RKind where
  | por | warm | compute | park
  deriving DecidableEq, Repr

/-- Does a register survive a reset of a die whole (R607)? A SYS, NM, STK, LOAD or VAULT register that the table keeps in
part is restored field by field. -/
def keepsReg (k : RKind) (s : State) (a : Nat) : Bool :=
  let o := offsetOf a
  let np := decide (k ≠ .por)
  if isPermitEntry a || isOwnReg a s then false
  else match blockOf a with
  | 0 => (np && (decide (a = R.SYS_FAULT_CTL) || decide (a = R.SYS_PARK_WMASK) || decide (a = R.SYS_AON_TIMER) || decide (a = R.SYS_PMIC))) ||
         (decide (k = .park) && decide (a = R.SYS_PWR_STAT))
  | 1 => np && (decide (a = R.TIME_ALM_RATE) || decide (a = R.TIME_GTC_STAT))
  | 3 => (decide (k = .warm) || decide (k = .compute)) &&
         (decide (a = R.STK_BANKWD) || (decide (R.STK_WDk 0 ≤ a) && decide (a ≤ R.STK_WDk 31)) ||
          (decide (R.STK_MWDk 0 ≤ a) && decide (a ≤ R.STK_MWDk 15)))
  | 13 => decide (k = .park) || (np && (decide (0x800 ≤ o) || (decide (0x200 ≤ o) && decide (o < 0x300) && decide (o % 16 = 2))))
  | 14 => decide (k = .compute) || (np && decide (0x1000 ≤ o) && decide (o < 0x1200) && (decide (o % 16 = 8) || decide (o % 16 = 9)))
  | 17 => decide (a = R.VAULT_FUSE) || decide (a = R.VAULT_TAMP_STAT) ||
          (decide (R.VAULT_Kk_ATTR 0 ≤ a) && decide (a ≤ R.VAULT_Kk_ATTR 255)) ||
          (np && decide (4 ≤ o) && decide (o < 8))
  | _ => false

/-- Carry a field of a register over from the state before. -/
def keepField (old : State) (a : Nat) (f : Fld) (s : State) : State := s.set a f (old.get a f)

/-- The wake fields of LOAD_HVINi. -/
def hvinFields : List Fld := [F.LOAD_HVINi_WAKE_TH, F.LOAD_HVINi_WAKE_EDGE, F.LOAD_HVINi_WAKE_EN]

/-- The registers after a reset of a die (R607). -/
def resetRegs (k : RKind) (s : State) : State :=
  let s1 := { s with regs := spKeep (keepsReg k s) s.regs }
  if k = .por then s1
  else
    let s2 := keepField s R.SYS_FAULT_STAT F.SYS_FAULT_STAT_LOCKSTEP_BROKEN s1
    let s3 := (List.range 8).foldl (fun t p => keepField s (R.EXEC_Pp_STAT p) F.EXEC_Pp_STAT_BROKEN t) s2
    let s4 := keepField s R.TWIN_STAT F.TWIN_STAT_PEER_BROKEN s3
    let s5 := if k = .park then s4 else keepField s R.ARCH_STAT F.ARCH_STAT_SEQ s4
    if k = .compute then s5
    else
      let s6 := (List.range 16).foldl (fun t i => hvinFields.foldl (fun u f => keepField s (R.LOAD_HVINi i) f u) t) s5
      (List.range 32).foldl (fun t c =>
        [F.LOAD_CHc_STAT_ATTEMPTS, F.LOAD_CHc_STAT_EXHAUSTED, F.LOAD_CHc_STAT_THERM].foldl
          (fun u f => keepField s (R.LOAD_CHc_STAT c) f u) t) s6

/-! ### The rest of the state -/

/-- The power die's channels as a reset of that die leaves them: off, with the wire estimate and the clamp budget kept but
for a power-on reset (R31, R378, R396). -/
def resetChans (k : RKind) (s : State) : State :=
  match k with
  | .por => { s with chans := (List.range 32).map (fun c => (c, ({ wireAt := s.el, budgetAt := s.el, edgeAt := s.el } : Chan))), load := { releasedAt := s.el } }
  | .compute => { s with chans := s.chans.map (fun e => (e.1, { e.2 with sent := false })), load := { s.load with reflex := [] } }
  | _ =>
    { s with
      chans := (List.range 32).map (fun c =>
        let x := s.chan c
        (c, ({ wire := x.wire, wireAt := x.wireAt, budget := x.budget, budgetAt := x.budgetAt, edgeAt := s.el } : Chan)))
      load := { s.load with reflex := [], releasedAt := s.el } }

/-- The canonical form of the channels: entries that hold the default are dropped. -/
def tidyChans (s : State) : State := { s with chans := s.chans.filter (fun e => e.2 ≠ ({} : Chan)) }

/-- The archive after a reset (R454, R455, R607): what its input queue held is lost, and the retained store stays but for a
power-on reset and PARK. -/
def resetArch (k : RKind) (s : State) : State :=
  let a := s.arch
  match k with
  | .por | .park => { s with arch := {} }
  | _ => { s with arch := { retained := a.retained, gap := a.gap || decide (a.inq ≠ []), last := a.last } }

/-- The stacks after a reset: the engines stop; the error bits of MRAM stay, those of other arrays until the fill. -/
def resetStk (s : State) : State := { s with stk := { ecc := s.stk.ecc, flash := s.stk.flash } }

/-- The strongroom after a reset of the compute die: derived slots and commands are gone, persistent slots and what is being
programmed into them stay (R522, R525, R548). -/
def resetVault (s : State) : State :=
  let s1 := zeroiseRun s
  { s1 with vault := { keys := spKeep (fun k => decide (k < 256)) s1.vault.keys, prog := s1.vault.prog } }

/-- Persistent slots whose command had not begun to program them are free again. -/
def resetClaims (s : State) : State :=
  s.vault.jobs.foldl (fun t e => match e.2.claim with
    | some k => if slotAttr k aSTATE t ≠ 5 ∨ t.vault.prog.any (fun x => decide (x.1 = k)) = true then t else setSlot k aSTATE 0 t
    | none => t) s

/-- Words of memory the reset itself clears: the 72-bit words of MMIO; the arrays wait for the fill (R443). -/
def resetMem (s : State) : State := { s with mem := spKeep (fun a => decide (regionOf a ≠ .mmio)) s.mem }

/-- Which tiles a reset reopens (R27, R598). -/
def tileStays (k : RKind) (t : Tile) : Bool :=
  match k with
  | .compute | .park => powerTile t
  | .warm => decide (t = .aon)
  | .por => false

/-- A power-on reset's time: every counter at zero (R53). A later reset keeps the GTC, the coarse count and the almanac
(R607). -/
def resetTime (k : RKind) (s : State) : State :=
  match k with
  | .por => { s with time := { el := s.time.el } }
  | _ => { s with time := { s.time with ppsUnread := false, pulses := [], sync0 := 0, sync1 := 0 } }

/-- What a reset of a die leaves of the whole state (R598, R607). The pending commands, the outside levels, the power state,
the always-on tile's own state and the free values go on. -/
def resetDie (k : RKind) (s : State) : State :=
  let s0 := resetVault (resetClaims s)
  let s1 := resetTime k (resetMem (resetStk (resetArch k (tidyChans (resetChans k (resetRegs k s0))))))
  { s1 with
    caps := []
    closed := s1.closed.filter (tileStays k)
    bridge := {}
    cores := []
    pairs := []
    handover := none
    carrels := []
    adc := []
    relays := []
    pinLast := []
    trgLate := []
    cat := {}
    coll := []
    cans := []
    lins := []
    sw := {}
    wings := []
    tokens := []
    mirror := []
    mirrorAt := 0
    twin := { aliveOut := s1.twin.aliveOut }
    faults := { s1.faults with device := none, held := false, safeRec := s1.faults.safeRec && decide (k ≠ .por) && decide (k ≠ .warm) } }

/-! ### Unit and tile resets (R23, R27) -/

/-- Registers of a range return to their reset values; permit tables and ownership registers stay (R600). -/
def rangeReset (lo n : Nat) (s : State) : State :=
  { s with regs := spKeep (fun a => decide (a < lo) || decide (lo + n ≤ a) || isPermitEntry a || isOwnReg a s) s.regs }
/-- Words of 72 bits of a range likewise. -/
def rangeClear (lo n : Nat) (s : State) : State := { s with mem := spKeep (fun a => decide (a < lo) || decide (lo + n ≤ a)) s.mem }

/-- A CAN controller is reset (R330): off the bus, its open context failed, its registers at reset. -/
def canReset (n : Nat) (s : State) : State :=
  rangeReset (R.CANn_CTL n) 0x1000 ((ctxFail n .late s).setCan n {})
/-- A LIN controller is reset. -/
def linReset (m : Nat) (s : State) : State :=
  rangeReset (R.LINm_CTL m) 0x400 ((ctxFail (16 + m) .late s).setLin m {})
/-- A switch port is reset: the frame on the wire ends as when EN is cleared, its queues are flushed. -/
def portReset (p : Nat) (s : State) : State :=
  let s1 := if portState p s = 0 then portLeaves p false s else s
  let s2 := if portState p s1 = 1 then flushPort p s1 else s1
  rangeReset (R.ETH_Pp_CTL p) 0x400 (s2.setPort p {})
/-- A cataloguer is reset: its queue and its run's waiting end, its registers return to reset. -/
def cuReset (n : Nat) (s : State) : State := rangeReset (R.CATG_CUn_CTL n) 8 ((cuStop n s).setCu n {})
/-- A collation unit is reset: a scan ends without an event. -/
def collReset (u : Nat) (s : State) : State := rangeReset (R.COLL_Un_CTL u) 16 (s.setColl u {})

/-- The strongroom is reset: its queues and derived slots (R607). -/
def vaultReset (s : State) : State :=
  let s1 := eraseDerived (resetClaims s)
  let s2 := rangeReset (R.VAULT_Qq_CMD 0) 0x100 s1
  let s3 := s2.setReg R.VAULT_ENT_STAT 0
  { s3 with vault := { s3.vault with jobs := [] } }

/-- The carrel table is reset: every carrel of the CARREL block returns to its reset values, with empty notice queues and
desks (R607). -/
def carrelTableReset (s : State) : State :=
  let s1 := (List.range 512).foldl (fun t c => t.setCarrel c { t.carrel c with nq := {}, reqs := [], gather := none, halted := false, quiesceBy := 0 }) s
  rangeClear 0xF0104000 0x4000 (rangeReset 0xF0100000 0x10000 s1)

/-- The switch core is reset: every frame in it is discarded. -/
def switchReset (s : State) : State :=
  let s1 := (List.range 24).foldl (fun t p => ctxFail (24 + p) .late t) s
  let s2 := (List.range 11).foldl (fun t j => portReset (12 + j) t) s1
  rangeReset R.CIRC_CTL 0x10000 { s2 with sw := { ports := s2.sw.ports } }

/-- The network sleep manager is reset: the selective-wake decoders and the wake masks stay (R607). -/
def nmReset (s : State) : State :=
  let s1 := rangeReset R.NM_CTL 0x200 s
  let s2 := (List.range 16).foldl (fun t w =>
    let m := t.reg (R.NM_WINGw_WMASK w)
    (rangeReset (R.NM_WINGw_CFG w) 16 t).setReg (R.NM_WINGw_WMASK w) m) s1
  { rangeReset (R.NM_WINGw_WTe_A 0 0) 0x200 s2 with wings := [], tokens := [] }

/-- The time tile is reset: the GTC and the almanac go on (R607). -/
def timeReset (s : State) : State :=
  let g := s.reg R.TIME_GTC_STAT
  let r := s.reg R.TIME_ALM_RATE
  let s1 := ((rangeReset R.TIME_GTC 0x500 s).setReg R.TIME_GTC_STAT g).setReg R.TIME_ALM_RATE r
  { s1 with time := { s1.time with ppsUnread := false, pulses := [], sync0 := 0, sync1 := 0 }, trgLate := [] }

/-- The fill and scrub unit is reset: page tags, withdrawal and the xSPI registers stay (R607). -/
def fillReset (s : State) : State :=
  let s1 := rangeReset R.STK_CTL 8 s
  let filled := s.get R.STK_STAT F.STK_STAT_FILLED
  let s2 := rangeReset (R.STK_CEt 0) 0x10 (s1.set R.STK_STAT F.STK_STAT_FILLED filled)
  { s2 with stk := { s2.stk with corr := [], ceHist := [], fill := none, bankFill := [] } }

/-- Pair p's tile is reset: as R432 has it, and its other registers but BROKEN return to reset. -/
def pairTileReset (p : Nat) (s : State) : State :=
  let b := s.get (R.EXEC_Pp_STAT p) F.EXEC_Pp_STAT_BROKEN
  (rangeReset (R.EXEC_Pp_CTL p) 0x20 (pairReset p s)).set (R.EXEC_Pp_STAT p) F.EXEC_Pp_STAT_BROKEN b

/-- Unit u of a tile is reset (R23). A tile whose units share their registers is one unit here. -/
def unitReset (t : Tile) (u : Nat) (s : State) : State :=
  match t with
  | .pair p => pairTileReset p.val s
  | .l2 _ | .cellMem | .sram _ | .debug => s
  | .catMem k => tileContexts k.val s
  | .cataloguer k => cuReset (8 * k.val + u % 8) s
  | .collation => collReset (u % 16) s
  | .switchCore => switchReset s
  | .macsec => rangeReset (R.MACSEC_Iu_CTL 0) 0x10000 s
  | .t1s => portReset (u % 4) s
  | .serdes => portReset (4 + u % 6) s
  | .uplinks => portReset (10 + u % 2) s
  | .can k => canReset (4 * k.val + u % 4) s
  | .lin => linReset (u % 8) s
  | .netSleep => nmReset s
  | .mram => s.setReg R.STK_MRAM_CTL (resetReg R.STK_MRAM_CTL)
  | .xspi =>
    let s1 := rangeReset R.STK_XSPI_CTL 0x40 s
    { s1 with stk := { s1.stk with cmdRun := false, copyRun := false } }
  | .fillScrub => fillReset s
  | .archive =>
    let s1 := (rangeReset R.ARCH_CTL 1 s).setReg R.ARCH_LOSS 0
    { s1 with arch := { s1.arch with inq := [], gap := s1.arch.gap || decide (s1.arch.inq ≠ []), armed := true } }
  | .time => timeReset s
  | .ioc =>
    let s1 := rangeClear 0xF0130000 0x10000 (rangeReset 0xF0130000 0x10000 s)
    { s1 with adc := [] }
  | .carrelTable => carrelTableReset s
  | .strongroom => vaultReset s
  | .twinBridge =>
    let s1 := keepField s R.TWIN_STAT F.TWIN_STAT_SIDE (keepField s R.TWIN_STAT F.TWIN_STAT_PEER_BROKEN (rangeReset R.TWIN_CTL 0x10000 s))
    { s1 with bridge := {}, relays := [], mirror := [], mirrorAt := 0, twin := { aliveOut := s1.twin.aliveOut } }
  | .aon => { s with power := { s.power with wakes := [] }, load := { s.load with held := [] } }
  | .sequencer | .switches | .gates _ | .measurement =>
    (tileChannels t).foldl (fun x c => demandOff c x) { s with load := { s.load with reflex := [] } }

/-- The units of a tile. -/
def tileUnits (t : Tile) : Nat :=
  match t with
  | .cataloguer _ | .lin => 8
  | .collation => 16
  | .t1s | .can _ => 4
  | .serdes => 6
  | .uplinks => 2
  | _ => 1

/-- A tile reset (R27): the ports close, the units reset, the ports reopen. Transactions that the tile had accepted are
whole in this model, so none waits to be drained; what the tile's initiators had open at the twin completes there without
an answer. -/
def tileReset (t : Tile) (s : State) : State :=
  let s1 := (List.range (tileUnits t)).foldl (fun x u => unitReset t u x) s
  openTile t s1

/-- TILE_RESET (R27). -/
def execTileReset (t : Tile) (s : State) : Host.Outcome State Fault Refusal :=
  .next (if s.power.computeHeld && !powerTile t then s else tileReset t s)

/-- UNIT_RESET (R23): the tile's ports are left as they are. -/
def execUnitReset (t : Tile) (u : BitVec 6) (s : State) : Host.Outcome State Fault Refusal :=
  .next (if s.power.computeHeld && !powerTile t then s else unitReset t u.toNat s)

end Sys2Proof.Machine
end

