-- ==== Sys2Proof/Machine/Boot.lean ====
section
/-!
DEFINITION. The boot core's work (spec/11_stacks_and_memory.md R443, R444, R454, R458 to R460; spec/14_strongroom.md R521,
R524, R541 to R543, R548; spec/16_clocks_power_reset.md R602, R604): the fill, boot records, verification and measurement.
-/
namespace Sys2Proof.Machine

open Sys2Proof
open Sys2Proof.Machine.Crypto

/-! ### The fill of start-up (R443, R444, R454) -/

/-- Does a word keep its content through the fill: MRAM, and withdrawn pages of general SRAM? -/
def fillKeeps (s : State) (a : Nat) : Bool :=
  match regionOf a with
  | .mram => true
  | .sram => pageWithdrawn (a / 4096) s
  | _ => false
/-- The start-up fill: the arrays read as the fill word with good check bits, and FILLED is set. -/
def fillMemory (s : State) : State :=
  let s1 := { s with mem := spKeep (fillKeeps s) s.mem, stk := { s.stk with ecc := spKeep (fillKeeps s) s.stk.ecc, corr := [] } }
  s1.set R.STK_STAT F.STK_STAT_FILLED 1
/-- The retained entries become the live ring's first, with PRIOR = 1 (R454). -/
def copyRetained (s : State) : State :=
  let es := s.arch.retained.map fun e => { e with prior := true }
  let s0 := (s.set R.ARCH_STAT F.ARCH_STAT_COUNT es.length).set R.ARCH_STAT F.ARCH_STAT_HEAD es.length
  let s1 := s0.set R.ARCH_STAT F.ARCH_STAT_PRIOR_HELD (if es.isEmpty then 0 else 1)
  { s1 with arch := { s1.arch with live := es.zipIdx.map fun x => (x.2, x.1) } }

/-! ### Reading words (R458, R604) -/

/-- A word of an image or a record as the boot core reads it; none where it is uncorrectable. -/
abbrev WordReader := Nat → State → Option Word × State
/-- A word of MRAM at an offset. -/
def mramRead (base : Nat) : WordReader := fun i s => readArray (base + i) .engine s
/-- A word of the recovery image in flash, nine octets each (R604). -/
def flashRead : WordReader := fun i s => (some (packWord 9 ((List.range 9).map fun j => flashOctet (9 * i + j) s)), s)
/-- A word of an image the DEBUG block has written. -/
def listRead (ws : List Word) : WordReader := fun i s => (ws[i]?, s)
/-- Words of a list of places; none as soon as one cannot be read. -/
def readMany (rd : WordReader) : List Nat → State → Option (List Word) × State
  | [], s => (some [], s)
  | i :: t, s =>
    match rd i s with
    | (none, s1) => (none, s1)
    | (some w, s1) =>
      match readMany rd t s1 with
      | (none, s2) => (none, s2)
      | (some ws, s2) => (some (w :: ws), s2)

/-! ### Boot records (R459) -/

/-- A boot record's fields. -/
structure BootRec where
  gen : Nat := 0
  active : Bool := false
  pending : Bool := false
  tries : Nat := 0
  aBad : Bool := false
  bBad : Bool := false
  aSvn : Nat := 0
  bSvn : Nat := 0
  deriving DecidableEq, Repr

/-- The first word of boot record copy c. -/
def recBase (c : Nat) : Nat := 0x10000000 + (if c = 0 then 0x1F0000 else 0x3F0000)
/-- The check of a record's words 0 to 6. -/
def recCheck (ws : List Word) : BitVec 64 := crcOf (crcFixed 7) ((ws.take 7).flatMap wordOctets)
/-- A record's eight words as fields, when its MAGIC and CHECK are correct. -/
def recOf (ws : List Word) : Option BootRec :=
  let v (k : Nat) : Nat := (wv (ws.getD k 0)).toNat
  if v 0 % 2 ^ 32 = 0x4B524543 ∧ wv (ws.getD 7 0) = recCheck ws then
    some { gen := v 0 / 2 ^ 32, active := (v 1).testBit 0, pending := (v 1).testBit 1, tries := v 1 / 4 % 16,
           aBad := (v 1).testBit 6, bBad := (v 1).testBit 7, aSvn := v 2 % 2 ^ 32, bSvn := v 2 / 2 ^ 32 }
  else none
/-- A record's words, each written with provenance 0xC0 (assumption 80). -/
def recWords (r : BootRec) : List Word :=
  let b (x : Bool) (k : Nat) : Nat := if x then 2 ^ k else 0
  let ws : List Word := [immw (BitVec.ofNat 64 (0x4B524543 + r.gen % 2 ^ 32 * 2 ^ 32)),
    immw (BitVec.ofNat 64 (b r.active 0 + b r.pending 1 + r.tries % 16 * 4 + b r.aBad 6 + b r.bBad 7)),
    immw (BitVec.ofNat 64 (r.aSvn % 2 ^ 32 + r.bSvn % 2 ^ 32 * 2 ^ 32)), immw 0, immw 0, immw 0, immw 0]
  ws ++ [immw (recCheck ws)]
/-- A record copy, when it is valid. -/
def readRec (c : Nat) (s : State) : Option BootRec × State :=
  match readMany (mramRead (recBase c)) (List.range 8) s with
  | (some ws, s1) => (recOf ws, s1)
  | (none, s1) => (none, s1)
/-- The newer valid copy and its number; with none valid the empty record, as if copy 0 held it (R459, R460; assumption 80). -/
def newerRec (s : State) : (BootRec × Nat) × State :=
  let (r0, s1) := readRec 0 s
  let (r1, s2) := readRec 1 s1
  (match r0, r1 with
   | some x, some y => if (y.gen + 2 ^ 32 - x.gen) % 2 ^ 32 = 0 ∨ 2 ^ 31 ≤ (y.gen + 2 ^ 32 - x.gen) % 2 ^ 32 then (x, 0) else (y, 1)
   | some x, none => (x, 0)
   | none, some y => (y, 1)
   | none, none => ({}, 0), s2)
/-- Write a record over the copy that is not the newer one (R459): the record written and its copy. -/
def writeRec (r : BootRec) (cur : Nat) (s : State) : (BootRec × Nat) × State :=
  let r1 := { r with gen := (r.gen + 1) % 2 ^ 32 }
  let c := 1 - cur
  ((r1, c), (recWords r1).zipIdx.foldl (fun t x => t.wrMem (recBase c + x.2) x.1) s)

/-! ### Verification (R458, R541) -/

/-- What the boot core takes from a verified image. -/
structure Image where
  digest : Octets
  svn : Nat
  entry : Nat
  load : Nat
  deriving DecidableEq, Repr

/-- Root hash r as octets (R542). -/
def rootHash (r : Nat) (s : State) : Octets := (List.range 6).flatMap fun j => beOctets 8 (s.reg (R.VAULT_ROOTr_j r j)).toNat
/-- The image is copied to LOAD in the same pass as its hash (R602); words outside general SRAM are not written. -/
def copyImage (load : Nat) (ws : List Word) (s : State) : State :=
  if load = 0 then s
  else ws.zipIdx.foldl (fun t x => if regionOf (load + x.2) = .sram then t.wrMem (load + x.2) x.1 else t) s
/-- Steps 3 to 5 of R541 over an image's words. -/
def signatureOk (ws : List Word) (sigOff svn : Nat) (digest : Octets) (s : State) : Bool :=
  let blk := (ws.drop sigOff).flatMap wordOctets
  let o (k : Nat) : Nat := (blk.getD k 0).toNat
  let r := o 4
  let pk := (blk.drop 8).take 1952
  decide (blk.take 4 = [0x43#8, 0x53#8, 0x49#8, 0x47#8]) && decide (r < 4) && decide (o 5 = 1) && decide (o 6 = 0) && decide (o 7 = 0) &&
  !Nat.testBit (s.get R.VAULT_FUSE F.VAULT_FUSE_ROOT_REVOKE) r && decide (sha384 pk = rootHash r s) &&
  decide (s.get R.VAULT_FUSE F.VAULT_FUSE_MIN_SVN ≤ svn) && dsaVerify pk ((blk.drop 1960).take 3309) digest
/-- Verify the image a reader gives (R541). -/
def verifyImage (rd : WordReader) (s : State) : Option Image × State :=
  match readMany rd (List.range 5) s with
  | (none, s1) => (none, s1)
  | (some hd, s1) =>
    let v (k : Nat) : Nat := (wv (hd.getD k 0)).toNat
    let len := v 1 % 2 ^ 32
    let svn := v 1 / 2 ^ 32
    let load := v 3 % 2 ^ 48
    let sigOff := v 4 % 2 ^ 32
    if v 0 % 2 ^ 32 ≠ 0x43414C44 ∨ v 0 / 2 ^ 32 ≠ 1 ∨ 2031616 < len ∨ len < sigOff + 586 then (none, s1)
    else
      match readMany rd (List.range len) s1 with
      | (none, s2) => (none, s2)
      | (some ws, s2) =>
        let s3 := copyImage load ws s2
        let d := sha384 ((ws.take sigOff).flatMap wordOctets)
        if signatureOk ws sigOff svn d s3 then (some { digest := d, svn := svn, entry := v 2 % 2 ^ 49, load := load }, s3)
        else (none, s3)

/-! ### Measurement and the result of verification (R543, R603) -/

/-- Set measurement register m. -/
def setMeas (m : Nat) (xs : Octets) (s : State) : State :=
  (List.range 6).foldl (fun t j => t.setReg (R.VAULT_MEASm_j m j) (BitVec.ofNat 64 (beNat ((xs.drop (8 * j)).take 8)))) s
/-- Measurement register m as octets. -/
def measOctets (m : Nat) (s : State) : Octets := (List.range 6).flatMap fun j => beOctets 8 (s.reg (R.VAULT_MEASm_j m j)).toNat
/-- The boot ROM's 32 Ki words as octets. -/
def romOctets : Octets := (List.range 0x8000).flatMap fun i => wordOctets (Config.bootRom i)

/-- An image has verified: from slot A (0), slot B (1) or the recovery path (2). Measurement register 1, the BOOT octet and
what the librarian will start with (R539, R543, R603). -/
def bootImage (src : Nat) (trial : Bool) (x : Image) (s : State) : State :=
  let zeros : Octets := List.replicate 48 0
  let d := if src = 2 then zeros else x.digest
  let s1 := setMeas 1 (sha384 (zeros ++ d ++ beOctets 4 x.svn ++ [if src = 2 then 0xFF#8 else BitVec.ofNat 8 src])) s
  let st := R.VAULT_STAT
  let s2 := ((s1.setBit st F.VAULT_STAT_BOOT_SLOT (decide (src = 1))).setBit st F.VAULT_STAT_TRIAL (trial && decide (src ≠ 2))).setBit
    st F.VAULT_STAT_RECOVERY (decide (src = 2))
  let octet_ := (if src = 1 then 1 else 0) + (if trial && decide (src ≠ 2) then 2 else 0) + (if src = 2 then 4 else 0) +
    (if s.vault.bootSealed then 8 else 0)
  let base := if src = 0 then 0x10000000 else if src = 1 then 0x10200000 else 0
  { s2 with
    vault := { s2.vault with svn := BitVec.ofNat 32 x.svn }
    power := { s2.power with boot := .imageReady, imgEntry := BitVec.ofNat 49 x.entry, imgBase := BitVec.ofNat 48 base, imgBoot := BitVec.ofNat 8 octet_ } }

/-- Start-up halts: the compute die stays in reset with FAULT_N asserted, and the power die keeps its leases (R604). -/
def bootHalt (s : State) : State :=
  { s with power := { s.power with boot := .halted, computeHeld := true }, faults := { s.faults with held := true } }

/-- The recovery path of R604. -/
def recoveryPath (s : State) : State :=
  match s.power.bootCfg.toNat with
  | 0 => bootHalt s
  | 3 => { s with power := { s.power with boot := .waitImage } }
  | _ =>
    match verifyImage flashRead s with
    | (some x, s1) => bootImage 2 false x s1
    | (none, s1) => bootHalt s1

/-- The first word of slot B or A. -/
def slotBase (b : Bool) : Nat := if b then 0x10200000 else 0x10000000

/-- The choice of R460 and the verification of the candidates. -/
def bootChoose (s : State) : State :=
  let ((r, c), s1) := newerRec s
  let trial := r.pending && decide (r.tries ≠ 0)
  let ((r2, c2), s2) :=
    if trial then writeRec { r with tries := r.tries - 1 } c s1
    else if r.pending then writeRec { r with pending := false } c s1
    else ((r, c), s1)
  let cand := if trial then !r.active else r.active
  match verifyImage (mramRead (slotBase cand)) s2 with
  | (some x, s3) => bootImage (if cand then 1 else 0) trial x s3
  | (none, s3) =>
    let bad := if cand then { r2 with bBad := true, pending := false } else { r2 with aBad := true, pending := false }
    let ((r4, _), s4) := writeRec bad c2 s3
    if (if cand then r4.aBad else r4.bBad) then recoveryPath s4
    else
      match verifyImage (mramRead (slotBase !cand)) s4 with
      | (some x, s5) => bootImage (if cand then 0 else 1) false x s5
      | (none, s5) => recoveryPath s5

/-! ### The strongroom at start-up (R18, R521, R524, R543, R548) -/

/-- The fuse load (R18, R521): slots that fail their check, or whose programming was cut short, become damaged. -/
def fuseLoad (vote : Bool) (bad : List Nat) (s : State) : State :=
  let hit := bad.filter fun k => decide (k < 256) && decide (slotAttr k aSTATE s ≠ 0)
  let s1 := hit.foldl (fun t k => setSlot k aSTATE 4 t) s
  { s1 with power := { s1.power with fuseVote := vote, fuseBad := hit } }

/-- A zeroise that a loss of power or a reset cut short is finished: the secret bits of every retired ZEROISE slot (R548). -/
def zeroiseFinish (s : State) : State :=
  if s.get R.VAULT_TAMP_STAT F.VAULT_TAMP_STAT_ZPEND = 0 then s
  else
    let ks := (List.range 256).filter fun k => decide (slotAttr k aZEROISE s = 1) && decide (slotAttr k aSTATE s = 2)
    let s1 := ks.foldl (fun t k => burnSlot k t) s
    raiseLib 0x08A ks.length ((s1.set R.VAULT_TAMP_STAT F.VAULT_TAMP_STAT_ZPEND 0).set R.SYS_BOOT F.SYS_BOOT_ZFINISH 1)

/-- One key of R524: an attribute word and a secret made of free octets (assumption 2), into an empty slot. A scalar of
P-384 lies from 1 to the group order less one. -/
def bootKey (k ty rights len : Nat) (stmt : Bool) (s : State) : State :=
  if slotAttr k aSTATE s ≠ 0 then s
  else
    let (xs, s1) := randomOctets len s
    let sec := if ty = 6 then beOctets 48 (beNat xs % (p384.n - 1) + 1) else xs
    let a := fput (fput (fput (fput (fput 0#64 aTYPE ty) aRIGHTS rights) aSTMT (if stmt then 1 else 0)) aPARENT 0x7FF) aSTATE 1
    setSlotKey k (some { secret := sec }) (setAttr k a s1)

/-- The keys of the first start-up (R524). -/
def bootKeys (s : State) : State :=
  if slotAttr 0 aSTATE s ≠ 0 ∨ sealed s = true then s
  else bootKey 2 10 16 64 false (bootKey 1 6 4 48 true (bootKey 0 9 4 32 true (s.set R.SYS_BOOT F.SYS_BOOT_KEYGEN 1)))

/-- What the fuse load found, and a failed night crystal, reach the archive once it runs (R18, R61, R521). -/
def reportLoad (s : State) : State :=
  let s1 := if s.power.fuseVote then faultNoSrc 0 0 s else s
  let s2 := if s1.time.nightDue then faultNoSrc 0 0 { s1 with time := { s1.time with nightDue := false } } else s1
  let s3 := s.power.fuseBad.foldl (fun t k => fault 1 0x088 (BitVec.ofNat 64 k) 0 [] t) s2
  { s3 with power := { s3.power with fuseVote := false, fuseBad := [] } }

/-- The strongroom's part of start-up: the entropy test passed, the challenge drawn, measurement register 0 set, keys made,
the sealed start reported (R524, R543, R544, R550 to R552). -/
def vaultStart (s : State) : State :=
  let (c, s0) := s.drawFree 64
  let s1 := (s0.setReg R.VAULT_CHAL c).set R.VAULT_STAT F.VAULT_STAT_ENT_OK 1
  let s2 := (List.range 8).foldl (fun t m => setMeas m [] t) s1
  let s3 := setMeas 0 (sha384 romOctets) s2
  let s4 := { s3 with vault := { s3.vault with bootSealed := sealed s3 } }
  let s5 := zeroiseFinish (bootKeys s4)
  if s5.bit R.VAULT_TAMP_STAT F.VAULT_TAMP_STAT_AON_LOST then raiseLib 0x086 0 s5 else s5

/-- FILL_DONE (R443, R444, R454, R602): the fill ends, and the boot core does its work up to a verified image. -/
def execFillDone (s : State) : Host.Outcome State Fault Refusal :=
  .next (if s.power.boot = .filling ∧ s.power.computeHeld = false then
      bootChoose (vaultStart (reportLoad (copyRetained (fillMemory s))))
    else s)

/-- DEBUG_IMAGE_WRITTEN (R604): the image the DEBUG block has written, with no slot verified, is verified; one that fails
halts. -/
def execDebugImageWritten (img : List Word) (s : State) : Host.Outcome State Fault Refusal :=
  .next (if s.power.boot = .waitImage ∧ s.power.computeHeld = false then
      match verifyImage (listRead img) s with
      | (some x, s1) => bootImage 2 false x s1
      | (none, s1) => bootHalt s1
    else s)

end Sys2Proof.Machine
end

