-- ==== Sys2Proof/Machine/PowerOps.lean ====
section
/-!
DEFINITION. Clocks, power states, the PMIC handshake, the resets of the dies and start-up (spec/16_clocks_power_reset.md R581
to R604), and the writes of the SYS block (R51, R608).
-/
namespace Sys2Proof.Machine

open Sys2Proof

/-! ### Taking a reset (R598, R599) -/

/-- Is start-up under way: from the release of the compute die to the librarian's release? -/
def starting (s : State) : Bool :=
  !s.power.computeHeld && (match s.power.boot with
    | .running => false
    | _ => true)
/-- Is a reset of the compute die in progress, and of which KIND (R599)? A halt is none: it waits for a new reset. -/
def resetRuns (s : State) : Bool :=
  s.power.computeHeld && (match s.power.boot with
    | .halted => false
    | _ => true) && decide (s.power.pstate = .hold)
/-- SYS_RST_CAUSE after a reset (R598, R599, R608). -/
def setCause (kind trigger : Nat) (old : State) (s : State) : State :=
  let c := R.SYS_RST_CAUSE
  let retry := starting old || (resetRuns old && old.bit c F.SYS_RST_CAUSE_START_RETRY)
  s.setReg c (fput (fput (fput 0#64 F.SYS_RST_CAUSE_KIND kind) F.SYS_RST_CAUSE_TRIGGER trigger) F.SYS_RST_CAUSE_START_RETRY (if retry then 1 else 0))
/-- PGOOD_TMO in ns. -/
def pgoodTmo (s : State) : Nat := msNs * s.get R.SYS_PMIC F.SYS_PMIC_PGOOD_TMO
/-- OFF_MS in ns. -/
def offMs (s : State) : Nat := msNs * s.get R.SYS_PMIC F.SYS_PMIC_OFF_MS

/-- The compute die enters reset: HOLD, start-up to begin again. -/
def holdCompute (s : State) : State :=
  { s with power := { s.power with
      pstate := .hold, computeHeld := true, computeUntil := s.el + 20000, boot := .waitPgood, parkStep := 0
      dozeReq := false, exitPending := false, retries := 0 } }

/-- A compute-die reset by a trigger (R394, R598, R599): merged into a reset of equal or wider reach that is in progress,
else taken at once. A class-3 fault's leaves DEVICE_SEEN set (R51). -/
def computeReset (trigger : Nat) (s : State) : State :=
  if resetRuns s || s.power.powerHeld || decide (s.power.pstate = .park) || decide (s.power.pstate = .off) then s
  else
    let s1 := if computeAbsent s then s else leaseStart s
    let s2 := setCause 2 trigger s (holdCompute (coarseEnter (resetDie .compute s1)))
    if trigger = 4 then s2.set R.SYS_FAULT_STAT F.SYS_FAULT_STAT_DEVICE_SEEN 1 else s2

/-- A warm system reset by a trigger (R31, R598): both dies but the always-on tile; the power die is released 100 µs after
the trigger ends. -/
def warmReset (trigger : Nat) (s : State) : State :=
  if resetRuns s && decide (s.get R.SYS_RST_CAUSE F.SYS_RST_CAUSE_KIND ≤ 1) then
    (if s.power.powerHeld then { s with power := { s.power with powerUntil := max s.power.powerUntil (s.el + 100000) } } else s)
  else
    let s1 := holdCompute (coarseEnter (resetDie .warm s))
    setCause 1 trigger s { s1 with power := { s1.power with powerHeld := true, powerUntil := s.el + 100000 } }

/-- A power-on reset by a trigger (R53, R551, R598): everything but the fuses, MRAM and the tamper state. -/
def powerOnReset (trigger : Nat) (held : Bool) (s : State) : State :=
  let s1 := holdCompute (resetDie .por s)
  let s2 := setCause 0 trigger s s1
  { s2 with
    linkUp := true
    power := { s2.power with
      powerHeld := held, powerUntil := s.el + 100000, pwrReq := true, pgood := false, pgoodBy := s.el + pgoodTmo s2
      wakes := [], parkWake := none, parkWings := [], aonAt := none } }

/-- Is either reset pin low? -/
def pinLow (s : State) : Bool := s.power.porstLow || s.power.resetLow

/-! ### Start-up's beginning (R597, R598, R602, R604) -/

/-- Start-up begins: the straps are sampled, the fuses loaded, the crystal given its time (R18, R581, R584, R602, R604). -/
def beginStart (cfg : BitVec 2) (side vote : Bool) (bad : List (BitVec 8)) (s : State) : State :=
  let s1 := { s with power := { s.power with
    computeHeld := false, boot := .waitCrystal, bootCfg := cfg, pgoodAt := s.el, xoBy := s.el + 2000000 } }
  let s2 := ((s1.set R.SYS_BOOT F.SYS_BOOT_CFG cfg.toNat).setBit R.TWIN_STAT F.TWIN_STAT_SIDE side)
  fuseLoad vote (bad.map (·.toNat)) s2

/-- May the compute die be released (R598): its hold over, PGOOD high, the power die running? -/
def mayRelease (s : State) : Bool :=
  resetRuns s && s.power.pgood && !s.power.powerHeld && !pinLow s && decide (s.power.computeUntil ≤ s.el)
/-- Release the compute die when it may be. -/
def tryRelease (cfg : BitVec 2) (side vote : Bool) (bad : List (BitVec 8)) (s : State) : State :=
  if mayRelease s then beginStart cfg side vote bad s else s

/-- PGOOD_RISE (R596, R597, R602): the rails are good; start-up begins unless a reset still holds the die. -/
def execPgoodRise (cfg : BitVec 2) (side vote : Bool) (bad : List (BitVec 8)) (s : State) : Host.Outcome State Fault Refusal :=
  .next (if s.power.pgood || !s.power.pwrReq || decide (s.power.pstate = .park) || decide (s.power.pstate = .off) then s
    else tryRelease cfg side vote bad { s with power := { s.power with pgood := true, retries := 0 } })

/-- The power die leaves its reset (R596, R598): every channel off, PWR_REQ asserted. -/
def releasePower (s : State) : State :=
  let s1 := channelsOff { s with linkUp := true, power := { s.power with powerHeld := false } }
  { s1 with power := { s1.power with pwrReq := true, pgoodBy := s.el + pgoodTmo s } }

/-- RESET_HOLD_EXPIRY (R598): the power die's 100 µs or the compute die's 20 µs have passed. -/
def execResetHoldExpiry (cfg : BitVec 2) (side vote : Bool) (bad : List (BitVec 8)) (s : State) : Host.Outcome State Fault Refusal :=
  let s1 := if s.power.powerHeld && !pinLow s && decide (s.power.pstate = .hold) && decide (s.power.powerUntil ≤ s.el) then releasePower s else s
  .next (tryRelease cfg side vote bad s1)

/-- PGOOD_FALL (R597, R604): a compute-die reset at once; a halted start-up waits for PGOOD again; programming of fuses is
cut short (R522). -/
def execPgoodFall (s : State) : Host.Outcome State Fault Refusal :=
  .next (if !s.power.pgood || decide (s.power.pstate = .park) || decide (s.power.pstate = .off) then s
    else
      let cut := s.vault.prog
      let s1 := cut.foldl (fun t e => setSlot e.1 aSTATE 4 t) { s with vault := { s.vault with prog := [] } }
      let s2 := computeReset 6 s1
      { s2 with power := { s2.power with pgood := false, pgoodBy := s.el + pgoodTmo s } })

/-- PGOOD_TIMEOUT (R596): PGOOD has not risen in time and PWR_REQ goes low, or, after OFF_MS, PWR_REQ is asserted again. After
the last retry the device stays in PARK. -/
def execPgoodTimeout (s : State) : Host.Outcome State Fault Refusal :=
  let p := s.power
  .next (
    if decide (p.pstate ≠ .hold) || p.pgood || p.powerHeld then s
    else if p.pwrReq then
      if s.el < p.pgoodBy then s
      else
        let s1 := s.addSat R.SYS_PMIC F.SYS_PMIC_PGOOD_FAILS 1
        if p.retries < s.get R.SYS_PMIC F.SYS_PMIC_RETRIES then
          { s1 with power := { s1.power with pwrReq := false, pwrReqLowSince := s.el, retries := p.retries + 1 } }
        else
          let s2 := coarseEnter s1
          { s2 with power := { s2.power with pwrReq := false, pwrReqLowSince := s.el, retries := 0, pstate := .park, parkWake := none } }
    else if p.pwrReqLowSince + offMs s ≤ s.el then
      { s with power := { p with pwrReq := true, pgoodBy := s.el + pgoodTmo s } }
    else s)

/-- CRYSTAL_QUALIFIED (R581, R602): the PLLs lock; the GTC waits for the night-clock edge. -/
def execCrystalQualified (s : State) : Host.Outcome State Fault Refusal :=
  .next (if s.power.boot = .waitCrystal ∧ s.power.computeHeld = false then
      { s with power := { s.power with boot := .waitReconcile }, faults := { s.faults with held := false } }
    else s)

/-- CRYSTAL_RETRY (R584): 2 ms without a qualified crystal; FAULT_N is asserted and the qualification tried again. -/
def execCrystalRetry (s : State) : Host.Outcome State Fault Refusal :=
  .next (if s.power.boot = .waitCrystal ∧ s.power.computeHeld = false ∧ s.power.xoBy ≤ s.el then
      { s with power := { s.power with xoBy := s.el + 2000000 }, faults := { s.faults with held := true } }
    else s)

/-! ### Difference injection and the librarian's release (R419, R420, R602, R603) -/

/-- Set pair p's bit in PASSED or FAILED. -/
def injMark (p : Nat) (ok : Bool) (s : State) : State :=
  let a := R.EXEC_INJ
  let pass := s.get a F.EXEC_INJ_PASSED
  let fail := s.get a F.EXEC_INJ_FAILED
  let bitp := 2 ^ p
  let clear (x : Nat) : Nat := if x.testBit p then x - bitp else x
  if ok then (s.set a F.EXEC_INJ_PASSED (Nat.lor pass bitp)).set a F.EXEC_INJ_FAILED (clear fail)
  else (s.set a F.EXEC_INJ_FAILED (Nat.lor fail bitp)).set a F.EXEC_INJ_PASSED (clear pass)

/-- A pair fails its test: INJ_FAILED, and a class-2 archive entry with the checker-fault source (R420). -/
def injFail (p : Nat) (s : State) : State :=
  let (v, s1) := s.drawFree 64
  archive { stamp := s.now, src := 0x41 + 4 * p, payload := immw v } 2 0 (setPairState p 6 (injMark p false s1))

/-- INJECTION_TEST_DONE (R419, R420): at start-up for each pair, and for a pair whose release waits for it. -/
def execInjectionTestDone (p : Fin 8) (pass : Bool) (s : State) : Host.Outcome State Fault Refusal :=
  let q := p.val
  .next (
    if s.power.boot = .imageReady ∧ s.power.computeHeld = false then
      (if pass then injMark q true s else if q = 0 then bootHalt s else injFail q s)
    else if pairState q s = 1 ∧ s.power.boot = .running then
      (if pass then pairStart q (injMark q true s) else injFail q s)
    else s)

/-- Have all eight pairs been tested? -/
def injDone (s : State) : Bool :=
  decide (Nat.lor (s.get R.EXEC_INJ F.EXEC_INJ_PASSED) (s.get R.EXEC_INJ F.EXEC_INJ_FAILED) = 0xFF)

/-- The core of EP0 as the librarian starts on it (R603). -/
def librarianCore (s : State) : Core :=
  let k : Core := { pc := s.power.imgEntry, mode := 0b11#2, idle := false, loaded := true }
  (k.put 1 (immw (s.power.imgBase.setWidth 64))).put 2 (immw (s.power.imgBoot.setWidth 64))

/-- LIBRARIAN_RELEASE (R395, R591, R603): EP0 runs, START_US is recorded, the events kept are delivered, and so are the wakes
of PARK that no sleeping wing holds. -/
def execLibrarianRelease (s : State) : Host.Outcome State Fault Refusal :=
  .next (if s.power.boot = .imageReady ∧ s.power.computeHeld = false ∧ injDone s = true then
      let s1 := (setPairState 0 2 s).set (R.EXEC_Pp_STAT 0) F.EXEC_Pp_STAT_RELEASED 1
      let s2 := (s1.setCore 0 (librarianCore s)).set (R.CARREL_Cc_STAT 0) F.CARREL_Cc_STAT_IN 1
      let s3 := s2.set R.SYS_RST_CAUSE F.SYS_RST_CAUSE_START_US ((divRound ((s.el - s.power.pgoodAt : Nat) : Int) 1000).toNat)
      let now_ := s.power.wakes.filter fun e =>
        !((List.range 16).any fun w => s.bit (R.NM_WINGw_CFG w) F.NM_WINGw_CFG_EN && decide (wingState w s = 4) && wakeCounts w e.src s)
      let kept := s.power.wakes.filter fun e => !now_.contains e
      let s4 := { s3 with power := { s3.power with pstate := .awake, boot := .running, wakes := kept } }
      let s5 := if s4.linkUp then deliverHeld s4 else s4
      now_.foldl (fun t e => powerDeliver e t) s5
    else s)

/-! ### The resets as commands (R455, R598) -/

/-- Has the entry of the class-3 fault been stored, or 2 µs passed (R455)? -/
def deviceDue (s : State) : Bool :=
  match s.faults.device with
  | none => false
  | some t => s.arch.inq.all (fun e => decide (e.cls ≠ 3)) || decide (t + 2000 ≤ s.now) || !gtcRuns s

/-- COMPUTE_DIE_RESET (R44, R455, R598): the reset a class-3 fault brings. -/
def execComputeDieReset (s : State) : Host.Outcome State Fault Refusal :=
  .next (if deviceDue s then computeReset 4 s else s)

/-- WARM_RESET (R598): RESET_N has been low for 1 µs. -/
def execWarmReset (s : State) : Host.Outcome State Fault Refusal :=
  .next (if s.power.resetLow || decide (s.power.pstate = .off) then s
    else
      let s1 := warmReset 2 s
      { s1 with power := { s1.power with resetLow := true } })

/-- VBAT_AON has been lost for good: the latches go with it, and AON_LOST is set where the fuse asks for it (R551). -/
def aonReturn (s : State) : State :=
  let z := s.get R.VAULT_TAMP_STAT F.VAULT_TAMP_STAT_ZPEND
  let s1 := (s.setReg R.VAULT_TAMP_STAT 0).set R.VAULT_TAMP_STAT F.VAULT_TAMP_STAT_ZPEND z
  if s.bit R.VAULT_FUSE F.VAULT_FUSE_AON_LOSS then s1.set R.VAULT_TAMP_STAT F.VAULT_TAMP_STAT_AON_LOST 1 else s1

/-- POWER_ON_RESET (R551, R594, R598): PORST_N has been low for 10 µs, or VBAT_AON returns. -/
def execPowerOnReset (pin : Bool) (s : State) : Host.Outcome State Fault Refusal :=
  .next (
    if pin then
      if s.power.porstLow || !s.power.vbatAon then s
      else
        let off := decide (s.power.pstate = .off)
        let s1 := powerOnReset 0 true s
        { s1 with power := { s1.power with porstLow := true, pstate := if off then .off else .hold } }
    else if s.power.vbatAon then s
    else
      let s1 := aonReturn (powerOnReset 1 (!s.power.vbat12) s)
      { s1 with power := { s1.power with vbatAon := true, pstate := if s.power.vbat12 then .hold else .off } })

/-- RESET_PIN_RISE (R598): PORST_N or RESET_N returns high; the power die is released 100 µs later. -/
def execResetPinRise (por : Bool) (s : State) : Host.Outcome State Fault Refusal :=
  .next (if (if por then s.power.porstLow else s.power.resetLow) then
      { s with power := { s.power with
          porstLow := s.power.porstLow && !por, resetLow := s.power.resetLow && por, powerUntil := s.el + 100000 } }
    else s)

/-! ### OFF (R392, R585, R594) -/

/-- The supplies of a die are gone: what PARK loses is lost, and fuse programming is cut short (R522, R594). -/
def enterOff (s : State) : State :=
  if s.power.pstate = .off then s
  else
    let cut := s.vault.prog
    let s1 := cut.foldl (fun t e => setSlot e.1 aSTATE 4 t) { s with vault := { s.vault with prog := [] } }
    let s2 := holdCompute (coarseEnter (resetDie .park s1))
    { s2 with power := { s2.power with pstate := .off, powerHeld := true, pgood := false, pwrReq := false } }

/-- POWER_LOSS (R585): VBAT_AON, or else VBAT12, is lost. -/
def execPowerLoss (aon : Bool) (s : State) : Host.Outcome State Fault Refusal :=
  let s1 := enterOff s
  .next { s1 with power := { s1.power with vbatAon := s1.power.vbatAon && !aon, vbat12 := s1.power.vbat12 && aon } }

/-- The power die starts as after a warm system reset (R594). -/
def startWarm (s : State) : State :=
  let s1 := holdCompute (resetDie .warm { s with power := { s.power with pstate := .hold } })
  setCause 1 8 s { s1 with power := { s1.power with powerHeld := true, powerUntil := s.el + 100000 } }

/-- VBAT12_RETURN (R594): VBAT12 rises above 6 V, with VBAT_AON held. -/
def execVbat12Return (s : State) : Host.Outcome State Fault Refusal :=
  .next (if s.power.pstate = .off ∧ s.power.vbat12 = false then
      if s.power.vbatAon then startWarm { s with power := { s.power with vbat12 := true } }
      else { s with power := { s.power with vbat12 := true } }
    else s)

/-- REVERSE_BATTERY_END (R392): a reversal ends; the power die starts with every channel off, and 0x023 follows when the
always-on tile's hold-up let it record the reversal. No rule gives the event a payload: free (assumption 2). -/
def execReverseBatteryEnd (recorded : Bool) (s : State) : Host.Outcome State Fault Refusal :=
  let s1 := enterOff s
  .next (if recorded then
      let (v, s2) := (startWarm s1).drawFree 64
      powerRaise 0x023 v s2
    else aonReturn (powerOnReset 1 false s1))

/-! ### DOZE (R586, R587) -/

/-- DOZE_ENTERED (R586): every released pair is ASLEEP, HELD, STOPPED, INJ_FAILED or STANDBY. -/
def execDozeEntered (s : State) : Host.Outcome State Fault Refusal :=
  .next (if s.power.dozeReq ∧ s.power.exitPending = false ∧
        ((List.range 8).all fun p => [0, 3, 4, 6, 7].contains (pairState p s)) = true then
      { s with power := { s.power with dozeReq := false, pstate := .doze } }
    else s)

/-- DOZE_EXIT (R587): a waking event has come; sleeping pairs run their timetables again from the window that holds the GTC. -/
def execDozeExit (s : State) : Host.Outcome State Fault Refusal :=
  .next (if s.power.exitPending ∧ (s.power.dozeReq = true ∨ s.power.pstate = .doze) then
      let s1 := (List.range 8).foldl (fun t p =>
        if pairState p t = 7 then
          [2 * p, 2 * p + 1].foldl (fun u c => u.setCore c { u.core c with wend := s.now, idle := true }) (setPairState p 2 t)
        else t) s
      { s1.set R.SYS_PWR_STAT F.SYS_PWR_STAT_STATE 0 with
        power := { s1.power with dozeReq := false, exitPending := false, pstate := .awake } }
    else s)

/-! ### PARK (R589 to R592) -/

/-- Is a request for PARK accepted (R589)? -/
def parkOk (s : State) : Bool :=
  ((List.range 16).all fun w => !s.bit (R.NM_WINGw_CFG w) F.NM_WINGw_CFG_EN || decide (wingState w s = 4)) &&
  ((List.range 16).all fun q => !vbusy q s) && decide (s.get R.VAULT_TAMP_STAT F.VAULT_TAMP_STAT_ZPEND = 0) &&
  !s.bit R.STK_STAT F.STK_STAT_FILL_BUSY && ((List.range 8).all fun p => decide (pairState p s ≠ 5))

/-- A switch port goes DOWN (R273, R590). -/
def portDown (p : Nat) (s : State) : State :=
  let s1 := if portState p s = 0 then portLeaves p false s else s
  if portState p s1 = 1 then flushPort p s1 else s1

/-- PARK is requested and accepted (R579, R590 steps 1 and 2). -/
def parkBegin (s : State) : State :=
  if s.power.parkStep ≠ 0 then s
  else
    let s1 := (List.range 23).foldl (fun t p => portDown p t) s
    let s2 := if twinState s = 1 then { s1 with twin := { s1.twin with departed := true } } else s1
    { s2.set R.SYS_PWR_STAT F.SYS_PWR_STAT_STATE 2 with
      power := { s2.power with
        parkStep := 1, dozeReq := false, exitPending := false, parkWake := none, wakes := []
        parkWings := (List.range 16).filter fun w => s.bit (R.NM_WINGw_CFG w) F.NM_WINGw_CFG_EN } }

/-- PARK_GTC_HANDOFF (R59, R396, R525, R590 steps 3 and 4): the coarse count takes the GTC, the channels go off, the derived
slots are erased, and PWR_REQ is deasserted. -/
def execParkGtcHandoff (s : State) : Host.Outcome State Fault Refusal :=
  .next (if s.power.parkStep = 0 then s
    else
      let p := s.power
      let s1 := resetDie .park (eraseDerived (channelsOff (coarseEnter s)))
      { (s1.set R.SYS_PWR_STAT F.SYS_PWR_STAT_STATE 0) with
        power := { p with pstate := .park, computeHeld := true, boot := .waitPgood, parkStep := 0, pgood := false
                          pwrReq := false, pwrReqLowSince := s.el
                          retries := 0 } })

/-- PARK_EXIT (R591, R593, R595, R596): a wake event ends PARK once PWR_REQ has been low for OFF_MS. -/
def execParkExit (s : State) : Host.Outcome State Fault Refusal :=
  .next (match s.power.parkWake with
    | none => s
    | some src =>
      if s.power.pstate ≠ .park ∨ s.el < s.power.pwrReqLowSince + offMs s then s
      else
        let st := R.SYS_PWR_STAT
        let s1 := ((s.set st F.SYS_PWR_STAT_WAKE_SRC src).set st F.SYS_PWR_STAT_WAKE_PARK 1).set R.NM_CTL F.NM_CTL_EN 0
        let s2 := holdCompute s1
        setCause 3 7 s { s2 with power := { s2.power with
          pwrReq := true, pgoodBy := s.el + pgoodTmo s, parkWake := none, computeUntil := s.el } })

/-- TAMPER_RECOGNISED (R546, R547, R591): an enabled input has held its active level; in PARK a recognition may end PARK. -/
def execTamperRecognised (i : Fin 4) (s : State) : Host.Outcome State Fault Refusal :=
  .next (if s.bit (R.VAULT_TAMPi_CFG i.val) F.VAULT_TAMPi_CFG_EN = false ∨ s.power.vbatAon = false then s
    else
      let s1 := tamper i.val s
      if parking s && (s.reg R.SYS_PARK_WMASK).getLsbD 62 && s.power.parkWake.isNone then
        { s1 with power := { s1.power with parkWake := some (0x080 + i.val) } }
      else s1)

/-! ### Writes of the SYS block (R51, R583, R586, R589, R608) -/

/-- Has a pair other than EP0 been released (R583)? -/
def otherReleased (s : State) : Bool := (List.range 7).any fun p => s.bit (R.EXEC_Pp_STAT (p + 1)) F.EXEC_Pp_STAT_RELEASED

/-- Is a request for DOZE refused (R586)? In DOZE itself it is ignored (R587). -/
def dozeBad (s : State) : Bool :=
  decide (s.power.pstate ≠ .doze) &&
  (decide (s.power.pstate ≠ .awake) || s.power.dozeReq || decide (s.power.parkStep ≠ 0) ||
   (List.range 8).any fun p => decide (pairState p s = 5) || decide (pairState p s = 1))

/-- Writes of the SYS block its rules refuse. -/
def sysRefuses (a : Nat) (w nv : BitVec 64) (s : State) : Bool :=
  if a = R.SYS_CLK_CTL then decide (fget nv F.SYS_CLK_CTL_CORE_MULT ≠ s.get a F.SYS_CLK_CTL_CORE_MULT) && otherReleased s
  else if a = R.SYS_PWR_CTL then
    match fget w F.SYS_PWR_CTL_REQ with
    | 0 => false
    | 1 => dozeBad s
    | 2 => !parkOk s
    | _ => true
  else faultRefuses a s

/-- What a write of the SYS block does beside setting its fields. -/
def sysActs (a : Nat) (old w : BitVec 64) (s : State) : State :=
  if a = R.SYS_PWR_CTL then
    match fget w F.SYS_PWR_CTL_REQ with
    | 1 => if s.power.pstate = .doze then s
           else { s.set R.SYS_PWR_STAT F.SYS_PWR_STAT_STATE 1 with power := { s.power with dozeReq := true, exitPending := false } }
    | 2 => parkBegin s
    | _ => s
  else if a = R.SYS_PWR_DZMASK then s.setReg a (s.reg a ||| 0xF#64)
  else if a = R.SYS_AON_TIMER then
    let n := fget w F.SYS_AON_TIMER_SECONDS
    { s with power := { s.power with aonAt := if n = 0 then none else some (s.el + n * giga) } }
  else if a = R.SYS_RST_CTL then
    if fget w F.SYS_RST_CTL_WARM = 1 then warmReset 3 s
    else if fget w F.SYS_RST_CTL_COMPUTE = 1 then computeReset 5 s
    else s
  else faultActs a old s

/-- SYS_CLK_STAT as it reads: the locks follow the clocks (R582, R608). -/
def clkStat (s : State) : BitVec 64 :=
  let b (x : Bool) : Nat := if x then 1 else 0
  fput (fput (fput (fput (fput 0#64 F.SYS_CLK_STAT_XO_OK (b (pllsRun s))) F.SYS_CLK_STAT_CORE_LOCK (b (pllInUse 0 s)))
    F.SYS_CLK_STAT_FAB_LOCK (b (pllInUse 1 s))) F.SYS_CLK_STAT_TIME_LOCK (b (pllInUse 2 s)))
    F.SYS_CLK_STAT_NIGHT_RC (s.get R.TIME_GTC_STAT F.TIME_GTC_STAT_NIGHT_SRC)
/-- SYS_AON_TIMER as it reads: the seconds that remain, rounded either way (R608; assumption 6). -/
def aonLeft (s : State) : BitVec 64 :=
  match s.power.aonAt with
  | some t => BitVec.ofInt 64 (divRound ((t - s.el : Nat) : Int) giga)
  | none => 0

end Sys2Proof.Machine
end

