-- ==== Sys2Proof/Machine/Mmio.lean ====
section
/-!
DEFINITION. Reads and writes of the MMIO blocks (R5 to R10, and the register rules of each chapter): what a read returns
and does, and what a write that its checks let pass does, block by block.
-/
namespace Sys2Proof.Machine

open Sys2Proof

/-! ### Reads -/

/-- Does the MMIO word hold 72 bits of data: a pool word, a program word, a desk word or a conversion result (R5, R301, R516,
R624)? -/
def isWideWord (a : Nat) : Bool :=
  decide (arrOf a ≠ .other) || isDeskWord a ||
  (decide (blockOf a = 19) && decide (0x100 ≤ offsetOf a) && decide (offsetOf a < 0x200) && decide (1 ≤ offsetOf a % 16) && decide (offsetOf a % 16 ≤ 8))

/-- The words of the live archive (R453). -/
def isLiveWord (a : Nat) : Bool := decide (0xF0021000 ≤ a) && decide (a < 0xF0022000)

/-- A register as it reads now: fields that follow the machine's state are taken from there. -/
def regNow (a : Nat) (s : State) : BitVec 64 :=
  let o := offsetOf a
  if a = R.SYS_FAULT_STAT then faultStat s
  else if a = R.SYS_CLK_STAT then clkStat s
  else if a = R.SYS_AON_TIMER then aonLeft s
  else if a = R.TIME_GTC then s.time.gtc
  else if a = R.TIME_ALM_NS then s.time.almNs.setWidth 64
  else if a = R.TIME_ALM_SEC then s.time.almSec.setWidth 64
  else if isLiveWord a then liveWord ((a - 0xF0021000) / 4) ((a - 0xF0021000) % 4) s
  else if a = R.CIRC_STAT then
    fput (fput (fput (s.reg a) F.CIRC_STAT_CELLS (cellsInUse s)) F.CIRC_STAT_FRAMES (framesInUse s)) F.CIRC_STAT_COPIES (recordsInUse s)
  else if blockOf a = 14 ∧ 0x1000 ≤ o ∧ o < 0x1200 ∧ o % 16 = 3 ∧ s.bit a F.LOAD_CHc_PWM_AUTO_PH then
    fput (s.reg a) F.LOAD_CHc_PWM_PHASE (pwmPhase ((o - 0x1000) / 16) s)
  else if blockOf a = 14 ∧ 0x1000 ≤ o ∧ o < 0x1200 ∧ o % 16 = 9 then
    fput (s.reg a) F.LOAD_CHc_CLAMP_BUDGET (budgetShown ((o - 0x1000) / 16) s).toNat
  else if a = R.VAULT_STAT then vaultStat s
  else if blockOf a = 17 ∧ 0x1000 ≤ o ∧ o < 0x1100 then slotShown (o - 0x1000) s
  else if isMapReg a then mapShown a s
  else if blockOf a = 19 ∧ 0x40 ≤ o ∧ o < 0x70 ∧ o % 8 = 0 then lvlRead ((o - 0x40) / 8) s
  else s.reg a

/-- Fields that read as zero: WO fields (R6). -/
def woMask (r : RSpec) : BitVec 64 :=
  r.fields.foldl (fun m f => if f.acc = .wo then m ||| fmask f.fld else m) 0#64

/-- The word an MMIO address holds: data words as stored, registers with provenance 0xC0, and zero where no register lies
(R5). -/
def mmioWord (a : Nat) (s : State) : Word :=
  if isWideWord a then s.rdMem a
  else if isLiveWord a ∨ isPermitEntry a then immw (regNow a s)
  else match regAt a with
    | none => immw 0
    | some r => immw (regNow a s &&& ~~~woMask r)

/-- The registers that a read of a group's lowest one captures (R10). -/
def capGroup (a : Nat) : List Nat :=
  if a = R.TIME_ALM_NS then [R.TIME_ALM_SEC]
  else if a = R.TIME_PPS_CAP_NS then [R.TIME_PPS_CAP_SEC, R.TIME_PPS_CAP_GTC]
  else if a = R.PERM_LOG_ADDR then [R.PERM_LOG_ID, R.PERM_LOG_STAMP]
  else if R.TWIN_BR_LOGk_A 0 ≤ a ∧ a ≤ R.TWIN_BR_LOGk_A 15 ∧ a % 2 = 0 then [a + 1]
  else if blockOf a = 19 ∧ 0x100 ≤ offsetOf a ∧ offsetOf a < 0x200 ∧ offsetOf a % 16 = 0 then (List.range 8).map (a + 1 + ·)
  else []

/-- Is the address a semaphore (R488)? -/
def isSem (a : Nat) : Bool := decide (R.TWIN_SEMs 0 ≤ a) && decide (a ≤ R.TWIN_SEMs 31)

/-- An acquire at side A's bridge (R488). -/
def semAcquire (k side carrel : Nat) (s : State) : BitVec 64 × State :=
  let r := R.TWIN_SEMs k
  if s.bit r F.TWIN_SEMs_HELD then (s.reg r, s)
  else
    let v := fput (fput (fput 0#64 F.TWIN_SEMs_HELD 1) F.TWIN_SEMs_SIDE side) F.TWIN_SEMs_CARREL carrel
    (fput v F.TWIN_SEMs_GOT 1, s.setReg r v)

/-- An acquire from side B is answered by the twin (R488): free (assumption 2), except that with GOT = 1 the holder is the
reader. -/
def semForward (carrel : Nat) (s : State) : BitVec 64 × State :=
  let (v, s1) := s.drawFree 11
  let held := fput 0#64 F.TWIN_SEMs_HELD 1
  if v.getLsbD 0 then (fput (fput (fput held F.TWIN_SEMs_GOT 1) F.TWIN_SEMs_SIDE 1) F.TWIN_SEMs_CARREL carrel, s1)
  else (fput (fput held F.TWIN_SEMs_SIDE (v.toNat / 2 % 2)) F.TWIN_SEMs_CARREL (v.toNat / 4), s1)

/-- A READ of a semaphore (R488, R489). -/
def semRead (k : Nat) (id : Ident) (s : State) : Resp × State :=
  if localSide s = 0 then
    let (v, s1) := semAcquire k 0 id.carrel.toNat s
    (.word (immw v), s1)
  else if !s.bit R.TWIN_STAT F.TWIN_STAT_LINK_UP then (.err rFAILED, s)
  else
    let (v, s1) := semForward id.carrel.toNat s
    (.word (immw v), s1)

/-- RELEASE at side A's bridge (R488): none when it is refused. -/
def semFree (k side : Nat) (carrel : Nat) (lib : Bool) (s : State) : Option State :=
  let r := R.TWIN_SEMs k
  if !s.bit r F.TWIN_SEMs_HELD then some s
  else if lib || (decide (s.get r F.TWIN_SEMs_SIDE = side) && decide (s.get r F.TWIN_SEMs_CARREL = carrel)) then some (s.setReg r 0)
  else none

/-- A WRITE of a semaphore (R488, R489); side B's is answered by the twin, with a free answer (assumption 2). -/
def semWrite (k : Nat) (id : Ident) (w : BitVec 64) (s : State) : Resp × State :=
  if fget w F.TWIN_SEMs_RELEASE = 0 then (.done, s)
  else if localSide s = 0 then
    (match semFree k 0 id.carrel.toNat id.lib s with
     | some t => (.done, t)
     | none => (.err rTARGET, s))
  else if !s.bit R.TWIN_STAT F.TWIN_STAT_LINK_UP then (.err rFAILED, s)
  else
    let (v, s1) := s.drawFree 1
    (if v = 1#1 ∨ id.lib = true then .done else .err rTARGET, s1)

/-- A READ of the MMIO region that has passed its checks. -/
def mmioRead (t : Txn) (s : State) : Resp × State :=
  let a := t.addr.toNat
  if isSem a then semRead (a - R.TWIN_SEMs 0) t.id s
  else if arrOf a ≠ .other then
    match readArray a .fabric s with
    | (some w, s1) => (.word w, s1)
    | (none, s1) => (.err rFAILED, s1)
  else
    let s0 := if a = R.TWIN_MIR_STAT ∨ a = R.TWIN_MIR_CNT then mirrorDrain s else s
    let (v, s1) := if a = R.TWIN_STAT then (match twinStatRead s0 with | (x, y) => (immw x, y)) else
      ((match s0.caps.find? (fun e => e.1 = a) with | some e => e.2 | none => mmioWord a s0), s0)
    let s2 := (capGroup a).foldl (fun u b => { u with caps := spIns u.caps b (mmioWord b s0) }) s1
    let s3 := if a = R.TIME_PPS_CAP_NS then { s2 with time := { s2.time with ppsUnread := false } } else s2
    (.word v, s3)

/-! ### Writes -/

/-- Does a block's own rule refuse the write? `w` is the written value, `nv` the register as the write would leave it. -/
def blkRefuses (t : Txn) (w nv : BitVec 64) (s : State) : Bool :=
  let a := t.addr.toNat
  match blockOf a with
  | 0 => sysRefuses a w nv s
  | 1 => timeRefuses a w nv s
  | 3 => stkRefuses a w nv s
  | 5 => catRefuses a nv s
  | 6 => catgRefuses a w s
  | 7 => collRefuses a w s
  | 8 => circRefuses a w nv s
  | 9 => ethRefuses a nv s
  | 10 => macsecRefuses a s
  | 11 => canRefuses a nv s
  | 12 => linRefuses a w nv s
  | 13 => nmRefuses a w nv s
  | 14 => loadRefuses t w nv s
  | 15 => exbRefuses a w nv s
  | 16 => carrelRefuses a w nv s
  | 17 => vaultRefuses a w s
  | 18 => twinRefuses a s ||
      (decide (a = R.TWIN_BR_CTL) && s.bit R.TWIN_BR_STAT F.TWIN_BR_STAT_OUT_OPEN &&
        (decide (fget nv F.TWIN_BR_CTL_TMO ≠ s.get a F.TWIN_BR_CTL_TMO) || decide (fget nv F.TWIN_BR_CTL_GAP ≠ s.get a F.TWIN_BR_CTL_GAP)))
  | 19 => iocRefuses a s
  | _ => false

/-- TWIN_BR_LOGCLR (R492): the bridge's error log is emptied, with LOST, TWIN_BR_CNT and CROSSINGS. -/
def brLogClr (s : State) : State :=
  let s1 := (List.range 16).foldl (fun t k => (t.setReg (R.TWIN_BR_LOGk_A k) 0).setReg (R.TWIN_BR_LOGk_STAMP k) 0) s
  ((s1.setReg R.TWIN_BR_LOGSTAT 0).setReg R.TWIN_BR_CNT 0).set R.TWIN_BR_STAT F.TWIN_BR_STAT_CROSSINGS 0

/-- PERM_LOG_CLR (R491): COUNT is zeroed and source 0xC43 armed again. -/
def permLogClr (s : State) : State :=
  let s1 := s.set R.PERM_LOG_ID F.PERM_LOG_ID_COUNT 0
  { s1 with bridge := { s1.bridge with permArmed := true } }

/-- What a write does beside setting the register's fields; `old` is the register before it. -/
def blkActs (t : Txn) (old w : BitVec 64) (s : State) : State :=
  let a := t.addr.toNat
  match blockOf a with
  | 0 => sysActs a old w s
  | 1 => timeActs a old w s
  | 2 => archActs a w s
  | 3 => stkActs a old w s
  | 4 => if a = R.PERM_LOG_CLR ∧ fget w F.PERM_LOG_CLR_CLR = 1 then permLogClr s else s
  | 5 => catActs a w s
  | 6 => catgActs a old w s
  | 7 => collActs a w s
  | 8 => circActs a w s
  | 9 => ethActs a old w s
  | 10 =>
    let u := offsetOf a / 0x1000
    let ok (v : BitVec 64) : Bool := decide (fget v F.MACSEC_Iu_CTL_EN = 1) && decide (fget v F.MACSEC_Iu_CTL_VALIDATE = 2)
    let s1 := macsecActs a w s
    if a = R.MACSEC_Iu_CTL u ∧ u < 2 ∧ ok old = true ∧ ok (s.reg a) = false then sessionsStop u s1 else s1
  | 11 => canActs a old w s
  | 12 => linActs a old w s
  | 13 => nmActs a old w s
  | 14 => loadActs t old w s
  | 15 => exbActs a old w s
  | 16 =>
    let s1 := carrelActs a old w s
    let o := offsetOf a
    if 0x4000 ≤ o ∧ o % 32 = 1 ∧ fget w F.CARREL_Cc_CTL_RESET = 1 then carrelReset ((o - 0x4000) / 32) s1 else s1
  | 17 => vaultActs a w t.id.lib s
  | 18 => if a = R.TWIN_BR_LOGCLR ∧ fget w F.TWIN_BR_LOGCLR_CLR = 1 then brLogClr s else twinActs a old w s
  | 19 => iocActs a w s
  | _ => s

/-- A write of the ownership map that has passed its checks (R564): `answer` is the twin's, asked while the link is up. -/
def mapWrite (a : Nat) (w : BitVec 64) (answer : Bool) (s : State) : Resp × State :=
  if mapRefuses a w s || (s.bit R.TWIN_STAT F.TWIN_STAT_LINK_UP && !answer) then (.err rTARGET, s) else (.done, mapApply a w s)

/-- A write of a listed register (R6, R7): refused as a whole, or its fields set and its acts done. -/
def regWrite (r : RSpec) (t : Txn) (s : State) : Resp × State :=
  let a := t.addr.toNat
  let w := wv t.data
  let old := s.reg a
  let nv := r.apply old w ||| (s.roseMask a &&& old)
  if r.refuses old w then (.err rTARGET, s)
  else if blkRefuses t w nv s then (.err rTARGET, if blockOf a = 14 then loadRefusedActs t w s else s)
  else (.done, blkActs t old w (s.setReg a nv))

/-- A write of a data word (R246, R301, R516, R624). -/
def wideWrite (t : Txn) (s : State) : Resp × State :=
  let a := t.addr.toNat
  match arrOf a with
  | .canPool _ => (.done, poolWrite a t.data s)
  | .program _ => if progWriteOk a s then (.done, s.wrMem a t.data) else (.err rTARGET, s)
  | _ => (.done, s)

/-- A WRITE of the MMIO region that has passed its checks. -/
def mmioWrite (t : Txn) (s : State) : Resp × State :=
  let a := t.addr.toNat
  let w := wv t.data
  if isWideWord a then wideWrite t s
  else if isLiveWord a then (.done, s)
  else if isPermitEntry a then
    (if permitRefuses t w s || permitSpec.refuses (s.reg a) w then (.err rTARGET, s) else (.done, s.setReg a w))
  else match regAt a with
    | none => (.err rTARGET, s)
    | some r =>
      if isOwnReg a s then (if r.refuses (s.reg a) w then (.err rTARGET, s) else (.done, s.setReg a (ownWritten w s)))
      else if isSem a then (if r.refuses (s.reg a) w then (.err rTARGET, s) else semWrite (a - R.TWIN_SEMs 0) t.id w s)
      else if isMapReg a then
        (if s.bit R.TWIN_STAT F.TWIN_STAT_LINK_UP then
          let (v, s1) := s.drawFree 1
          mapWrite a w (v = 1#1) s1
        else mapWrite a w true s)
      else regWrite r t s

end Sys2Proof.Machine
end

