-- ==== Sys2Proof/Machine/Fabric.lean ====
section
/-!
DEFINITION. The word fabric (spec/12_fabric_permits_bridges.md, with R120, R250, R434, R435, R439, R456, R457, R462): what
a transaction does at its target once its checks let it pass, and the whole of a transaction.
-/
namespace Sys2Proof.Machine

open Sys2Proof

/-- A word read from an array: FAILED when it is uncorrectable (R19, R470 check 13). -/
def arrayRead (a : Nat) (s : State) : Resp × State :=
  match readArray a .fabric s with
  | (some w, s1) => (.word w, s1)
  | (none, s1) => (.err rFAILED, s1)

/-- A CAS (R120): the old word comes back, and the new one is stored when all 72 bits match. -/
def arrayCas (a : Nat) (expect new : Word) (s : State) : Resp × State :=
  match readArray a .fabric s with
  | (some w, s1) => (.word w, if w = expect then s1.wrMem a new else s1)
  | (none, s1) => (.err rFAILED, s1)

/-- Is an MRAM word write-protected (R457)? -/
def mramProtected (a : Nat) (s : State) : Bool :=
  let o := a - 0x10000000
  (decide (o < 0x1F0000) && s.bit R.STK_MRAM_CTL F.STK_MRAM_CTL_WP_A) ||
  (decide (0x200000 ≤ o) && decide (o < 0x3F0000) && s.bit R.STK_MRAM_CTL F.STK_MRAM_CTL_WP_B)

/-- A read of cell memory (R250): only the librarian's; which cells hold which frame's words the spec leaves open, so once a
copy has been formed the word is free (assumption 2). -/
def cellRead (a : Nat) (lib : Bool) (s : State) : Resp × State :=
  if !lib then (.err rTARGET, s)
  else if s.sw.next = 0 then arrayRead a s
  else
    let (v, s1) := s.drawFree 72
    (.word v, s1)

/-- A twin-window transaction of an engine: what the twin answers is free (assumption 2); CAS is not carried (R120). -/
def twinFar (t : Txn) (s : State) : Resp × State :=
  if t.kind = .cas then (.err rTARGET, s)
  else
    let (ok, s1) := s.drawFree 1
    if ok = 0#1 then
      let (r, s2) := s1.drawFree 3
      (.err r, s2)
    else if t.kind = .write then (.done, s1)
    else
      let (w, s2) := s1.drawFree 72
      (.word w, s2)

/-- What a transaction that has passed checks 1 to 11 does at its target (R470 checks 12 and 13). -/
def perform (t : Txn) (s : State) : Resp × State :=
  let a := t.addr.toNat
  match regionOf a with
  | .sram =>
    (match t.kind with
     | .write => (.done, s.wrMem a t.data)
     | .cas => arrayCas a t.expect t.data s
     | _ => arrayRead a s)
  | .catMem | .slips =>
    (match t.kind with
     | .write => if catWriteOk a t.data s then (.done, s.wrMem a t.data) else (.err rTARGET, s)
     | .cas => (.err rTARGET, s)
     | _ => arrayRead a s)
  | .cells =>
    (match t.kind with
     | .write | .cas => (.err rTARGET, s)
     | _ => cellRead a t.id.lib s)
  | .rom =>
    (match t.kind with
     | .write | .cas => (.err rUNMAPPED, s)
     | _ => (.word (s.rdMem a), s))
  | .mram =>
    (match t.kind with
     | .write => if !t.id.lib || mramProtected a s then (.err rTARGET, s) else (.done, s.wrMem a t.data)
     | .cas => (.err rTARGET, s)
     | _ => arrayRead a s)
  | .xspi =>
    (match t.kind with
     | .write | .cas => (.err rTARGET, s)
     | _ =>
       if s.bit R.STK_XSPI_CTL F.STK_XSPI_CTL_EN && s.bit R.STK_XSPI_CTL F.STK_XSPI_CTL_WIN_EN then
         (.word (windowWord (a - 0x20000000) s), s)
       else (.err rTARGET, s))
  | .mmio =>
    (match t.kind with
     | .write => mmioWrite t s
     | .cas => (.err rTARGET, s)
     | _ => mmioRead t s)
  | .twin => twinFar t s
  | .none => (.err rUNMAPPED, s)

/-- A refusal is answered, counted and recorded (R483); a master number that does not belong to its port is a device-class
fault of the boundary (R29). -/
def refuse (t : Txn) (r : Reason) (s : State) : Resp × State :=
  (.err r, if !t.portOk && decide (r = rFAILED) then faultNoSrc 3 0 s else logRefusal t r s)

/-- A transaction from its checks to its response (R470). -/
def fabric (t : Txn) (s : State) : Resp × State :=
  match accessCheck t s with
  | some r => refuse t r s
  | none =>
    match perform t s with
    | (.err r, s1) => (.err r, logRefusal t r s1)
    | x => x

/-- A transaction to the twin window waits in issue order for the bridge, after its checks (R484, R485); `core` is 16 when no
core waits for it. -/
def twinIssue (t : Txn) (core : Nat) (s : State) : Option Reason × State :=
  match accessCheck t s with
  | some r => (some r, (refuse t r s).2)
  | none =>
    if t.kind = .cas then (some rTARGET, logRefusal t rTARGET s)
    else (none, { s with bridge := { s.bridge with queue := s.bridge.queue ++ [{ txn := t, core := core }] } })

/-- A transaction from outside the cores; its response stands in `resp`. -/
def outside (t : Txn) (s : State) : State :=
  if regionOf t.addr.toNat = .twin then
    match twinIssue t 16 s with
    | (some r, s1) => { s1 with resp := .err r }
    | (none, s1) => s1
  else
    match fabric t s with
    | (r, s1) => { s1 with resp := r }

/-- TRANSACTION_CHECK (R470). -/
def execTransactionCheck (t : Txn) (s : State) : Host.Outcome State Fault Refusal := .next (outside t s)

/-- Does R481 time a transaction to this address? -/
def timedHere (a : Nat) (s : State) : Bool :=
  decide (regionOf a ≠ .twin) && decide (regionOf a ≠ .none) && !(decide (regionOf a = .mmio) && decide (blockOf a = 14)) && !s.power.computeHeld

/-- TRANSACTION_TIMEOUT (R481): no response in PERM_CTL.TMO µs; FAILED, and a contained fault of the target's tile. -/
def execTransactionTimeout (t : Txn) (s : State) : Host.Outcome State Fault Refusal :=
  let a := t.addr.toNat
  .next (if !timedHere a s then s
    else
      let (v, s0) := s.drawFree 64
      let s1 := fault 1 0xC44 v 0 [] { s0 with resp := .err rFAILED }
      match tileOf a with
      | none => s1
      | some tile => if tileClosed tile s then { s0 with resp := .err rFAILED }
                     else (tileSources tile).foldl (fun u p => ctxFail p .late u) (closeTile tile s1))

/-- A READ or WRITE of an MMIO register from outside, with identities and a CRIT (R38). -/
def regWriteTxn (id : Ident) (a : Nat) (w : BitVec 64) (s : State) : Host.Outcome State Fault Refusal :=
  .next (outside { kind := .write, addr := BitVec.ofNat 48 a, id := id, data := immw w } s)

/-! ### The twin bridge (R484 to R490) -/

/-- Does the bridge run? -/
def bridgeRuns (s : State) : Bool := !s.power.computeHeld && !tileClosed .twinBridge s && s.bit R.TWIN_STAT F.TWIN_STAT_LINK_UP
/-- TMO in ns. -/
def bridgeTmo (s : State) : Nat := 1000 * s.get R.TWIN_BR_CTL F.TWIN_BR_CTL_TMO

/-- An inbound transaction enters the fabric (R474, R484): master 29, the carried carrel, no librarian flag, CRIT clamped. -/
def inboundPerform (t : Txn) (s : State) : State :=
  let c := t.id.carrel.toNat
  let id : Ident := { master := 29, carrel := t.id.carrel, lib := false, crit := min2 t.id.crit (ceilingOf c s) }
  match fabric { t with addr := (t.addr.setWidth 32).setWidth 48, id := id } s with
  | (r, s1) => { s1 with resp := r }
/-- The waiting inbound transaction proceeds once the port is free (R486). -/
def inboundResume (s : State) : State :=
  match s.bridge.inWait with
  | none => s
  | some t => inboundPerform t { s with bridge := { s.bridge with inWait := none } }

/-- The bridge issues the oldest transaction that waits (R485). -/
def bridgeIssue (s : State) : State :=
  match s.bridge.open_, s.bridge.queue with
  | none, o :: t =>
    let s1 := s.set R.TWIN_BR_STAT F.TWIN_BR_STAT_OUT_OPEN 1
    { s1 with bridge := { s1.bridge with open_ := some o, queue := t, tmoAt := some (s.now + bridgeTmo s), retryAt := none } }
  | _, _ => s

/-- TWIN_OUTBOUND_ISSUE (R484, R485): the open transaction's response, if one has come, frees the port, and the next one
issues. -/
def execTwinOutboundIssue (ans : TwinAns) (s : State) : Host.Outcome State Fault Refusal :=
  let r : Option Resp := match ans with
    | .none => none
    | .done => some .done
    | .word w => some (.word w)
    | .err e => some (.err e)
  .next (if !bridgeRuns s then s
    else match r, s.bridge.open_, s.bridge.retryAt with
      | some x, some _, none => bridgeIssue (inboundResume (bridgeAnswer x s))
      | _, _, _ => bridgeIssue s)

/-- TWIN_INBOUND_ARRIVAL (R484, R486). -/
def execTwinInboundArrival (t : Txn) (s : State) : Host.Outcome State Fault Refusal :=
  .next (if !bridgeRuns s then s
    else if !s.bit R.TWIN_BR_CTL F.TWIN_BR_CTL_IN_EN then { s with resp := .err rFAILED }
    else if s.bridge.open_.isSome && s.bridge.retryAt.isNone then
      (if localSide s = 0 then { s with resp := .crossing } else { s with bridge := { s.bridge with inWait := some t } })
    else inboundPerform t s)

/-- CROSSING_RESPONSE (R486): side B counts the crossing, schedules its retry, or gives up at the ninth. -/
def execCrossingResponse (s : State) : Host.Outcome State Fault Refusal :=
  let st := R.TWIN_BR_STAT
  .next (match s.bridge.open_ with
    | none => s
    | some o =>
      if !bridgeRuns s || decide (localSide s = 0) || s.bridge.retryAt.isSome then s
      else
        let s1 := s.addSat st F.TWIN_BR_STAT_CROSSINGS 1
        let n := s.get st F.TWIN_BR_STAT_TRY
        if 8 ≤ n then
          let s2 := s1.addSat R.TWIN_BR_CNT F.TWIN_BR_CNT_RETRY_FAIL 1
          inboundResume (bridgeAnswer (.err rFAILED) (raiseLib 0x0C1 (o.txn.addr.toNat % 2 ^ 32) s2))
        else
          let s2 := s1.set st F.TWIN_BR_STAT_TRY (n + 1)
          inboundResume { s2 with bridge := { s2.bridge with
            tmoAt := none, retryAt := some (s.now + 100 * s.get R.TWIN_BR_CTL F.TWIN_BR_CTL_GAP) } })

/-- BRIDGE_RETRY (R486). -/
def execBridgeRetry (s : State) : Host.Outcome State Fault Refusal :=
  .next (match s.bridge.retryAt with
    | none => s
    | some t =>
      if !bridgeRuns s || decide (s.now < t) then s
      else { s with bridge := { s.bridge with retryAt := none, tmoAt := some (s.now + bridgeTmo s) } })

/-- BRIDGE_ATTEMPT_TIMEOUT (R485). -/
def execBridgeAttemptTimeout (s : State) : Host.Outcome State Fault Refusal :=
  .next (match s.bridge.tmoAt with
    | none => s
    | some t =>
      if s.power.computeHeld || s.bridge.open_.isNone || decide (s.now < t) then s
      else inboundResume (bridgeAnswer (.err rFAILED) (s.addSat R.TWIN_BR_CNT F.TWIN_BR_CNT_TIMEOUTS 1)))

/-- MIRROR_REFUSAL_REPORT (R487, R490): the twin reports a mirror write it refused, with its word address and reason. -/
def execMirrorRefusalReport (addr : BitVec 32) (reason : BitVec 3) (s : State) : Host.Outcome State Fault Refusal :=
  let r := R.TWIN_BR_LOGSTAT
  .next (if !bridgeRuns s then s
    else if 16 ≤ s.get r F.TWIN_BR_LOGSTAT_COUNT then s.addSat r F.TWIN_BR_LOGSTAT_LOST 1
    else
      let h := s.get r F.TWIN_BR_LOGSTAT_HEAD
      let e := fput (fput (fput 0#64 F.TWIN_BR_LOGk_A_ADDR addr.toNat) F.TWIN_BR_LOGk_A_REASON reason.toNat) F.TWIN_BR_LOGk_A_V 1
      let s1 := (s.setReg (R.TWIN_BR_LOGk_A h) e).setReg (R.TWIN_BR_LOGk_STAMP h) s.time.gtc
      raiseLib 0x0C0 h ((s1.addWrap r F.TWIN_BR_LOGSTAT_HEAD 1).addSat r F.TWIN_BR_LOGSTAT_COUNT 1))

/-- SEMAPHORE_ACQUIRE (R488): a read by a local transaction, or, at side A's bridge, one the twin forwards. -/
def execSemaphoreAcquire (k : Fin 32) (fromTwin : Bool) (id : Ident) (s : State) : Host.Outcome State Fault Refusal :=
  .next (if fromTwin then
      (if bridgeRuns s && decide (localSide s = 0) then
        match semAcquire k.val 1 id.carrel.toNat s with
        | (v, s1) => { s1 with resp := .word (immw v) }
      else s)
    else outside { kind := .read, addr := BitVec.ofNat 48 (R.TWIN_SEMs k.val), id := id } s)

/-- SEMAPHORE_RELEASE (R488). -/
def execSemaphoreRelease (k : Fin 32) (fromTwin : Bool) (id : Ident) (s : State) : Host.Outcome State Fault Refusal :=
  .next (if fromTwin then
      (if bridgeRuns s && decide (localSide s = 0) then
        match semFree k.val 1 id.carrel.toNat id.lib s with
        | some s1 => { s1 with resp := .done }
        | none => { s with resp := .err rTARGET }
      else s)
    else outside { kind := .write, addr := BitVec.ofNat 48 (R.TWIN_SEMs k.val), id := id, data := immw (fput 0#64 F.TWIN_SEMs_RELEASE 1) } s)

/-! ### xSPI copies (R463 to R465) -/

/-- The words of a copy go to the fabric in order; the first refused one ends it (R464). -/
def copyRun : List (Word × Bool) → Nat → State → Option Reason × State
  | [], _, s => (none, s)
  | (w, whole) :: t, a, s =>
    match fabric { kind := .write, addr := BitVec.ofNat 48 a, id := engineId 30 0 s, data := w, whole := whole } s with
    | (.err r, s1) => (some r, s1)
    | (_, s1) => copyRun t (a + 1) s1

/-- XSPI_COPY_DONE (R464, R465): the copy's words are written, and it completes or stops at the first error response. -/
def execXspiCopyDone (s : State) : Host.Outcome State Fault Refusal :=
  let r := R.STK_XSPI_COPY
  .next (if !s.stk.copyRun || tileClosed .xspi s then s
    else
      let n := if s.bit R.STK_XSPI_CTL F.STK_XSPI_CTL_LAYOUT then 8 else 9
      let len := s.get r F.STK_XSPI_COPY_LEN
      let src := s.get R.STK_XSPI_COPY_SRC F.STK_XSPI_COPY_SRC_SRC
      let words := (List.range ((len + n - 1) / n)).map fun i =>
        (packWord n ((List.range n).map fun j => if n * i + j < len then flashOctet (src + n * i + j) s else 0), decide (n * i + n ≤ len))
      let (e, s1) := copyRun words (s.get R.STK_XSPI_COPY_DST F.STK_XSPI_COPY_DST_DST) s
      let s2 := { s1.set r F.STK_XSPI_COPY_BUSY 0 with stk := { s1.stk with copyRun := false } }
      let s3 := match e with
        | none => s2
        | some x =>
          let s3 := (s2.flag r F.STK_XSPI_COPY_ERR).set r F.STK_XSPI_COPY_REASON x.toNat
          if x = rNARROW then s3.flag r F.STK_XSPI_COPY_NARROW else s3
      raiseFree 0xC59 [0] s3)

end Sys2Proof.Machine
end

