-- ==== Sys2Proof/Machine/Operands.lean ====
section
/-!
DEFINITION. The operand forms of Yilfixa-72 (spec/03_yilfixa_programming_model.md R93, R94; spec/04_yilfixa_instruction_reference.md
R147 to R168): the four instruction formats, immediates, bit fields and octet indices.
-/
namespace Sys2Proof.Machine

open Sys2Proof

/-- An instruction in R format (R93). -/
def encR (op : Nat) (rd ra rb : Reg) (fn : BitVec 12) : BitVec 36 := BitVec.ofNat 6 op ++ rd ++ ra ++ rb ++ fn
/-- An instruction in I format (R93). -/
def encI (op : Nat) (rd ra : Reg) (imm : BitVec 18) : BitVec 36 := BitVec.ofNat 6 op ++ rd ++ ra ++ imm
/-- An instruction in B format (R93). -/
def encB (op : Nat) (ra rb : Reg) (fn : Nat) (disp : BitVec 12) : BitVec 36 := BitVec.ofNat 6 op ++ ra ++ rb ++ BitVec.ofNat 6 fn ++ disp
/-- An instruction in U format (R93). -/
def encU (op : Nat) (rd : Reg) (imm : BitVec 24) : BitVec 36 := BitVec.ofNat 6 op ++ rd ++ imm

/-- An instruction as its executor meets it: its 36 bits, the registers its fields name, whether R94, R95 or R147 make it
ILLEGAL, whether an execution pair has it, whether the C-profile has it, whether it is WAITE, which RUN_LIMIT does not
count, and whether the next instruction in sequence follows it. -/
structure Insn where
  enc : BitVec 36
  regs : List Reg := []
  bad : Bool := false
  onPair : Bool := true
  onCu : Bool := true
  waite : Bool := false
  seq : Bool := true
  deriving DecidableEq, Repr

/-- Does a register field name a register above L31 (R144, R227)? -/
def Insn.high (i : Insn) : Bool := i.regs.any fun r => decide (32 ≤ r.toNat)

/-- A sign-extended immediate. -/
def sx {n : Nat} (x : BitVec n) : Value := x.signExtend 64
/-- A zero-extended immediate. -/
def zx {n : Nat} (x : BitVec n) : Value := x.setWidth 64
/-- Both operands' provenance merged over a result (R34, R37). -/
def merged (v : Value) (a b : Word) : Word := mkw v (pMerge (wp a) (wp b))
/-- A result that keeps one operand's provenance. -/
def keeping (v : Value) (a : Word) : Word := mkw v (wp a)

/-- The bits of a field of width w + 1 (R153). -/
def fieldMask (wm : BitVec 6) : Value := BitVec.ofNat 64 (2 ^ (wm.toNat + 1) - 1)
/-- Does a bit field run past bit 63 (R153)? -/
def fieldBad (pos wm : BitVec 6) : Bool := decide (64 < pos.toNat + (wm.toNat + 1))
/-- The field of a value, zero-extended (R153). -/
def fieldGet (v : Value) (pos wm : BitVec 6) : Value := (v >>> pos.toNat) &&& fieldMask wm
/-- The field of a value, sign-extended (R153). -/
def fieldGetS (v : Value) (pos wm : BitVec 6) : Value :=
  let x := fieldGet v pos wm
  if x.getLsbD wm.toNat then x ||| ~~~fieldMask wm else x
/-- A value with its field replaced by another's low bits (R153). -/
def fieldSet (v x : Value) (pos wm : BitVec 6) : Value :=
  (v &&& ~~~(fieldMask wm <<< pos.toNat)) ||| ((x &&& fieldMask wm) <<< pos.toNat)

/-- Is the octet index of XOCT and IOCT badly encoded (R154)? -/
def octBad (rb : Reg) (fn : BitVec 12) : Bool :=
  decide (fn.toNat / 32 ≠ 0) ||
  (if fn.getLsbD 4 then decide (fn.toNat % 16 ≠ 0) else decide (8 < fn.toNat % 16) || decide (rb ≠ 0))
/-- The octet index (R154). -/
def octIndex (fn : BitVec 12) (b : Word) : Nat := if fn.getLsbD 4 then (wv b).toNat else fn.toNat % 16

end Sys2Proof.Machine
end

