-- ==== Sys2Proof/Machine/CoreMem.lean ====
section
/-!
DEFINITION. How a core reaches memory (spec/03_yilfixa_programming_model.md R109 to R118): translation and its buffer, the
walk, the fetch, and the accesses of LDW, STW and CASW.
-/
namespace Sys2Proof.Machine

open Sys2Proof

/-- Is the core in librarian mode? -/
def isLib (c : Nat) (s : State) : Bool := decide ((s.core c).mode = 0b11#2)
/-- The CRIT ceiling a core's words leave it under: ASIL D for the librarian, else its carrel's (R36, R127). -/
def coreCeil (c : Nat) (s : State) : BitVec 2 := if isLib c s then 0b11#2 else ceilingOf (s.core c).d1.toNat s
/-- The identities of a core's transaction (R39, R40). -/
def coreId (c : Nat) (crit : BitVec 2) (s : State) : Ident :=
  { master := BitVec.ofNat 6 c, carrel := (s.core c).d1, lib := isLib c s, crit := crit }

/-- What translation gives: a physical address, a translation trap, or a TABLE trap. -/
inductive Xlat where
  | ok (pa : Nat)
  | xlate
  | table
  deriving DecidableEq, Repr

/-- Does a leaf's rights (RD, WR, EXE, USR in bits 0 to 3) permit the access (R113)? -/
def leafPermits (rights : BitVec 4) (k : TKind) (user : Bool) : Bool :=
  (!user || rights.getLsbD 3) &&
  (match k with
   | .read | .walk => rights.getLsbD 0
   | .write => rights.getLsbD 1
   | .cas => rights.getLsbD 0 && rights.getLsbD 1
   | .fetch => rights.getLsbD 2)

/-- Does a table entry break R112? `level` is 0 root, 1 mid, 2 leaf table. -/
def entryBad (e : Value) (level : Nat) : Bool :=
  let leaf := e.getLsbD 1
  decide (e.extractLsb' 6 3 ≠ 0) || decide (e.extractLsb' 48 16 ≠ 0) ||
  (leaf && decide (level = 0)) || (!leaf && decide (level = 2)) ||
  (!leaf && decide (e.extractLsb' 2 4 ≠ 0)) ||
  (leaf && e.getLsbD 3 && !e.getLsbD 2) ||
  (leaf && decide (level = 2) && decide (e.extractLsb' 9 3 ≠ 0)) ||
  (leaf && decide (level = 1) && decide (e.extractLsb' 9 12 ≠ 0))

/-- The index of a virtual address into a table of a level (R110). -/
def tableIndex (va level : Nat) : Nat := va / 2 ^ (30 - 9 * level) % 512

/-- The walk from a table at a level (R110 to R112, R114): the leaf's page, or the trap. -/
def walk (c va : Nat) : Nat → Nat → Nat → State → Sum Xlat TlbEntry × State
  | 0, _, _, s => (.inl .table, s)
  | fuel + 1, base, level, s =>
    let a := base + tableIndex va level
    let id : Ident := { master := BitVec.ofNat 6 c, carrel := (s.core c).d1, lib := false, crit := 0 }
    match fabric { kind := .walk, addr := BitVec.ofNat 48 a, id := id } s with
    | (.word w, s1) =>
      let e := wv w
      let addr := (e.extractLsb' 9 39).toNat * 512
      if entryBad e level then (.inl .table, s1)
      else if !e.getLsbD 0 then (.inl .xlate, s1)
      else if e.getLsbD 1 then
        let big := decide (level = 1)
        let size := if big then 0x200000 else 0x1000
        (.inr { carrel := (s.core c).d1.toNat, vbase := va / size * size, pbase := addr, big := big,
                rights := (e.extractLsb' 2 4) }, s1)
      else walk c va fuel addr (level + 1) s1
    | (_, s1) => (.inl .table, s1)

/-- The page size of a buffered translation. -/
def TlbEntry.size (e : TlbEntry) : Nat := if e.big then 0x200000 else 0x1000
/-- Does a buffered translation serve an address of a carrel (R117)? -/
def TlbEntry.serves (e : TlbEntry) (carrel va : Nat) : Bool :=
  decide (e.carrel = carrel) && decide (e.vbase ≤ va) && decide (va < e.vbase + e.size)

/-- A buffered leaf's answer for an access (R113). -/
def leafAnswer (e : TlbEntry) (va : Nat) (k : TKind) (user : Bool) : Xlat :=
  if leafPermits e.rights k user then .ok (e.pbase + (va - e.vbase)) else .xlate

/-- Translate a virtual address of core c's carrel (R110, R117, R118). -/
def translate (c : Nat) (va : Nat) (k : TKind) (s : State) : Xlat × State :=
  let user := decide ((s.core c).mode = 0b00#2)
  let carrel := (s.core c).d1.toNat
  let tb := R.CARREL_Cc_TBASE carrel
  if 2 ^ 39 ≤ va then (.xlate, s)
  else if !s.bit tb F.CARREL_Cc_TBASE_EN then (.table, s)
  else match (s.core c).tlb.find? (fun e => e.serves carrel va) with
    | some e => (leafAnswer e va k user, s)
    | none =>
      match walk c va 3 (512 * s.get tb F.CARREL_Cc_TBASE_ROOT) 0 s with
      | (.inl x, s1) => (x, s1)
      | (.inr e, s1) => (leafAnswer e va k user, s1.setCore c { s1.core c with tlb := e :: (s1.core c).tlb })

/-- The physical address of an access, or the trap it raises: the cause and the reason (R130, R161). -/
def reach (c : Nat) (va : Nat) (k : TKind) (s : State) : Sum (Nat × Nat) Nat × State :=
  let xl := match k with
    | .fetch => 0x01
    | .read | .walk => 0x0A
    | _ => 0x0B
  let er := match k with
    | .fetch => 0x02
    | .read | .walk => 0x0D
    | _ => 0x0E
  if isLib c s then (if 2 ^ 48 ≤ va then (.inl (er, 1), s) else (.inr va, s))
  else match translate c va k s with
    | (.ok pa, s1) => (.inr pa, s1)
    | (.xlate, s1) => (.inl (xl, 0), s1)
    | (.table, s1) => (.inl (0x0F, 0), s1)

/-- The fetch of the word core c executes from (R97, R118): true when it may execute; else the trap has been taken. Which
instruction the word holds is the command's to say (the fetched bits are not compared). -/
def coreFetch (c : Nat) (s : State) : Bool × State :=
  let va := (s.core c).pc.toNat / 2
  let trap (cause reason : Nat) (t : State) : State := takeTrap c cause reason 0 (BitVec.ofNat 64 va) t
  match reach c va .fetch s with
  | (.inl (cause, reason), s1) => (false, trap cause reason s1)
  | (.inr pa, s1) =>
    match fabric { kind := .fetch, addr := BitVec.ofNat 48 pa, id := coreId c 0 s } s1 with
    | (.err r, s2) => (false, trap 0x02 r.toNat s2)
    | (_, s2) => (true, s2)

/-- An instruction of core c commits, unless what it did has put the die into reset. -/
def finishAt (c : Nat) (npc : BitVec 49) (s : State) : State := if s.power.computeHeld then s else commitTo c npc s
/-- An instruction of core c commits and the next one in sequence follows (R98). -/
def finishNext (c : Nat) (s : State) : State := finishAt c ((s.core c).pc + 1) s

/-- The data access of a core (R118, R161, R162): `rd` takes the word of a read or the old word of a CAS. -/
def coreAccess (c : Nat) (k : TKind) (ea : Value) (rd : Reg) (data expect : Word) (s : State) : State :=
  let er := if k = .read then 0x0D else 0x0E
  match reach c ea.toNat k s with
  | (.inl (cause, reason), s1) => takeTrap c cause reason 0 ea s1
  | (.inr pa, s1) =>
    let crit := if k = .read then 0 else pCrit (wp data)
    let t : Txn := { kind := k, addr := BitVec.ofNat 48 pa, id := coreId c crit s, data := data, expect := expect }
    if regionOf pa = .twin then
      match twinIssue t c s1 with
      | (some r, s2) => takeTrap c er r.toNat 0 ea s2
      | (none, s2) => s2.setCore c { s2.core c with wait := some (.twin (if k = .read then some rd else none) ea) }
    else match fabric t s1 with
      | (.err r, s2) => takeTrap c er r.toNat 0 ea s2
      | (.word w, s2) => finishNext c (s2.setLreg c rd w)
      | (_, s2) => finishNext c s2

end Sys2Proof.Machine
end

