-- ==== Sys2Proof/Machine/Run.lean ====
section
/-!
DEFINITION. The execution of one Yilfixa-72 instruction, on an execution core or on a cataloguer
(spec/03_yilfixa_programming_model.md R129 to R131, R144, R145; spec/05_signal_catalogue.md R224, R227).
-/
namespace Sys2Proof.Machine

open Sys2Proof

/-! ### On a core -/

/-- An ILLEGAL trap on core c (R130). -/
def illegal (c : Nat) (i : Insn) (s : State) : State := takeTrap c 0x03 0 0 (i.enc.setWidth 64) s
/-- A PRIVILEGE trap on core c (R130). -/
def privilege (c : Nat) (i : Insn) (s : State) : State := takeTrap c 0x04 0 0 (i.enc.setWidth 64) s

/-- Core c executes an instruction at its program counter: a NOTICE trap that is due comes first, then the causes of the
fetch, then ILLEGAL (R131, R143). -/
def onCore (c : Nat) (i : Insn) (body : State → State) (s : State) : State :=
  if !coreLive c s then s
  else if noticeTrapDue c s then noticeTrap c s
  else
    match coreFetch c s with
    | (false, s1) => s1
    | (true, s1) => if i.bad || !i.onPair then illegal c i s1 else body s1

/-! ### On a cataloguer -/

/-- What an instruction's own effect is on a cataloguer: the program stops with a cause, stalls (R213), waits with a register
for the next trigger, or goes on at a program counter. -/
inductive CuOut where
  | fault (cause : Nat)
  | stall (s : State)
  | wait (rd : Nat)
  | next (npc : Int) (s : State)

/-- May cataloguer n execute: it runs, waits for no trigger and no ledger item, and its tile works? -/
def cuLive (n : Nat) (s : State) : Bool :=
  let k := s.cu n
  !s.power.computeHeld && decide (s.power.parkStep = 0) && s.bit (R.CATG_CUn_CTL n) F.CATG_CUn_CTL_RUN && !k.stalled && k.waitRd.isNone &&
  !tileClosed (.cataloguer ⟨n / 8 % 8, Nat.mod_lt _ (by decide)⟩) s

/-- The address of the program word a cataloguer executes from (R220). -/
def cuWord (n : Nat) (s : State) : Nat := 0xF0060000 + 0x1000 * (n / 8) + (s.cu n).pc / 2

/-- What an instruction leaves of cataloguer n (R221, R224, R227). -/
def cuFinish (n count : Nat) (o : CuOut) (s : State) : State :=
  match o with
  | .fault cause => cuFault n cause s
  | .stall t => cuStall n t
  | .wait rd => (s.setCu n { s.cu n with waitRd := some rd, count := count }).addWrap (R.CATG_CUn_RUNS n) F.CATG_CUn_RUNS_RUNS 1
  | .next npc t =>
    if npc < 0 ∨ 8191 < npc then cuFault n 8 s
    else t.setCu n { t.cu n with pc := npc.toNat, count := count + 1 }

/-- Cataloguer n executes an instruction; the first cause in the order of R227 stops it. -/
def onCu (n : Nat) (i : Insn) (body : State → CuOut) (s : State) : State :=
  let k := s.cu n
  if !cuLive n s then s
  else if !i.waite && decide (s.get (R.CATG_CUn_CTL n) F.CATG_CUn_CTL_RUN_LIMIT ≤ k.count) then cuFault n 5 s
  else
    match readArray (cuWord n s) .engine s with
    | (none, s1) => cuFault n 8 s1
    | (some _, s1) =>
      if i.seq && decide (8191 ≤ k.pc) then cuFault n 8 s1
      else if i.bad || !i.onCu then cuFault n 2 s1
      else if i.high then cuFault n 1 s1
      else cuFinish n k.count (body s1) s1

/-! ### On either -/

/-- One instruction, by its executor. -/
def runInsn (x : Exu) (i : Insn) (core : Nat → State → State) (cu : Nat → State → CuOut) (s : State) : Host.Outcome State Fault Refusal :=
  match x with
  | .core c => .next (onCore c.val i (core c.val) s)
  | .cu n => .next (onCu n.val i (cu n.val) s)

/-- A cataloguer's ledger register. -/
def cuReg (n : Nat) (r : Reg) (s : State) : Word := (s.cu n).get r.toNat
/-- A cataloguer writes a ledger register and goes on in sequence. -/
def cuPut (n : Nat) (rd : Reg) (w : Word) (s : State) : CuOut :=
  let k := s.cu n
  .next ((k.pc : Int) + 1) (s.setCu n (k.put rd.toNat w))
/-- A core writes a ledger register and goes on in sequence. -/
def corePut (c : Nat) (rd : Reg) (w : Word) (s : State) : State := finishNext c (s.setLreg c rd w)

/-- An instruction that computes one register from others (R146). -/
def runPure (x : Exu) (i : Insn) (rd : Reg) (f : (Reg → Word) → Word) (s : State) : Host.Outcome State Fault Refusal :=
  runInsn x i (fun c t => corePut c rd (f (fun r => t.lreg c r)) t) (fun n t => cuPut n rd (f (fun r => cuReg n r t)) t) s

/-- A program counter as a link word holds it (R99). -/
def linkWord (pc : Nat) : Word := immw (BitVec.ofNat 64 ((pc + 1) % 2 ^ 49))

/-- An instruction that sets the program counter: `f` gives the target from the registers and the program counter, and `rd`
takes the link word (R166, R167); a target of none is ILLEGAL. On a cataloguer a target outside the program memory and ILLEGAL
precede a link register above L31 (R227). -/
def runJump (x : Exu) (i : Insn) (rd : Option Reg) (f : (Reg → Word) → Int → Option Int) (s : State) : Host.Outcome State Fault Refusal :=
  runInsn x i
    (fun c t =>
      let pc := (t.core c).pc
      match f (fun r => t.lreg c r) pc.toNat with
      | none => illegal c i t
      | some npc =>
        let t1 := match rd with
          | some r => t.setLreg c r (linkWord pc.toNat)
          | none => t
        finishAt c (BitVec.ofInt 49 npc) t1)
    (fun n t =>
      let k := t.cu n
      match f (fun r => cuReg n r t) k.pc with
      | none => .fault 2
      | some npc =>
        match rd with
        | some r =>
          if 32 ≤ r.toNat ∧ 0 ≤ npc ∧ npc ≤ 8191 then .fault 1 else .next npc (t.setCu n (k.put r.toNat (linkWord k.pc)))
        | none => .next npc t) s

end Sys2Proof.Machine
end

