-- ==== Sys2Proof/Machine/IsaCtl.lean ====
section
/-!
DEFINITION. Branches, calls, BRK and the undefined encodings (spec/04_yilfixa_instruction_reference.md R147, R148, R166, R167,
R170; spec/03_yilfixa_programming_model.md R95, R103).
-/
namespace Sys2Proof.Machine

open Sys2Proof

/-- A conditional branch (R166): the branch's own program counter plus disp when the condition holds (R98). -/
def branch (x : Exu) (fn : Nat) (ra rb : Reg) (disp : BitVec 12) (cond : Value → Value → Bool) (s : State) : Host.Outcome State Fault Refusal :=
  runJump x { enc := encB 0x30 ra rb fn disp, regs := [ra, rb], seq := false } none
    (fun r pc => some (if cond (wv (r ra)) (wv (r rb)) then pc + disp.toInt else pc + 1)) s

/-- BEQ (R166): a.v = b.v. -/
def execBeq (x : Exu) (ra rb : Reg) (disp : BitVec 12) (s : State) : Host.Outcome State Fault Refusal :=
  branch x 0 ra rb disp (fun a b => decide (a = b)) s
/-- BNE (R166): a.v ≠ b.v. -/
def execBne (x : Exu) (ra rb : Reg) (disp : BitVec 12) (s : State) : Host.Outcome State Fault Refusal :=
  branch x 1 ra rb disp (fun a b => decide (a ≠ b)) s
/-- BLT (R166): signed less. -/
def execBlt (x : Exu) (ra rb : Reg) (disp : BitVec 12) (s : State) : Host.Outcome State Fault Refusal :=
  branch x 2 ra rb disp (fun a b => a.slt b) s
/-- BGE (R166): signed at least. -/
def execBge (x : Exu) (ra rb : Reg) (disp : BitVec 12) (s : State) : Host.Outcome State Fault Refusal :=
  branch x 3 ra rb disp (fun a b => !a.slt b) s
/-- BLTU (R166): unsigned less. -/
def execBltu (x : Exu) (ra rb : Reg) (disp : BitVec 12) (s : State) : Host.Outcome State Fault Refusal :=
  branch x 4 ra rb disp (fun a b => a.ult b) s
/-- BGEU (R166): unsigned at least. -/
def execBgeu (x : Exu) (ra rb : Reg) (disp : BitVec 12) (s : State) : Host.Outcome State Fault Refusal :=
  branch x 5 ra rb disp (fun a b => !a.ult b) s

/-- CALL (R167): the link word to rd, and a jump by imm24. -/
def execCall (x : Exu) (rd : Reg) (imm : BitVec 24) (s : State) : Host.Outcome State Fault Refusal :=
  runJump x { enc := encU 0x31 rd imm, regs := [], seq := false } (some rd) (fun _ pc => some (pc + imm.toInt)) s
/-- CALLR (R99, R167): the link word to rd, and a jump to a.v[48:0] plus imm18; ILLEGAL when a.v[63:49] is not zero. -/
def execCallr (x : Exu) (rd ra : Reg) (imm : BitVec 18) (s : State) : Host.Outcome State Fault Refusal :=
  runJump x { enc := encI 0x32 rd ra imm, regs := [ra], seq := false } (some rd)
    (fun r _ =>
      let v := wv (r ra)
      if 2 ^ 49 ≤ v.toNat then none else some ((v.toNat + imm.toInt) % 2 ^ 49)) s

/-- BRK on core c (R103, R130): debug entry, BREAKPOINT, SERVICE, or LIB_SERVICE, which user mode may not raise. -/
def brkDo (c : Nat) (i : Insn) (imm : BitVec 24) (s : State) : State :=
  if imm = 0 then
    (if (s.pair (c / 2)).bpArmed && decide (pairState (c / 2) s = 2) && !pairSplit (c / 2) s then debugEnter (c / 2) s
     else takeTrap c 0x08 0 imm 0 s)
  else if imm.toNat < 0x800000 then takeTrap c 0x06 0 imm 0 s
  else if (s.core c).mode = 0b00#2 then privilege c i s
  else takeTrap c 0x07 0 imm 0 s
/-- BRK (R103, R170): rd must be L0. -/
def execBrk (x : Exu) (rd : Reg) (imm : BitVec 24) (s : State) : Host.Outcome State Fault Refusal :=
  let i : Insn := { enc := encU 0x35 rd imm, regs := [rd], bad := decide (rd ≠ 0), onCu := false }
  runInsn x i (fun c t => brkDo c i imm t) (fun _ _ => .fault 2) s

/-- The fn values of the ALU group (R149). -/
def aluFns : List Nat := [0, 1, 2, 3, 4, 5, 8, 9, 10, 11, 16, 17, 18, 19, 24, 25, 26, 27, 28, 29]
/-- The fn values of the MULDIV group (R150). -/
def mulFns : List Nat := [0, 1, 2, 4, 5, 6, 7]
/-- The fn values of the FP group (R158). -/
def fpFns : List Nat := [0, 1, 2, 3, 4, 8, 9, 0x10, 0x11, 0x12, 0x20, 0x21, 0x22, 0x23, 0x28, 0x29]
/-- Does an instruction word have an undefined or reserved op, or an fn its op does not define (R95, R147, R148)? -/
def undefinedWord (w : BitVec 36) : Bool :=
  let op := (w.extractLsb' 30 6).toNat
  let fn := (w.extractLsb' 0 12).toNat
  if op = 0x01 then !aluFns.contains fn
  else if op = 0x02 then !mulFns.contains fn
  else if op = 0x03 then !fpFns.contains fn
  else if op = 0x04 then decide (3 ≤ fn % 64)
  else if op = 0x0A then decide (3 ≤ fn)
  else if op = 0x30 then decide (6 ≤ (w.extractLsb' 12 6).toNat)
  else if op = 0x38 then decide (9 ≤ fn % 16)
  else !(decide (0x05 ≤ op ∧ op ≤ 0x09) || decide (0x10 ≤ op ∧ op ≤ 0x16) || decide (0x18 ≤ op ∧ op ≤ 0x1A) || decide (0x20 ≤ op ∧ op ≤ 0x27) ||
         decide (0x31 ≤ op ∧ op ≤ 0x35))
/-- UNDEFINED_OP (R95, R147): ILLEGAL on a core, cause 2 on a cataloguer; a word that some other row executes is none of this
row's. -/
def execUndefinedOp (x : Exu) (w : BitVec 36) (s : State) : Host.Outcome State Fault Refusal :=
  if undefinedWord w then runInsn x { enc := w, bad := true } (fun _ t => t) (fun _ _ => .fault 2) s else .next s

end Sys2Proof.Machine
end

