-- ==== Sys2Proof/Machine/Float.lean ====
section
/-!
DEFINITION. IEEE 754 binary64 arithmetic as spec/04_yilfixa_instruction_reference.md R157 to R160 asks for it: exact
results of integers and powers of two, rounded once under DK_FCSR.RM, with the five sticky flags.
-/
namespace Sys2Proof.Machine

/-- Rounding modes of DK_FCSR.RM (R108). -/
inductive Rm where
  | nearestEven | towardZero | down | up
  deriving DecidableEq, Repr

/-- The rounding mode a two-bit RM names. -/
def rmOf (b : BitVec 2) : Rm :=
  if b = 0#2 then .nearestEven else if b = 1#2 then .towardZero else if b = 2#2 then .down else .up

/-- The sticky flags of DK_FCSR.FLAGS, in the order of bits [2] to [6] (R108). -/
structure FFlags where
  invalid : Bool := false
  divZero : Bool := false
  overflow : Bool := false
  underflow : Bool := false
  inexact : Bool := false
  deriving DecidableEq, Repr

/-- FLAGS as the five bits of DK_FCSR [6:2]. -/
def FFlags.bits (f : FFlags) : BitVec 5 :=
  BitVec.ofBool f.inexact ++ BitVec.ofBool f.underflow ++ BitVec.ofBool f.overflow ++ BitVec.ofBool f.divZero ++
    BitVec.ofBool f.invalid

/-- What a binary64 datum is: a NaN (signalling or not), an infinity, or a finite number (−1)^neg × m × 2^e. -/
inductive Fp where
  | nan (signalling : Bool)
  | inf (neg : Bool)
  | fin (neg : Bool) (m : Nat) (e : Int)
  deriving DecidableEq, Repr

/-- The canonical quiet NaN (R157). -/
def canonNan : BitVec 64 := 0x7FF8000000000000#64

/-- Read the 64 bits. -/
def fpUnpack (x : BitVec 64) : Fp :=
  let s := x.getLsbD 63
  let e := (x.extractLsb' 52 11).toNat
  let f := (x.extractLsb' 0 52).toNat
  if e = 2047 then (if f = 0 then .inf s else .nan (decide (f < 2 ^ 51)))
  else if e = 0 then .fin s f (-1074)
  else .fin s (2 ^ 52 + f) ((e : Int) - 1075)

/-- Signed zero, infinity and the largest finite magnitude. -/
def fpZero (neg : Bool) : BitVec 64 := if neg then 0x8000000000000000#64 else 0#64
/-- Infinity of a sign. -/
def fpInf (neg : Bool) : BitVec 64 := if neg then 0xFFF0000000000000#64 else 0x7FF0000000000000#64
/-- The largest finite number of a sign. -/
def fpMax (neg : Bool) : BitVec 64 := if neg then 0xFFEFFFFFFFFFFFFF#64 else 0x7FEFFFFFFFFFFFFF#64

/-- Does a discarded part round the kept magnitude up? `up2` compares twice the remainder with the step. -/
def roundsUp (rm : Rm) (neg : Bool) (odd : Bool) (rem step : Nat) (sticky : Bool) : Bool :=
  match rm with
  | .nearestEven => decide (step < 2 * rem) || (decide (2 * rem = step) && (sticky || odd) && decide (0 < step) && decide (0 < rem))
  | .towardZero => false
  | .down => neg && (decide (0 < rem) || sticky)
  | .up => !neg && (decide (0 < rem) || sticky)

/-- Number of bits of a magnitude. -/
def bitLen (m : Nat) : Nat := if m = 0 then 0 else Nat.log2 m + 1

/-- m × 2^e cut at the power q: the kept integer, the remainder and the step it was cut by. -/
def cutAt (m : Nat) (e q : Int) : Nat × Nat × Nat :=
  if e < q then
    let k := (q - e).toNat
    (m / 2 ^ k, m % 2 ^ k, 2 ^ k)
  else (m * 2 ^ (e - q).toNat, 0, 1)

/-- Round the exact magnitude m × 2^e, with `sticky` for a nonzero tail below it, once under `rm` (R157). A caller
with a tail gives at least 64 bits of m, so the tail lies below the cut. -/
def fpRound (rm : Rm) (neg : Bool) (m : Nat) (e : Int) (sticky : Bool) : BitVec 64 × FFlags :=
  if m = 0 && !sticky then (fpZero neg, {}) else
  let lead : Int := e + (bitLen m : Int) - 1
  let q : Int := max (lead - 52) (-1074)
  let (n, rem, step) := cutAt m e q
  let inex := decide (0 < rem) || sticky
  let n1 := if roundsUp rm neg (decide (n % 2 = 1)) rem step sticky then n + 1 else n
  let top : Int := q + (bitLen n1 : Int) - 1
  if 1023 < top then
    let r := match rm with
      | .nearestEven => fpInf neg
      | .towardZero => fpMax neg
      | .down => if neg then fpInf neg else fpMax neg
      | .up => if neg then fpMax neg else fpInf neg
    (r, { overflow := true, inexact := true })
  else
    -- tiny by the exact value, and by the value rounded to 53 bits with an unbounded exponent
    let tinyB := decide (lead < -1022)
    let (n2, rem2, step2) := cutAt m e (lead - 52)
    let n3 := if roundsUp rm neg (decide (n2 % 2 = 1)) rem2 step2 sticky then n2 + 1 else n2
    let tinyA := decide (lead - 52 + (bitLen n3 : Int) - 1 < -1022)
    let tiny := if tinyB = tinyA then tinyB else (if Config.tinyAfterRounding then tinyA else tinyB)
    let fl : FFlags := { inexact := inex, underflow := tiny && inex }
    let n4 := if n1 = 2 ^ 53 then 2 ^ 52 else n1
    let q4 : Int := if n1 = 2 ^ 53 then q + 1 else q
    let body : Nat := if n4 < 2 ^ 52 then n4 else (q4 + 1075).toNat * 2 ^ 52 + (n4 - 2 ^ 52)
    (BitVec.ofNat 64 ((if neg then 2 ^ 63 else 0) + body), fl)

/-- An invalid operation: the canonical NaN and the invalid flag. -/
def fpInvalid : BitVec 64 × FFlags := (canonNan, { invalid := true })
/-- A NaN operand: the canonical NaN, invalid when an operand signals. -/
def fpNan (sig : Bool) : BitVec 64 × FFlags := (canonNan, { invalid := sig })

/-- Is the datum a signalling NaN? -/
def Fp.sig : Fp → Bool
  | .nan b => b
  | _ => false
/-- Is the datum a NaN? -/
def Fp.isNan : Fp → Bool
  | .nan _ => true
  | _ => false

/-- The signed integer of a finite datum over a common power. -/
def signedAt (neg : Bool) (m : Nat) (e lo : Int) : Int :=
  let k : Int := ((m * 2 ^ (e - lo).toNat : Nat) : Int)
  if neg then -k else k

/-- Sum of two finite data, rounded once; an exact zero sum is −0 only when both are −0 or under rounding down. -/
def fpAddFin (rm : Rm) (s1 : Bool) (m1 : Nat) (e1 : Int) (s2 : Bool) (m2 : Nat) (e2 : Int) : BitVec 64 × FFlags :=
  let lo := min e1 e2
  let t := signedAt s1 m1 e1 lo + signedAt s2 m2 e2 lo
  if t = 0 then
    let neg := if m1 = 0 ∧ m2 = 0 ∧ s1 = s2 then s1 else decide (rm = .down)
    (fpZero neg, {})
  else fpRound rm (decide (t < 0)) t.natAbs lo false

/-- Addition (R158). -/
def fpAdd (rm : Rm) (x y : Fp) : BitVec 64 × FFlags :=
  if x.isNan || y.isNan then fpNan (x.sig || y.sig) else
  match x, y with
  | .inf a, .inf b => if a = b then (fpInf a, {}) else fpInvalid
  | .inf a, _ => (fpInf a, {})
  | _, .inf b => (fpInf b, {})
  | .fin s1 m1 e1, .fin s2 m2 e2 => fpAddFin rm s1 m1 e1 s2 m2 e2
  | _, _ => fpInvalid

/-- The datum with its sign inverted. -/
def Fp.negate : Fp → Fp
  | .nan b => .nan b
  | .inf s => .inf (!s)
  | .fin s m e => .fin (!s) m e

/-- Multiplication (R158). -/
def fpMul (rm : Rm) (x y : Fp) : BitVec 64 × FFlags :=
  if x.isNan || y.isNan then fpNan (x.sig || y.sig) else
  match x, y with
  | .inf a, .inf b => (fpInf (a != b), {})
  | .inf a, .fin b m _ => if m = 0 then fpInvalid else (fpInf (a != b), {})
  | .fin a m _, .inf b => if m = 0 then fpInvalid else (fpInf (a != b), {})
  | .fin a m1 e1, .fin b m2 e2 => fpRound rm (a != b) (m1 * m2) (e1 + e2) false
  | _, _ => fpInvalid

/-- Division (R158); a finite nonzero number over zero signals divide by zero. -/
def fpDiv (rm : Rm) (x y : Fp) : BitVec 64 × FFlags :=
  if x.isNan || y.isNan then fpNan (x.sig || y.sig) else
  match x, y with
  | .inf _, .inf _ => fpInvalid
  | .inf a, .fin b _ _ => (fpInf (a != b), {})
  | .fin a _ _, .inf b => (fpZero (a != b), {})
  | .fin a m1 e1, .fin b m2 e2 =>
    if m2 = 0 then (if m1 = 0 then fpInvalid else (fpInf (a != b), { divZero := true }))
    else fpRound rm (a != b) (m1 * 2 ^ 120 / m2) (e1 - e2 - 120) (decide (0 < m1 * 2 ^ 120 % m2))
  | _, _ => fpInvalid

/-- Integer square root by trial of each bit from the top. -/
def isqrt : Nat → Nat → Nat → Nat
  | 0, r, _ => r
  | k + 1, r, n => if (r + 2 ^ k) * (r + 2 ^ k) ≤ n then isqrt k (r + 2 ^ k) n else isqrt k r n

/-- Square root (R158). -/
def fpSqrt (rm : Rm) (x : Fp) : BitVec 64 × FFlags :=
  match x with
  | .nan b => fpNan b
  | .inf s => if s then fpInvalid else (fpInf false, {})
  | .fin s m e =>
    if m = 0 then (fpZero s, {})
    else if s then fpInvalid
    else
      let m' := if e % 2 = 0 then m * 2 ^ 140 else m * 2 ^ 141
      let e' := if e % 2 = 0 then e - 140 else e - 141
      let r := isqrt 100 0 m'
      fpRound rm false r (e' / 2) (decide (r * r < m'))

/-- Fused multiply and add, rounded once (R160). -/
def fpFma (rm : Rm) (x y z : Fp) : BitVec 64 × FFlags :=
  let sig := x.sig || y.sig || z.sig
  let infTimesZero : Bool := match x, y with
    | .inf _, .fin _ m _ => decide (m = 0)
    | .fin _ m _, .inf _ => decide (m = 0)
    | _, _ => false
  if x.isNan || y.isNan then fpNan sig
  else if infTimesZero then
    (match z with
      | .nan q => (canonNan, { invalid := q || Config.fmaZeroInfNan })
      | _ => fpInvalid)
  else if z.isNan then fpNan sig
  else
    let p : Fp := match x, y with
      | .inf a, .inf b => .inf (a != b)
      | .inf a, .fin b _ _ => .inf (a != b)
      | .fin a _ _, .inf b => .inf (a != b)
      | .fin a m1 e1, .fin b m2 e2 => .fin (a != b) (m1 * m2) (e1 + e2)
      | _, _ => .nan true
    match p, z with
    | .inf a, .inf b => if a = b then (fpInf a, {}) else fpInvalid
    | .inf a, _ => (fpInf a, {})
    | _, .inf b => (fpInf b, {})
    | .fin s1 m1 e1, .fin s2 m2 e2 => fpAddFin rm s1 m1 e1 s2 m2 e2
    | _, _ => fpInvalid

/-- Order of two data that are no NaN: is x below y? −0 and +0 are equal. -/
def fpLt (x y : Fp) : Bool :=
  match x, y with
  | .inf a, .inf b => a && !b
  | .inf a, _ => a
  | _, .inf b => !b
  | .fin s1 m1 e1, .fin s2 m2 e2 =>
    let lo := min e1 e2
    decide (signedAt s1 m1 e1 lo < signedAt s2 m2 e2 lo)
  | _, _ => false

/-- Equality of two data that are no NaN. -/
def fpEq (x y : Fp) : Bool := !fpLt x y && !fpLt y x

/-- FMIN and FMAX (R158): −0 below +0; one NaN gives the other operand; a signalling NaN signals invalid. -/
def fpMinMax (wantMax : Bool) (xb yb : BitVec 64) : BitVec 64 × FFlags :=
  let x := fpUnpack xb
  let y := fpUnpack yb
  let fl : FFlags := { invalid := x.sig || y.sig }
  if x.isNan && y.isNan then (canonNan, fl)
  else if x.isNan then (yb, fl)
  else if y.isNan then (xb, fl)
  else
    let xLess := fpLt x y || (fpEq x y && xb.getLsbD 63 && !yb.getLsbD 63)
    if wantMax then (if xLess then yb else xb, fl) else (if xLess then xb else yb, fl)

/-- The compares of R158; each NaN gives 0, and signals invalid where R158 says so. -/
def fpCmpEq (xb yb : BitVec 64) : Bool × FFlags :=
  let x := fpUnpack xb
  let y := fpUnpack yb
  if x.isNan || y.isNan then (false, { invalid := x.sig || y.sig }) else (fpEq x y, {})
/-- Less than (R158). -/
def fpCmpLt (xb yb : BitVec 64) : Bool × FFlags :=
  let x := fpUnpack xb
  let y := fpUnpack yb
  if x.isNan || y.isNan then (false, { invalid := true }) else (fpLt x y, {})
/-- Less or equal (R158). -/
def fpCmpLe (xb yb : BitVec 64) : Bool × FFlags :=
  let x := fpUnpack xb
  let y := fpUnpack yb
  if x.isNan || y.isNan then (false, { invalid := true }) else (!fpLt y x, {})

/-- An integer to binary64 (R158). -/
def fpOfInt (rm : Rm) (i : Int) : BitVec 64 × FFlags := fpRound rm (decide (i < 0)) i.natAbs 0 false

/-- Binary64 to an integer in [lo, hi], saturating with invalid outside it; a NaN gives hi and invalid (R159). -/
def fpToInt (rm : Rm) (lo hi : Int) (x : Fp) : Int × FFlags :=
  match x with
  | .nan _ => (hi, { invalid := true })
  | .inf s => (if s then lo else hi, { invalid := true })
  | .fin s m e =>
    let (n, rem, step) := cutAt m e 0
    let n1 := if roundsUp rm s (decide (n % 2 = 1)) rem step false then n + 1 else n
    let v : Int := if s then -(n1 : Int) else (n1 : Int)
    if v < lo then (lo, { invalid := true })
    else if hi < v then (hi, { invalid := true })
    else (v, { inexact := decide (0 < rem) })

end Sys2Proof.Machine
end

