-- ==== Sys2Proof/Machine/IsaFloat.lean ====
section
/-!
DEFINITION. The floating-point instructions (spec/04_yilfixa_instruction_reference.md R157 to R160), on execution pairs only.
-/
namespace Sys2Proof.Machine

open Sys2Proof

/-- A floating-point instruction on core c (R157): rounded under DK_FCSR.RM, the flags set, and VAL raised where the operation
itself signals invalid or divide by zero. -/
def fpOn (c : Nat) (rd : Reg) (p : Prov) (f : Rm → BitVec 64 × FFlags) (s : State) : State :=
  let d := deskOf c s
  let (v, fl) := f (rmOf (d.fcsr.extractLsb' 0 2))
  let s1 := setDesk c { d with fcsr := d.fcsr ||| (fl.bits ++ 0#2) } s
  corePut c rd (mkw v (if fl.invalid || fl.divZero then pRaise p else p)) s1
/-- A floating-point instruction of two operands. -/
def fp2 (x : Exu) (fn : BitVec 12) (rd ra rb : Reg) (f : Rm → BitVec 64 → BitVec 64 → BitVec 64 × FFlags) (s : State) : Host.Outcome State Fault Refusal :=
  runInsn x { enc := encR 0x03 rd ra rb fn, regs := [rd, ra, rb], onCu := false }
    (fun c t =>
      let a := t.lreg c ra
      let b := t.lreg c rb
      fpOn c rd (pMerge (wp a) (wp b)) (fun rm => f rm (wv a) (wv b)) t)
    (fun _ _ => .fault 2) s
/-- A floating-point instruction of one operand; rb must be L0 (R158). -/
def fp1 (x : Exu) (fn : BitVec 12) (rd ra rb : Reg) (f : Rm → BitVec 64 → BitVec 64 × FFlags) (s : State) : Host.Outcome State Fault Refusal :=
  runInsn x { enc := encR 0x03 rd ra rb fn, regs := [rd, ra, rb], bad := decide (rb ≠ 0), onCu := false }
    (fun c t =>
      let a := t.lreg c ra
      fpOn c rd (wp a) (fun rm => f rm (wv a)) t)
    (fun _ _ => .fault 2) s
/-- A floating-point instruction of three operands, rc in fn[11:6] (R160). -/
def fp3 (x : Exu) (variant : BitVec 6) (rd ra rb rc : Reg) (f : Rm → Fp → Fp → Fp → BitVec 64 × FFlags) (s : State) : Host.Outcome State Fault Refusal :=
  runInsn x { enc := encR 0x04 rd ra rb (rc ++ variant), regs := [rd, ra, rb, rc], onCu := false }
    (fun c t =>
      let a := t.lreg c ra
      let b := t.lreg c rb
      let k := t.lreg c rc
      fpOn c rd (pMerge (pMerge (wp a) (wp b)) (wp k)) (fun rm => f rm (fpUnpack (wv a)) (fpUnpack (wv b)) (fpUnpack (wv k))) t)
    (fun _ _ => .fault 2) s
/-- A comparison's 1 or 0. -/
def fpFlag (r : Bool × FFlags) : BitVec 64 × FFlags := (if r.1 then 1 else 0, r.2)

/-- A conversion to an integer (R159). -/
def toIntWord (rm : Rm) (lo hi : Int) (a : BitVec 64) : BitVec 64 × FFlags :=
  let r := fpToInt rm lo hi (fpUnpack a)
  (BitVec.ofInt 64 r.1, r.2)
/-- FADD (R158): sum. -/
def execFadd (x : Exu) (rd ra rb : Reg) (s : State) : Host.Outcome State Fault Refusal :=
  fp2 x 0x000 rd ra rb (fun rm a b => fpAdd rm (fpUnpack a) (fpUnpack b)) s
/-- FSUB (R158): difference. -/
def execFsub (x : Exu) (rd ra rb : Reg) (s : State) : Host.Outcome State Fault Refusal :=
  fp2 x 0x001 rd ra rb (fun rm a b => fpAdd rm (fpUnpack a) (fpUnpack b).negate) s
/-- FMUL (R158): product. -/
def execFmul (x : Exu) (rd ra rb : Reg) (s : State) : Host.Outcome State Fault Refusal :=
  fp2 x 0x002 rd ra rb (fun rm a b => fpMul rm (fpUnpack a) (fpUnpack b)) s
/-- FDIV (R158): quotient. -/
def execFdiv (x : Exu) (rd ra rb : Reg) (s : State) : Host.Outcome State Fault Refusal :=
  fp2 x 0x003 rd ra rb (fun rm a b => fpDiv rm (fpUnpack a) (fpUnpack b)) s
/-- FMIN (R158): smaller operand. -/
def execFmin (x : Exu) (rd ra rb : Reg) (s : State) : Host.Outcome State Fault Refusal :=
  fp2 x 0x008 rd ra rb (fun _ a b => fpMinMax false a b) s
/-- FMAX (R158): larger operand. -/
def execFmax (x : Exu) (rd ra rb : Reg) (s : State) : Host.Outcome State Fault Refusal :=
  fp2 x 0x009 rd ra rb (fun _ a b => fpMinMax true a b) s
/-- FCMPEQ (R158): equal. -/
def execFcmpeq (x : Exu) (rd ra rb : Reg) (s : State) : Host.Outcome State Fault Refusal :=
  fp2 x 0x010 rd ra rb (fun _ a b => fpFlag (fpCmpEq a b)) s
/-- FCMPLT (R158): less. -/
def execFcmplt (x : Exu) (rd ra rb : Reg) (s : State) : Host.Outcome State Fault Refusal :=
  fp2 x 0x011 rd ra rb (fun _ a b => fpFlag (fpCmpLt a b)) s
/-- FCMPLE (R158): at most. -/
def execFcmple (x : Exu) (rd ra rb : Reg) (s : State) : Host.Outcome State Fault Refusal :=
  fp2 x 0x012 rd ra rb (fun _ a b => fpFlag (fpCmpLe a b)) s
/-- FSQRT (R158): square root. -/
def execFsqrt (x : Exu) (rd ra rb : Reg) (s : State) : Host.Outcome State Fault Refusal :=
  fp1 x 0x004 rd ra rb (fun rm a => fpSqrt rm (fpUnpack a)) s
/-- FNEG (R158): sign inverted. -/
def execFneg (x : Exu) (rd ra rb : Reg) (s : State) : Host.Outcome State Fault Refusal :=
  fp1 x 0x028 rd ra rb (fun _ a => (a ^^^ (1#64 <<< 63), {})) s
/-- FABS (R158): sign cleared. -/
def execFabs (x : Exu) (rd ra rb : Reg) (s : State) : Host.Outcome State Fault Refusal :=
  fp1 x 0x029 rd ra rb (fun _ a => (a &&& ~~~(1#64 <<< 63), {})) s
/-- FCVTDL (R158): signed integer to binary64. -/
def execFcvtdl (x : Exu) (rd ra rb : Reg) (s : State) : Host.Outcome State Fault Refusal :=
  fp1 x 0x020 rd ra rb (fun rm a => fpOfInt rm a.toInt) s
/-- FCVTDLU (R158): unsigned integer to binary64. -/
def execFcvtdlu (x : Exu) (rd ra rb : Reg) (s : State) : Host.Outcome State Fault Refusal :=
  fp1 x 0x021 rd ra rb (fun rm a => fpOfInt rm a.toNat) s
/-- FCVTLD (R158): binary64 to signed integer. -/
def execFcvtld (x : Exu) (rd ra rb : Reg) (s : State) : Host.Outcome State Fault Refusal :=
  fp1 x 0x022 rd ra rb (fun rm a => toIntWord rm (-(2 ^ 63)) (2 ^ 63 - 1) a) s
/-- FCVTLUD (R158): binary64 to unsigned integer. -/
def execFcvtlud (x : Exu) (rd ra rb : Reg) (s : State) : Host.Outcome State Fault Refusal :=
  fp1 x 0x023 rd ra rb (fun rm a => toIntWord rm 0 (2 ^ 64 - 1) a) s
/-- FMA (R160): a.v × b.v + c.v, rounded once. -/
def execFma (x : Exu) (rd ra rb rc : Reg) (s : State) : Host.Outcome State Fault Refusal :=
  fp3 x 0 rd ra rb rc (fun rm a b c => fpFma rm a b c) s
/-- FMS (R160): a.v × b.v − c.v, rounded once. -/
def execFms (x : Exu) (rd ra rb rc : Reg) (s : State) : Host.Outcome State Fault Refusal :=
  fp3 x 1 rd ra rb rc (fun rm a b c => fpFma rm a b c.negate) s
/-- FNMA (R160): −(a.v × b.v) + c.v, rounded once. -/
def execFnma (x : Exu) (rd ra rb rc : Reg) (s : State) : Host.Outcome State Fault Refusal :=
  fp3 x 2 rd ra rb rc (fun rm a b c => fpFma rm a.negate b c) s

end Sys2Proof.Machine
end

