-- ==== Sys2Proof/Machine/IsaInt.lean ====
section
/-!
DEFINITION. The integer, bit-field, octet and provenance instructions (spec/04_yilfixa_instruction_reference.md R149 to
R156).
-/
namespace Sys2Proof.Machine

open Sys2Proof

/-! ### The ALU group (R149) -/

/-- An ALU instruction in R format whose operands' provenance merges. -/
def aluMerge (x : Exu) (fn : BitVec 12) (rd ra rb : Reg) (f : Value → Value → Value) (s : State) : Host.Outcome State Fault Refusal :=
  runPure x { enc := encR 0x01 rd ra rb fn, regs := [rd, ra, rb] } rd (fun r => merged (f (wv (r ra)) (wv (r rb))) (r ra) (r rb)) s
/-- A shift or rotate by the low six bits of b, which keeps a's provenance. -/
def aluShift (x : Exu) (fn : BitVec 12) (rd ra rb : Reg) (f : Value → Nat → Value) (s : State) : Host.Outcome State Fault Refusal :=
  runPure x { enc := encR 0x01 rd ra rb fn, regs := [rd, ra, rb] } rd
    (fun r => keeping (f (wv (r ra)) ((wv (r rb)).toNat % 64)) (r ra)) s
/-- 1 or 0. -/
def flag (b : Bool) : Value := if b then 1 else 0
/-- A value rotated left. -/
def rotl (a : Value) (n : Nat) : Value := a.rotateLeft n

/-- ADD (R149): a.v + b.v. -/
def execAdd (x : Exu) (rd ra rb : Reg) (s : State) : Host.Outcome State Fault Refusal :=
  aluMerge x 0x000 rd ra rb (fun a b => a + b) s
/-- SUB (R149): a.v − b.v. -/
def execSub (x : Exu) (rd ra rb : Reg) (s : State) : Host.Outcome State Fault Refusal :=
  aluMerge x 0x001 rd ra rb (fun a b => a - b) s
/-- AND (R149): and. -/
def execAnd (x : Exu) (rd ra rb : Reg) (s : State) : Host.Outcome State Fault Refusal :=
  aluMerge x 0x002 rd ra rb (fun a b => a &&& b) s
/-- OR (R149): or. -/
def execOr (x : Exu) (rd ra rb : Reg) (s : State) : Host.Outcome State Fault Refusal :=
  aluMerge x 0x003 rd ra rb (fun a b => a ||| b) s
/-- XOR (R149): exclusive or. -/
def execXor (x : Exu) (rd ra rb : Reg) (s : State) : Host.Outcome State Fault Refusal :=
  aluMerge x 0x004 rd ra rb (fun a b => a ^^^ b) s
/-- ANDN (R149): a.v and not b.v. -/
def execAndn (x : Exu) (rd ra rb : Reg) (s : State) : Host.Outcome State Fault Refusal :=
  aluMerge x 0x005 rd ra rb (fun a b => a &&& ~~~b) s
/-- MIN (R149): signed minimum. -/
def execMin (x : Exu) (rd ra rb : Reg) (s : State) : Host.Outcome State Fault Refusal :=
  aluMerge x 0x010 rd ra rb (fun a b => if a.slt b then a else b) s
/-- MAX (R149): signed maximum. -/
def execMax (x : Exu) (rd ra rb : Reg) (s : State) : Host.Outcome State Fault Refusal :=
  aluMerge x 0x011 rd ra rb (fun a b => if a.slt b then b else a) s
/-- MINU (R149): unsigned minimum. -/
def execMinu (x : Exu) (rd ra rb : Reg) (s : State) : Host.Outcome State Fault Refusal :=
  aluMerge x 0x012 rd ra rb (fun a b => if a.ult b then a else b) s
/-- MAXU (R149): unsigned maximum. -/
def execMaxu (x : Exu) (rd ra rb : Reg) (s : State) : Host.Outcome State Fault Refusal :=
  aluMerge x 0x013 rd ra rb (fun a b => if a.ult b then b else a) s
/-- CMPEQ (R149): equal. -/
def execCmpeq (x : Exu) (rd ra rb : Reg) (s : State) : Host.Outcome State Fault Refusal :=
  aluMerge x 0x018 rd ra rb (fun a b => flag (a = b)) s
/-- CMPNE (R149): not equal. -/
def execCmpne (x : Exu) (rd ra rb : Reg) (s : State) : Host.Outcome State Fault Refusal :=
  aluMerge x 0x019 rd ra rb (fun a b => flag (a ≠ b)) s
/-- CMPLT (R149): signed less. -/
def execCmplt (x : Exu) (rd ra rb : Reg) (s : State) : Host.Outcome State Fault Refusal :=
  aluMerge x 0x01A rd ra rb (fun a b => flag (a.slt b)) s
/-- CMPLTU (R149): unsigned less. -/
def execCmpltu (x : Exu) (rd ra rb : Reg) (s : State) : Host.Outcome State Fault Refusal :=
  aluMerge x 0x01B rd ra rb (fun a b => flag (a.ult b)) s
/-- CMPLE (R149): signed at most. -/
def execCmple (x : Exu) (rd ra rb : Reg) (s : State) : Host.Outcome State Fault Refusal :=
  aluMerge x 0x01C rd ra rb (fun a b => flag (a.sle b)) s
/-- CMPLEU (R149): unsigned at most. -/
def execCmpleu (x : Exu) (rd ra rb : Reg) (s : State) : Host.Outcome State Fault Refusal :=
  aluMerge x 0x01D rd ra rb (fun a b => flag (a.ule b)) s
/-- SHL (R149): shift left. -/
def execShl (x : Exu) (rd ra rb : Reg) (s : State) : Host.Outcome State Fault Refusal :=
  aluShift x 0x008 rd ra rb (fun a n => a <<< n) s
/-- SHR (R149): shift right, zeros in. -/
def execShr (x : Exu) (rd ra rb : Reg) (s : State) : Host.Outcome State Fault Refusal :=
  aluShift x 0x009 rd ra rb (fun a n => a >>> n) s
/-- SAR (R149): shift right, sign in. -/
def execSar (x : Exu) (rd ra rb : Reg) (s : State) : Host.Outcome State Fault Refusal :=
  aluShift x 0x00A rd ra rb (fun a n => a.sshiftRight n) s
/-- ROT (R149): shift rotate left. -/
def execRot (x : Exu) (rd ra rb : Reg) (s : State) : Host.Outcome State Fault Refusal :=
  aluShift x 0x00B rd ra rb (fun a n => rotl a n) s

/-! ### The MULDIV group (R150) -/

/-- A MULDIV instruction; `f` gives the value and whether the divisor is zero, which raises VAL. -/
def mulDiv (x : Exu) (fn : BitVec 12) (rd ra rb : Reg) (f : Value → Value → Value × Bool) (s : State) : Host.Outcome State Fault Refusal :=
  runPure x { enc := encR 0x02 rd ra rb fn, regs := [rd, ra, rb] } rd
    (fun r =>
      let y := f (wv (r ra)) (wv (r rb))
      let w := merged y.1 (r ra) (r rb)
      if y.2 then mkw (wv w) (pRaise (wp w)) else w) s

/-- MUL (R150): low 64 bits of the product. -/
def execMul (x : Exu) (rd ra rb : Reg) (s : State) : Host.Outcome State Fault Refusal :=
  mulDiv x 0x000 rd ra rb (fun a b => (a * b, false)) s
/-- MULH (R150): high 64 bits of the signed product. -/
def execMulh (x : Exu) (rd ra rb : Reg) (s : State) : Host.Outcome State Fault Refusal :=
  mulDiv x 0x001 rd ra rb (fun a b => (BitVec.ofInt 64 (a.toInt * b.toInt / 2 ^ 64), false)) s
/-- MULHU (R150): high 64 bits of the unsigned product. -/
def execMulhu (x : Exu) (rd ra rb : Reg) (s : State) : Host.Outcome State Fault Refusal :=
  mulDiv x 0x002 rd ra rb (fun a b => (BitVec.ofNat 64 (a.toNat * b.toNat / 2 ^ 64), false)) s
/-- DIV (R150): signed quotient, rounded toward zero. -/
def execDiv (x : Exu) (rd ra rb : Reg) (s : State) : Host.Outcome State Fault Refusal :=
  mulDiv x 0x004 rd ra rb (fun a b => if b = 0 then (BitVec.allOnes 64, true) else (BitVec.ofInt 64 (a.toInt.tdiv b.toInt), false)) s
/-- DIVU (R150): unsigned quotient. -/
def execDivu (x : Exu) (rd ra rb : Reg) (s : State) : Host.Outcome State Fault Refusal :=
  mulDiv x 0x005 rd ra rb (fun a b => if b = 0 then (BitVec.allOnes 64, true) else (a / b, false)) s
/-- REM (R150): signed remainder, with the sign of a. -/
def execRem (x : Exu) (rd ra rb : Reg) (s : State) : Host.Outcome State Fault Refusal :=
  mulDiv x 0x006 rd ra rb (fun a b => if b = 0 then (a, true) else (BitVec.ofInt 64 (a.toInt.tmod b.toInt), false)) s
/-- REMU (R150): unsigned remainder. -/
def execRemu (x : Exu) (rd ra rb : Reg) (s : State) : Host.Outcome State Fault Refusal :=
  mulDiv x 0x007 rd ra rb (fun a b => if b = 0 then (a, true) else (a % b, false)) s

/-! ### Immediate forms (R151, R152) -/

/-- An integer instruction in I format, which keeps a's provenance. -/
def aluImm (x : Exu) (op : Nat) (rd ra : Reg) (imm : BitVec 18) (f : Value → Value) (s : State) : Host.Outcome State Fault Refusal :=
  runPure x { enc := encI op rd ra imm, regs := [rd, ra] } rd (fun r => keeping (f (wv (r ra))) (r ra)) s
/-- SHI: the amount in imm[5:0], the kind in imm[7:6]; imm[17:8] must be zero. -/
def aluShiftImm (x : Exu) (kind : BitVec 2) (rd ra : Reg) (hi : BitVec 10) (amt : BitVec 6) (f : Value → Nat → Value) (s : State) : Host.Outcome State Fault Refusal :=
  runPure x { enc := encI 0x14 rd ra (hi ++ kind ++ amt), regs := [rd, ra], bad := decide (hi ≠ 0) } rd
    (fun r => keeping (f (wv (r ra)) amt.toNat) (r ra)) s

/-- ADDI (R151): a.v + sext(imm18). -/
def execAddi (x : Exu) (rd ra : Reg) (imm : BitVec 18) (s : State) : Host.Outcome State Fault Refusal :=
  aluImm x 0x10 rd ra imm (fun a => a + sx imm) s
/-- ANDI (R151): and with zext(imm18). -/
def execAndi (x : Exu) (rd ra : Reg) (imm : BitVec 18) (s : State) : Host.Outcome State Fault Refusal :=
  aluImm x 0x11 rd ra imm (fun a => a &&& zx imm) s
/-- ORI (R151): or with zext(imm18). -/
def execOri (x : Exu) (rd ra : Reg) (imm : BitVec 18) (s : State) : Host.Outcome State Fault Refusal :=
  aluImm x 0x12 rd ra imm (fun a => a ||| zx imm) s
/-- XORI (R151): exclusive or with zext(imm18). -/
def execXori (x : Exu) (rd ra : Reg) (imm : BitVec 18) (s : State) : Host.Outcome State Fault Refusal :=
  aluImm x 0x13 rd ra imm (fun a => a ^^^ zx imm) s
/-- CMPEQI (R151): equal to sext(imm18). -/
def execCmpeqi (x : Exu) (rd ra : Reg) (imm : BitVec 18) (s : State) : Host.Outcome State Fault Refusal :=
  aluImm x 0x15 rd ra imm (fun a => flag (a = sx imm)) s
/-- CMPLTI (R151): signed less than sext(imm18). -/
def execCmplti (x : Exu) (rd ra : Reg) (imm : BitVec 18) (s : State) : Host.Outcome State Fault Refusal :=
  aluImm x 0x16 rd ra imm (fun a => flag (a.slt (sx imm))) s
/-- SHLI (R151): shift left. -/
def execShli (x : Exu) (rd ra : Reg) (hi : BitVec 10) (amt : BitVec 6) (s : State) : Host.Outcome State Fault Refusal :=
  aluShiftImm x 0 rd ra hi amt (fun a n => a <<< n) s
/-- SHRI (R151): shift right, zeros in. -/
def execShri (x : Exu) (rd ra : Reg) (hi : BitVec 10) (amt : BitVec 6) (s : State) : Host.Outcome State Fault Refusal :=
  aluShiftImm x 1 rd ra hi amt (fun a n => a >>> n) s
/-- SARI (R151): shift right, sign in. -/
def execSari (x : Exu) (rd ra : Reg) (hi : BitVec 10) (amt : BitVec 6) (s : State) : Host.Outcome State Fault Refusal :=
  aluShiftImm x 2 rd ra hi amt (fun a n => a.sshiftRight n) s
/-- ROTI (R151): shift rotate left. -/
def execRoti (x : Exu) (rd ra : Reg) (hi : BitVec 10) (amt : BitVec 6) (s : State) : Host.Outcome State Fault Refusal :=
  aluShiftImm x 3 rd ra hi amt (fun a n => rotl a n) s
/-- LI (R152): sext(imm24) with provenance 0xC0. -/
def execLi (x : Exu) (rd : Reg) (imm : BitVec 24) (s : State) : Host.Outcome State Fault Refusal :=
  runPure x { enc := encU 0x33 rd imm, regs := [rd] } rd (fun _ => immw (sx imm)) s
/-- LSH (R152): d.v[39:0] shifted left by 24, or zext(imm24), with d's provenance. -/
def execLsh (x : Exu) (rd : Reg) (imm : BitVec 24) (s : State) : Host.Outcome State Fault Refusal :=
  runPure x { enc := encU 0x34 rd imm, regs := [rd] } rd (fun r => keeping ((wv (r rd) <<< 24) ||| zx imm) (r rd)) s

/-! ### Bit fields and octets (R153, R154) -/

/-- XBF (R153): a field, zero-extended; rb must be L0. -/
def execXbf (x : Exu) (rd ra rb : Reg) (pos wm : BitVec 6) (s : State) : Host.Outcome State Fault Refusal :=
  runPure x { enc := encR 0x05 rd ra rb (pos ++ wm), regs := [rd, ra, rb], bad := fieldBad pos wm || decide (rb ≠ 0) } rd
    (fun r => keeping (fieldGet (wv (r ra)) pos wm) (r ra)) s
/-- XBFS (R153): a field, sign-extended; rb must be L0. -/
def execXbfs (x : Exu) (rd ra rb : Reg) (pos wm : BitVec 6) (s : State) : Host.Outcome State Fault Refusal :=
  runPure x { enc := encR 0x06 rd ra rb (pos ++ wm), regs := [rd, ra, rb], bad := fieldBad pos wm || decide (rb ≠ 0) } rd
    (fun r => keeping (fieldGetS (wv (r ra)) pos wm) (r ra)) s
/-- IBF (R153): d with a field replaced by a's low bits; rb is not used (R94). -/
def execIbf (x : Exu) (rd ra rb : Reg) (pos wm : BitVec 6) (s : State) : Host.Outcome State Fault Refusal :=
  runPure x { enc := encR 0x07 rd ra rb (pos ++ wm), regs := [rd, ra, rb], bad := fieldBad pos wm || decide (rb ≠ 0) } rd
    (fun r => merged (fieldSet (wv (r rd)) (wv (r ra)) pos wm) (r rd) (r ra)) s
/-- XOCT (R154): an octet of a with provenance 0xC0, 0 for an index above 8. -/
def execXoct (x : Exu) (rd ra rb : Reg) (fn : BitVec 12) (s : State) : Host.Outcome State Fault Refusal :=
  runPure x { enc := encR 0x08 rd ra rb fn, regs := [rd, ra, rb], bad := octBad rb fn } rd
    (fun r =>
      let k := octIndex fn (r rb)
      immw (if k ≤ 8 then zx (octet (r ra) k) else 0)) s
/-- IOCT (R154): d with an octet replaced by a.v[7:0], unchanged for an index above 8. -/
def execIoct (x : Exu) (rd ra rb : Reg) (fn : BitVec 12) (s : State) : Host.Outcome State Fault Refusal :=
  runPure x { enc := encR 0x09 rd ra rb fn, regs := [rd, ra, rb], bad := octBad rb fn } rd
    (fun r =>
      let k := octIndex fn (r rb)
      if k ≤ 8 then setOctet (r rd) k ((wv (r ra)).setWidth 8) else r rd) s

/-! ### Provenance (R155, R156) -/

/-- PGET (R155): a's provenance byte as a value; rb must be L0. -/
def execPget (x : Exu) (rd ra rb : Reg) (s : State) : Host.Outcome State Fault Refusal :=
  runPure x { enc := encR 0x0A rd ra rb 0x000, regs := [rd, ra, rb], bad := decide (rb ≠ 0) } rd (fun r => immw (zx (wp (r ra)))) s
/-- PSET (R155): a's value with the provenance byte b.v[7:0]. -/
def execPset (x : Exu) (rd ra rb : Reg) (s : State) : Host.Outcome State Fault Refusal :=
  runPure x { enc := encR 0x0A rd ra rb 0x001, regs := [rd, ra, rb] } rd (fun r => mkw (wv (r ra)) ((wv (r rb)).setWidth 8)) s
/-- PMRG (R155): a's value with the merged provenance. -/
def execPmrg (x : Exu) (rd ra rb : Reg) (s : State) : Host.Outcome State Fault Refusal :=
  runPure x { enc := encR 0x0A rd ra rb 0x002, regs := [rd, ra, rb] } rd (fun r => merged (wv (r ra)) (r ra) (r rb)) s
/-- PSETI (R155): a's value with the provenance byte imm[7:0]; imm[17:8] must be zero. -/
def execPseti (x : Exu) (rd ra : Reg) (imm : BitVec 18) (s : State) : Host.Outcome State Fault Refusal :=
  runPure x { enc := encI 0x18 rd ra imm, regs := [rd, ra], bad := decide (imm.toNat / 256 ≠ 0) } rd
    (fun r => mkw (wv (r ra)) (imm.setWidth 8)) s
/-- Must bits [17:10] of a mask be zero and are not (R156)? -/
def maskBad (imm : BitVec 18) : Bool := decide (imm.toNat / 1024 ≠ 0)
/-- PTST (R155): 1 when a's provenance meets the mask, else 0. -/
def execPtst (x : Exu) (rd ra : Reg) (imm : BitVec 18) (s : State) : Host.Outcome State Fault Refusal :=
  runPure x { enc := encI 0x1A rd ra imm, regs := [rd, ra], bad := maskBad imm } rd (fun r => immw (flag (pMeets (wp (r ra)) imm))) s
/-- PCHK (R155): a PROVENANCE trap when a's provenance does not meet the mask; a cataloguer stops with cause 3. -/
def execPchk (x : Exu) (rd ra : Reg) (imm : BitVec 18) (s : State) : Host.Outcome State Fault Refusal :=
  runInsn x { enc := encI 0x19 rd ra imm, regs := [rd, ra], bad := maskBad imm || decide (rd ≠ 0) }
    (fun c t =>
      let p := wp (t.lreg c ra)
      if pMeets p imm then finishNext c t else takeTrap c 0x09 0 0 (BitVec.ofNat 64 (p.toNat + ra.toNat * 256)) t)
    (fun n t => if pMeets (wp (cuReg n ra t)) imm then .next (((t.cu n).pc : Int) + 1) t else .fault 3) s

end Sys2Proof.Machine
end

