-- ==== Sys2Proof/Machine/IsaMem.lean ====
section
/-!
DEFINITION. The memory, catalogue and event instructions (spec/04_yilfixa_instruction_reference.md R161 to R165;
spec/05_signal_catalogue.md R221 to R226).
-/
namespace Sys2Proof.Machine

open Sys2Proof

/-! ### Memory (R161, R162) -/

/-- The effective address of LDW and STW (R161). -/
def effAddr (a : Word) (imm : BitVec 18) : Value := wv a + sx imm

/-- LDW (R161): rd takes the word at ea, its provenance as stored. -/
def execLdw (x : Exu) (rd ra : Reg) (imm : BitVec 18) (s : State) : Host.Outcome State Fault Refusal :=
  runInsn x { enc := encI 0x20 rd ra imm, regs := [rd, ra], onCu := false }
    (fun c t => coreAccess c .read (effAddr (t.lreg c ra) imm) rd 0 0 t) (fun _ _ => .fault 2) s

/-- STW (R161): the word at ea takes d, its CRIT clamped. -/
def execStw (x : Exu) (rd ra : Reg) (imm : BitVec 18) (s : State) : Host.Outcome State Fault Refusal :=
  runInsn x { enc := encI 0x21 rd ra imm, regs := [rd, ra], onCu := false }
    (fun c t => coreAccess c .write (effAddr (t.lreg c ra) imm) 0 (wClamp (coreCeil c t) (t.lreg c rd)) 0 t) (fun _ _ => .fault 2) s

/-- CASW (R120, R162): fn must be zero. -/
def execCasw (x : Exu) (rd ra rb : Reg) (fn : BitVec 12) (s : State) : Host.Outcome State Fault Refusal :=
  runInsn x { enc := encR 0x22 rd ra rb fn, regs := [rd, ra, rb], bad := decide (fn ≠ 0), onCu := false }
    (fun c t => coreAccess c .cas (wv (t.lreg c ra)) rd (wClamp (coreCeil c t) (t.lreg c rb)) (t.lreg c rd) t) (fun _ _ => .fault 2) s

/-! ### The catalogue (R163, R186, R226) -/

/-- Does a range [LO, HI] of shelfmarks hold one? -/
def inRange (lo hi sm : Nat) : Bool := decide (lo ≤ sm) && decide (sm ≤ hi)
/-- May core c read the entry (R163, R497)? -/
def coreMayRead (c sm : Nat) (s : State) : Bool :=
  let r := R.CARREL_Cc_CATRD (s.core c).d1.toNat
  decide (sm < 2 ^ 20) && (isLib c s || inRange (s.get r F.CARREL_Cc_CATRD_LO) (s.get r F.CARREL_Cc_CATRD_HI) sm)
/-- Is the entry one CATW writes: KIND software (R186)? -/
def softwareEntry (sm : Nat) (s : State) : Bool := decide ((descOf (s.rdMem (catA sm 2))).kind = 2)
/-- May core c write the entry (R163, R186, R497)? -/
def coreMayWrite (c sm : Nat) (s : State) : Bool :=
  let r := R.CARREL_Cc_CATWR (s.core c).d1.toNat
  decide (sm < 2 ^ 20) && (isLib c s || inRange (s.get r F.CARREL_Cc_CATWR_LO) (s.get r F.CARREL_Cc_CATWR_HI) sm) && softwareEntry sm s
/-- May cataloguer n read the entry (R226)? -/
def cuMayRead (n sm : Nat) (s : State) : Bool :=
  decide (sm < 2 ^ 20) && inRange (s.get (R.CATG_TLt_RD_LO (n / 8)) F.CATG_TLt_RD_LO_SHELF) (s.get (R.CATG_TLt_RD_HI (n / 8)) F.CATG_TLt_RD_HI_SHELF) sm
/-- May cataloguer n write the entry (R226)? -/
def cuMayWrite (n sm : Nat) (s : State) : Bool :=
  decide (sm < 2 ^ 20) &&
  inRange (s.get (R.CATG_TLt_WR_LO (n / 8)) F.CATG_TLt_WR_LO_SHELF) (s.get (R.CATG_TLt_WR_HI (n / 8)) F.CATG_TLt_WR_HI_SHELF) sm && softwareEntry sm s
/-- A CATALOGUE trap on core c (R130, R163). -/
def catTrap (c : Nat) (sm : Value) (s : State) : State := takeTrap c 0x0C 0 0 (BitVec.ofNat 64 (sm.toNat % 2 ^ 20)) s

/-- The mask CATRP adds to a cataloguer's run (R224): that of the entry's provisional word. -/
def cuNoteMask (n sm : Nat) (w : Word) (s : State) : Option State :=
  let m := if pProv (wp w) then entryMask sm s else 0
  let k := s.cu n
  if m = 0 then some s
  else if k.mask = 0 ∧ !itemFree s then none
  else some (runItem n m s)

/-- CATR (R163): the last confirmed word of an entry. -/
def execCatr (x : Exu) (rd ra : Reg) (imm : BitVec 18) (s : State) : Host.Outcome State Fault Refusal :=
  runInsn x { enc := encI 0x23 rd ra imm, regs := [rd, ra] }
    (fun c t =>
      let sm := effAddr (t.lreg c ra) imm
      if coreMayRead c sm.toNat t then
        match catRead sm.toNat true t with
        | (w, t1) => corePut c rd w t1
      else catTrap c sm t)
    (fun n t =>
      let sm := (effAddr (cuReg n ra t) imm).toNat
      if cuMayRead n sm t then
        match catRead sm true t with
        | (w, t1) => cuPut n rd w t1
      else .fault 6) s

/-- CATRP (R163, R224): the current word of an entry, PROV shown; a run that reads a provisional one depends on its contexts. -/
def execCatrp (x : Exu) (rd ra : Reg) (imm : BitVec 18) (s : State) : Host.Outcome State Fault Refusal :=
  runInsn x { enc := encI 0x24 rd ra imm, regs := [rd, ra] }
    (fun c t =>
      let sm := effAddr (t.lreg c ra) imm
      if coreMayRead c sm.toNat t then
        match catRead sm.toNat false t with
        | (w, t1) => corePut c rd w t1
      else catTrap c sm t)
    (fun n t =>
      let sm := (effAddr (cuReg n ra t) imm).toNat
      if cuMayRead n sm t then
        match catRead sm false t with
        | (w, t1) =>
          (match cuNoteMask n sm w t1 with
           | some t2 => cuPut n rd w t2
           | none => .stall t1)
      else .fault 6) s

/-- CATW (R163, R186): a software value; a provisional word raises PROVENANCE, and stops a cataloguer with cause 7, as does a
run that depends on open contexts. -/
def execCatw (x : Exu) (rd ra : Reg) (imm : BitVec 18) (s : State) : Host.Outcome State Fault Refusal :=
  runInsn x { enc := encI 0x25 rd ra imm, regs := [rd, ra] }
    (fun c t =>
      let sm := effAddr (t.lreg c ra) imm
      let d := t.lreg c rd
      if pProv (wp d) then takeTrap c 0x09 0 0 (BitVec.ofNat 64 ((wp d).toNat + rd.toNat * 256)) t
      else if coreMayWrite c sm.toNat t then finishNext c (catWrite sm.toNat (wClamp (coreCeil c t) d) t)
      else catTrap c sm t)
    (fun n t =>
      let sm := (effAddr (cuReg n ra t) imm).toNat
      let d := cuReg n rd t
      let k := t.cu n
      if pProv (wp d) || decide (k.mask ≠ 0) then .fault 7
      else if cuMayWrite n sm t then
        let ceil := BitVec.ofNat 2 (t.get (R.CATG_CUn_CTL n) F.CATG_CUn_CTL_CEIL)
        .next ((k.pc : Int) + 1) (catWrite sm (wClamp ceil d) t)
      else .fault 6) s

/-! ### EMIT and WAITE (R140, R164, R165, R223 to R225) -/

/-- The word an EMIT hands on (R165, R224): CRIT clamped to CEIL, and PROV as the run's mask has it. -/
def emitWord (n : Nat) (a : Word) (s : State) : Word :=
  let ceil := BitVec.ofNat 2 (s.get (R.CATG_CUn_CTL n) F.CATG_CUn_CTL_CEIL)
  let w := wClamp ceil a
  mkw (wv w) (pSetProv (decide ((s.cu n).mask ≠ 0)) (wp w))

/-- EMIT hands its word to an output list, provisionally while the run's mask is not empty (R224, R225). -/
def emitDo (n imm : Nat) (a : Word) (s : State) : CuOut :=
  let k := s.cu n
  let npc : Int := (k.pc : Int) + 1
  let o := 0x8000 + 256 * n + imm
  if 255 < imm then .fault 4
  else
    let (m, s1) := engRead (slipA o) s
    if !m.getLsbD 20 then .fault 4
    else if k.failed then .next npc s1
    else
      let w := emitWord n a s1
      let ptr := wf m 0 20
      if k.mask = 0 then
        .next npc (runWalks walkFuel { s1 with cat := { s1.cat with walks := s1.cat.walks ++
          [{ shelf := o, map := true, ptr := ptr, word := w, mode := 1, stamp := s.now }] } })
      else if !itemFree s1 then .stall s1
      else
        let e : Emitted := { n := s1.cat.emitN, map := o, ptr := ptr, word := w, mask := k.mask, stamp := s.now }
        .next npc (runWalks walkFuel { s1 with cat := { s1.cat with
          emits := s1.cat.emits ++ [e]
          emitN := s1.cat.emitN + 1
          walks := s1.cat.walks ++
            [{ shelf := o, map := true, ptr := ptr, word := w, mask := k.mask, mode := 0, stamp := s.now, home := .emit e.n }] } })

/-- EMIT (R165, R225): cataloguers only; rd must be L0. -/
def execEmit (x : Exu) (rd ra : Reg) (imm : BitVec 18) (s : State) : Host.Outcome State Fault Refusal :=
  runInsn x { enc := encI 0x26 rd ra imm, regs := [rd, ra], bad := decide (rd ≠ 0), onPair := false }
    (fun _ t => t) (fun n t => emitDo n imm.toNat (cuReg n ra t) t) s

/-- WAITE on core c (R140): the oldest notice, a return at once past the deadline, or the wait. -/
def waiteDo (c : Nat) (rd : Reg) (deadline : Nat) (s : State) : State :=
  match popNotice (s.core c).d1.toNat s with
  | some (h, p, s1) => waiteWrite c rd h p s1
  | none => waiteDeadline c (s.setCore c { s.core c with wait := some (.waite rd deadline) })

/-- WAITE (R164): rd names an even register from L2, rb and fn are zero, and on a cataloguer ra is L0. -/
def execWaite (x : Exu) (rd ra rb : Reg) (fn : BitVec 12) (s : State) : Host.Outcome State Fault Refusal :=
  let onCu := match x with
    | .core _ => false
    | .cu _ => true
  runInsn x { enc := encR 0x27 rd ra rb fn, regs := [rd, ra, rb], waite := true
              bad := decide (rd = 0) || decide (rd.toNat % 2 = 1) || decide (rb ≠ 0) || decide (fn ≠ 0) || (onCu && decide (ra ≠ 0)) }
    (fun c t => waiteDo c rd (wv (t.lreg c ra)).toNat t)
    (fun _ _ => .wait rd.toNat) s

end Sys2Proof.Machine
end

