-- ==== Sys2Proof/Machine/Switching.lean ====
section
/-!
DEFINITION. Context areas and carrel switching (spec/13_carrels.md R499 to R504; spec/04_yilfixa_instruction_reference.md
R171; spec/16_reset_power.md R586): the save, the load, the timetable switch and the switch by the librarian.
-/
namespace Sys2Proof.Machine

open Sys2Proof

/-! ### The context area (R499) -/

/-- Word i of a context area as a context fills it (R499). -/
def ctxWord (k : Ctx) (i : Nat) : Word :=
  let d := k.dk
  if i = 0 then immw 0
  else if i < 64 then spGet (fun _ => immw 0) k.l i
  else match i with
    | 64 => immw (k.pc.setWidth 64)
    | 65 => immw (d.mode.setWidth 64)
    | 66 => immw (d.tstat.setWidth 64)
    | 67 => immw (d.tpc.setWidth 64)
    | 68 => immw (d.tcause.setWidth 64)
    | 69 => immw d.taddr
    | 70 => immw (d.tvec.setWidth 64)
    | 71 => immw d.tscr
    | 72 => immw (if d.trapEn then 1 else 0)
    | 73 => immw d.nmask
    | 74 => immw (d.nlost.setWidth 64)
    | 75 => immw (d.fcsr.setWidth 64)
    | 76 => immw d.cycles
    | 77 => immw d.retired
    | 78 => immw k.gtc
    | _ => 0

/-- The address of a carrel's context area. -/
def ctxBase (c : Nat) (s : State) : Nat := 128 * s.get (R.CARREL_Cc_CTX c) F.CARREL_Cc_CTX_BASE
/-- The identities a core moves contexts with: its own master number, the librarian flag, carrel 0 (R499). -/
def ctxId (x : Nat) (w : Word) : Ident := { master := BitVec.ofNat 6 x, carrel := 0, lib := true, crit := pCrit (wp w) }

/-- A context is written to its area by core x (R499); a refused word is not written. -/
def ctxWrite (x : Nat) (k : Ctx) (s : State) : State :=
  let b := ctxBase k.carrel.toNat s
  (List.range 128).foldl (fun t i =>
    (fabric { kind := .write, addr := BitVec.ofNat 48 (b + i), id := ctxId x (ctxWord k i), data := ctxWord k i } t).2) s

/-- The words of carrel c's area as core x reads them; a refused word is a free value (assumption 2). -/
def ctxRead (x c : Nat) (s : State) : List Word × State :=
  let b := ctxBase c s
  (List.range 128).foldl (fun t i =>
    match fabric { kind := .read, addr := BitVec.ofNat 48 (b + i), id := ctxId x 0 } t.2 with
    | (.word w, u) => (t.1 ++ [w], u)
    | (_, u) =>
      let (v, u1) := u.drawFree 72
      (t.1 ++ [v], u1)) ([], s)

/-- The mode a saved D2 stands for: carrel 0 runs only as the librarian, and 0b10 is no mode, so a free one of the two
carrel modes is taken (R100; assumption 2). -/
def savedMode (c : Nat) (v : BitVec 2) (free : BitVec 1) : BitVec 2 :=
  if c = 0 then 0b11#2 else if v = 0b10#2 then 0#1 ++ free else v

/-- The context that an area's words give (R499); DK_NLOST and the queue's status stay the live ones. -/
def ctxOf (c : Nat) (ws : List Word) (free : BitVec 1) (live : Desk) : Ctx :=
  let v (i : Nat) : BitVec 64 := wv (ws.getD i 0)
  let ts := (v 66).setWidth 4
  let pm := tsPMode ts
  { carrel := BitVec.ofNat 9 c
    l := (List.range 63).foldl (fun l i => spPut (fun _ => immw 0) l (i + 1) (ws.getD (i + 1) 0)) []
    pc := (v 64).setWidth 49
    dk := {
      mode := savedMode c ((v 65).setWidth 2) free
      tstat := ts.extractLsb' 2 2 ++ (if 2 ≤ pm.toNat then 0#1 ++ free else pm)
      tpc := (v 67).setWidth 49
      tcause := (v 68).setWidth 44
      taddr := v 69
      tvec := (v 70).setWidth 49
      tscr := v 71
      trapEn := (v 72).getLsbD 0
      nmask := v 73
      nlost := live.nlost
      fcsr := (v 75).setWidth 7
      cycles := v 76
      retired := v 77 }
    gtc := v 78 }

/-- Core x loads carrel c's context from its area. -/
def ctxLoad (x c : Nat) (s : State) : Ctx × State :=
  let (ws, s1) := ctxRead x c s
  let (f, s2) := s1.drawFree 1
  (ctxOf c ws f (s.carrel c).dk, s2)

/-- The context of a carrel that has none (R102, R494): ENTRY in supervisor mode, desk registers at reset, and ledger
registers whose values no rule gives (assumption 2). -/
def ctxFresh (c : Nat) (s : State) : Ctx × State :=
  let (l, s1) := (List.range 63).foldl (fun (t : List (Nat × Word) × State) i =>
    let (v, u) := t.2.drawFree 72
    (spPut (fun _ => immw 0) t.1 (i + 1) v, u)) ([], s)
  ({ carrel := BitVec.ofNat 9 c, l := l, pc := BitVec.ofNat 49 (s.get (R.CARREL_Cc_ENTRY c) F.CARREL_Cc_ENTRY_PC)
     dk := { mode := savedMode c 0b01#2 0, nlost := (s.carrel c).dk.nlost } }, s1)

/-! ### In and out -/

/-- The outgoing context's write-back completes: the area is the carrel's checkpoint (R500). -/
def commitCtx (x : Nat) (s : State) : State :=
  match (s.core x).outgoing with
  | none => s
  | some k =>
    let s1 := ctxWrite x k (s.setCore x { s.core x with outgoing := none })
    s1.set (R.CARREL_Cc_STAT k.carrel.toNat) F.CARREL_Cc_STAT_FRESH 0

/-- The carrel of core x leaves it, its context saved with a resume point and a mode (R92, R500); one that is not ACTIVE
leaves without a save (R509). -/
def switchOut (x : Nat) (pc : BitVec 49) (mode : BitVec 2) (s : State) : State :=
  let k := s.core x
  let c := k.d1.toNat
  if !k.loaded then s
  else
    let s1 := commitCtx x s
    let y : Ctx := { carrel := k.d1, l := k.l, pc := pc, dk := { deskOf x s with mode := mode }, gtc := s.time.gtc }
    let save := decide (carState c s = 2)
    (s1.setCore x { s1.core x with
      loaded := false, idle := true, wait := none, outgoing := if save then some y else none }).set (R.CARREL_Cc_STAT c) F.CARREL_Cc_STAT_IN 0

/-- Carrel c enters core x: from the shadow, at its entry point, or from its checkpoint (R494, R500). -/
def switchIn (x c : Nat) (s : State) : State :=
  let (k, s1) : Ctx × State :=
    match (s.core x).shadow with
    | some y => if y.carrel.toNat = c then (y, s) else
        (if s.bit (R.CARREL_Cc_STAT c) F.CARREL_Cc_STAT_FRESH then ctxFresh c s else ctxLoad x c (commitCtx x s))
    | none =>
        (if s.bit (R.CARREL_Cc_STAT c) F.CARREL_Cc_STAT_FRESH then ctxFresh c s else ctxLoad x c (commitCtx x s))
  let s2 := s1.setCarrel c { s1.carrel c with dk := { k.dk with nlost := (s1.carrel c).dk.nlost } }
  (s2.setCore x { s2.core x with
    l := k.l, pc := k.pc, mode := k.dk.mode, d1 := k.carrel, almCap := none, wait := none, idle := false, shadow := none
    loaded := true }).set (R.CARREL_Cc_STAT c) F.CARREL_Cc_STAT_IN 1

/-! ### The timetable switch (R500 to R504, R586) -/

/-- Does another running list use the core of list k of pair p (R426, R504)? -/
def listElsewhere (p k : Nat) (s : State) : Bool :=
  (List.range 8).any fun q => decide (q ≠ p) && decide (ttRunner q k s = ttRunner p k s) && s.bit (ttCtl q k) F.CARREL_Pp_TTk_CTL_EN

/-- May core x switch now: its pair runs, the core stands at a commit boundary, and its window has ended? -/
def switchDue (x : Nat) (s : State) : Bool :=
  let k := s.core x
  let w := match k.wait with
    | some (.twin _ _) => false
    | _ => true
  !s.power.computeHeld && decide (s.power.parkStep = 0) && coreExists x s &&
  (decide (pairState (x / 2) s = 2) || (decide (pairState (x / 2) s = 5) && decide (x % 2 = 0))) && w && decide (k.wend ≤ s.now)

/-- A pair whose cores have all been switched out for DOZE sleeps (R586). -/
def pairSleep (p : Nat) (s : State) : State :=
  if pairState p s = 2 ∧ (s.core (2 * p)).loaded = false ∧ ((s.core (2 * p + 1)).loaded = false ∨ pairSplit p s = false) then
    setPairState p 7 s
  else s

/-- The switch at the end of a window of list k of pair p (R500, R502, R504, R586). -/
def windowSwitch (p k : Nat) (s : State) : State :=
  let x := ttCore p k s
  let c := s.core x
  let en := s.bit (ttCtl p k) F.CARREL_Pp_TTk_CTL_EN
  let out (t : State) : State := agreeNote x 1 (switchOut x c.pc c.mode t)
  let s0 := s.setCore x { c with heldSwitch := false }
  if !en && (listElsewhere p k s || (c.loaded && decide (c.wend = 0))) then s
  else if s.power.dozeReq then pairSleep (x / 2) (commitCtx x (out s0))
  else if !en then out s0
  else
    let (i, who, e) := ttWindow p k s.now s
    let s1 := s0.set (R.CARREL_Pp_TTk_STAT p k) F.CARREL_Pp_TTk_STAT_CUR i
    let s2 :=
      if c.loaded ∧ who = some c.d1.toNat then s1.setCore x { s1.core x with idle := false }
      else match who with
        | some n => switchIn x n (out s1)
        | none => let t := out s1; t.setCore x { t.core x with idle := true }
    s2.setCore x { s2.core x with wend := e }

/-- The end of a window: the switch, or its hold while the librarian handles a carrel's trap (R501). -/
def timetableSwitch (p k : Nat) (s : State) : State :=
  let x := ttCore p k s
  let c := s.core x
  if !switchDue x s then s
  else if c.mode = 0b11#2 ∧ c.d1 ≠ 0 ∧ c.loaded = true ∧ c.idle = false then
    (if c.heldSwitch then s
     else (s.setCore x { c with heldSwitch := true }).addSat (R.CARREL_Pp_TTk_STAT p k) F.CARREL_Pp_TTk_STAT_LATE 1)
  else windowSwitch p k s

/-- TIMETABLE_SWITCH (R500, R501). -/
def execTimetableSwitch (p : Fin 8) (k : Fin 2) (s : State) : Host.Outcome State Fault Refusal :=
  .next (timetableSwitch p.val k.val s)

/-- The list that core x runs, as its pair and number. -/
def listOfCore (x : Nat) (s : State) : Nat :=
  ((List.range 8).find? fun p => decide (ttRunner p (x % 2) s = x / 2) && s.bit (ttCtl p (x % 2)) F.CARREL_Pp_TTk_CTL_EN).getD (x / 2)

/-- A held switch is taken at the commit that leaves librarian mode (R501). -/
def heldSwitchTake (x : Nat) (s : State) : State :=
  if (s.core x).heldSwitch ∧ (s.core x).mode ≠ 0b11#2 then windowSwitch (listOfCore x s) (x % 2) s else s

/-- CONTEXT_PREFETCH (R500): within 2 µs of a window's end the next carrel's context is read into the shadow; one without a
context needs no read. -/
def execContextPrefetch (p : Fin 8) (k : Fin 2) (s : State) : Host.Outcome State Fault Refusal :=
  let x := ttCore p.val k.val s
  let c := s.core x
  let due := !s.power.computeHeld && coreExists x s && decide (pairState (x / 2) s = 2) && s.bit (ttCtl p.val k.val) F.CARREL_Pp_TTk_CTL_EN &&
    decide (s.now < c.wend) && decide (c.wend ≤ s.now + 2000)
  .next (if !due then s
    else match (ttWindow p.val k.val c.wend s).2.1 with
      | none => s
      | some n =>
        if (c.loaded ∧ c.d1.toNat = n) ∨ s.bit (R.CARREL_Cc_STAT n) F.CARREL_Cc_STAT_FRESH = true then s
        else
          let (y, s1) := ctxLoad x n (commitCtx x s)
          s1.setCore x { s1.core x with shadow := some y })

/-- CHECKPOINT_COMMIT (R500 step 4). -/
def execCheckpointCommit (x : Fin 16) (s : State) : Host.Outcome State Fault Refusal :=
  .next (if s.power.computeHeld then s else commitCtx x.val s)

/-! ### RETT and CSW into a carrel (R135, R171, R501) -/

/-- The librarian's return or switch names a carrel that is not ACTIVE: the core idles, and code 6 tells of it (R501). -/
def idleFor (x c : Nat) (s : State) : State :=
  let s1 := s.setCore x { s.core x with loaded := false, idle := true, wait := none }
  raiseLib (0x801 + 2 * c) 6 (s1.set (R.CARREL_Cc_STAT c) F.CARREL_Cc_STAT_IN 0)

/-- The TE of LK_TSTAT takes PTE (R135, R171). -/
def lkReturn (x : Nat) (s : State) : State :=
  let k := s.core x
  s.setCore x { k with lk := { k.lk with tstat := tsReturn k.lk.tstat } }

/-- The librarian switches core x to carrel c (R171, R501). -/
def csw (x c : Nat) (s : State) : State :=
  let k := s.core x
  if !boundToCore x c s then takeTrap x 0x0E rTARGET.toNat 0 (BitVec.ofNat 64 c) s
  else
    let s1 := commitTo x k.lk.tpc s
    let s2 := lkReturn x (switchOut x k.lk.tpc (tsPMode k.lk.tstat) s1)
    if carState c s ≠ 2 then idleFor x c s2
    else heldSwitchTake x (switchIn x c (s2.setCore x { s2.core x with shadow := none }))

/-- The librarian returns on core x (R135, R501). -/
def rettLib (x : Nat) (s : State) : State :=
  let k := s.core x
  let c := k.d1.toNat
  let m := tsPMode k.lk.tstat
  let s1 := lkReturn x (commitTo x k.lk.tpc s)
  if m ≠ 0b11#2 ∧ k.d1 ≠ 0 ∧ carState c s ≠ 2 then heldSwitchTake x (idleFor x c (setMode x m s1))
  else heldSwitchTake x (setMode x m s1)

/-- The supervisor returns on core x (R135). -/
def rettSup (x : Nat) (s : State) : State :=
  let d := deskOf x s
  let s1 := commitTo x d.tpc s
  let d1 := deskOf x s1
  setMode x (tsPMode d1.tstat) (setDesk x { d1 with tstat := tsReturn d1.tstat } s1)

end Sys2Proof.Machine
end

