-- ==== Sys2Proof/Machine/IsaSys.lean ====
section
/-!
DEFINITION. The SYS group (spec/04_yilfixa_instruction_reference.md R168, R169, R171; spec/03_yilfixa_programming_model.md
R104, R105, R117, R123, R124, R135).
-/
namespace Sys2Proof.Machine

open Sys2Proof

/-- A SYS instruction with the register fields it must leave L0 (R168); fn is hi and the operation's number. -/
def sysInsn (rd ra rb : Reg) (hi : BitVec 8) (n : Nat) (bad : Bool) : Insn :=
  { enc := encR 0x38 rd ra rb (hi ++ BitVec.ofNat 4 n), regs := [rd, ra, rb], bad := bad, onCu := false }
/-- Run a SYS instruction, which only an execution pair has. -/
def runSys (x : Exu) (i : Insn) (core : Nat → State → State) (s : State) : Host.Outcome State Fault Refusal :=
  runInsn x i core (fun _ _ => .fault 2) s

/-- DRD (R104, R168): a desk register's value with provenance 0xC0; PRIVILEGE comes before DESK (R131). -/
def execDrd (x : Exu) (rd ra rb : Reg) (hi : BitVec 8) (s : State) : Host.Outcome State Fault Refusal :=
  let i := sysInsn rd ra rb hi 0 (decide (ra ≠ 0 ∨ rb ≠ 0))
  runSys x i (fun c t =>
    match deskAccess hi.toNat (t.core c).mode with
    | none => takeTrap c 0x05 0 0 (hi.setWidth 64) t
    | some 0 => privilege c i t
    | some _ =>
      let (v, t1) := deskRead c hi.toNat t
      finishNext c (t1.setLreg c rd (immw v))) s

/-- A DWR of desk n on core c (R104, R168). -/
def dwr (c n : Nat) (i : Insn) (v : BitVec 64) (s : State) : State :=
  match deskAccess n (s.core c).mode with
  | none => takeTrap c 0x05 0 0 (BitVec.ofNat 64 n) s
  | some 0 => privilege c i s
  | some 1 => takeTrap c 0x05 0 0 (BitVec.ofNat 64 n) s
  | some _ => if deskBad n v then takeTrap c 0x05 0 0 (BitVec.ofNat 64 n) s else finishNext c (deskWrite c n v s)

/-- DWR (R104, R168). -/
def execDwr (x : Exu) (rd ra rb : Reg) (hi : BitVec 8) (s : State) : Host.Outcome State Fault Refusal :=
  let i := sysInsn rd ra rb hi 1 (decide (rd ≠ 0 ∨ rb ≠ 0))
  runSys x i (fun c t => dwr c hi.toNat i (wv (t.lreg c ra)) t) s

/-- TLB_FLUSH (R117): the DWR to LK_TLBFL, D49. -/
def execTlbFlush (x : Exu) (ra : Reg) (s : State) : Host.Outcome State Fault Refusal :=
  let i := sysInsn 0 ra 0 49 1 false
  runSys x i (fun c t => dwr c 49 i (wv (t.lreg c ra)) t) s

/-- Whether an MBX of core c is the librarian's, its carrel and its slot (R169). -/
def mbxSelect (c : Nat) (b : Word) (s : State) : Bool × Nat × Nat :=
  let lib := isLib c s
  (lib, if lib then wf b 9 9 else (s.core c).d1.toNat, wf b 0 3)
/-- An MBX the desk refuses (R169, R505): STORE_ERROR with reason TARGET. -/
def mbxError (c : Nat) (b : Word) (s : State) : State := takeTrap c 0x0E rTARGET.toNat 0 (wv b) s

/-- MBX.PUT (R168, R169, R506). -/
def execMbxPut (x : Exu) (rd ra rb : Reg) (hi : BitVec 8) (s : State) : Host.Outcome State Fault Refusal :=
  let i := sysInsn rd ra rb hi 2 (decide (rd ≠ 0 ∨ hi ≠ 0))
  runSys x i (fun c t =>
    let (lib, n, k) := mbxSelect c (t.lreg c rb) t
    if (t.core c).mode = 0b00#2 then privilege c i t
    else match deskPut n lib k (wClamp (coreCeil c t) (t.lreg c ra)) t with
      | some t1 => finishNext c t1
      | none => mbxError c (t.lreg c rb) t) s

/-- MBX.GET (R168, R169, R506). -/
def execMbxGet (x : Exu) (rd ra rb : Reg) (hi : BitVec 8) (s : State) : Host.Outcome State Fault Refusal :=
  let i := sysInsn rd ra rb hi 3 (decide (ra ≠ 0 ∨ hi ≠ 0))
  runSys x i (fun c t =>
    let (lib, n, k) := mbxSelect c (t.lreg c rb) t
    if (t.core c).mode = 0b00#2 then privilege c i t
    else match deskGet n lib k t with
      | some w => finishNext c (t.setLreg c rd w)
      | none => mbxError c (t.lreg c rb) t) s

/-- MBX.RING (R168, R169, R506, R507). -/
def execMbxRing (x : Exu) (rd ra rb : Reg) (hi : BitVec 8) (s : State) : Host.Outcome State Fault Refusal :=
  let i := sysInsn rd ra rb hi 4 (decide (rd ≠ 0 ∨ ra ≠ 0 ∨ hi ≠ 0))
  runSys x i (fun c t =>
    let (lib, n, _) := mbxSelect c (t.lreg c rb) t
    if (t.core c).mode = 0b00#2 then privilege c i t
    else match deskRing n lib t with
      | some t1 => finishNext c t1
      | none => mbxError c (t.lreg c rb) t) s

/-- CSW (R168, R171, R501). -/
def execCsw (x : Exu) (rd ra rb : Reg) (hi : BitVec 8) (s : State) : Host.Outcome State Fault Refusal :=
  let i := sysInsn rd ra rb hi 5 (decide (rd ≠ 0 ∨ rb ≠ 0 ∨ hi ≠ 0))
  runSys x i (fun c t =>
    if !isLib c t then privilege c i t else csw c (wf (t.lreg c ra) 0 9) t) s

/-- FENCE (R123): every earlier access of the core has completed in its own step, so it only commits. -/
def execFence (x : Exu) (rd ra rb : Reg) (hi : BitVec 8) (s : State) : Host.Outcome State Fault Refusal :=
  runSys x (sysInsn rd ra rb hi 6 (decide (rd ≠ 0 ∨ ra ≠ 0 ∨ rb ≠ 0 ∨ hi ≠ 0))) (fun c t => finishNext c t) s

/-- SYNC (R124): no instruction is fetched ahead of its step, so it only commits. -/
def execSync (x : Exu) (rd ra rb : Reg) (hi : BitVec 8) (s : State) : Host.Outcome State Fault Refusal :=
  runSys x (sysInsn rd ra rb hi 7 (decide (rd ≠ 0 ∨ ra ≠ 0 ∨ rb ≠ 0 ∨ hi ≠ 0))) (fun c t => finishNext c t) s

/-- RETT (R101, R135, R168). -/
def execRett (x : Exu) (rd ra rb : Reg) (hi : BitVec 8) (s : State) : Host.Outcome State Fault Refusal :=
  let i := sysInsn rd ra rb hi 8 (decide (rd ≠ 0 ∨ ra ≠ 0 ∨ rb ≠ 0 ∨ hi ≠ 0))
  runSys x i (fun c t =>
    if (t.core c).mode = 0b00#2 then privilege c i t
    else if isLib c t then rettLib c t
    else rettSup c t) s

end Sys2Proof.Machine
end

