-- ==== Sys2Proof/Machine/RegCmds.lean ====
section
/-!
DEFINITION. The rows of the table that are writes of one register (R6, R7): each is a WRITE transaction with the writer's
identity (R38), to the row's register, with the row's field set. A refused one answers its error and changes what its
refusal changes (R7, R483).
-/
namespace Sys2Proof.Machine

open Sys2Proof

/-- The bits of a register that a write keeps when it carries what the register reads: those of RW and WONCE fields. -/
def RSpec.kept (r : RSpec) : BitVec 64 :=
  r.fields.foldl (fun m f => match f.acc with | .rw | .wonce => m ||| fmask f.fld | _ => m) 0#64
/-- The word that leaves a register as it is: its RW and WONCE fields as they stand. -/
def wkeep (a : Nat) (s : State) : BitVec 64 :=
  match regAt a with
  | some r => s.reg a &&& r.kept
  | none => 0#64

/-- REGISTER_WRITE (R7): a WRITE of any register; data words carry 72 bits. -/
def execRegisterWrite (id : Ident) (a : BitVec 48) (w : Word) (s : State) : Host.Outcome State Fault Refusal :=
  .next (outside { kind := .write, addr := a, id := id, data := w } s)
/-- CATALOGUE_MEMORY_WRITE (R181, R183): a WRITE of catalogue memory or of the slip store. -/
def execCatalogueMemoryWrite (id : Ident) (a : BitVec 48) (w : Word) (s : State) : Host.Outcome State Fault Refusal :=
  .next (match regionOf a.toNat with
    | .catMem | .slips => outside { kind := .write, addr := a, id := id, data := w } s
    | _ => s)
/-- TRIGGER_CTL_WRITE (R84): a write of one of the registers of time-trigger slot n. -/
def execTriggerCtlWrite (id : Ident) (n : Fin 64) (k : Fin 16) (w : BitVec 64) (s : State) : Host.Outcome State Fault Refusal :=
  regWriteTxn id (R.TIME_TRGn_CTL n.val + k.val) w s
/-- MAP_WRITE (R564): `answer` is the twin's, asked while the link is up. -/
def execMapWrite (id : Ident) (a : BitVec 48) (w : BitVec 64) (answer : Bool) (s : State) : Host.Outcome State Fault Refusal :=
  let t : Txn := { kind := .write, addr := a, id := id, data := immw w }
  .next (if !isMapReg a.toNat then s
    else match accessCheck t s with
      | some e => let (r, s1) := refuse t e s
                  { s1 with resp := r }
      | none =>
        let refused := match regAt a.toNat with | some r => r.refuses (s.reg a.toNat) w | none => true
        match (if refused then (.err rTARGET, s) else mapWrite a.toNat w answer s) with
        | (.err e, s1) => { logRefusal t e s1 with resp := .err e }
        | (r, s1) => { s1 with resp := r })

/-- Where a channel's command comes from (R362): the oldest slip command of the reflex queue, or a write of LOAD_CHc_CMD
by software or, with master 29, by the twin. -/
def reflexServe (s : State) : State :=
  match s.load.reflex with
  | [] => s
  | x :: _ =>
    if x.at_ + 128 < s.now then raiseFree 0x453 [0] (reflexStep (s.flag R.CAT_REFLEX_STAT F.CAT_REFLEX_STAT_LATE))
    else reflexStep s
/-- CHANNEL_COMMAND (R240, R362, R364). -/
def execChannelCommand (src : CmdSrc) (s : State) : Host.Outcome State Fault Refusal :=
  match src with
  | .slip => .next (reflexServe s)
  | .write id c w => regWriteTxn id (R.LOAD_CHc_CMD c.val) w s

/-- SYS_FAULT_CTL_WRITE (R51). -/
def execSysFaultCtlWrite (id : Ident) (w : BitVec 64) (s : State) : Host.Outcome State Fault Refusal :=
  regWriteTxn id R.SYS_FAULT_CTL w s
/-- ALMANAC_STEP (R73). -/
def execAlmanacStep (id : Ident) (w : BitVec 64) (s : State) : Host.Outcome State Fault Refusal :=
  regWriteTxn id R.TIME_ALM_STEP w s
/-- TIME_LATE_CLR (R89). -/
def execTimeLateClr (id : Ident) (s : State) : Host.Outcome State Fault Refusal :=
  regWriteTxn id R.TIME_LATE_CNT (fput 0#64 F.TIME_LATE_CNT_CLR 1) s
/-- CATALOGUER_START (R221). -/
def execCataloguerStart (id : Ident) (n : Fin 64) (w : BitVec 64) (s : State) : Host.Outcome State Fault Refusal :=
  regWriteTxn id (R.CATG_CUn_CTL n.val) (fput w F.CATG_CUn_CTL_RUN 1) s
/-- CATALOGUER_STOP (R221). -/
def execCataloguerStop (id : Ident) (n : Fin 64) (s : State) : Host.Outcome State Fault Refusal :=
  regWriteTxn id (R.CATG_CUn_CTL n.val) (fput (wkeep (R.CATG_CUn_CTL n.val) s) F.CATG_CUn_CTL_RUN 0) s
/-- CAT_CNT_CLR (R246). -/
def execCatCntClr (id : Ident) (s : State) : Host.Outcome State Fault Refusal :=
  regWriteTxn id R.CAT_CNT_CLR (fput 0#64 F.CAT_CNT_CLR_CLR 1) s
/-- COLLATION_START (R232). -/
def execCollationStart (id : Ident) (u : Fin 16) (w : BitVec 64) (s : State) : Host.Outcome State Fault Refusal :=
  regWriteTxn id (R.COLL_Un_CTL u.val) (fput w F.COLL_Un_CTL_START 1) s
/-- COLLATION_STOP (R233). -/
def execCollationStop (id : Ident) (u : Fin 16) (s : State) : Host.Outcome State Fault Refusal :=
  regWriteTxn id (R.COLL_Un_CTL u.val) (fput (wkeep (R.COLL_Un_CTL u.val) s) F.COLL_Un_CTL_STOP 1) s
/-- GATE_CHANGE_REQUEST (R268). -/
def execGateChangeRequest (id : Ident) (p : Fin 24) (w : BitVec 64) (s : State) : Host.Outcome State Fault Refusal :=
  regWriteTxn id (R.ETH_Pp_GCTL p.val) (fput w F.ETH_Pp_GCTL_CHANGE 1) s
/-- PORT_ENABLE (R273). -/
def execPortEnable (id : Ident) (p : Fin 24) (w : BitVec 64) (s : State) : Host.Outcome State Fault Refusal :=
  regWriteTxn id (R.ETH_Pp_CTL p.val) (fput w F.ETH_Pp_CTL_EN 1) s
/-- PORT_DISABLE (R273). -/
def execPortDisable (id : Ident) (p : Fin 24) (w : BitVec 64) (s : State) : Host.Outcome State Fault Refusal :=
  regWriteTxn id (R.ETH_Pp_CTL p.val) (fput w F.ETH_Pp_CTL_EN 0) s
/-- FDB_WRITE (R261). -/
def execFdbWrite (id : Ident) (i : BitVec 16) (s : State) : Host.Outcome State Fault Refusal :=
  regWriteTxn id R.CIRC_FDB_CMD (fput (fput 0#64 F.CIRC_FDB_CMD_INDEX i.toNat) F.CIRC_FDB_CMD_WRITE 1) s
/-- FDB_READ (R261). -/
def execFdbRead (id : Ident) (i : BitVec 16) (s : State) : Host.Outcome State Fault Refusal :=
  regWriteTxn id R.CIRC_FDB_CMD (fput (fput 0#64 F.CIRC_FDB_CMD_INDEX i.toNat) F.CIRC_FDB_CMD_READ 1) s
/-- RING_TAIL_WRITE (R286). -/
def execRingTailWrite (id : Ident) (r : Fin 64) (tail : BitVec 16) (s : State) : Host.Outcome State Fault Refusal :=
  regWriteTxn id (R.CIRC_RINGr_TAIL r.val) (fput 0#64 F.CIRC_RINGr_TAIL_TAIL tail.toNat) s
/-- MDIO_START (R290). -/
def execMdioStart (id : Ident) (n : Fin 2) (w : BitVec 64) (s : State) : Host.Outcome State Fault Refusal :=
  regWriteTxn id (R.ETH_MDIOn_CMD n.val) (fput w F.ETH_MDIOn_CMD_START 1) s
/-- ETH_CNTCLR (R290). -/
def execEthCntclr (id : Ident) (p : Fin 24) (s : State) : Host.Outcome State Fault Refusal :=
  regWriteTxn id (R.ETH_Pp_CNTCLR p.val) (fput 0#64 F.ETH_Pp_CNTCLR_CLR 1) s
/-- MACSEC_CNTCLR (R291). -/
def execMacsecCntclr (id : Ident) (u : Fin 4) (s : State) : Host.Outcome State Fault Refusal :=
  regWriteTxn id (R.MACSEC_Iu_CNTCLR u.val) (fput 0#64 F.MACSEC_Iu_CNTCLR_CLR 1) s
/-- CAN_CTL_WRITE (R296). -/
def execCanCtlWrite (id : Ident) (n : Fin 16) (w : BitVec 64) (s : State) : Host.Outcome State Fault Refusal :=
  regWriteTxn id (R.CANn_CTL n.val) w s
/-- CAN_DISABLE (R651). -/
def execCanDisable (id : Ident) (n : Fin 16) (w : BitVec 64) (s : State) : Host.Outcome State Fault Refusal :=
  regWriteTxn id (R.CANn_CTL n.val) (fput w F.CANn_CTL_EN 0) s
/-- BUS_OFF_RESTART (R315). -/
def execBusOffRestart (id : Ident) (n : Fin 16) (s : State) : Host.Outcome State Fault Refusal :=
  regWriteTxn id (R.CANn_BORST n.val) (fput 0#64 F.CANn_BORST_RESTART 1) s
/-- NOACK_RESUME (R316). -/
def execNoackResume (id : Ident) (n : Fin 16) (s : State) : Host.Outcome State Fault Refusal :=
  regWriteTxn id (R.CANn_BORST n.val) (fput 0#64 F.CANn_BORST_RESUME 1) s
/-- TX_REQUEST (R309): by software; a template copy sets it inside its own command. -/
def execTxRequest (id : Ident) (n : Fin 16) (b : BitVec 8) (s : State) : Host.Outcome State Fault Refusal :=
  regWriteTxn id (R.CANn_MBb_STAT n.val b.toNat) (fput 0#64 F.CANn_MBb_STAT_TXREQ 1) s
/-- CAN_ABORT (R310). -/
def execCanAbort (id : Ident) (n : Fin 16) (b : BitVec 8) (s : State) : Host.Outcome State Fault Refusal :=
  regWriteTxn id (R.CANn_MBb_STAT n.val b.toNat) (fput 0#64 F.CANn_MBb_STAT_ABORT 1) s
/-- MB_DISABLE (R303). -/
def execMbDisable (id : Ident) (n : Fin 16) (b : BitVec 8) (s : State) : Host.Outcome State Fault Refusal :=
  regWriteTxn id (R.CANn_MBb_CFG n.val b.toNat) (fput (wkeep (R.CANn_MBb_CFG n.val b.toNat) s) F.CANn_MBb_CFG_EN 0) s
/-- CAN_CNTCLR (R332). -/
def execCanCntclr (id : Ident) (n : Fin 16) (s : State) : Host.Outcome State Fault Refusal :=
  regWriteTxn id (R.CANn_CNTCLR n.val) (fput 0#64 F.CANn_CNTCLR_CLR 1) s
/-- LIN_SCHEDULE_RUN (R323). -/
def execLinScheduleRun (id : Ident) (m : Fin 8) (w : BitVec 64) (s : State) : Host.Outcome State Fault Refusal :=
  regWriteTxn id (R.LINm_SCHED m.val) (fput w F.LINm_SCHED_RUN 1) s
/-- LIN_SWITCH (R323). -/
def execLinSwitch (id : Ident) (m : Fin 8) (w : BitVec 64) (s : State) : Host.Outcome State Fault Refusal :=
  regWriteTxn id (R.LINm_SCHED m.val) (fput w F.LINm_SCHED_SWITCH 1) s
/-- LIN_CNTCLR (R334). -/
def execLinCntclr (id : Ident) (m : Fin 8) (s : State) : Host.Outcome State Fault Refusal :=
  regWriteTxn id (R.LINm_CNTCLR m.val) (fput 0#64 F.LINm_CNTCLR_CLR 1) s
/-- WING_ENABLE (R336). -/
def execWingEnable (id : Ident) (g : Fin 16) (w : BitVec 64) (s : State) : Host.Outcome State Fault Refusal :=
  regWriteTxn id (R.NM_WINGw_CFG g.val) (fput w F.NM_WINGw_CFG_EN 1) s
/-- WING_DISABLE (R338). -/
def execWingDisable (id : Ident) (g : Fin 16) (w : BitVec 64) (s : State) : Host.Outcome State Fault Refusal :=
  regWriteTxn id (R.NM_WINGw_CFG g.val) (fput w F.NM_WINGw_CFG_EN 0) s
/-- WING_READY (R338). -/
def execWingReady (id : Ident) (g : Fin 16) (ready : Bool) (s : State) : Host.Outcome State Fault Refusal :=
  regWriteTxn id (R.NM_WINGw_CTL g.val) (fput 0#64 F.NM_WINGw_CTL_READY (if ready then 1 else 0)) s
/-- WING_WAKE_WRITE (R349). -/
def execWingWakeWrite (id : Ident) (g : Fin 16) (s : State) : Host.Outcome State Fault Refusal :=
  regWriteTxn id (R.NM_WINGw_CTL g.val) (fput (wkeep (R.NM_WINGw_CTL g.val) s) F.NM_WINGw_CTL_WAKE 1) s
/-- NM_CNTCLR (R357). -/
def execNmCntclr (id : Ident) (s : State) : Host.Outcome State Fault Refusal :=
  regWriteTxn id R.NM_CNTCLR (fput 0#64 F.NM_CNTCLR_CLR 1) s
/-- REARM (R384). -/
def execRearm (id : Ident) (c : Fin 32) (s : State) : Host.Outcome State Fault Refusal :=
  regWriteTxn id (R.LOAD_CHc_TRIP c.val) (fput 0#64 F.LOAD_CHc_TRIP_REARM 1) s
/-- LOAD_CNTCLR (R401). -/
def execLoadCntclr (id : Ident) (c : Fin 32) (s : State) : Host.Outcome State Fault Refusal :=
  regWriteTxn id (R.LOAD_CHc_CNTCLR c.val) (fput 0#64 F.LOAD_CHc_CNTCLR_CLR 1) s
/-- RESERVE_DESIGNATE (R424). -/
def execReserveDesignate (id : Ident) (w : BitVec 64) (s : State) : Host.Outcome State Fault Refusal :=
  regWriteTxn id R.EXEC_RESERVE w s
/-- PAIR_RELEASE (R432). -/
def execPairRelease (id : Ident) (p : Fin 8) (s : State) : Host.Outcome State Fault Refusal :=
  regWriteTxn id (R.EXEC_Pp_CTL p.val) (fput (wkeep (R.EXEC_Pp_CTL p.val) s) F.EXEC_Pp_CTL_RELEASE 1) s
/-- PAIR_RESET (R432). -/
def execPairReset (id : Ident) (p : Fin 8) (s : State) : Host.Outcome State Fault Refusal :=
  regWriteTxn id (R.EXEC_Pp_CTL p.val) (fput (wkeep (R.EXEC_Pp_CTL p.val) s) F.EXEC_Pp_CTL_RESET 1) s
/-- CORE_MULT_WRITE (R583). -/
def execCoreMultWrite (id : Ident) (w : BitVec 64) (s : State) : Host.Outcome State Fault Refusal :=
  regWriteTxn id R.SYS_CLK_CTL w s
/-- RANGE_FILL_START (R445). -/
def execRangeFillStart (id : Ident) (w : BitVec 64) (s : State) : Host.Outcome State Fault Refusal :=
  regWriteTxn id R.STK_FILL (fput w F.STK_FILL_START 1) s
/-- PAGE_TEST_START (R445). -/
def execPageTestStart (id : Ident) (w : BitVec 64) (s : State) : Host.Outcome State Fault Refusal :=
  regWriteTxn id R.STK_FILL (fput w F.STK_FILL_TEST 1) s
/-- BANK_RESTORE (R450). -/
def execBankRestore (id : Ident) (b : Fin 32) (s : State) : Host.Outcome State Fault Refusal :=
  regWriteTxn id R.STK_BANKWD (wkeep R.STK_BANKWD s &&& ~~~(1#64 <<< b.val)) s
/-- STK_CECLR (R466). -/
def execStkCeclr (id : Ident) (s : State) : Host.Outcome State Fault Refusal :=
  regWriteTxn id R.STK_CECLR (fput 0#64 F.STK_CECLR_CLR 1) s
/-- ARCH_PUT (R453). -/
def execArchPut (id : Ident) (w : BitVec 64) (s : State) : Host.Outcome State Fault Refusal :=
  regWriteTxn id R.ARCH_PUT w s
/-- ARCH_CLR (R467). -/
def execArchClr (id : Ident) (s : State) : Host.Outcome State Fault Refusal :=
  regWriteTxn id R.ARCH_CLR (fput 0#64 F.ARCH_CLR_CLR 1) s
/-- ARCH_RET_CLR (R467). -/
def execArchRetClr (id : Ident) (s : State) : Host.Outcome State Fault Refusal :=
  regWriteTxn id R.ARCH_CLR (fput 0#64 F.ARCH_CLR_RET_CLR 1) s
/-- XSPI_COMMAND (R463). -/
def execXspiCommand (id : Ident) (w : BitVec 64) (s : State) : Host.Outcome State Fault Refusal :=
  regWriteTxn id R.STK_XSPI_CMD (fput w F.STK_XSPI_CMD_START 1) s
/-- XSPI_COPY (R464). -/
def execXspiCopy (id : Ident) (w : BitVec 64) (s : State) : Host.Outcome State Fault Refusal :=
  regWriteTxn id R.STK_XSPI_COPY (fput w F.STK_XSPI_COPY_START 1) s
/-- PERMIT_WRITE (R476). -/
def execPermitWrite (id : Ident) (a : BitVec 48) (w : BitVec 64) (s : State) : Host.Outcome State Fault Refusal :=
  regWriteTxn id a.toNat w s
/-- OWNERSHIP_WRITE (R479). -/
def execOwnershipWrite (id : Ident) (a : BitVec 48) (w : BitVec 64) (s : State) : Host.Outcome State Fault Refusal :=
  regWriteTxn id a.toNat w s
/-- PERM_LOG_CLR (R491). -/
def execPermLogClr (id : Ident) (s : State) : Host.Outcome State Fault Refusal :=
  regWriteTxn id R.PERM_LOG_CLR (fput 0#64 F.PERM_LOG_CLR_CLR 1) s
/-- TWIN_BR_LOGCLR (R492). -/
def execTwinBrLogclr (id : Ident) (s : State) : Host.Outcome State Fault Refusal :=
  regWriteTxn id R.TWIN_BR_LOGCLR (fput 0#64 F.TWIN_BR_LOGCLR_CLR 1) s
/-- CARREL_CONFIGURE (R496). -/
def execCarrelConfigure (id : Ident) (c : BitVec 9) (w : BitVec 64) (s : State) : Host.Outcome State Fault Refusal :=
  regWriteTxn id (R.CARREL_Cc_CFG c.toNat) w s
/-- CARREL_START (R495). -/
def execCarrelStart (id : Ident) (c : BitVec 9) (s : State) : Host.Outcome State Fault Refusal :=
  regWriteTxn id (R.CARREL_Cc_CTL c.toNat) (fput 0#64 F.CARREL_Cc_CTL_START 1) s
/-- CARREL_RESET (R509). -/
def execCarrelReset (id : Ident) (c : BitVec 9) (s : State) : Host.Outcome State Fault Refusal :=
  regWriteTxn id (R.CARREL_Cc_CTL c.toNat) (fput 0#64 F.CARREL_Cc_CTL_RESET 1) s
/-- TIMETABLE_ENABLE (R503). -/
def execTimetableEnable (id : Ident) (p : Fin 8) (k : Fin 2) (w : BitVec 64) (s : State) : Host.Outcome State Fault Refusal :=
  regWriteTxn id (R.CARREL_Pp_TTk_CTL p.val k.val) (fput w F.CARREL_Pp_TTk_CTL_EN 1) s
/-- TIMETABLE_CHANGE (R503). -/
def execTimetableChange (id : Ident) (p : Fin 8) (k : Fin 2) (w : BitVec 64) (s : State) : Host.Outcome State Fault Refusal :=
  regWriteTxn id (R.CARREL_Pp_TTk_NEXT p.val k.val) (fput w F.CARREL_Pp_TTk_NEXT_CHANGE 1) s
/-- SESSION_ENABLE (R512). -/
def execSessionEnable (id : Ident) (c : BitVec 9) (w : BitVec 64) (s : State) : Host.Outcome State Fault Refusal :=
  regWriteTxn id (R.CARREL_Cc_SES_CTL c.toNat) (fput w F.CARREL_Cc_SES_CTL_EN 1) s
/-- CARREL_RC_CNTCLR (R516). -/
def execCarrelRcCntclr (id : Ident) (s : State) : Host.Outcome State Fault Refusal :=
  regWriteTxn id R.CARREL_RC_CNTCLR (fput 0#64 F.CARREL_RC_CNTCLR_CLR 1) s
/-- VAULT_ABORT (R534). -/
def execVaultAbort (id : Ident) (q : Fin 16) (s : State) : Host.Outcome State Fault Refusal :=
  regWriteTxn id (R.VAULT_Qq_CTL q.val) (fput 0#64 F.VAULT_Qq_CTL_ABORT 1) s
/-- PEER_WAKE (R579). -/
def execPeerWake (id : Ident) (s : State) : Host.Outcome State Fault Refusal :=
  regWriteTxn id R.TWIN_CTL (fput (wkeep R.TWIN_CTL s) F.TWIN_CTL_PEER_WAKE 1) s
/-- TWIN_CNTCLR (R580). -/
def execTwinCntclr (id : Ident) (s : State) : Host.Outcome State Fault Refusal :=
  regWriteTxn id R.TWIN_CNTCLR (fput 0#64 F.TWIN_CNTCLR_CLR 1) s
/-- DOZE_REQUEST (R586). -/
def execDozeRequest (id : Ident) (s : State) : Host.Outcome State Fault Refusal :=
  regWriteTxn id R.SYS_PWR_CTL (fput 0#64 F.SYS_PWR_CTL_REQ 1) s
/-- PARK_REQUEST (R590). -/
def execParkRequest (id : Ident) (s : State) : Host.Outcome State Fault Refusal :=
  regWriteTxn id R.SYS_PWR_CTL (fput 0#64 F.SYS_PWR_CTL_REQ 2) s
/-- GPIO_SET (R625). -/
def execGpioSet (id : Ident) (b : Fin 6) (w : BitVec 64) (s : State) : Host.Outcome State Fault Refusal :=
  regWriteTxn id (R.IOC_GPIOBb_SET b.val) w s
/-- GPIO_CLR (R625). -/
def execGpioClr (id : Ident) (b : Fin 6) (w : BitVec 64) (s : State) : Host.Outcome State Fault Refusal :=
  regWriteTxn id (R.IOC_GPIOBb_CLR b.val) w s
/-- ADC_START (R623). -/
def execAdcStart (id : Ident) (g : Fin 16) (w : BitVec 64) (s : State) : Host.Outcome State Fault Refusal :=
  regWriteTxn id (R.IOC_ADCg_CFG g.val) (fput w F.IOC_ADCg_CFG_START 1) s

end Sys2Proof.Machine
end

