-- ==== Sys2Proof/Machine/SwitchCmd.lean ====
section
/-!
DEFINITION. Frames in and out of the circulation switch (spec/06_circulation_switch.md R259, R265, R267, R269, R285 to
R288), with the DMA rings' transfers, and the work of the collation units (spec/05_signal_catalogue.md R231 to R233).
-/
namespace Sys2Proof.Machine

open Sys2Proof

/-! ### Transfers of an engine (R40, R128, R474) -/

/-- A word an engine reads for a carrel; a refused one is a free value (assumption 2). -/
def engineWord (master owner a : Nat) (s : State) : Word × State :=
  match fabric { kind := .read, addr := BitVec.ofNat 48 a, id := engineId master owner s } s with
  | (.word w, s1) => (w, s1)
  | (_, s1) => s1.drawFree 72
/-- A word an engine writes for a carrel; a refused one is not written. -/
def enginePut (master owner a : Nat) (w : Word) (s : State) : State :=
  (fabric { kind := .write, addr := BitVec.ofNat 48 a, id := engineId master owner s, data := w } s).2

/-- Octets an engine reads from consecutive words, nine or eight a word. -/
def engineOctets (master owner : Nat) (lay8 : Bool) : Nat → Nat → State → Octets × State
  | 0, _, s => ([], s)
  | n + 1, a, s =>
    let (w, s1) := engineWord master owner a s
    let (xs, s2) := engineOctets master owner lay8 n (a + 1) s1
    ((wordOctets w).drop (if lay8 then 1 else 0) ++ xs, s2)

/-- Words that hold some octets. -/
def wordsFor (lay8 : Bool) (n : Nat) : Nat := if lay8 then (n + 7) / 8 else (n + 8) / 9

/-- Octets an engine writes to consecutive words; what fills up the last word no rule gives (assumption 2). -/
def engineFill (master owner : Nat) (lay8 : Bool) : Nat → Octets → Nat → State → State
  | 0, _, _, s => s
  | n + 1, xs, a, s =>
    let per := if lay8 then 8 else 9
    let (f, s1) := if xs.length < per then s.drawFree 72 else (0, s)
    let w := packWord per (xs.take per ++ (wordOctets f).drop (xs.length + 9 - per))
    engineFill master owner lay8 n (xs.drop per) (a + 1) (enginePut master owner a w s1)

/-! ### DMA rings (R285 to R288) -/

/-- Number of descriptors of a ring. -/
def ringSize (r : Nat) (s : State) : Nat := 2 ^ (s.get (R.CIRC_RINGr_BASE r) F.CIRC_RINGr_BASE_SIZE + 3)
/-- The address of the descriptor at HEAD. -/
def ringDesc (r : Nat) (s : State) : Nat :=
  s.get (R.CIRC_RINGr_BASE r) F.CIRC_RINGr_BASE_BASE + 4 * s.get (R.CIRC_RINGr_HEAD r) F.CIRC_RINGr_HEAD_HEAD
/-- The owner whose carrel number a ring's transfers carry. -/
def ringOwner (r : Nat) (s : State) : Nat := ownerOf (R.CIRC_RINGr_OWN r) s
/-- Has the ring a descriptor to work on, in a direction: EN, HEAD before TAIL, its owner not in carrel reset? -/
def ringHas (r dir : Nat) (s : State) : Bool :=
  let c := R.CIRC_RINGr_CTL r
  s.bit c F.CIRC_RINGr_CTL_EN && decide (s.get c F.CIRC_RINGr_CTL_DIR = dir) && !ownerAbsent (R.CIRC_RINGr_OWN r) s &&
  decide (s.get (R.CIRC_RINGr_HEAD r) F.CIRC_RINGr_HEAD_HEAD ≠ s.get (R.CIRC_RINGr_TAIL r) F.CIRC_RINGr_TAIL_TAIL)

/-- The descriptor at HEAD completes: DONE, HEAD, and the owner's notice (R286). -/
def ringComplete (r : Nat) (w0 : Word) (s : State) : State :=
  let h := (s.get (R.CIRC_RINGr_HEAD r) F.CIRC_RINGr_HEAD_HEAD + 1) % ringSize r s
  let q := 14 + s.get (R.CIRC_RINGr_CTL r) F.CIRC_RINGr_CTL_PORTIDX
  let s1 := (enginePut 24 (ringOwner r s) (ringDesc r s) (w0 ||| (1#72 <<< 63)) s).set (R.CIRC_RINGr_HEAD r) F.CIRC_RINGr_HEAD_HEAD h
  if w0.getLsbD 61 && s.bit (R.CIRC_RINGr_CTL r) F.CIRC_RINGr_CTL_NOTIFY_EN then
    raiseOwner (0x300 + 8 * q + 4) (immw (BitVec.ofNat 64 (r + h * 2 ^ 16))) (R.CIRC_RINGr_OWN r) s1
  else s1

/-- A frame that leaves at a DMA port is placed in a ring (R286, R287). -/
def ringReceive (r : Nat) (c : Copy) (bad : Bool) (s : State) : State :=
  if !ringHas r 1 s then s.addSat (R.CIRC_RINGr_STAT r) F.CIRC_RINGr_STAT_DROPS 1
  else
    let o := ringOwner r s
    let d := ringDesc r s
    let (w0, s1) := engineWord 24 o d s
    let cap := wf w0 48 12
    let lay8 := w0.getLsbD 60
    let x := c.data.take cap
    let s2 := engineFill 24 o lay8 (wordsFor lay8 x.length) x (wf w0 0 48) s1
    let bit (b : Bool) (n : Nat) : Nat := if b then 2 ^ n else 0
    let w1 := c.data.length * 2 ^ 29 + bit bad 41 + bit (decide (cap < c.data.length)) 42 + c.inp * 2 ^ 43 +
      c.stream.getD 0 * 2 ^ 48 + bit c.stream.isSome 60
    let s3 := enginePut 24 o (d + 1) (immw (BitVec.ofNat 64 w1)) s2
    let s4 := enginePut 24 o (d + 2) (immw (BitVec.ofNat 64 c.gtc)) s3
    ringComplete r w0 (enginePut 24 o (d + 3) (immw (BitVec.ofNat 64 (c.almNs + c.almSec % 2 ^ 34 * 2 ^ 30))) s4)

/-- The ring of a copy at DMA port d: that of its stream, else of the port; a link-local frame's is its ingress port's
(R287). -/
def ringFor (d : Nat) (c : Copy) (s : State) : Option Nat :=
  let own (p : Nat) : Option Nat :=
    let ctl := R.ETH_Pp_CTL p
    if s.bit ctl F.ETH_Pp_CTL_RINGV then some (s.get ctl F.ETH_Pp_CTL_RING) else none
  if c.local_ then own c.inp
  else match c.stream with
    | some n =>
      let e := R.CIRC_STREAM n
      let r := s.get e F.CIRC_STREAM_RING
      if s.bit e F.CIRC_STREAM_RINGV && decide (s.get (R.CIRC_RINGr_CTL r) F.CIRC_RINGr_CTL_PORTIDX = d) then some r else own (14 + d)
    | none => own (14 + d)

/-- The next descriptor of transmit ring r is sent (R259, R286). -/
def ringSend (r : Nat) (s : State) : State :=
  let p := 14 + s.get (R.CIRC_RINGr_CTL r) F.CIRC_RINGr_CTL_PORTIDX
  if !ringHas r 0 s || decide (portState p s ≠ 0) || !s.bit R.CIRC_CTL F.CIRC_CTL_EN then s
  else
    let o := ringOwner r s
    let d := ringDesc r s
    let (w0, s1) := engineWord 24 o d s
    let (w1, s2) := engineWord 24 o (d + 1) s1
    let len := wf w0 48 12
    let lay8 := w0.getLsbD 60
    let (ys, s3) := engineOctets 24 o lay8 (wordsFor lay8 len) (wf w0 0 48) s2
    let maxF := s.get (R.ETH_Pp_CTL p) F.ETH_Pp_CTL_MAX_FRAME - 4
    let long := decide (maxF < len)
    let x := (ys.take len).take maxF
    let s3 := rxCount p x.length s3
    let cl0 := classify p x s3
    let cl := if w1.getLsbD 3 then { cl0 with tc := wf w1 0 3 } else cl0
    let proto := { stamped s3 protoCopy with ts := if w0.getLsbD 62 then some (r, d) else none }
    let s4 :=
      if w1.getLsbD 4 then
        let dp := wf w1 5 24
        let ds := (List.range 24).filter fun q => inMask dp q && decide (q ≠ p) && decide (q ≠ 12) && decide (q ≠ 23) && decide (portState q s3 ≠ 2)
        let (ok, t) := passIsolation cl.vid (octNat (x.take 6)) ds s3
        directCopies p cl.tc ok x proto t
      else if rxDrops cl x then ethCount p 3 s3
      else if cl.local_ then localCopy p x cl.tc proto s3
      else
        let (ok, t) := passIsolation cl.vid (octNat (x.take 6)) cl.dests s3
        formCopies p cl ok x none proto t
    ringComplete r w0 (formAll p true long s4)

/-- FRAME_CLASSIFICATION (R252, R259, R272, R283, R286): a frame, or more of one, enters the switch at port p. -/
def execFrameClassification (p : Fin 24) (src : FrameIn) (s : State) : Host.Outcome State Fault Refusal :=
  .next (if tileClosed .switchCore s then s
    else match src with
      | .wire x fin bad sec => wireIn p.val x fin bad sec s
      | .ring r => if 14 + s.get (R.CIRC_RINGr_CTL r.val) F.CIRC_RINGr_CTL_PORTIDX = p.val then ringSend r.val s else s
      | .internal => internalIn p.val s)

/-! ### Egress (R265, R267, R269) -/

/-- A copy starts on its port; its egress timestamp goes to the descriptor that asked for it (R78, R286, R288). -/
def beginCopy (c : Copy) (s : State) : State :=
  let s1 := startCopy c s
  match c.ts with
  | none => s1
  | some (r, d) =>
    if !(s1.sw.copies.any fun x => decide (x.num = c.num) && x.start.isSome) then s1
    else
      let o := ringOwner r s
      let s2 := enginePut 24 o (d + 2) (immw s.time.gtc) s1
      let s3 := enginePut 24 o (d + 3) (immw (BitVec.ofNat 64 (s.time.almNs.toNat + s.time.almSec.toNat % 2 ^ 34 * 2 ^ 30))) s2
      let (v, s4) := s3.drawFree 64
      raiseOwner (0x300 + 8 * c.out + 5) (immw v) (R.CIRC_RINGr_OWN r) s4

/-- The copy output o starts next, unless its segment only listens (R572). -/
def nextStart (o : Nat) (s : State) : Option Copy :=
  if (isExternal o && segListens (portSegment o) s) || tileClosed .switchCore s then none else chooseStart o s

/-- FRAME_TRANSMIT_START (R267). -/
def execFrameTransmitStart (o : Fin 24) (s : State) : Host.Outcome State Fault Refusal :=
  .next (match nextStart o.val s with
    | none => s
    | some c => beginCopy c s)

/-- DEP_COPY_START (R207, R269): the copy that starts is one that waited for its start time. -/
def execDepCopyStart (o : Fin 24) (s : State) : Host.Outcome State Fault Refusal :=
  .next (match nextStart o.val s with
    | none => s
    | some c => if c.rec_.isSome then beginCopy c s else s)

/-- FRAME_TRANSMIT_END (R265, R286, R512): the copy on the wire has left the MAC; at a DMA port a ring takes it, and at port 22
a session may. -/
def execFrameTransmitEnd (o : Fin 24) (s : State) : Host.Outcome State Fault Refusal :=
  .next (match s.sw.copies.find? fun c => decide (c.out = o.val) && wireDone c s with
    | none => s
    | some c =>
      let (bad, s1) := finishCopy c s
      if 14 ≤ o.val ∧ o.val ≤ 21 then
        (match ringFor (o.val - 14) c s with
         | some r => ringReceive r c bad s1
         | none => s1)
      else if o.val = 22 ∧ bad = false then { s1 with sw := { s1.sw with rcIn := s1.sw.rcIn ++ [(c.inp, c.data)] } }
      else s1)

/-! ### Collation units (R231 to R233) -/

/-- The check value's octets as a stream carries them after its data: most significant first, or least for a reflected
result (assumption 44). -/
def checkOctets (p : CrcP) (v : BitVec 64) : Octets :=
  let n := (p.width + 7) / 8
  let xs := (List.range n).map fun k => v.extractLsb' (8 * k) 8
  if p.refout then xs else xs.reverse

/-- A scan takes up to `n` more words: the running value, the position and the octets left, and the error that stopped it. -/
def scanWords (u owner : Nat) (p : CrcP) (lay8 : Bool) :
    Nat → BitVec 64 → Nat → Nat → Nat → State → BitVec 64 × Nat × Nat × Nat × Option Reason × State
  | 0, r, a, len, oct, s => (r, a, len, oct, none, s)
  | n + 1, r, a, len, oct, s =>
    if len = 0 then (r, a, len, oct, none, s)
    else match fabric { kind := .read, addr := BitVec.ofNat 48 a, id := engineId 27 owner s } s with
      | (.word w, s1) =>
        let from_ := if lay8 then max 1 oct else oct
        let xs := ((wordOctets w).drop from_).take len
        let o := from_ + xs.length
        if 9 ≤ o then scanWords u owner p lay8 n (crcRun p r xs) (a + 1) (len - xs.length) 0 s1
        else scanWords u owner p lay8 n (crcRun p r xs) a (len - xs.length) o s1
      | (.err e, s1) => (r, a, len, oct, some e, s1)
      | (_, s1) => (r, a, len, oct, none, s1)

/-- A unit ends its work with a status and its owner's event (R233); no rule gives the payload (assumption 2). -/
def collEnd (u : Nat) (f : State → State) (s : State) : State :=
  let (v, s1) := (f (s.set (R.COLL_Un_STAT u) F.COLL_Un_STAT_BUSY 0)).drawFree 64
  raiseOwner (0x440 + u) (immw v) (R.COLL_Un_OWN u) (s1.setColl u {})

/-- COLLATION_DONE (R232, R233): a scan has read its words, one each ns, or halts where STOP found it; in a stream mode
`stream` is what an engine passed through the unit. -/
def execCollationDone (u : Fin 16) (stream : Octets) (s : State) : Host.Outcome State Fault Refusal :=
  let u := u.val
  let ctl := R.COLL_Un_CTL u
  let st := R.COLL_Un_STAT u
  let k := s.collU u
  let p := collParams u s
  let run := s.reg (R.COLL_Un_RUN u)
  .next (if !s.bit st F.COLL_Un_STAT_BUSY || tileClosed .collation s || s.power.computeHeld then s
    else if s.get ctl F.COLL_Un_CTL_MODE = 0 then
      let lay8 := s.bit ctl F.COLL_Un_CTL_LAYOUT8
      let len := s.get (R.COLL_Un_LEN u) F.COLL_Un_LEN_LEN
      let time := (k.stopAt.getD s.now) - k.since
      let total := wordsFor lay8 len + 1
      let (r, a, left, oct, e, s1) := scanWords u (ownerOf (R.COLL_Un_OWN u) s) p lay8 (min total time) run
        (s.get (R.COLL_Un_ADDR u) F.COLL_Un_ADDR_ADDR) len (s.get (R.COLL_Un_LEN u) F.COLL_Un_LEN_OCT) s
      if e = none ∧ left ≠ 0 ∧ k.stopAt = none then s
      else
        let s2 := ((((s1.setReg (R.COLL_Un_RUN u) r).set (R.COLL_Un_ADDR u) F.COLL_Un_ADDR_ADDR a).set (R.COLL_Un_LEN u) F.COLL_Un_LEN_LEN left).set
          (R.COLL_Un_LEN u) F.COLL_Un_LEN_OCT oct)
        match e with
        | some x => collEnd u (fun t => (t.flag st F.COLL_Un_STAT_ERR).set st F.COLL_Un_STAT_REASON x.toNat) s2
        | none =>
          if left = 0 then collEnd u (fun t => (t.setReg (R.COLL_Un_RESULT u) (crcOut p r)).flag st F.COLL_Un_STAT_DONE) s2
          else (s2.set st F.COLL_Un_STAT_BUSY 0).setColl u {}
    else if k.stopAt.isSome then (s.set st F.COLL_Un_STAT_BUSY 0).setColl u {}
    else
      let tail := if s.get ctl F.COLL_Un_CTL_MODE = 2 then (p.width + 7) / 8 else 0
      let body := stream.take (stream.length - tail)
      let r := crcRun p run body
      let v := crcOut p r
      let s1 := (s.setReg (R.COLL_Un_RUN u) r).setReg (R.COLL_Un_RESULT u) v
      let wrong := decide (s.get ctl F.COLL_Un_CTL_MODE = 2) && decide (stream.drop (stream.length - tail) ≠ checkOctets p v)
      collEnd u (fun t => t.flag st (if wrong then F.COLL_Un_STAT_MISMATCH else F.COLL_Un_STAT_DONE)) s1)

end Sys2Proof.Machine
end

