-- ==== Sys2Proof/Machine/RemoteCmd.lean ====
section
/-!
DEFINITION. Remote carrels (spec/13_carrels.md R512 to R515): frames at port 22, the requests they carry, the responses and
the notices.
-/
namespace Sys2Proof.Machine

open Sys2Proof

/-! ### Internet headers (R512, R515) -/

/-- The ones' complement sum of octets taken in pairs. -/
def ipSum (xs : Octets) : Nat :=
  let rec go : Nat → Octets → Nat
    | 0, _ => 0
    | _, [] => 0
    | _, [a] => a.toNat * 256
    | n + 1, a :: b :: t => a.toNat * 256 + b.toNat + go n t
  let v := go (xs.length + 1) xs
  let f (n : Nat) : Nat := n % 65536 + n / 65536
  f (f (f v))
/-- The Internet checksum. -/
def ipCheck (xs : Octets) : Nat := 65535 - ipSum xs

/-- A UDP datagram as a frame carries it: IP version, addresses, ports and payload. -/
structure Datagram where
  v6 : Bool := false
  src : Nat := 0
  dst : Nat := 0
  sport : Nat := 0
  dport : Nat := 0
  payload : Octets := []
  deriving DecidableEq, Repr

/-- The octets UDP's checksum covers before the datagram itself. -/
def pseudo (v6 : Bool) (src dst len : Nat) : Octets :=
  let n := if v6 then 16 else 4
  natOct n src ++ natOct n dst ++ (if v6 then natOct 4 len ++ natOct 4 17 else natOct 2 17 ++ natOct 2 len)

/-- The datagram of a frame that R512 accepts as IP and UDP. -/
def datagramOf (x : Octets) : Option Datagram :=
  let ty := octNat ((x.drop 12).take 2)
  let l2 := if ty = 0x8100 then 18 else 14
  let et := octNat ((x.drop (l2 - 2)).take 2)
  let ip := x.drop l2
  let at_ (o n : Nat) : Nat := octNat ((ip.drop o).take n)
  let v4ok := decide (et = 0x0800) && decide (at_ 0 1 = 0x45) && decide (at_ 6 2 % 0x4000 = 0) && decide (at_ 9 1 = 17)
  let v6ok := decide (et = 0x86DD) && decide (at_ 0 1 / 16 = 6) && decide (at_ 6 1 = 17)
  let h := if v6ok then 40 else 20
  let udp := ip.drop h
  let len := octNat ((udp.drop 4).take 2)
  let src := if v6ok then at_ 8 16 else at_ 12 4
  let dst := if v6ok then at_ 24 16 else at_ 16 4
  let ck := octNat ((udp.drop 6).take 2)
  let whole := decide (8 ≤ len) && decide (len ≤ udp.length)
  let good := decide (ipSum (pseudo v6ok src dst len ++ udp.take len) = 65535)
  if (v4ok || v6ok) && whole && (if ck = 0 then v4ok else good) then
    some { v6 := v6ok, src := src, dst := dst, sport := octNat (udp.take 2), dport := octNat ((udp.drop 2).take 2)
           payload := (udp.take len).drop 8 }
  else none

/-- The frame of a datagram from port 22 in a session of carrel c (R515). What the spec does not give of the IP header (its
service class, identification, fragment permission, flow and life) and the tag's priority are free (assumption 2). -/
def sessionFrame (c : Nat) (payload : Octets) (s : State) : Octets × State :=
  let ctl := R.CARREL_Cc_SES_CTL c
  let v6 := s.bit ctl F.CARREL_Cc_SES_CTL_V6
  let vid := s.get ctl F.CARREL_Cc_SES_CTL_VID
  let ports := R.CARREL_Cc_SES_PORTS c
  let hi := (s.reg (R.CARREL_Cc_SES_PEER_HI c)).toNat
  let lo := (s.reg (R.CARREL_Cc_SES_PEER_LO c)).toNat
  let dst := if v6 then hi * 2 ^ 64 + lo else lo % 2 ^ 32
  let src := if v6 then (s.reg R.CARREL_RC_IP6_HI).toNat * 2 ^ 64 + (s.reg R.CARREL_RC_IP6_LO).toNat else s.get R.CARREL_RC_IP4 F.CARREL_RC_IP4_ADDR
  let len := payload.length + 8
  let (f, s1) := s.drawFree 64
  let g (lo n : Nat) : Nat := f.toNat / 2 ^ lo % 2 ^ n
  let udp (ck : Nat) : Octets := natOct 2 (s.get ports F.CARREL_Cc_SES_PORTS_LOCAL_PORT) ++ natOct 2 (s.get ports F.CARREL_Cc_SES_PORTS_PEER_PORT) ++
    natOct 2 len ++ natOct 2 ck ++ payload
  let ck := ipCheck (pseudo v6 src dst len ++ udp 0)
  let body := udp (if ck = 0 then 65535 else ck)
  let v4 (ck : Nat) : Octets := natOct 1 0x45 ++ natOct 1 (g 0 8) ++ natOct 2 (len + 20) ++ natOct 2 (g 8 16) ++ natOct 2 (g 24 1 * 0x4000) ++
    natOct 1 (g 25 8) ++ natOct 1 17 ++ natOct 2 ck ++ natOct 4 src ++ natOct 4 dst
  let ip := if v6 then natOct 4 (0x60000000 + g 0 28) ++ natOct 2 len ++ natOct 1 17 ++ natOct 1 (g 28 8) ++ natOct 16 src ++ natOct 16 dst
    else v4 (ipCheck (v4 0))
  let tag := if vid = 0 then [] else natOct 2 0x8100 ++ natOct 2 (g 40 3 * 8192 + vid)
  (natOct 6 (s.get (R.CARREL_Cc_SES_NEXTHOP c) F.CARREL_Cc_SES_NEXTHOP_MAC) ++ natOct 6 (s.get R.CARREL_RC_MAC F.CARREL_RC_MAC_MAC) ++ tag ++
    natOct 2 (if v6 then 0x86DD else 0x0800) ++ ip ++ body, s1)

/-- Port 22 has a frame to send on the uplink of carrel c's session, in its class (R515). -/
def sessionSend (c : Nat) (payload : Octets) (s : State) : State :=
  let ctl := R.CARREL_Cc_SES_CTL c
  let (x, s1) := sessionFrame c payload s
  { s1 with sw := { s1.sw with rcOut := s1.sw.rcOut ++ [(10 + s.get ctl F.CARREL_Cc_SES_CTL_UPL, s.get ctl F.CARREL_Cc_SES_CTL_TC, x)] } }

/-! ### Requests (R512 to R514) -/

/-- Does a datagram on an uplink match the session of carrel c (R512)? -/
def sessionMatch (c upl : Nat) (d : Datagram) (s : State) : Bool :=
  let cfg := R.CARREL_Cc_CFG c
  let ctl := R.CARREL_Cc_SES_CTL c
  let ports := R.CARREL_Cc_SES_PORTS c
  let hi := (s.reg (R.CARREL_Cc_SES_PEER_HI c)).toNat
  let lo := (s.reg (R.CARREL_Cc_SES_PEER_LO c)).toNat
  s.bit cfg F.CARREL_Cc_CFG_V && s.bit cfg F.CARREL_Cc_CFG_REMOTE && s.bit ctl F.CARREL_Cc_SES_CTL_EN &&
  decide (s.get ctl F.CARREL_Cc_SES_CTL_UPL = upl) && (s.bit ctl F.CARREL_Cc_SES_CTL_V6 == d.v6) &&
  decide (d.src = if d.v6 then hi * 2 ^ 64 + lo else lo % 2 ^ 32) &&
  decide (s.get ports F.CARREL_Cc_SES_PORTS_PEER_PORT = d.sport) && decide (s.get ports F.CARREL_Cc_SES_PORTS_LOCAL_PORT = d.dport)

/-- Words of a layout from octets (R513). -/
def layoutWords (lay8 : Bool) : Nat → Octets → List Word
  | 0, _ => []
  | n + 1, xs =>
    let per := if lay8 then 8 else 9
    if xs.isEmpty then [] else packWord per xs :: layoutWords lay8 n (xs.drop per)

/-- A request from its payload (R513); octets a short payload lacks read as zero. -/
def requestOf (x : Octets) : RemoteReq :=
  let f (o n : Nat) : Nat := octNat ((List.range n).map fun k => x.getD (o + k) 0)
  let lay8 := decide (f 9 1 % 2 = 1)
  let data := x.drop 18
  { ver := BitVec.ofNat 8 (f 0 1), op := BitVec.ofNat 8 (f 1 1), carrel := BitVec.ofNat 16 (f 2 2), tag := BitVec.ofNat 32 (f 4 4)
    count := BitVec.ofNat 8 (f 8 1), flags := BitVec.ofNat 8 (f 9 1), address := BitVec.ofNat 48 (f 12 6)
    words := layoutWords lay8 (data.length + 1) data
    whole := decide (18 ≤ x.length) && decide (data.length = f 8 1 * (if lay8 then 8 else 9)) }

/-- REMOTE_FRAME_RECEIVE (R512, R514): the oldest frame at port 22 joins its session's queue of at most 8. -/
def execRemoteFrameReceive (s : State) : Host.Outcome State Fault Refusal :=
  .next (match s.sw.rcIn with
    | [] => s
    | (inp, x) :: t =>
      let s0 := { s with sw := { s.sw with rcIn := t } }
      let lost := s0.addSat R.CARREL_RC_CNT F.CARREL_RC_CNT_UNMATCHED 1
      match datagramOf x with
      | none => lost
      | some d =>
        match (List.range 512).filter fun c => decide (10 ≤ inp) && sessionMatch c (inp - 10) d s0 with
        | [c] =>
          let k := s0.carrel c
          if 8 ≤ k.reqs.length then s0.addSat R.CARREL_RC_CNT2 F.CARREL_RC_CNT2_OVERFLOW 1
          else s0.setCarrel c { k with reqs := k.reqs ++ [requestOf d.payload] }
        | _ => lost)

/-- Is a request malformed (R514)? -/
def requestBad (c : Nat) (q : RemoteReq) : Bool :=
  let n := q.count.toNat
  let op := q.op.toNat
  decide (q.ver ≠ 1) || decide (q.carrel.toNat ≠ c) || decide (op < 1) || decide (7 < op) ||
  (if op = 5 then decide (n ≠ 0) else decide (n < 1) || decide (16 < n)) ||
  ((decide (op = 3) || decide (op = 4)) && decide (8 < q.address.toNat + n))

/-- Word i of a request is handled (R513, R514): the word read, nothing, or the refusal's reason. -/
def requestWord (c : Nat) (q : RemoteReq) (i : Nat) (s : State) : Sum (Option Word) Reason × State :=
  let a := q.address.toNat + i
  let w := wClamp (ceilingOf c s) (q.words.getD i 0)
  let id := engineId 34 c s
  let tgt (x : Option State) : Sum (Option Word) Reason × State :=
    match x with
    | some t => (.inl none, t)
    | none => (.inr rTARGET, s)
  let bus (t : Txn) : Sum (Option Word) Reason × State :=
    match fabric t s with
    | (.word v, s1) => (.inl (some v), s1)
    | (.err e, s1) => (.inr e, s1)
    | (_, s1) => (.inl none, s1)
  match q.op.toNat with
  | 1 => bus { kind := .read, addr := BitVec.ofNat 48 a, id := id }
  | 2 => bus { kind := .write, addr := BitVec.ofNat 48 a, id := id, data := w }
  | 3 => tgt (deskPut c false a w s)
  | 4 =>
    (match deskGet c false a s with
     | some v => (.inl (some v), s)
     | none => (.inr rTARGET, s))
  | 5 => tgt (deskRing c false s)
  | 6 =>
    let r := R.CARREL_Cc_CATRD c
    if decide (a < 2 ^ 20) && inRange (s.get r F.CARREL_Cc_CATRD_LO) (s.get r F.CARREL_Cc_CATRD_HI) a then
      let (v, s1) := catRead a true s
      (.inl (some v), s1)
    else (.inr rTARGET, s)
  | _ =>
    let r := R.CARREL_Cc_CATWR c
    if decide (a < 2 ^ 20) && inRange (s.get r F.CARREL_Cc_CATWR_LO) (s.get r F.CARREL_Cc_CATWR_HI) a && softwareEntry a s &&
        !pProv (wp (q.words.getD i 0)) then (.inl none, catWrite a w s)
    else (.inr rTARGET, s)

/-- The words of a request in order, to the first refusal (R514): how many were done, what was read, the refusal. -/
def requestWords (c : Nat) (q : RemoteReq) : Nat → Nat → List Word → State → Nat × List Word × Option Reason × State
  | 0, i, acc, s => (i, acc, none, s)
  | n + 1, i, acc, s =>
    match requestWord c q i s with
    | (.inl (some w), s1) => requestWords c q n (i + 1) (acc ++ [w]) s1
    | (.inl none, s1) => requestWords c q n (i + 1) acc s1
    | (.inr e, s1) => (i, acc, some e, s1)

/-- The payload of a frame to a remote carrel (R513). -/
def remotePayload (op : Nat) (q : RemoteReq) (status done : Nat) (ws : List Word) : Octets :=
  let lay8 := q.flags.getLsbD 0
  natOct 1 1 ++ natOct 1 op ++ natOct 2 q.carrel.toNat ++ natOct 4 q.tag.toNat ++ natOct 1 q.count.toNat ++ natOct 1 q.flags.toNat ++
    natOct 1 status ++ natOct 1 done ++ natOct 6 q.address.toNat ++ ws.flatMap fun w => (wordOctets w).drop (if lay8 then 1 else 0)

/-- A request is answered (R513, R515). -/
def respond (c : Nat) (q : RemoteReq) (status done : Nat) (ws : List Word) (s : State) : State :=
  sessionSend c (remotePayload 0x81 { q with ver := 1 } status done ws) (s.addSat R.CARREL_RC_CNT2 F.CARREL_RC_CNT2_SERVED 1)

/-- REMOTE_REQUEST_SERVE (R514, R515): the oldest request of carrel c's session. -/
def execRemoteRequestServe (c : BitVec 9) (s : State) : Host.Outcome State Fault Refusal :=
  let c := c.toNat
  .next (match (s.carrel c).reqs with
    | [] => s
    | q :: t =>
      if s.power.computeHeld || !s.bit (R.CARREL_Cc_SES_CTL c) F.CARREL_Cc_SES_CTL_EN then s
      else
        let s0 := s.setCarrel c { s.carrel c with reqs := t }
        if carState c s ≠ 2 then respond c q 0x10 0 [] s0
        else if requestBad c q then respond c q 0x11 0 [] (s0.addSat R.CARREL_RC_CNT F.CARREL_RC_CNT_MALFORMED 1)
        else if (q.op.toNat = 2 ∨ q.op.toNat = 3 ∨ q.op.toNat = 7) ∧ q.whole = false then respond c q 0x0E 0 [] s0
        else
          let n := if q.op.toNat = 5 then 1 else q.count.toNat
          let (done, ws, e, s1) := requestWords c q n 0 [] s0
          let done := if q.op.toNat = 5 then 0 else done
          match e with
          | some r => respond c q (8 + r.toNat) done ws s1
          | none => respond c q 0 done ws s1)

/-! ### Notices (R515) -/

/-- The header and payload words of up to n notices, which leave the queue. -/
def takeNotices : Nat → Nat → State → List Word × State
  | 0, _, s => ([], s)
  | n + 1, c, s =>
    match popNotice c s with
    | none => ([], s)
    | some (h, p, s1) =>
      let (ws, s2) := takeNotices n c s1
      (h :: p :: ws, s2)

/-- REMOTE_NOTICE_GATHER_EXPIRY (R515): a NOTICE frame goes out GATHER µs after its first notice, or full with eight. -/
def execRemoteNoticeGatherExpiry (c : BitVec 9) (s : State) : Host.Outcome State Fault Refusal :=
  let c := c.toNat
  let k := s.carrel c
  let ctl := R.CARREL_Cc_SES_CTL c
  .next (match k.gather with
    | none => s
    | some t =>
      if s.power.computeHeld || !s.bit ctl F.CARREL_Cc_SES_CTL_EN || decide (carState c s ≠ 2) || decide (k.nq.queue = []) ||
          (decide (s.now < t) && decide (k.nq.queue.length < 8)) then s
      else
        let (ws, s1) := takeNotices 8 c s
        let q : RemoteReq := { carrel := BitVec.ofNat 16 c, tag := k.noticeTag, count := BitVec.ofNat 8 ws.length }
        let s2 := sessionSend c (remotePayload 0x82 q 0 0 ws) s1
        let k2 := s2.carrel c
        let g := match k2.nq.queue with
          | [] => none
          | n :: _ => some (n.stamp + streamHold c s2 + 1000 * s2.get ctl F.CARREL_Cc_SES_CTL_GATHER)
        s2.setCarrel c { k2 with noticeTag := k.noticeTag + 1, gather := g })

end Sys2Proof.Machine
end

