-- ==== Sys2Proof/Machine/VaultCmd.lean ====
section
/-!
DEFINITION. The strongroom's operations (spec/14_strongroom.md R517 to R550): the checks a command must pass, what each
operation computes, and its end.
-/
namespace Sys2Proof.Machine

open Sys2Proof Crypto

/-! ### A queue's command (R532) -/

/-- ALG. -/
def vAlg (q : Nat) (s : State) : Nat := s.get (R.VAULT_Qq_CMD q) F.VAULT_Qq_CMD_ALG
/-- KID. -/
def vKid (q : Nat) (s : State) : Nat := s.get (R.VAULT_Qq_KEY q) F.VAULT_Qq_KEY_KID
/-- AUX. -/
def vAux (q : Nat) (s : State) : Nat := (s.reg (R.VAULT_Qq_AUX q)).toNat
/-- NEWATTR. -/
def vNew (q : Nat) (s : State) : BitVec 64 := s.reg (R.VAULT_Qq_NEWATTR q)
/-- The carrel a queue acts for. -/
def vOwner (q : Nat) (s : State) : Nat := ownerOf (R.VAULT_Qq_OWN q) s
/-- LAYOUT8. -/
def vLay8 (q : Nat) (s : State) : Bool := s.bit (R.VAULT_Qq_CMD q) F.VAULT_Qq_CMD_LAYOUT8
/-- Source octets. -/
def vSrcLen (q : Nat) (s : State) : Nat := s.get (R.VAULT_Qq_SRCLEN q) F.VAULT_Qq_SRCLEN_LEN
/-- Destination capacity. -/
def vDstLen (q : Nat) (s : State) : Nat := s.get (R.VAULT_Qq_DSTLEN q) F.VAULT_Qq_DSTLEN_LEN

/-- Read words of the source; the first refused one stops it with its reason. -/
def vReadWords (owner : Nat) (lay8 : Bool) : Nat → Nat → State → Sum Reason Octets × State
  | 0, _, s => (.inr [], s)
  | n + 1, a, s =>
    match fabric { kind := .read, addr := BitVec.ofNat 48 a, id := engineId 28 owner s } s with
    | (.word w, s1) =>
      (match vReadWords owner lay8 n (a + 1) s1 with
       | (.inr xs, s2) => (.inr ((wordOctets w).drop (if lay8 then 1 else 0) ++ xs), s2)
       | x => x)
    | (.err e, s1) => (.inl e, s1)
    | (_, s1) => (.inl rFAILED, s1)
/-- The source of queue q's command. -/
def vRead (q : Nat) (s : State) : Sum Reason Octets × State :=
  let n := vSrcLen q s
  match vReadWords (vOwner q s) (vLay8 q s) (wordsFor (vLay8 q s) n) (s.get (R.VAULT_Qq_SRC q) F.VAULT_Qq_SRC_ADDR) s with
  | (.inr xs, s1) => (.inr (xs.take n), s1)
  | x => x

/-- Write words of the destination; the first refused one stops it: the reason and the words written. -/
def vWriteWords (owner : Nat) : List Word → Nat → Nat → State → Option Reason × Nat × State
  | [], _, n, s => (none, n, s)
  | w :: t, a, n, s =>
    match fabric { kind := .write, addr := BitVec.ofNat 48 a, id := engineId 28 owner s, data := w } s with
    | (.err e, s1) => (some e, n, s1)
    | (_, s1) => vWriteWords owner t (a + 1) (n + 1) s1
/-- The words of octets in a layout; the rest of the last one is zero (R532). -/
def vWords (lay8 : Bool) (xs : Octets) : List Word :=
  (groups (if lay8 then 8 else 9) xs.length xs).map fun g => packWord (if lay8 then 8 else 9) g
/-- Write octets to the destination; what was written is noted, and a refusal gives code FABRIC (R534, R535). -/
def vWrite (q : Nat) (xs : Octets) (s : State) : State :=
  let per := if vLay8 q s then 8 else 9
  let (e, n, s1) := vWriteWords (vOwner q s) (vWords (vLay8 q s) xs) (s.get (R.VAULT_Qq_DST q) F.VAULT_Qq_DST_ADDR) 0 s
  let j := vjob q s1
  match e with
  | none => setVjob q { j with len := xs.length } s1
  | some r => setVjob q { j with len := n * per, code := some 7, reason := r.toNat } s1
/-- Every destination word the command wrote is set to zero (R534). -/
def vZero (q : Nat) (s : State) : State :=
  (vWriteWords (vOwner q s) (List.replicate (wordsFor (vLay8 q s) (vjob q s).len) 0) (s.get (R.VAULT_Qq_DST q) F.VAULT_Qq_DST_ADDR) 0 s).2.2

/-! ### Checks (R517, R520, R522, R525, R533, R534, R537, R549) -/

/-- Octets of the public key of a TYPE (R533). -/
def pubLen (ty : Nat) : Nat := match ty with
  | 5 => 65 | 6 => 97 | 7 | 8 => 32 | 9 => 1952 | 10 => 1184 | _ => 0
/-- The TYPE that an ALG of SIGN and VERIFY needs. -/
def sigType (alg : Nat) : Nat := match alg with
  | 0 => 5 | 1 => 6 | 2 => 8 | _ => 9
/-- Octets of a signature (R533). -/
def sigLen (alg : Nat) : Nat := match alg with
  | 0 | 2 => 64 | 1 => 96 | _ => 3309
/-- Octets of a hash or of an HMAC tag of it. -/
def hashLen (alg : Nat) : Nat := match alg with
  | 1 => 48 | 2 => 64 | _ => 32
/-- Octets of a MAC (R530). -/
def macLen (alg : Nat) : Nat := if alg = 0 then 16 else hashLen (alg - 1)
/-- Octets of the IV of an AES mode. -/
def ivLen (alg : Nat) : Nat := match alg with
  | 0 => 0 | 1 | 2 => 16 | _ => 12

/-- What the table of R533 says of an operation for the command at hand: how many ALGs it has, its engine (0 none, 1
symmetric, 2 public-key), whether START must be the librarian's, the TYPEs of its key slot (none: no slot is used), the
RIGHTS bit, whether the source's length is right, the output's length, whether it needs random output, whether it makes a
slot, and any further codes it would fail with. -/
structure VSpec where
  algs : Nat := 1
  engine : Nat := 0
  lib : Bool := false
  types : List Nat := []
  right : Option Nat := none
  src : Bool := true
  out : Nat := 0
  rnd : Bool := false
  makes : Bool := false
  more : List Nat := []
  deriving DecidableEq, Repr

/-- All types of keys. -/
def anyType : List Nat := [1, 2, 3, 4, 5, 6, 7, 8, 9, 10]

/-- Codes for which a slot may not be used (R520); `right` none needs no right, and `serves` lists the states served. -/
def slotCodes (kid op : Nat) (types : List Nat) (right : Option Nat) (serves : List Nat) (lib : Bool) (owner : Nat) (s : State) : List Nat :=
  if !kidNames kid then [13]
  else
    let st := slotAttr kid aSTATE s
    let stmt := decide (slotAttr kid aSTMT s = 1) && !(decide (op = 0x13) || decide (op = 0x14) || decide (op = 0x0F))
    let mine := decide (slotAttr kid aSHARED s = 1) || decide (slotAttr kid aOWNER s = owner) || lib
    (if serves.contains st then [] else if st = 3 then [14] else [2]) ++
    (if st ≠ 0 ∧ types.contains (slotAttr kid aTYPE s) = false then [3] else []) ++
    (if st ≠ 0 ∧ ((match right with
        | some r => !(slotAttr kid aRIGHTS s).testBit r
        | none => false) || !mine || stmt) = true then [1] else [])

/-- The lowest empty derived slot (R525). -/
def emptyDerived (s : State) : Option Nat := (List.range 1024).findSome? fun n => if slotAttr (1024 + n) aSTATE s = 0 then some (1024 + n) else none

/-- The slot a command makes, and the code it fails with now (R522, R525, R537). -/
def targetCodes (q op : Nat) (s : State) : List Nat :=
  let j := vjob q s
  match vkid2 q s with
  | none => if (emptyDerived s).isNone then [9] else []
  | some k =>
    if !kidNames k then [13]
    else if k < 256 then
      (if op = 0x0C ∨ op = 0x0D then
        (if !j.lib then [11] else []) ++ (if slotAttr k aSTATE s = 0 ∨ j.claim = some k then [] else [2])
       else [13])
    else if slotAttr k aSTATE s = 0 then [] else [2]

/-- The TYPE of the slot a command makes (R533). -/
def newType (q op : Nat) (s : State) : Nat :=
  let t := fget (vNew q s) aTYPE
  if op = 8 ∨ op = 9 ∨ op = 0xA then (if secretLen t ≠ 0 ∧ secretLen t ≤ 32 then t else 3) else t

/-- What R533 says of the operation in queue q; none for an OP it does not list. -/
def vSpec (q : Nat) (s : State) : Option VSpec :=
  let alg := vAlg q s
  let n := vSrcLen q s
  let aux := vAux q s
  let kid := vKid q s
  let aad := if alg = 3 then aux % 2 ^ 32 else 0
  let tag := if alg = 3 then 16 else 0
  let newOk : List Nat := if anyType.contains (newType q (vop q s) s) then [] else [3]
  match vop q s with
  | 0x01 =>
    let text := n - ivLen alg - aad
    some { algs := 4, engine := 1, types := [1, 2], right := some 0, out := text + tag
           src := decide (ivLen alg + aad ≤ n) && (decide (2 ≤ alg) || decide (text % 16 = 0)) }
  | 0x02 =>
    let text := n - ivLen alg - aad - tag
    some { algs := 4, engine := 1, types := [1, 2], right := some 1, out := text
           src := decide (ivLen alg + aad + tag ≤ n) && (decide (2 ≤ alg) || decide (text % 16 = 0)) }
  | 0x03 => some { algs := 4, engine := 1, types := if alg = 0 then [1, 2] else [3, 4], right := some 6, out := macLen alg }
  | 0x04 => some { algs := 4, engine := 1, types := if alg = 0 then [1, 2] else [3, 4], right := some 6, src := decide (macLen alg ≤ n) }
  | 0x05 => some { algs := 4, engine := 1, out := hashLen alg }
  | 0x06 => some { algs := 4, engine := 2, types := [sigType alg], right := some 2, out := sigLen alg, rnd := decide (alg ≠ 2) }
  | 0x07 =>
    some { algs := 4, engine := 2, types := if kid = 0x7FF then [] else [sigType alg], right := some 3
           src := decide ((if kid = 0x7FF then pubLen (sigType alg) else 0) + sigLen alg ≤ n) }
  | 0x08 => some { algs := 3, engine := 2, types := [5 + alg], right := some 4, src := decide (n = pubLen (5 + alg)), makes := true }
  | 0x09 => some { engine := 2, src := decide (n = 1184), out := 1088, rnd := true, makes := true, more := if kid = 0x7FF then [] else [13] }
  | 0x0A => some { engine := 2, types := [10], right := some 4, src := decide (n = 1088), makes := true }
  | 0x0B =>
    some { algs := 4, engine := 1, types := if alg = 1 then [2] else [3, 4], right := some 4, makes := true, more := newOk
           src := decide (alg < 2) || decide (aux % 2 ^ 16 ≤ n) }
  | 0x0C => some { engine := 2, src := decide (n = 0), rnd := true, makes := true, more := newOk }
  | 0x0D =>
    some { engine := 1, types := [2], right := some 5, makes := true, more := newOk
           src := decide (n = 28 + secretLen (newType q 0x0D s)) }
  | 0x0E =>
    let k2 := (vkid2 q s).getD 0x7FF
    some { engine := 1, types := [2], right := some 5, src := decide (n = 0)
           out := 28 + secretLen (slotAttr k2 aTYPE s)
           more := slotCodes k2 0x0E anyType none [1] (vjob q s).lib (vOwner q s) s ++
             (if kidNames k2 && decide (slotAttr k2 aWRAPPABLE s = 0) then [1] else []) ++ (if (vkid2 q s).isNone then [13] else []) }
  | 0x0F => some { engine := 2, types := [5, 6, 7, 8, 9, 10], src := decide (n = 0), out := pubLen (slotAttr kid aTYPE s) }
  | 0x10 =>
    some { types := anyType, src := decide (n = 0)
           more := (if kid < 256 then [] else [13]) ++
             (if kid < 256 ∧ slotAttr kid aOWNER s ≠ vOwner q s ∧ (vjob q s).lib = false then [1] else []) }
  | 0x11 => some { types := anyType, src := decide (n = 0), more := if kid < 256 then [13] else [] }
  | 0x12 => some { src := decide (n = 0), rnd := true, out := vDstLen q s, more := if 65536 < vDstLen q s then [13] else [] }
  | 0x13 =>
    some { engine := 2, src := decide (n = 32), out := 3957, rnd := true
           more := (if (s.get R.VAULT_FUSE F.VAULT_FUSE_STATEMENTS).testBit 0 then [] else [12]) ++
             (if slotAttr 0 aSTATE s = 1 ∧ slotAttr 1 aSTATE s = 1 then [] else [2]) }
  | 0x14 =>
    let held := decide (slotAttr kid aORIGIN s = 0) && decide (slotAttr kid aWRAPPABLE s = 0)
    some { engine := 2, types := [5, 6, 7, 8, 9, 10], src := decide (n = 32), out := 3565, rnd := true
           more := (if (s.get R.VAULT_FUSE F.VAULT_FUSE_STATEMENTS).testBit 1 then [] else [12]) ++ (if held then [] else [2, 3]) ++
             (if slotAttr 0 aSTATE s = 1 ∧ slotAttr 1 aSTATE s = 1 then [] else [2]) }
  | 0x15 => some { engine := 1, lib := true, src := decide (n = 48), more := if aux % 8 < 2 then [13] else [] }
  | 0x16 =>
    let v := aux % 128
    some { lib := true, src := decide (n = 0)
           more := if s.vault.svn.toNat < v ∨ v < s.get R.VAULT_FUSE F.VAULT_FUSE_MIN_SVN ∨ 64 < v then [13] else [] }
  | 0x17 => some { engine := 2, lib := true, src := decide (n = 1952 + 3309)
                   more := if s.bit R.VAULT_TAMP_STAT F.VAULT_TAMP_STAT_ZPEND then [2] else [] }
  | 0x18 =>
    some { lib := true, src := decide (n = 0)
           more := if Nat.lor (s.get R.VAULT_FUSE F.VAULT_FUSE_ROOT_REVOKE) (2 ^ (aux % 4)) = 15 then [13] else [] }
  | _ => none

/-- Is the operation served while sealed (R549)? -/
def servedSealed (op kid : Nat) : Bool :=
  decide (op = 5) || (decide (op = 7) && decide (kid = 0x7FF)) || decide (op = 0x12) || decide (op = 0x0F) || decide (op = 0x17)

/-- The codes for which queue q's command may not start; none of them gives precedence to another. -/
def vCodes (q : Nat) (x : VSpec) (s : State) : List Nat :=
  let op := vop q s
  let j := vjob q s
  let serves := if op = 0x0F ∨ op = 0x10 then [1, 2] else [1]
  (if sealed s && !servedSealed op (vKid q s) then [vSEALED] else []) ++ (if x.lib && !j.lib then [11] else []) ++
  (if x.algs ≤ vAlg q s then [3] else []) ++ (if x.src then [] else [vFORMAT]) ++
  (if x.types = [] then [] else if vKid q s = 0x7FF then [13] else slotCodes (vKid q s) op x.types x.right serves j.lib (vOwner q s) s) ++
  (if x.makes then targetCodes q op s else []) ++ (if vDstLen q s < x.out then [6] else []) ++
  (if x.rnd && !drbgOk s then [8] else []) ++ x.more

/-! ### What the operations compute (R530, R533) -/

/-- A hash by its ALG. -/
def hashBy (alg : Nat) (m : Octets) : Octets := match alg with
  | 0 => sha256 m | 1 => sha384 m | 2 => sha512 m | _ => sha3 m
/-- A MAC by its ALG. -/
def macBy (alg : Nat) (key m : Octets) : Octets :=
  match alg with
  | 0 => cmac key m | 1 => hmac sha256 64 key m | 2 => hmac sha384 128 key m | _ => hmac sha512 128 key m
/-- The public key of a slot's secret (R518). -/
def pubOf (ty : Nat) (k : Octets) : Octets :=
  match ty with
  | 5 => p256.enc (p256.base (beNat k))
  | 6 => p384.enc (p384.base (beNat k))
  | 7 => x25519 k (leOctets 32 9)
  | 8 => edPub k
  | 9 => dsaPub k
  | 10 => kemPub k
  | _ => []
/-- Does a signature verify, by its ALG? -/
def verifyBy (alg : Nat) (pk sig m : Octets) : Bool :=
  match alg with
  | 0 => p256.verify pk sig (sha256 m)
  | 1 => p384.verify pk sig (sha384 m)
  | 2 => edVerify pk sig m
  | _ => dsaVerify pk sig m

/-- An ECDSA signature with a nonce from 1 to the order less one from the DRBG; a nonce that cannot be used is drawn again. -/
def ecdsa (c : Curve) (d : Nat) (h : Octets) : Nat → State → Octets × State
  | 0, s => randomOctets (2 * c.len) s
  | fuel + 1, s =>
    let (xs, s1) := randomOctets c.len s
    match c.sign d (beNat xs % (c.n - 1) + 1) h with
    | some sig => (sig, s1)
    | none => ecdsa c d h fuel s1
/-- A signature by its ALG. -/
def signBy (alg : Nat) (k m : Octets) (s : State) : Octets × State :=
  match alg with
  | 0 => ecdsa p256 (beNat k) (sha256 m) 2 s
  | 1 => ecdsa p384 (beNat k) (sha384 m) 2 s
  | 2 => (edSign k m, s)
  | _ =>
    let (r, s1) := randomOctets 32 s
    (dsaSign k m r, s1)
/-- A statement: its body with the signatures of K0 and K1 (R538). -/
def statement (body : Octets) (s : State) : Octets × State :=
  let (a, s1) := signBy 3 (slotKey 0 s).secret body s
  let (b, s2) := signBy 1 (slotKey 1 s1).secret body s1
  (body ++ a ++ b, s2)

/-- SHA-384 of the public key of slot k. -/
def idHash (k : Nat) (s : State) : Octets := sha384 (pubOf (slotAttr k aTYPE s) (slotKey k s).secret)
/-- The body of a bookplate (R539). -/
def bookplateBody (gtc : BitVec 64) (nonce : Octets) (s : State) : Octets :=
  let v := R.VAULT_STAT
  let b := s.get v F.VAULT_STAT_BOOT_SLOT + 2 * s.get v F.VAULT_STAT_TRIAL + 4 * s.get v F.VAULT_STAT_RECOVERY + (if s.vault.bootSealed then 8 else 0)
  let t := R.VAULT_TAMP_STAT
  [0x42#8, 0x4B, 0x50, 0x4C, 1, 1] ++ beOctets 2 552 ++ beOctets 8 (s.reg R.VAULT_DEVID).toNat ++ [BitVec.ofNat 8 b, 0, 0, 0] ++
    beOctets 4 s.vault.svn.toNat ++ beOctets 4 (s.get R.VAULT_FUSE F.VAULT_FUSE_MIN_SVN) ++ beOctets 8 gtc.toNat ++ nonce ++
    ((List.range 8).flatMap fun m => measOctets m s) ++ idHash 0 s ++ idHash 1 s ++
    beOctets 4 (s.get t F.VAULT_TAMP_STAT_LATCH + 16 * s.get t F.VAULT_TAMP_STAT_AON_LOST + 32 * s.get t F.VAULT_TAMP_STAT_ZPEND)
/-- The body of a holding certificate (R540). -/
def holdcertBody (k : Nat) (gtc : BitVec 64) (nonce : Octets) (s : State) : Octets :=
  let f := (if k < 256 then 1 else 0) + 2 * slotAttr k aSHARED s + 4 * slotAttr k aZEROISE s
  [0x48#8, 0x4F, 0x4C, 0x44, 1, 2] ++ beOctets 2 160 ++ beOctets 8 (s.reg R.VAULT_DEVID).toNat ++ beOctets 2 k ++
    [BitVec.ofNat 8 (slotAttr k aTYPE s), BitVec.ofNat 8 (slotAttr k aRIGHTS s), BitVec.ofNat 8 f] ++ beOctets 2 (slotAttr k aOWNER s) ++ [0] ++
    beOctets 8 gtc.toNat ++ nonce ++ idHash k s ++ idHash 0 s

/-- The result of a command's work: a code other than OK, its output, whether it is written as it is produced, and the secret
and salt of a slot it makes. -/
structure VRes where
  code : Nat := 0
  out : Octets := []
  early : Bool := false
  key : Option VKey := none
  deriving DecidableEq, Repr

/-- A made key: its secret's leading octets by TYPE, and the salt; where no rule gives a salt it is free (assumption 2). -/
def madeKey (ty : Nat) (salt : Bool) (secret : Octets) (s : State) : VRes × State :=
  let (f, s1) := if salt then s.drawFree 96 else (0, s)
  ({ key := some { secret := secret.take (secretLen ty), salt := if salt then beOctets 12 f.toNat else [] } }, s1)

/-- A scalar of TYPE 5 or 6 lies from 1 to the group order less one; other secrets are the octets as drawn. -/
def scalarOf (ty : Nat) (xs : Octets) : Octets :=
  match ty with
  | 5 => beOctets 32 (beNat xs % (p256.n - 1) + 1)
  | 6 => beOctets 48 (beNat xs % (p384.n - 1) + 1)
  | _ => xs

/-- The work of queue q's command on its source (R533, R538 to R540, R550). -/
def vCompute (q : Nat) (x : Octets) (s : State) : VRes × State :=
  let op := vop q s
  let alg := vAlg q s
  let kid := vKid q s
  let key := (slotKey kid s).secret
  let aux := vAux q s
  let iv := x.take (ivLen alg)
  let aadLen := if alg = 3 then aux % 2 ^ 32 else 0
  let aad := (x.drop (ivLen alg)).take aadLen
  let rest := x.drop (ivLen alg + aadLen)
  let ty := newType q op s
  let salt := decide (fget (vNew q s) aSALT = 1)
  match op with
  | 0x01 =>
    ({ early := true, out := match alg with
        | 0 => ecb (aesEnc key) rest
        | 1 => cbcEnc key iv rest
        | 2 => ctr key iv 16 rest
        | _ => let c := gcmText key iv rest; c ++ gcmTag key iv aad c }, s)
  | 0x02 =>
    let text := rest.take (rest.length - 16)
    (match alg with
      | 0 => { early := true, out := ecb (aesDec key) rest }
      | 1 => { early := true, out := cbcDec key iv rest }
      | 2 => { early := true, out := ctr key iv 16 rest }
      | _ => { early := true, out := gcmText key iv text
               code := if rest.drop (rest.length - 16) = gcmTag key iv aad text then 0 else 5 }, s)
  | 0x03 => ({ out := macBy alg key x }, s)
  | 0x04 =>
    let n := x.length - macLen alg
    ({ code := if macBy alg key (x.take n) = x.drop n then 0 else 5 }, s)
  | 0x05 => ({ early := true, out := hashBy alg x }, s)
  | 0x06 =>
    let (sig, s1) := signBy alg key x s
    ({ out := sig }, s1)
  | 0x07 =>
    let n := if kid = 0x7FF then pubLen (sigType alg) else 0
    let pk := if kid = 0x7FF then x.take n else pubOf (sigType alg) key
    ({ code := if verifyBy alg pk ((x.drop n).take (sigLen alg)) (x.drop (n + sigLen alg)) then 0 else 5 }, s)
  | 0x08 =>
    let ec (c : Curve) : Option Octets := match c.dec x with
      | none => none
      | some p => (c.mul (8 * c.len) (beNat key) (some p)).map fun r => beOctets c.len r.1
    (match (if alg = 0 then ec p256 else if alg = 1 then ec p384 else some (x25519 key x)) with
     | none => ({ code := vFORMAT }, s)
     | some z => madeKey ty salt z s)
  | 0x09 =>
    if !kemKeyOk x then ({ code := vFORMAT }, s)
    else
      let (m, s1) := randomOctets 32 s
      let (k, c) := kemEncaps x m
      let (r, s2) := madeKey ty salt k s1
      ({ r with out := c }, s2)
  | 0x0A => madeKey ty salt (kemDecaps key x) s
  | 0x0B =>
    let n := secretLen ty + (if salt then 12 else 0)
    let h := x.take (aux % 2 ^ 16)
    let info := x.drop (aux % 2 ^ 16)
    let z := match alg with
      | 0 => kdfCtr (hmac sha256 64 key) 32 n x
      | 1 => kdfCtr (cmac key) 16 n x
      | 2 => hkdf sha256 64 32 n h key info
      | _ => hkdf sha384 128 48 n h key info
    ({ key := some { secret := z.take (secretLen ty), salt := z.drop (secretLen ty) } }, s)
  | 0x0C =>
    let (z, s1) := randomOctets (secretLen ty) s
    madeKey ty salt (scalarOf ty z) s1
  | 0x0D =>
    let n := secretLen ty
    let w := (x.drop 12).take n
    let a := beOctets 8 (vNew q s).toNat
    if gcmTag key (x.take 12) a w = x.drop (12 + n) then madeKey ty salt (gcmText key (x.take 12) w) s else ({ code := 5 }, s)
  | 0x0E =>
    let k2 := (vkid2 q s).getD 0
    let (f, s1) := s.drawFree 96
    let v := beOctets 12 f.toNat
    let c := gcmText key v (slotKey k2 s).secret
    ({ out := v ++ c ++ gcmTag key v (beOctets 8 (s.reg (attrReg k2)).toNat) c }, s1)
  | 0x0F => ({ out := pubOf (slotAttr kid aTYPE s) key }, s)
  | 0x12 =>
    let (z, s1) := randomOctets (vDstLen q s) s
    ({ out := z }, s1)
  | 0x13 =>
    let (z, s1) := statement (bookplateBody (vjob q s).gtc x s) s
    ({ out := z }, s1)
  | 0x14 =>
    let (z, s1) := statement (holdcertBody kid (vjob q s).gtc x s) s
    ({ out := z }, s1)
  | 0x17 =>
    let pk := x.take 1952
    let m := [0x54#8, 0x43, 0x4C, 0x52] ++ beOctets 8 (s.reg R.VAULT_DEVID).toNat ++ beOctets 8 (s.reg R.VAULT_CHAL).toNat ++
      beOctets 1 (s.get R.VAULT_TAMP_STAT F.VAULT_TAMP_STAT_LATCH)
    ({ code := if decide (sha384 pk = rootHash 4 s) && dsaVerify pk (x.drop 1952) m then 0 else 5 }, s)
  | _ => ({ out := x }, s)

/-! ### The start (R527, R531, R534) -/

/-- The attribute word of the slot a command makes (R519, R525). -/
def madeAttr (q target state : Nat) (s : State) : BitVec 64 :=
  let op := vop q s
  let na := vNew q s
  let parent := if op = 0x0C then 0x7FF else vKid q s
  let wr := parent ≠ 0x7FF ∧ slotAttr parent aWRAPPABLE s = 1
  let own := if (vjob q s).lib then fget na aOWNER else vOwner q s
  let v := fput (fput (fput (fput (fput 0#64 aTYPE (newType q op s)) aRIGHTS (fget na aRIGHTS)) aSHARED (fget na aSHARED)) aSALT (fget na aSALT))
    aWRAPPABLE (if wr then fget na aWRAPPABLE else 0)
  fput (fput (fput (fput (fput v aPARENT parent) aORIGIN (if op = 0x0D then 1 else 0)) aOWNER own) aSTATE state)
    aZEROISE (if target < 256 then fget na aZEROISE else 0)

/-- Has queue q's engine room for its command: a place free, and no command started earlier still waiting (R531)? -/
def vTurn (q engine : Nat) (s : State) : Bool :=
  let same (e : Nat × VJob) : Bool := (match vSpec e.1 s with
    | some y => decide (y.engine = engine)
    | none => false)
  engine = 0 || (!(s.vault.jobs.any fun e => same e && !e.2.started && e.2.code.isNone && decide (e.2.seq < (vjob q s).seq)) &&
    decide ((s.vault.jobs.filter fun e => same e && e.2.started && e.2.code.isNone).length < (if engine = 1 then 2 else 1)))

/-- A persistent slot begins its programming (R522). -/
def vProgram (q : Nat) (s : State) : State :=
  let j := vjob q s
  match j.claim, j.made with
  | some k, some x =>
    let s1 := setSlotKey k (some x) (setAttr k (madeAttr q k 5 s) s)
    { s1 with vault := { s1.vault with prog := (k, s.el) :: s1.vault.prog } }
  | _, _ => s

/-- A command that has passed its checks starts: its source is read and its work done; what its end still needs is kept. -/
def vBegin (q : Nat) (x : VSpec) (s : State) : State :=
  let kids := (if x.types = [] then [] else [vKid q s]) ++ (if vop q s = 0x0E then [(vkid2 q s).getD 0] else [])
  let s0 := setVjob q { vjob q s with started := true, kids := kids, gtc := s.time.gtc } s
  match vRead q s0 with
  | (.inl e, s1) => setVjob q { vjob q s1 with code := some 7, reason := e.toNat } s1
  | (.inr src, s1) =>
    let (r, s2) := vCompute q src s1
    let late := !r.early
    let s3 := setVjob q { vjob q s2 with made := r.key, out := if late then r.out else [] } s2
    let s4 := if late then s3 else vWrite q r.out s3
    let j := vjob q s4
    if r.code ≠ 0 ∧ j.code = none then setVjob q { j with code := some r.code } s4 else vProgram q s4

/-- One of several codes; which one no rule says (assumption 2). -/
def pickCode (cs : List Nat) (s : State) : Nat × State :=
  match cs.eraseDups with
  | [c] => (c, s)
  | ds =>
    let (v, s1) := s.drawFree 8
    (ds.getD (v.toNat % max 1 ds.length) 0, s1)

/-- Does the strongroom work? -/
def vaultRuns (s : State) : Bool := !s.power.computeHeld && !tileClosed .strongroom s

/-- An operation's row: queue q's command of this OP starts, or completes with the code of a check it fails. -/
def vRow (q : Fin 16) (op : Nat) (s : State) : Host.Outcome State Fault Refusal :=
  let q := q.val
  let j := vjob q s
  .next (if !vaultRuns s || !vbusy q s || decide (vop q s ≠ op) || j.started || j.code.isSome then s
    else match vSpec q s with
      | none => s
      | some x =>
        if !vTurn q x.engine s then s
        else
          let cs := vCodes q x s
          if cs = [] then vBegin q x s
          else
            let (c, s1) := pickCode cs s
            vFinish q c 0 0 0 s1)

/-! ### The end (R525, R534, R536, R542, R543, R550) -/

/-- The slot a command makes at its end, with its KID; or the code it fails with (R525). -/
def vMake (q : Nat) (s : State) : Sum Nat (Nat × State) :=
  let j := vjob q s
  match j.made, j.claim with
  | none, _ => .inr (0, s)
  | some _, some k => .inr (k, s)
  | some x, none =>
    match vkid2 q s with
    | none =>
      (match emptyDerived s with
       | none => .inl 9
       | some k => .inr (k, setSlotKey k (some x) (setAttr k (madeAttr q k 1 s) s)))
    | some k => if slotAttr k aSTATE s = 0 then .inr (k, setSlotKey k (some x) (setAttr k (madeAttr q k 1 s) s)) else .inl 2

/-- What a command does to the strongroom at its end, beside its output and its slot. -/
def vEffect (q : Nat) (s : State) : State :=
  let kid := vKid q s
  let aux := vAux q s
  match vop q s with
  | 0x10 => if slotAttr kid aSTATE s = 2 then s else retireSlot kid s
  | 0x11 => eraseSlot kid s
  | 0x15 => setMeas (aux % 8) (sha384 (measOctets (aux % 8) s ++ (vjob q s).out)) s
  | 0x16 => s.set R.VAULT_FUSE F.VAULT_FUSE_MIN_SVN (aux % 128)
  | 0x17 =>
    let t := R.VAULT_TAMP_STAT
    raiseLib 0x087 (s.get t F.VAULT_TAMP_STAT_LATCH) ((s.set t F.VAULT_TAMP_STAT_LATCH 0).set t F.VAULT_TAMP_STAT_AON_LOST 0)
  | 0x18 => s.set R.VAULT_FUSE F.VAULT_FUSE_ROOT_REVOKE (Nat.lor (s.get R.VAULT_FUSE F.VAULT_FUSE_ROOT_REVOKE) (2 ^ (aux % 4)))
  | _ => s

/-- A new challenge is drawn after a TAMPER_CLEAR that was verified (R550). -/
def vChallenge (q : Nat) (s : State) : State :=
  let j := vjob q s
  if vop q s = 0x17 ∧ j.started = true ∧ (j.code = none ∨ j.code = some 5) then
    let (c, s1) := s.drawFree 64
    s1.setReg R.VAULT_CHAL c
  else s

/-- A command ends with a code other than OK (R534, R536). -/
def vFail (q code : Nat) (s : State) : State :=
  let j := vjob q s
  vFinish q code j.reason 0 j.len (vZero q s)

/-- A started command's end (R525, R534, R536): the output, the slot and the effect. -/
def vEnd (q : Nat) (s : State) : State :=
  let wr := !(vjob q s).out.isEmpty && decide (vop q s ≠ 0x15)
  let s1 := if wr then vWrite q (vjob q s).out s else s
  match (vjob q s1).code with
  | some c => vFail q c s1
  | none =>
    match vMake q s1 with
    | .inl c => vFail q c s1
    | .inr (kid, s2) => vFinish q 0 0 kid (vjob q s2).len (vEffect q s2)

/-- VAULT_COMMAND_DONE (R536): queue q's command completes; one that writes a persistent slot waits for its programming. -/
def execVaultCommandDone (q : Fin 16) (s : State) : Host.Outcome State Fault Refusal :=
  let q := q.val
  let j := vjob q s
  .next (if !vaultRuns s || !vbusy q s then s
    else if !j.started then
      (match j.code with
       | some c => vFinish q c 0 0 0 s
       | none => if (vSpec q s).isNone then vFinish q vFORMAT 0 0 0 s else s)
    else match j.code with
      | some c => vFail q c (vChallenge q s)
      | none =>
        if s.vault.prog.any fun e => decide (j.claim = some e.1) then s
        else vEnd q (vChallenge q s))

/-! ### The operations (R533) -/

/-- ENCRYPT (R533). -/
def execEncrypt (q : Fin 16) (s : State) : Host.Outcome State Fault Refusal := vRow q 0x01 s
/-- DECRYPT (R533). -/
def execDecrypt (q : Fin 16) (s : State) : Host.Outcome State Fault Refusal := vRow q 0x02 s
/-- MAC (R533). -/
def execMac (q : Fin 16) (s : State) : Host.Outcome State Fault Refusal := vRow q 0x03 s
/-- MAC_VERIFY (R533). -/
def execMacVerify (q : Fin 16) (s : State) : Host.Outcome State Fault Refusal := vRow q 0x04 s
/-- HASH (R533). -/
def execHash (q : Fin 16) (s : State) : Host.Outcome State Fault Refusal := vRow q 0x05 s
/-- SIGN (R533). -/
def execSign (q : Fin 16) (s : State) : Host.Outcome State Fault Refusal := vRow q 0x06 s
/-- VERIFY (R533). -/
def execVerify (q : Fin 16) (s : State) : Host.Outcome State Fault Refusal := vRow q 0x07 s
/-- AGREE (R533). -/
def execAgree (q : Fin 16) (s : State) : Host.Outcome State Fault Refusal := vRow q 0x08 s
/-- ENCAP (R533). -/
def execEncap (q : Fin 16) (s : State) : Host.Outcome State Fault Refusal := vRow q 0x09 s
/-- DECAP (R533). -/
def execDecap (q : Fin 16) (s : State) : Host.Outcome State Fault Refusal := vRow q 0x0A s
/-- KDF (R533). -/
def execKdf (q : Fin 16) (s : State) : Host.Outcome State Fault Refusal := vRow q 0x0B s
/-- GENERATE (R522, R533). -/
def execGenerate (q : Fin 16) (s : State) : Host.Outcome State Fault Refusal := vRow q 0x0C s
/-- UNWRAP (R533). -/
def execUnwrap (q : Fin 16) (s : State) : Host.Outcome State Fault Refusal := vRow q 0x0D s
/-- WRAP (R533). -/
def execWrap (q : Fin 16) (s : State) : Host.Outcome State Fault Refusal := vRow q 0x0E s
/-- PUBKEY (R533). -/
def execPubkey (q : Fin 16) (s : State) : Host.Outcome State Fault Refusal := vRow q 0x0F s
/-- RETIRE (R523). -/
def execRetire (q : Fin 16) (s : State) : Host.Outcome State Fault Refusal := vRow q 0x10 s
/-- ERASE (R533). -/
def execErase (q : Fin 16) (s : State) : Host.Outcome State Fault Refusal := vRow q 0x11 s
/-- RANDOM (R533). -/
def execRandom (q : Fin 16) (s : State) : Host.Outcome State Fault Refusal := vRow q 0x12 s
/-- BOOKPLATE (R539). -/
def execBookplate (q : Fin 16) (s : State) : Host.Outcome State Fault Refusal := vRow q 0x13 s
/-- HOLDCERT (R540). -/
def execHoldcert (q : Fin 16) (s : State) : Host.Outcome State Fault Refusal := vRow q 0x14 s
/-- MEASURE (R543). -/
def execMeasure (q : Fin 16) (s : State) : Host.Outcome State Fault Refusal := vRow q 0x15 s
/-- SVN_ADVANCE (R542). -/
def execSvnAdvance (q : Fin 16) (s : State) : Host.Outcome State Fault Refusal := vRow q 0x16 s
/-- TAMPER_CLEAR (R550). -/
def execTamperClear (q : Fin 16) (s : State) : Host.Outcome State Fault Refusal := vRow q 0x17 s
/-- REVOKE_ROOT (R542). -/
def execRevokeRoot (q : Fin 16) (s : State) : Host.Outcome State Fault Refusal := vRow q 0x18 s

end Sys2Proof.Machine
end

