-- ==== Sys2Proof/Machine/Dispatch.lean ====
section
/-!
DEFINITION. One arm for each command: its meaning, by name.
-/
namespace Sys2Proof.Machine

open Sys2Proof

def exec (i : Instr) (s : State) : Host.Outcome State Fault Refusal :=
  match i with
  | .registerWrite id a w => Sys2Proof.Machine.execRegisterWrite id a w s
  | .sysFaultCtlWrite id w => Sys2Proof.Machine.execSysFaultCtlWrite id w s
  | .safeNFall => Sys2Proof.Machine.execSafeNFall s
  | .safeNRecognised => Sys2Proof.Machine.execSafeNRecognised s
  | .safeNRise => Sys2Proof.Machine.execSafeNRise s
  | .d2dLinkDown => Sys2Proof.Machine.execD2dLinkDown s
  | .d2dLinkUp => Sys2Proof.Machine.execD2dLinkUp s
  | .parityMismatch t u => Sys2Proof.Machine.execParityMismatch t u s
  | .tileReset t => Sys2Proof.Machine.execTileReset t s
  | .unitReset t u => Sys2Proof.Machine.execUnitReset t u s
  | .transactionCheck t => Sys2Proof.Machine.execTransactionCheck t s
  | .transactionTimeout t => Sys2Proof.Machine.execTransactionTimeout t s
  | .gtcCounterMismatch flip => Sys2Proof.Machine.execGtcCounterMismatch flip s
  | .pllLossOfLock p => Sys2Proof.Machine.execPllLossOfLock p s
  | .referenceClockLoss => Sys2Proof.Machine.execReferenceClockLoss s
  | .alignmentWord dev => Sys2Proof.Machine.execAlignmentWord dev s
  | .pwrCopyHoldEnd => Sys2Proof.Machine.execPwrCopyHoldEnd s
  | .nightCrystalFail => Sys2Proof.Machine.execNightCrystalFail s
  | .gtcReconcile => Sys2Proof.Machine.execGtcReconcile s
  | .eventRelease c => Sys2Proof.Machine.execEventRelease c s
  | .waiteDeadline c => Sys2Proof.Machine.execWaiteDeadline c s
  | .noticeTrap c => Sys2Proof.Machine.execNoticeTrap c s
  | .almanacStep id w => Sys2Proof.Machine.execAlmanacStep id w s
  | .syncLossTimeout => Sys2Proof.Machine.execSyncLossTimeout s
  | .syncRelay d x ago => Sys2Proof.Machine.execSyncRelay d x ago s
  | .ppsCapture rising => Sys2Proof.Machine.execPpsCapture rising s
  | .triggerCtlWrite id n k w => Sys2Proof.Machine.execTriggerCtlWrite id n k w s
  | .triggerFire n => Sys2Proof.Machine.execTriggerFire n s
  | .pulseEnd n => Sys2Proof.Machine.execPulseEnd n s
  | .timeLateClr id => Sys2Proof.Machine.execTimeLateClr id s
  | .add x rd ra rb => Sys2Proof.Machine.execAdd x rd ra rb s
  | .sub x rd ra rb => Sys2Proof.Machine.execSub x rd ra rb s
  | .and x rd ra rb => Sys2Proof.Machine.execAnd x rd ra rb s
  | .or x rd ra rb => Sys2Proof.Machine.execOr x rd ra rb s
  | .xor x rd ra rb => Sys2Proof.Machine.execXor x rd ra rb s
  | .andn x rd ra rb => Sys2Proof.Machine.execAndn x rd ra rb s
  | .shl x rd ra rb => Sys2Proof.Machine.execShl x rd ra rb s
  | .shr x rd ra rb => Sys2Proof.Machine.execShr x rd ra rb s
  | .sar x rd ra rb => Sys2Proof.Machine.execSar x rd ra rb s
  | .rot x rd ra rb => Sys2Proof.Machine.execRot x rd ra rb s
  | .min x rd ra rb => Sys2Proof.Machine.execMin x rd ra rb s
  | .max x rd ra rb => Sys2Proof.Machine.execMax x rd ra rb s
  | .minu x rd ra rb => Sys2Proof.Machine.execMinu x rd ra rb s
  | .maxu x rd ra rb => Sys2Proof.Machine.execMaxu x rd ra rb s
  | .cmpeq x rd ra rb => Sys2Proof.Machine.execCmpeq x rd ra rb s
  | .cmpne x rd ra rb => Sys2Proof.Machine.execCmpne x rd ra rb s
  | .cmplt x rd ra rb => Sys2Proof.Machine.execCmplt x rd ra rb s
  | .cmpltu x rd ra rb => Sys2Proof.Machine.execCmpltu x rd ra rb s
  | .cmple x rd ra rb => Sys2Proof.Machine.execCmple x rd ra rb s
  | .cmpleu x rd ra rb => Sys2Proof.Machine.execCmpleu x rd ra rb s
  | .mul x rd ra rb => Sys2Proof.Machine.execMul x rd ra rb s
  | .mulh x rd ra rb => Sys2Proof.Machine.execMulh x rd ra rb s
  | .mulhu x rd ra rb => Sys2Proof.Machine.execMulhu x rd ra rb s
  | .div x rd ra rb => Sys2Proof.Machine.execDiv x rd ra rb s
  | .divu x rd ra rb => Sys2Proof.Machine.execDivu x rd ra rb s
  | .rem x rd ra rb => Sys2Proof.Machine.execRem x rd ra rb s
  | .remu x rd ra rb => Sys2Proof.Machine.execRemu x rd ra rb s
  | .fadd x rd ra rb => Sys2Proof.Machine.execFadd x rd ra rb s
  | .fsub x rd ra rb => Sys2Proof.Machine.execFsub x rd ra rb s
  | .fmul x rd ra rb => Sys2Proof.Machine.execFmul x rd ra rb s
  | .fdiv x rd ra rb => Sys2Proof.Machine.execFdiv x rd ra rb s
  | .fsqrt x rd ra rb => Sys2Proof.Machine.execFsqrt x rd ra rb s
  | .fmin x rd ra rb => Sys2Proof.Machine.execFmin x rd ra rb s
  | .fmax x rd ra rb => Sys2Proof.Machine.execFmax x rd ra rb s
  | .fcmpeq x rd ra rb => Sys2Proof.Machine.execFcmpeq x rd ra rb s
  | .fcmplt x rd ra rb => Sys2Proof.Machine.execFcmplt x rd ra rb s
  | .fcmple x rd ra rb => Sys2Proof.Machine.execFcmple x rd ra rb s
  | .fneg x rd ra rb => Sys2Proof.Machine.execFneg x rd ra rb s
  | .fabs x rd ra rb => Sys2Proof.Machine.execFabs x rd ra rb s
  | .fcvtdl x rd ra rb => Sys2Proof.Machine.execFcvtdl x rd ra rb s
  | .fcvtdlu x rd ra rb => Sys2Proof.Machine.execFcvtdlu x rd ra rb s
  | .fcvtld x rd ra rb => Sys2Proof.Machine.execFcvtld x rd ra rb s
  | .fcvtlud x rd ra rb => Sys2Proof.Machine.execFcvtlud x rd ra rb s
  | .fma x rd ra rb rc => Sys2Proof.Machine.execFma x rd ra rb rc s
  | .fms x rd ra rb rc => Sys2Proof.Machine.execFms x rd ra rb rc s
  | .fnma x rd ra rb rc => Sys2Proof.Machine.execFnma x rd ra rb rc s
  | .xbf x rd ra rb pos wm => Sys2Proof.Machine.execXbf x rd ra rb pos wm s
  | .xbfs x rd ra rb pos wm => Sys2Proof.Machine.execXbfs x rd ra rb pos wm s
  | .ibf x rd ra rb pos wm => Sys2Proof.Machine.execIbf x rd ra rb pos wm s
  | .xoct x rd ra rb fn => Sys2Proof.Machine.execXoct x rd ra rb fn s
  | .ioct x rd ra rb fn => Sys2Proof.Machine.execIoct x rd ra rb fn s
  | .pget x rd ra rb => Sys2Proof.Machine.execPget x rd ra rb s
  | .pset x rd ra rb => Sys2Proof.Machine.execPset x rd ra rb s
  | .pmrg x rd ra rb => Sys2Proof.Machine.execPmrg x rd ra rb s
  | .addi x rd ra imm => Sys2Proof.Machine.execAddi x rd ra imm s
  | .andi x rd ra imm => Sys2Proof.Machine.execAndi x rd ra imm s
  | .ori x rd ra imm => Sys2Proof.Machine.execOri x rd ra imm s
  | .xori x rd ra imm => Sys2Proof.Machine.execXori x rd ra imm s
  | .shli x rd ra hi amt => Sys2Proof.Machine.execShli x rd ra hi amt s
  | .shri x rd ra hi amt => Sys2Proof.Machine.execShri x rd ra hi amt s
  | .sari x rd ra hi amt => Sys2Proof.Machine.execSari x rd ra hi amt s
  | .roti x rd ra hi amt => Sys2Proof.Machine.execRoti x rd ra hi amt s
  | .cmpeqi x rd ra imm => Sys2Proof.Machine.execCmpeqi x rd ra imm s
  | .cmplti x rd ra imm => Sys2Proof.Machine.execCmplti x rd ra imm s
  | .pseti x rd ra imm => Sys2Proof.Machine.execPseti x rd ra imm s
  | .pchk x rd ra imm => Sys2Proof.Machine.execPchk x rd ra imm s
  | .ptst x rd ra imm => Sys2Proof.Machine.execPtst x rd ra imm s
  | .ldw x rd ra imm => Sys2Proof.Machine.execLdw x rd ra imm s
  | .stw x rd ra imm => Sys2Proof.Machine.execStw x rd ra imm s
  | .casw x rd ra rb fn => Sys2Proof.Machine.execCasw x rd ra rb fn s
  | .catr x rd ra imm => Sys2Proof.Machine.execCatr x rd ra imm s
  | .catrp x rd ra imm => Sys2Proof.Machine.execCatrp x rd ra imm s
  | .catw x rd ra imm => Sys2Proof.Machine.execCatw x rd ra imm s
  | .catwSlipWalk => Sys2Proof.Machine.execCatwSlipWalk s
  | .emit x rd ra imm => Sys2Proof.Machine.execEmit x rd ra imm s
  | .waite x rd ra rb fn => Sys2Proof.Machine.execWaite x rd ra rb fn s
  | .beq x ra rb disp => Sys2Proof.Machine.execBeq x ra rb disp s
  | .bne x ra rb disp => Sys2Proof.Machine.execBne x ra rb disp s
  | .blt x ra rb disp => Sys2Proof.Machine.execBlt x ra rb disp s
  | .bge x ra rb disp => Sys2Proof.Machine.execBge x ra rb disp s
  | .bltu x ra rb disp => Sys2Proof.Machine.execBltu x ra rb disp s
  | .bgeu x ra rb disp => Sys2Proof.Machine.execBgeu x ra rb disp s
  | .call x rd imm => Sys2Proof.Machine.execCall x rd imm s
  | .callr x rd ra imm => Sys2Proof.Machine.execCallr x rd ra imm s
  | .li x rd imm => Sys2Proof.Machine.execLi x rd imm s
  | .lsh x rd imm => Sys2Proof.Machine.execLsh x rd imm s
  | .brk x rd imm => Sys2Proof.Machine.execBrk x rd imm s
  | .drd x rd ra rb hi => Sys2Proof.Machine.execDrd x rd ra rb hi s
  | .dwr x rd ra rb hi => Sys2Proof.Machine.execDwr x rd ra rb hi s
  | .tlbFlush x ra => Sys2Proof.Machine.execTlbFlush x ra s
  | .mbxPut x rd ra rb hi => Sys2Proof.Machine.execMbxPut x rd ra rb hi s
  | .mbxGet x rd ra rb hi => Sys2Proof.Machine.execMbxGet x rd ra rb hi s
  | .mbxRing x rd ra rb hi => Sys2Proof.Machine.execMbxRing x rd ra rb hi s
  | .csw x rd ra rb hi => Sys2Proof.Machine.execCsw x rd ra rb hi s
  | .fence x rd ra rb hi => Sys2Proof.Machine.execFence x rd ra rb hi s
  | .sync x rd ra rb hi => Sys2Proof.Machine.execSync x rd ra rb hi s
  | .rett x rd ra rb hi => Sys2Proof.Machine.execRett x rd ra rb hi s
  | .catalogueMemoryWrite id a w => Sys2Proof.Machine.execCatalogueMemoryWrite id a w s
  | .receptionContextOpen p left => Sys2Proof.Machine.execReceptionContextOpen p left s
  | .fieldUnpack p k1 frame left => Sys2Proof.Machine.execFieldUnpack p k1 frame left s
  | .dueTimeExpiry p => Sys2Proof.Machine.execDueTimeExpiry p s
  | .passVerdict p => Sys2Proof.Machine.execPassVerdict p s
  | .failVerdict p => Sys2Proof.Machine.execFailVerdict p s
  | .ledgerStallEnd n => Sys2Proof.Machine.execLedgerStallEnd n s
  | .triggerDelivery n => Sys2Proof.Machine.execTriggerDelivery n s
  | .templateSend n => Sys2Proof.Machine.execTemplateSend n s
  | .templatePeriodExpiry n => Sys2Proof.Machine.execTemplatePeriodExpiry n s
  | .timeoutAction sm => Sys2Proof.Machine.execTimeoutAction sm s
  | .cataloguerStart id n w => Sys2Proof.Machine.execCataloguerStart id n w s
  | .cataloguerStop id n => Sys2Proof.Machine.execCataloguerStop id n s
  | .catCntClr id => Sys2Proof.Machine.execCatCntClr id s
  | .collationStart id u w => Sys2Proof.Machine.execCollationStart id u w s
  | .collationStop id u => Sys2Proof.Machine.execCollationStop id u s
  | .collationDone u stream => Sys2Proof.Machine.execCollationDone u stream s
  | .frameClassification p src => Sys2Proof.Machine.execFrameClassification p src s
  | .cellAdmission k1 => Sys2Proof.Machine.execCellAdmission k1 s
  | .cellRelease o k1 => Sys2Proof.Machine.execCellRelease o k1 s
  | .frameTransmitStart o => Sys2Proof.Machine.execFrameTransmitStart o s
  | .depCopyStart o => Sys2Proof.Machine.execDepCopyStart o s
  | .frameTransmitEnd o => Sys2Proof.Machine.execFrameTransmitEnd o s
  | .agingPromotion o tc => Sys2Proof.Machine.execAgingPromotion o tc s
  | .gateChangeRequest id p w => Sys2Proof.Machine.execGateChangeRequest id p w s
  | .gateListChange p => Sys2Proof.Machine.execGateListChange p s
  | .gateEntryAdvance p => Sys2Proof.Machine.execGateEntryAdvance p s
  | .ethLinkLoss p => Sys2Proof.Machine.execEthLinkLoss p s
  | .ethLinkUp p speed => Sys2Proof.Machine.execEthLinkUp p speed s
  | .portEnable id p w => Sys2Proof.Machine.execPortEnable id p w s
  | .portDisable id p w => Sys2Proof.Machine.execPortDisable id p w s
  | .graceExpiry p => Sys2Proof.Machine.execGraceExpiry p s
  | .fdbWrite id k1 => Sys2Proof.Machine.execFdbWrite id k1 s
  | .fdbRead id k1 => Sys2Proof.Machine.execFdbRead id k1 s
  | .plcaBeacon p => Sys2Proof.Machine.execPlcaBeacon p s
  | .plcaBeaconTimeout p => Sys2Proof.Machine.execPlcaBeaconTimeout p s
  | .encapMessage => Sys2Proof.Machine.execEncapMessage s
  | .encapGatherExpiry e => Sys2Proof.Machine.execEncapGatherExpiry e s
  | .decapMessage stream ty bus id data => Sys2Proof.Machine.execDecapMessage stream ty bus id data s
  | .ringTailWrite id r tail => Sys2Proof.Machine.execRingTailWrite id r tail s
  | .mdioStart id n w => Sys2Proof.Machine.execMdioStart id n w s
  | .mdioFrameDone n rdata => Sys2Proof.Machine.execMdioFrameDone n rdata s
  | .ethCntclr id p => Sys2Proof.Machine.execEthCntclr id p s
  | .macsecCntclr id u => Sys2Proof.Machine.execMacsecCntclr id u s
  | .copyRecordWaitEnd => Sys2Proof.Machine.execCopyRecordWaitEnd s
  | .canCtlWrite id n w => Sys2Proof.Machine.execCanCtlWrite id n w s
  | .canDisable id n w => Sys2Proof.Machine.execCanDisable id n w s
  | .canFrameMatch n id ago => Sys2Proof.Machine.execCanFrameMatch n id ago s
  | .canFrameEnd n ok data rlen af => Sys2Proof.Machine.execCanFrameEnd n ok data rlen af s
  | .canErrorDetected n kind tx strong => Sys2Proof.Machine.execCanErrorDetected n kind tx strong s
  | .busOffRecoveryDone n => Sys2Proof.Machine.execBusOffRecoveryDone n s
  | .busOffRestart id n => Sys2Proof.Machine.execBusOffRestart id n s
  | .noackResume id n => Sys2Proof.Machine.execNoackResume id n s
  | .txRequest id n b => Sys2Proof.Machine.execTxRequest id n b s
  | .canTxAttemptStart n => Sys2Proof.Machine.execCanTxAttemptStart n s
  | .canTxAttemptEnd n ok => Sys2Proof.Machine.execCanTxAttemptEnd n ok s
  | .canDeferredCopy n b => Sys2Proof.Machine.execCanDeferredCopy n b s
  | .canAbort id n b => Sys2Proof.Machine.execCanAbort id n b s
  | .canEscalation n b => Sys2Proof.Machine.execCanEscalation n b s
  | .mbDisable id n b => Sys2Proof.Machine.execMbDisable id n b s
  | .canCntclr id n => Sys2Proof.Machine.execCanCntclr id n s
  | .linScheduleRun id m w => Sys2Proof.Machine.execLinScheduleRun id m w s
  | .linSwitch id m w => Sys2Proof.Machine.execLinSwitch id m w s
  | .linSlotStart m => Sys2Proof.Machine.execLinSlotStart m s
  | .linBreakReceived m k1 ago rate => Sys2Proof.Machine.execLinBreakReceived m k1 ago rate s
  | .linResponseEnd m err data => Sys2Proof.Machine.execLinResponseEnd m err data s
  | .linResponseTimeout m => Sys2Proof.Machine.execLinResponseTimeout m s
  | .linIdleTimeout m => Sys2Proof.Machine.execLinIdleTimeout m s
  | .linCntclr id m => Sys2Proof.Machine.execLinCntclr id m s
  | .wingEnable id g w => Sys2Proof.Machine.execWingEnable id g w s
  | .wingDisable id g w => Sys2Proof.Machine.execWingDisable id g w s
  | .wingReady id g ready => Sys2Proof.Machine.execWingReady id g ready s
  | .minAwakeExpiry w => Sys2Proof.Machine.execMinAwakeExpiry w s
  | .tokenReceived g node body => Sys2Proof.Machine.execTokenReceived g node body s
  | .hopTimeout g => Sys2Proof.Machine.execHopTimeout g s
  | .retryExpiry w => Sys2Proof.Machine.execRetryExpiry w s
  | .lockupInstant w => Sys2Proof.Machine.execLockupInstant w s
  | .wakeRequest w => Sys2Proof.Machine.execWakeRequest w s
  | .wingWakeWrite id g => Sys2Proof.Machine.execWingWakeWrite id g s
  | .segmentUp g => Sys2Proof.Machine.execSegmentUp g s
  | .wakeTmoExpiry w => Sys2Proof.Machine.execWakeTmoExpiry w s
  | .linWakeResume m => Sys2Proof.Machine.execLinWakeResume m s
  | .overrule w => Sys2Proof.Machine.execOverrule w s
  | .selectiveWakeMatch n id ide rtr dlc data => Sys2Proof.Machine.execSelectiveWakeMatch n id ide rtr dlc data s
  | .swDecodeError n => Sys2Proof.Machine.execSwDecodeError n s
  | .linWakePulse m => Sys2Proof.Machine.execLinWakePulse m s
  | .wakePinEdge k rising lvl => Sys2Proof.Machine.execWakePinEdge k rising lvl s
  | .aonTimerExpiry => Sys2Proof.Machine.execAonTimerExpiry s
  | .nmCntclr id => Sys2Proof.Machine.execNmCntclr id s
  | .channelCommand src => Sys2Proof.Machine.execChannelCommand src s
  | .shortCircuitTrip c cur => Sys2Proof.Machine.execShortCircuitTrip c cur s
  | .desatTrip c vds cur => Sys2Proof.Machine.execDesatTrip c vds cur s
  | .overcurrentTrip c cur => Sys2Proof.Machine.execOvercurrentTrip c cur s
  | .wireModelUpdate c q mean vout => Sys2Proof.Machine.execWireModelUpdate c q mean vout s
  | .restartDue c => Sys2Proof.Machine.execRestartDue c s
  | .streakClean c => Sys2Proof.Machine.execStreakClean c s
  | .rearm id c => Sys2Proof.Machine.execRearm id c s
  | .thermalLatchSet c t => Sys2Proof.Machine.execThermalLatchSet c t s
  | .thermalLatchRelease c t => Sys2Proof.Machine.execThermalLatchRelease c t s
  | .clampEnd c e => Sys2Proof.Machine.execClampEnd c e s
  | .clampLockRelease c => Sys2Proof.Machine.execClampLockRelease c s
  | .openLoadOn c mean => Sys2Proof.Machine.execOpenLoadOn c mean s
  | .openLoadOff c v => Sys2Proof.Machine.execOpenLoadOff c v s
  | .extDrivenDetect c v => Sys2Proof.Machine.execExtDrivenDetect c v s
  | .shed sum => Sys2Proof.Machine.execShed sum s
  | .reverseCurrentBlock c cur => Sys2Proof.Machine.execReverseCurrentBlock c cur s
  | .reverseCurrentRecover c => Sys2Proof.Machine.execReverseCurrentRecover c s
  | .supplyConditionEntry k mv => Sys2Proof.Machine.execSupplyConditionEntry k mv s
  | .supplyConditionExit k mv => Sys2Proof.Machine.execSupplyConditionExit k mv s
  | .reverseBatteryEnd recorded => Sys2Proof.Machine.execReverseBatteryEnd recorded s
  | .leaseExpiry c => Sys2Proof.Machine.execLeaseExpiry c s
  | .dieTempWarn t => Sys2Proof.Machine.execDieTempWarn t s
  | .loadCntclr id c => Sys2Proof.Machine.execLoadCntclr id c s
  | .coreMismatch p comp ledger slice => Sys2Proof.Machine.execCoreMismatch p comp ledger slice s
  | .checkerFault p comp slice => Sys2Proof.Machine.execCheckerFault p comp slice s
  | .digestRequest p => Sys2Proof.Machine.execDigestRequest p s
  | .digestCompare p chk => Sys2Proof.Machine.execDigestCompare p chk s
  | .reserveHandover => Sys2Proof.Machine.execReserveHandover s
  | .reserveDesignate id w => Sys2Proof.Machine.execReserveDesignate id w s
  | .pairRelease id p => Sys2Proof.Machine.execPairRelease id p s
  | .injectionTestDone p pass => Sys2Proof.Machine.execInjectionTestDone p pass s
  | .pairReset id p => Sys2Proof.Machine.execPairReset id p s
  | .debugEntry p arm => Sys2Proof.Machine.execDebugEntry p arm s
  | .coreMultWrite id w => Sys2Proof.Machine.execCoreMultWrite id w s
  | .correctionWrite a => Sys2Proof.Machine.execCorrectionWrite a s
  | .scrubRead a flips last => Sys2Proof.Machine.execScrubRead a flips last s
  | .rangeFillStart id w => Sys2Proof.Machine.execRangeFillStart id w s
  | .pageTestStart id w => Sys2Proof.Machine.execPageTestStart id w s
  | .fillComplete failing => Sys2Proof.Machine.execFillComplete failing s
  | .bankRestore id b => Sys2Proof.Machine.execBankRestore id b s
  | .bankFillDone b => Sys2Proof.Machine.execBankFillDone b s
  | .stkCeclr id => Sys2Proof.Machine.execStkCeclr id s
  | .archiveEntryWrite => Sys2Proof.Machine.execArchiveEntryWrite s
  | .archPut id w => Sys2Proof.Machine.execArchPut id w s
  | .archClr id => Sys2Proof.Machine.execArchClr id s
  | .archRetClr id => Sys2Proof.Machine.execArchRetClr id s
  | .xspiCommand id w => Sys2Proof.Machine.execXspiCommand id w s
  | .xspiCommandDone ok data chg => Sys2Proof.Machine.execXspiCommandDone ok data chg s
  | .xspiCopy id w => Sys2Proof.Machine.execXspiCopy id w s
  | .xspiCopyDone => Sys2Proof.Machine.execXspiCopyDone s
  | .permitWrite id a w => Sys2Proof.Machine.execPermitWrite id a w s
  | .ownershipWrite id a w => Sys2Proof.Machine.execOwnershipWrite id a w s
  | .permLogClr id => Sys2Proof.Machine.execPermLogClr id s
  | .twinOutboundIssue ans => Sys2Proof.Machine.execTwinOutboundIssue ans s
  | .twinInboundArrival t => Sys2Proof.Machine.execTwinInboundArrival t s
  | .crossingResponse => Sys2Proof.Machine.execCrossingResponse s
  | .bridgeRetry => Sys2Proof.Machine.execBridgeRetry s
  | .bridgeAttemptTimeout => Sys2Proof.Machine.execBridgeAttemptTimeout s
  | .mirrorRefusalReport addr reason => Sys2Proof.Machine.execMirrorRefusalReport addr reason s
  | .semaphoreAcquire k fromTwin id => Sys2Proof.Machine.execSemaphoreAcquire k fromTwin id s
  | .semaphoreRelease k fromTwin id => Sys2Proof.Machine.execSemaphoreRelease k fromTwin id s
  | .twinBrLogclr id => Sys2Proof.Machine.execTwinBrLogclr id s
  | .carrelConfigure id c w => Sys2Proof.Machine.execCarrelConfigure id c w s
  | .carrelStart id c => Sys2Proof.Machine.execCarrelStart id c s
  | .carrelReset id c => Sys2Proof.Machine.execCarrelReset id c s
  | .carrelQuiesceEnd c => Sys2Proof.Machine.execCarrelQuiesceEnd c s
  | .timetableEnable id p k w => Sys2Proof.Machine.execTimetableEnable id p k w s
  | .timetableChange id p k w => Sys2Proof.Machine.execTimetableChange id p k w s
  | .timetableAdopt p k => Sys2Proof.Machine.execTimetableAdopt p k s
  | .contextPrefetch p k => Sys2Proof.Machine.execContextPrefetch p k s
  | .timetableSwitch p k => Sys2Proof.Machine.execTimetableSwitch p k s
  | .checkpointCommit x => Sys2Proof.Machine.execCheckpointCommit x s
  | .sessionEnable id c w => Sys2Proof.Machine.execSessionEnable id c w s
  | .remoteFrameReceive => Sys2Proof.Machine.execRemoteFrameReceive s
  | .remoteRequestServe c => Sys2Proof.Machine.execRemoteRequestServe c s
  | .remoteNoticeGatherExpiry c => Sys2Proof.Machine.execRemoteNoticeGatherExpiry c s
  | .carrelRcCntclr id => Sys2Proof.Machine.execCarrelRcCntclr id s
  | .encrypt q => Sys2Proof.Machine.execEncrypt q s
  | .decrypt q => Sys2Proof.Machine.execDecrypt q s
  | .mac q => Sys2Proof.Machine.execMac q s
  | .macVerify q => Sys2Proof.Machine.execMacVerify q s
  | .hash q => Sys2Proof.Machine.execHash q s
  | .sign q => Sys2Proof.Machine.execSign q s
  | .verify q => Sys2Proof.Machine.execVerify q s
  | .agree q => Sys2Proof.Machine.execAgree q s
  | .encap q => Sys2Proof.Machine.execEncap q s
  | .decap q => Sys2Proof.Machine.execDecap q s
  | .kdf q => Sys2Proof.Machine.execKdf q s
  | .generate q => Sys2Proof.Machine.execGenerate q s
  | .unwrap q => Sys2Proof.Machine.execUnwrap q s
  | .wrap q => Sys2Proof.Machine.execWrap q s
  | .pubkey q => Sys2Proof.Machine.execPubkey q s
  | .retire q => Sys2Proof.Machine.execRetire q s
  | .erase q => Sys2Proof.Machine.execErase q s
  | .random q => Sys2Proof.Machine.execRandom q s
  | .bookplate q => Sys2Proof.Machine.execBookplate q s
  | .holdcert q => Sys2Proof.Machine.execHoldcert q s
  | .measure q => Sys2Proof.Machine.execMeasure q s
  | .svnAdvance q => Sys2Proof.Machine.execSvnAdvance q s
  | .tamperClear q => Sys2Proof.Machine.execTamperClear q s
  | .revokeRoot q => Sys2Proof.Machine.execRevokeRoot q s
  | .vaultAbort id q => Sys2Proof.Machine.execVaultAbort id q s
  | .vaultCommandDone q => Sys2Proof.Machine.execVaultCommandDone q s
  | .slotProgrammingDone k => Sys2Proof.Machine.execSlotProgrammingDone k s
  | .orphanErase kid => Sys2Proof.Machine.execOrphanErase kid s
  | .entropyHealthFailure kind => Sys2Proof.Machine.execEntropyHealthFailure kind s
  | .entropyRecovery => Sys2Proof.Machine.execEntropyRecovery s
  | .drbgReseed => Sys2Proof.Machine.execDrbgReseed s
  | .tamperRecognised k1 => Sys2Proof.Machine.execTamperRecognised k1 s
  | .zeroiseComplete => Sys2Proof.Machine.execZeroiseComplete s
  | .heartbeatWord lane side pairEn => Sys2Proof.Machine.execHeartbeatWord lane side pairEn s
  | .timeWord ofs rate => Sys2Proof.Machine.execTimeWord ofs rate s
  | .laneDown lane => Sys2Proof.Machine.execLaneDown lane s
  | .twinLinkDown => Sys2Proof.Machine.execTwinLinkDown s
  | .twinLinkUp lanes peer => Sys2Proof.Machine.execTwinLinkUp lanes peer s
  | .twAliveToggle => Sys2Proof.Machine.execTwAliveToggle s
  | .sidebandLost => Sys2Proof.Machine.execSidebandLost s
  | .sidebandRecovered => Sys2Proof.Machine.execSidebandRecovered s
  | .twTakeInRecognised => Sys2Proof.Machine.execTwTakeInRecognised s
  | .witnessWindowEnd above => Sys2Proof.Machine.execWitnessWindowEnd above s
  | .mapWrite id a w answer => Sys2Proof.Machine.execMapWrite id a w answer s
  | .mirrorRecordApply shelf seq tofired word last => Sys2Proof.Machine.execMirrorRecordApply shelf seq tofired word last s
  | .demandRecord c w => Sys2Proof.Machine.execDemandRecord c w s
  | .twinRelayEvent k src payload stamp => Sys2Proof.Machine.execTwinRelayEvent k src payload stamp s
  | .departReceived => Sys2Proof.Machine.execDepartReceived s
  | .peerWake id => Sys2Proof.Machine.execPeerWake id s
  | .twinCntclr id => Sys2Proof.Machine.execTwinCntclr id s
  | .dozeRequest id => Sys2Proof.Machine.execDozeRequest id s
  | .dozeEntered => Sys2Proof.Machine.execDozeEntered s
  | .dozeExit => Sys2Proof.Machine.execDozeExit s
  | .parkRequest id => Sys2Proof.Machine.execParkRequest id s
  | .parkGtcHandoff => Sys2Proof.Machine.execParkGtcHandoff s
  | .parkExit => Sys2Proof.Machine.execParkExit s
  | .pgoodRise cfg side vote bad => Sys2Proof.Machine.execPgoodRise cfg side vote bad s
  | .crystalQualified => Sys2Proof.Machine.execCrystalQualified s
  | .crystalRetry => Sys2Proof.Machine.execCrystalRetry s
  | .fillDone => Sys2Proof.Machine.execFillDone s
  | .librarianRelease => Sys2Proof.Machine.execLibrarianRelease s
  | .pgoodTimeout => Sys2Proof.Machine.execPgoodTimeout s
  | .pgoodFall => Sys2Proof.Machine.execPgoodFall s
  | .powerOnReset pin => Sys2Proof.Machine.execPowerOnReset pin s
  | .warmReset => Sys2Proof.Machine.execWarmReset s
  | .computeDieReset => Sys2Proof.Machine.execComputeDieReset s
  | .powerLoss aon => Sys2Proof.Machine.execPowerLoss aon s
  | .vbat12Return => Sys2Proof.Machine.execVbat12Return s
  | .gpioEdge b ext => Sys2Proof.Machine.execGpioEdge b ext s
  | .gpioSet id b w => Sys2Proof.Machine.execGpioSet id b w s
  | .gpioClr id b w => Sys2Proof.Machine.execGpioClr id b w s
  | .adcStart id g w => Sys2Proof.Machine.execAdcStart id g w s
  | .adcGroupComplete g codes => Sys2Proof.Machine.execAdcGroupComplete g codes s
  | .undefinedOp x w => Sys2Proof.Machine.execUndefinedOp x w s
  | .pulseOnEdge c => Sys2Proof.Machine.execPulseOnEdge c s
  | .pulseOnTimeEnd c => Sys2Proof.Machine.execPulseOnTimeEnd c s
  | .laneUp lane => Sys2Proof.Machine.execLaneUp lane s
  | .resetPinRise por => Sys2Proof.Machine.execResetPinRise por s
  | .resetHoldExpiry cfg side vote bad => Sys2Proof.Machine.execResetHoldExpiry cfg side vote bad s
  | .debugImageWritten img => Sys2Proof.Machine.execDebugImageWritten img s

end Sys2Proof.Machine
end

