-- ==== Sys2Proof/Safety.lean ====
section
/-!
DEFINITION. What claims call a safe state, and the conditions and shapes of result that several claims share.
-/
namespace Sys2Proof.Machine

open Sys2Proof

/-- The registers and the memory of the state are in the canonical form of a sparse map. -/
def State.canonical (s : State) : Bool :=
  spWf resetReg s.regs && s.memWf

end Sys2Proof.Machine

namespace Sys2Proof.Claim

open Sys2Proof Machine

/-! ### Instructions -/

/-- Core c may execute: it is live, no NOTICE trap is due, and the fetch at its program counter succeeds and leaves `t`. -/
def CoreReady (c : Fin 16) (s t : State) : Prop :=
  coreLive c.val s = true ∧ noticeTrapDue c.val s = false ∧ coreFetch c.val s = (true, t) ∧ t.power.computeHeld = false

/-- Cataloguer n reads its next program word: it is live, its program counter has a successor, and the read succeeds and
leaves `t`. -/
def CuFetches (n : Fin 64) (s t : State) : Prop :=
  cuLive n.val s = true ∧ (s.cu n.val).pc < 8191 ∧ (∃ w, readArray (cuWord n.val s) .engine s = (some w, t)) ∧ t.cu n.val = s.cu n.val

/-- Cataloguer n may execute: it reads its next program word, and its run is below RUN_LIMIT. -/
def CuReady (n : Fin 64) (s t : State) : Prop :=
  CuFetches n s t ∧ (s.cu n.val).count < s.get (R.CATG_CUn_CTL n.val) F.CATG_CUn_CTL_RUN_LIMIT

/-- Core c commits and goes on with the next instruction in sequence (R98). -/
def goesOn (c : Nat) (t : State) : State := commitTo c ((t.core c).pc + 1) t

/-- Cataloguer n has executed one instruction and goes on at a program counter. -/
def cuGoes (n pc : Nat) (t : State) : State := t.setCu n { t.cu n with pc := pc, count := (t.cu n).count + 1 }

/-- An instruction whose whole effect is one ledger register: on a ready core and on a ready cataloguer, `rd` takes `f` of the
ledger registers and the instruction commits. A cataloguer has L0 to L31 alone, so its fields name those. -/
def Computes (i : Exu → Instr) (fields : List Reg) (rd : Reg) (f : (Reg → Word) → Word) : Prop :=
  (∀ c s t, CoreReady c s t →
    exec (i (.core c)) s = .next (commitTo c.val ((t.core c.val).pc + 1) (t.setLreg c.val rd (f (t.lreg c.val))))) ∧
  (∀ n s t, CuReady n s t → (∀ r ∈ fields, r.toNat < 32) →
    exec (i (.cu n)) s =
      .next (cuGoes n.val ((t.cu n.val).pc + 1) (t.setCu n.val ((t.cu n.val).put rd.toNat (f (fun r => cuReg n.val r t))))))

/-- The same of an instruction that only an execution core has: the effect on the state after the fetch. -/
def RunsOnCore (i : Exu → Instr) (f : Nat → State → State) : Prop :=
  ∀ c s t, CoreReady c s t → exec (i (.core c)) s = .next (f c.val t)

/-- The binary64 number that a ledger register of a core holds. -/
def fval (c : Nat) (r : Reg) (t : State) : Fp := fpUnpack (wv (t.lreg c r))

/-- The provenance of a result of some operands: theirs, merged from the left (R34). -/
def mergedProv : List Word → Prov
  | [] => pImm
  | [a] => wp a
  | a :: b :: t => t.foldl (fun p w => pMerge p (wp w)) (pMerge (wp a) (wp b))

/-- A floating-point instruction on core c (R157): `f` gives the result and its flags under DK_FCSR.RM. The flags join those of
DK_FCSR, VAL is raised where the operation signals invalid or divide by zero, and the instruction commits. -/
def floats (c : Nat) (rd : Reg) (srcs : List Reg) (f : Rm → BitVec 64 × FFlags) (t : State) : State :=
  let d := deskOf c t
  let y := f (rmOf (d.fcsr.extractLsb' 0 2))
  let p := mergedProv (srcs.map (t.lreg c))
  let t1 := setDesk c { d with fcsr := d.fcsr ||| (y.2.bits ++ 0#2) } t
  commitTo c ((t.core c).pc + 1) (t1.setLreg c rd (mkw y.1 (if y.2.invalid || y.2.divZero then pRaise p else p)))

/-- The ALU and MULDIV instructions (R149, R150). -/
def aluRows (x : Exu) (rd ra rb : Reg) : List Instr :=
  [.add x rd ra rb, .sub x rd ra rb, .and x rd ra rb, .or x rd ra rb, .xor x rd ra rb, .andn x rd ra rb, .shl x rd ra rb,
   .shr x rd ra rb, .sar x rd ra rb, .rot x rd ra rb] ++
  [.min x rd ra rb, .max x rd ra rb, .minu x rd ra rb, .maxu x rd ra rb, .cmpeq x rd ra rb, .cmpne x rd ra rb,
   .cmplt x rd ra rb, .cmpltu x rd ra rb, .cmple x rd ra rb, .cmpleu x rd ra rb] ++
  [.mul x rd ra rb, .mulh x rd ra rb, .mulhu x rd ra rb, .div x rd ra rb, .divu x rd ra rb, .rem x rd ra rb, .remu x rd ra rb]

/-- The immediate forms, with imm[17:8] zero in the shifts (R151, R152). -/
def immediateRows (x : Exu) (rd ra : Reg) (imm : BitVec 18) (amt : BitVec 6) (code : BitVec 24) : List Instr :=
  [.addi x rd ra imm, .andi x rd ra imm, .ori x rd ra imm, .xori x rd ra imm, .cmpeqi x rd ra imm, .cmplti x rd ra imm] ++
  [.shli x rd ra 0 amt, .shri x rd ra 0 amt, .sari x rd ra 0 amt, .roti x rd ra 0 amt, .li x rd code, .lsh x rd code]

/-- The provenance instructions that write a register, with rb L0 in PGET (R155). -/
def provenanceRows (x : Exu) (rd ra rb : Reg) : List Instr := [.pget x rd ra 0, .pset x rd ra rb, .pmrg x rd ra rb]

/-- The floating-point instructions, with rb L0 where there is one operand (R158 to R160). -/
def floatRows (x : Exu) (rd ra rb rc : Reg) : List Instr :=
  [.fadd x rd ra rb, .fsub x rd ra rb, .fmul x rd ra rb, .fdiv x rd ra rb, .fmin x rd ra rb, .fmax x rd ra rb, .fcmpeq x rd ra rb,
   .fcmplt x rd ra rb, .fcmple x rd ra rb] ++
  [.fsqrt x rd ra 0, .fneg x rd ra 0, .fabs x rd ra 0, .fcvtdl x rd ra 0, .fcvtdlu x rd ra 0, .fcvtld x rd ra 0, .fcvtlud x rd ra 0,
   .fma x rd ra rb rc, .fms x rd ra rb rc, .fnma x rd ra rb rc]

/-- The other instructions that only an execution core has (R148), well encoded. -/
def coreOnlyRows (x : Exu) (rd ra rb : Reg) (imm : BitVec 18) (code : BitVec 24) (d : BitVec 8) : List Instr :=
  [.ldw x rd ra imm, .stw x rd ra imm, .casw x rd ra rb 0, .brk x 0 code, .drd x rd 0 0 d, .dwr x 0 ra 0 d, .tlbFlush x ra] ++
  [.mbxPut x 0 ra rb 0, .mbxGet x rd 0 rb 0, .mbxRing x 0 0 rb 0, .csw x 0 ra 0 0, .fence x 0 0 0 0, .sync x 0 0 0 0, .rett x 0 0 0 0]

/-! ### Register writes -/

/-- The WRITE of a register from outside the cores. -/
def writeOf (id : Ident) (a : Nat) (w : BitVec 64) : Txn := { kind := .write, addr := BitVec.ofNat 48 a, id := id, data := immw w }

/-- An MMIO address that the access codes of R6 and the checks of R7 alone govern: no data word, permit entry, ownership
register, semaphore or word of the ownership map. -/
def plainReg (a : Nat) (s : State) : Bool :=
  decide (regionOf a = .mmio) && !isWideWord a && !isLiveWord a && !isPermitEntry a && !isOwnReg a s && !isSem a && !isMapReg a

/-- The value that a write leaves in a register (R6, R8). -/
def newValue (a : Nat) (w : BitVec 64) (s : State) : BitVec 64 :=
  match regAt a with
  | some r => r.apply (s.reg a) w ||| (s.roseMask a &&& s.reg a)
  | none => s.reg a

/-- The permit checks pass the write, and neither R6 and R7 nor the block's own rule refuses it. -/
def Accepted (id : Ident) (a : Nat) (w : BitVec 64) (s : State) : Prop :=
  plainReg a s = true ∧ accessCheck (writeOf id a w) s = none ∧
  (∃ r, regAt a = some r ∧ r.refuses (s.reg a) w = false) ∧ blkRefuses (writeOf id a w) w (newValue a w s) s = false

/-- The state after an accepted write whose register starts the action `f`, given the register before and after. -/
def wrote (a : Nat) (w : BitVec 64) (f : State → State) (s : State) : State :=
  { f (s.setReg a (newValue a w s)) with resp := .done }

/-- A command that is one write of a register: wherever the write is accepted, the command leaves the register's new value, what
`f` does for the writer's identity and the state before the write, and done; nothing else changes. -/
def Starts (c : Ident → Instr) (a : Nat) (w : State → BitVec 64) (f : Ident → State → State → State) : Prop :=
  ∀ id s, Accepted id a (w s) s → exec (c id) s = .next (wrote a (w s) (f id s) s)

/-- A command that is one write of a register without an action of its own: the write sets the register's fields alone. -/
def Sets (c : Ident → Instr) (a : Nat) (w : State → BitVec 64) : Prop := Starts c a w (fun _ _ t => t)

/-! ### The catalogue -/

/-- What a fail verdict of context p leaves (R210): the context is closed, no ledger item and no queued trigger depends on it, and
every entry that held a provisional value of it has its confirmed word as its current word. -/
def ContextFailed (p : Fin 48) (s t : State) : Prop :=
  (t.rx p.val).open_ = false ∧ (∀ x ∈ t.cat.items, x.mask.getLsbD p.val = false) ∧
  (∀ n : Fin 64, ∀ y ∈ (t.cu n.val).q, y.mask.getLsbD p.val = false) ∧
  (∀ x ∈ s.cat.items, x.mask.getLsbD p.val = true → ∀ a l, x.eff = .entry a l → t.rdMem (catA a 0) = t.rdMem (catA a 1))

/-! ### Counters, loads, pairs and the strongroom -/

/-- A 64-bit counter counts up and stops at its maximum (R6). -/
def counted (v : BitVec 64) : BitVec 64 := if v = BitVec.allOnes 64 then v else v + 1

/-- What a protective trip of channel c leaves (R383): its flag, the current, the count, and the channel off, exhausted after the
last attempt and else waiting for its restart time. -/
def Tripped (c : Nat) (flag : Fld) (cur : BitVec 20) (s t : State) : Prop :=
  t.bit (R.LOAD_CHc_TRIP c) flag = true ∧ t.get (R.LOAD_CHc_I c) F.LOAD_CHc_I_I_TRIP = cur.toNat ∧ (t.chan c).streak = true ∧
  t.get (R.LOAD_CHc_CNT c) F.LOAD_CHc_CNT_TRIPS = min (s.get (R.LOAD_CHc_CNT c) F.LOAD_CHc_CNT_TRIPS + 1) 65535 ∧
  (if s.get (R.LOAD_CHc_STAT c) F.LOAD_CHc_STAT_ATTEMPTS = s.get (R.LOAD_PROFp_RETRY (profOf c s)) F.LOAD_PROFp_RETRY_RETRY_MAX then
    t.bit (R.LOAD_CHc_STAT c) F.LOAD_CHc_STAT_EXHAUSTED = true ∧ t.bit (R.LOAD_CHc_STAT c) F.LOAD_CHc_STAT_OUT = false
  else (t.chan c).restartAt = s.el + 1000000 * min (s.get (R.LOAD_PROFp_RETRY (profOf c s)) F.LOAD_PROFp_RETRY_BACKOFF *
      2 ^ s.get (R.LOAD_CHc_STAT c) F.LOAD_CHc_STAT_ATTEMPTS) 65535 ∧
    (s.get (R.LOAD_PROFp_RETRY (profOf c s)) F.LOAD_PROFp_RETRY_BACKOFF ≠ 0 → t.bit (R.LOAD_CHc_STAT c) F.LOAD_CHc_STAT_OUT = false))

/-- What the stop of pair p leaves (R416): STOPPED, the fault recorded, the pair's ports closed, and the reserve pair due to take
over or the pair's active carrels stopped without a context. -/
def PairStopped (p : Fin 8) (kind comp : Nat) (s t : State) : Prop :=
  pairState p.val t = 4 ∧ t.get (R.EXEC_Pp_FAULT p.val) F.EXEC_Pp_FAULT_KIND = kind ∧
  t.get (R.EXEC_Pp_FAULT p.val) F.EXEC_Pp_FAULT_COMP = comp ∧ tileClosed (.pair p) t = true ∧
  (reserveReady p.val s = true → ∃ h, t.handover = some h ∧ h.pair = p.val ∧ h.at_ = s.now) ∧
  (reserveReady p.val s = false → ∀ c ∈ pairCarrels p.val s, c ≠ 0 → carState c s = 2 →
    carState c t = 1 ∧ t.bit (R.CARREL_Cc_STAT c) F.CARREL_Cc_STAT_FRESH = false)

/-- What the completion of queue q's command leaves in its STAT (R536). -/
def VaultCompleted (q : Fin 16) (code : Nat) (t : State) : Prop :=
  t.bit (R.VAULT_Qq_STAT q.val) F.VAULT_Qq_STAT_BUSY = false ∧ t.bit (R.VAULT_Qq_STAT q.val) F.VAULT_Qq_STAT_DONE = true ∧
  t.get (R.VAULT_Qq_STAT q.val) F.VAULT_Qq_STAT_CODE = code ∧ (code ≠ 0 → t.bit (R.VAULT_Qq_STAT q.val) F.VAULT_Qq_STAT_ERR = true) ∧
  vjob q.val t = {}

end Sys2Proof.Claim
end

