-- ==== Sys2Proof/Certificates/Slice0/Obligations.lean ====
section
/-!
DEFINITION. The statements for the provers.
-/
open Sys2Proof Sys2Proof.Machine Sys2Proof.Claim

/-! ### The queue, time and reset -/

/-- The block's command interface: the step of a state with a command at the front of its queue is exec of that command on
the state with the queue's rest (the model's queue: assumption 10). -/
def Obligations.StepTakesTheFrontCommand : Prop :=
  ∀ (c : Instr) (q : List Instr) (s : State), step { s with pending := c :: q } = exec c { s with pending := q }

/-- R53, R54, R56, R58, R72: while the PLLs run and the coarse count does not carry time, one tick adds 2 ns to the GTC, to
its second counter and to elapsed time, and 2 ns plus RATE × 2^-40 ns to the almanac; while the coarse count carries time, a
tick is one night-clock edge, 30,517 ns with 37/64 ns in the accumulator. A step on an empty queue is such a tick (the
model's choice: assumption 1). -/
def Obligations.IdleStepIsOneTick : Prop :=
  ∀ s : State, s.pending = [] →
    (gtcRuns s = true → ∃ t, step s = .next t ∧ t.time.gtc = s.time.gtc + 2 ∧ t.time.gtcDup = s.time.gtcDup + 2 ∧
      t.time.el = s.time.el + 2 ∧ t.pending = [] ∧ t.mem = s.mem ∧ t.regs = s.regs ∧
      (s.linkUp = true → s.power.powerHeld = false → s.bit R.TIME_GTC_STAT F.TIME_GTC_STAT_PWR_HELD = false →
        t.time.pwrGtc = t.time.gtc) ∧
      ((almRate s) = 0 → s.time.almNs.toNat + 2 < 1000000000 → t.time.almSec = s.time.almSec ∧ t.time.almNs = s.time.almNs + 2)) ∧
    (s.time.coarseRun = true → ∃ t, step s = .next t ∧
      t.time.coarse.toNat = (s.time.coarse.toNat + 30517 + (s.time.coarseAcc.toNat + 37) / 64) % 2 ^ 64 ∧
      t.time.coarseAcc.toNat = (s.time.coarseAcc.toNat + 37) % 64 ∧ t.time.pwrGtc = t.time.coarse ∧ t.mem = s.mem ∧ t.pending = [])

/-- R6, R19, R443: every step, whatever command it takes, keeps the register file and the memory in the canonical form of a
sparse map, so that equal contents are equal data (the model's choice of form: assumption 11). -/
def Obligations.EveryStepKeepsTheCanonicalForm : Prop :=
  ∀ (s t : State), s.canonical = true → step s = .next t → t.canonical = true

/-- R9, R31, R475, R591, R593, R595: after power-on the compute die is held, no load output is on, no pair is released, the
listed registers have the values of their tables' Reset columns, and only master 0 has rights. That the queue is empty and
the form canonical is the model's own (assumptions 10 and 11). -/
def Obligations.ResetStateIsAsStated : Prop :=
  State.reset.canonical = true ∧ State.reset.pending = [] ∧ State.reset.time.gtc = 0 ∧ State.reset.power.computeHeld = true ∧
  (∀ c : Fin 32, State.reset.bit (R.LOAD_CHc_STAT c.val) F.LOAD_CHc_STAT_OUT = false) ∧
  (∀ p : Fin 8, pairState p.val State.reset = 0) ∧
  State.reset.get R.SYS_PWR_DZMASK F.SYS_PWR_DZMASK_MASK = 0xF ∧ State.reset.get R.SYS_PARK_WMASK F.SYS_PARK_WMASK_MASK = 0xFF ∧
  State.reset.get R.SYS_PMIC F.SYS_PMIC_PGOOD_TMO = 20 ∧ State.reset.get R.SYS_PMIC F.SYS_PMIC_RETRIES = 3 ∧
  State.reset.get R.SYS_PMIC F.SYS_PMIC_OFF_MS = 5 ∧ State.reset.get R.TWIN_BR_CTL F.TWIN_BR_CTL_TMO = 20 ∧
  State.reset.get R.TWIN_BR_CTL F.TWIN_BR_CTL_GAP = 10 ∧
  (∀ w : Fin 16, State.reset.reg (R.NM_WINGw_OVRMASK w.val) = 0x0FFFF000000000FF ∧
    State.reset.get (R.NM_WINGw_TIME w.val) F.NM_WINGw_TIME_WAKE_TMO = 200) ∧
  (∀ (r : Fin 8) (m : Fin 64), State.reset.reg (R.PERM_TABLE r.val m.val) =
    if m.val = 0 then (if r.val = 6 then 0xB else 0xF) else 0)

/-! ### Instructions of Yilfixa-72 -/

/-- R149: on a ready core and on a ready cataloguer each instruction of the ALU group writes its result to rd, with the
provenance of both operands merged, or of a alone for a shift or rotate by the low six bits of b, and commits. R150: the
MULDIV group. A division by zero writes all ones, a remainder by zero writes a, and either raises VAL. -/
def Obligations.AluAndMulDivGroupsCompute : Prop :=
  (∀ (rd ra rb : Reg),
    Computes (.add · rd ra rb) [rd, ra, rb] rd (fun r => merged (wv (r ra) + wv (r rb)) (r ra) (r rb)) ∧
    Computes (.sub · rd ra rb) [rd, ra, rb] rd (fun r => merged (wv (r ra) - wv (r rb)) (r ra) (r rb)) ∧
    Computes (.and · rd ra rb) [rd, ra, rb] rd (fun r => merged (wv (r ra) &&& wv (r rb)) (r ra) (r rb)) ∧
    Computes (.or · rd ra rb) [rd, ra, rb] rd (fun r => merged (wv (r ra) ||| wv (r rb)) (r ra) (r rb)) ∧
    Computes (.xor · rd ra rb) [rd, ra, rb] rd (fun r => merged (wv (r ra) ^^^ wv (r rb)) (r ra) (r rb)) ∧
    Computes (.andn · rd ra rb) [rd, ra, rb] rd (fun r => merged (wv (r ra) &&& ~~~wv (r rb)) (r ra) (r rb)) ∧
    Computes (.shl · rd ra rb) [rd, ra, rb] rd (fun r => keeping (wv (r ra) <<< ((wv (r rb)).toNat % 64)) (r ra)) ∧
    Computes (.shr · rd ra rb) [rd, ra, rb] rd (fun r => keeping (wv (r ra) >>> ((wv (r rb)).toNat % 64)) (r ra)) ∧
    Computes (.sar · rd ra rb) [rd, ra, rb] rd (fun r => keeping ((wv (r ra)).sshiftRight ((wv (r rb)).toNat % 64)) (r ra)) ∧
    Computes (.rot · rd ra rb) [rd, ra, rb] rd (fun r => keeping ((wv (r ra)).rotateLeft ((wv (r rb)).toNat % 64)) (r ra)) ∧
    Computes (.min · rd ra rb) [rd, ra, rb] rd
      (fun r => merged (if (wv (r ra)).toInt < (wv (r rb)).toInt then wv (r ra) else wv (r rb)) (r ra) (r rb)) ∧
    Computes (.max · rd ra rb) [rd, ra, rb] rd
      (fun r => merged (if (wv (r ra)).toInt < (wv (r rb)).toInt then wv (r rb) else wv (r ra)) (r ra) (r rb)) ∧
    Computes (.minu · rd ra rb) [rd, ra, rb] rd
      (fun r => merged (if (wv (r ra)).toNat < (wv (r rb)).toNat then wv (r ra) else wv (r rb)) (r ra) (r rb)) ∧
    Computes (.maxu · rd ra rb) [rd, ra, rb] rd
      (fun r => merged (if (wv (r ra)).toNat < (wv (r rb)).toNat then wv (r rb) else wv (r ra)) (r ra) (r rb)) ∧
    Computes (.cmpeq · rd ra rb) [rd, ra, rb] rd (fun r => merged (if wv (r ra) = wv (r rb) then 1 else 0) (r ra) (r rb)) ∧
    Computes (.cmpne · rd ra rb) [rd, ra, rb] rd (fun r => merged (if wv (r ra) = wv (r rb) then 0 else 1) (r ra) (r rb)) ∧
    Computes (.cmplt · rd ra rb) [rd, ra, rb] rd
      (fun r => merged (if (wv (r ra)).toInt < (wv (r rb)).toInt then 1 else 0) (r ra) (r rb)) ∧
    Computes (.cmpltu · rd ra rb) [rd, ra, rb] rd
      (fun r => merged (if (wv (r ra)).toNat < (wv (r rb)).toNat then 1 else 0) (r ra) (r rb)) ∧
    Computes (.cmple · rd ra rb) [rd, ra, rb] rd
      (fun r => merged (if (wv (r ra)).toInt ≤ (wv (r rb)).toInt then 1 else 0) (r ra) (r rb)) ∧
    Computes (.cmpleu · rd ra rb) [rd, ra, rb] rd
      (fun r => merged (if (wv (r ra)).toNat ≤ (wv (r rb)).toNat then 1 else 0) (r ra) (r rb))) ∧
  (∀ (rd ra rb : Reg),
    Computes (.mul · rd ra rb) [rd, ra, rb] rd
      (fun r => merged (BitVec.ofNat 64 ((wv (r ra)).toNat * (wv (r rb)).toNat)) (r ra) (r rb)) ∧
    Computes (.mulh · rd ra rb) [rd, ra, rb] rd
      (fun r => merged (BitVec.ofInt 64 ((wv (r ra)).toInt * (wv (r rb)).toInt / 2 ^ 64)) (r ra) (r rb)) ∧
    Computes (.mulhu · rd ra rb) [rd, ra, rb] rd
      (fun r => merged (BitVec.ofNat 64 ((wv (r ra)).toNat * (wv (r rb)).toNat / 2 ^ 64)) (r ra) (r rb)) ∧
    Computes (.div · rd ra rb) [rd, ra, rb] rd
      (fun r => if wv (r rb) = 0 then mkw (BitVec.allOnes 64) (pRaise (pMerge (wp (r ra)) (wp (r rb))))
                else merged (BitVec.ofInt 64 ((wv (r ra)).toInt.tdiv (wv (r rb)).toInt)) (r ra) (r rb)) ∧
    Computes (.divu · rd ra rb) [rd, ra, rb] rd
      (fun r => if wv (r rb) = 0 then mkw (BitVec.allOnes 64) (pRaise (pMerge (wp (r ra)) (wp (r rb))))
                else merged (BitVec.ofNat 64 ((wv (r ra)).toNat / (wv (r rb)).toNat)) (r ra) (r rb)) ∧
    Computes (.rem · rd ra rb) [rd, ra, rb] rd
      (fun r => if wv (r rb) = 0 then mkw (wv (r ra)) (pRaise (pMerge (wp (r ra)) (wp (r rb))))
                else merged (BitVec.ofInt 64 ((wv (r ra)).toInt.tmod (wv (r rb)).toInt)) (r ra) (r rb)) ∧
    Computes (.remu · rd ra rb) [rd, ra, rb] rd
      (fun r => if wv (r rb) = 0 then mkw (wv (r ra)) (pRaise (pMerge (wp (r ra)) (wp (r rb))))
                else merged (BitVec.ofNat 64 ((wv (r ra)).toNat % (wv (r rb)).toNat)) (r ra) (r rb)))

/-- R151, R152: the immediate forms keep a's provenance, LI gives provenance 0xC0, and LSH keeps d's. A shift or rotate by
an immediate has imm[17:8] zero. -/
def Obligations.ImmediateFormsCompute : Prop :=
  (∀ (rd ra : Reg) (imm : BitVec 18),
    Computes (.addi · rd ra imm) [rd, ra] rd (fun r => keeping (wv (r ra) + imm.signExtend 64) (r ra)) ∧
    Computes (.andi · rd ra imm) [rd, ra] rd (fun r => keeping (wv (r ra) &&& imm.setWidth 64) (r ra)) ∧
    Computes (.ori · rd ra imm) [rd, ra] rd (fun r => keeping (wv (r ra) ||| imm.setWidth 64) (r ra)) ∧
    Computes (.xori · rd ra imm) [rd, ra] rd (fun r => keeping (wv (r ra) ^^^ imm.setWidth 64) (r ra)) ∧
    Computes (.cmpeqi · rd ra imm) [rd, ra] rd (fun r => keeping (if (wv (r ra)).toInt = imm.toInt then 1 else 0) (r ra)) ∧
    Computes (.cmplti · rd ra imm) [rd, ra] rd (fun r => keeping (if (wv (r ra)).toInt < imm.toInt then 1 else 0) (r ra))) ∧
  (∀ (rd ra : Reg) (amt : BitVec 6),
    Computes (.shli · rd ra 0 amt) [rd, ra] rd (fun r => keeping (wv (r ra) <<< amt.toNat) (r ra)) ∧
    Computes (.shri · rd ra 0 amt) [rd, ra] rd (fun r => keeping (wv (r ra) >>> amt.toNat) (r ra)) ∧
    Computes (.sari · rd ra 0 amt) [rd, ra] rd (fun r => keeping ((wv (r ra)).sshiftRight amt.toNat) (r ra)) ∧
    Computes (.roti · rd ra 0 amt) [rd, ra] rd (fun r => keeping ((wv (r ra)).rotateLeft amt.toNat) (r ra))) ∧
  (∀ (rd : Reg) (imm : BitVec 24),
    Computes (.li · rd imm) [rd] rd (fun _ => mkw (imm.signExtend 64) 0xC0) ∧
    Computes (.lsh · rd imm) [rd] rd (fun r => keeping ((wv (r rd) <<< 24) ||| imm.setWidth 64) (r rd)))

/-- R153 to R156: bit fields that end at or below bit 63, octets 0 to 8, and the provenance instructions, with rb L0 where
the instruction has no second operand. -/
def Obligations.FieldsOctetsProvenanceCompute : Prop :=
  (∀ (rd ra : Reg) (pos wm : BitVec 6), pos.toNat + (wm.toNat + 1) ≤ 64 →
    Computes (.xbf · rd ra 0 pos wm) [rd, ra, 0] rd
      (fun r => keeping ((wv (r ra) >>> pos.toNat) &&& fieldMask wm) (r ra)) ∧
    Computes (.xbfs · rd ra 0 pos wm) [rd, ra, 0] rd (fun r => keeping (fieldGetS (wv (r ra)) pos wm) (r ra)) ∧
    Computes (.ibf · rd ra 0 pos wm) [rd, ra, 0] rd
      (fun r => merged (fieldSet (wv (r rd)) (wv (r ra)) pos wm) (r rd) (r ra))) ∧
  (∀ (rd ra : Reg) (k : BitVec 4), k.toNat ≤ 8 →
    Computes (.xoct · rd ra 0 (k.setWidth 12)) [rd, ra, 0] rd (fun r => mkw ((octet (r ra) k.toNat).setWidth 64) 0xC0) ∧
    Computes (.ioct · rd ra 0 (k.setWidth 12)) [rd, ra, 0] rd
      (fun r => setOctet (r rd) k.toNat ((wv (r ra)).setWidth 8))) ∧
  (∀ (rd ra rb : Reg),
    Computes (.xoct · rd ra rb 16) [rd, ra, rb] rd
      (fun r => mkw (if (wv (r rb)).toNat ≤ 8 then (octet (r ra) (wv (r rb)).toNat).setWidth 64 else 0) 0xC0) ∧
    Computes (.ioct · rd ra rb 16) [rd, ra, rb] rd
      (fun r => if (wv (r rb)).toNat ≤ 8 then setOctet (r rd) (wv (r rb)).toNat ((wv (r ra)).setWidth 8) else r rd) ∧
    Computes (.pget · rd ra 0) [rd, ra, 0] rd (fun r => mkw ((wp (r ra)).setWidth 64) 0xC0) ∧
    Computes (.pset · rd ra rb) [rd, ra, rb] rd (fun r => mkw (wv (r ra)) ((wv (r rb)).setWidth 8)) ∧
    Computes (.pmrg · rd ra rb) [rd, ra, rb] rd (fun r => mkw (wv (r ra)) (pMerge (wp (r ra)) (wp (r rb))))) ∧
  (∀ (rd ra : Reg) (p : BitVec 8), Computes (.pseti · rd ra (p.setWidth 18)) [rd, ra] rd (fun r => mkw (wv (r ra)) p)) ∧
  (∀ (rd ra : Reg) (m : BitVec 10),
    Computes (.ptst · rd ra (m.setWidth 18)) [rd, ra] rd
      (fun r => mkw (if pMeets (wp (r ra)) (m.setWidth 18) then 1 else 0) 0xC0)) ∧
  (∀ (ra : Reg) (m : BitVec 10) (c : Fin 16) (s t : State), CoreReady c s t →
    exec (.pchk (.core c) 0 ra (m.setWidth 18)) s =
      .next (if pMeets (wp (t.lreg c.val ra)) (m.setWidth 18) then commitTo c.val ((t.core c.val).pc + 1) t
             else takeTrap c.val 0x09 0 0 (BitVec.ofNat 64 ((wp (t.lreg c.val ra)).toNat + 256 * ra.toNat)) t)) ∧
  (∀ (ra : Reg) (m : BitVec 10) (n : Fin 64) (s t : State), CuReady n s t → ra.toNat < 32 →
    exec (.pchk (.cu n) 0 ra (m.setWidth 18)) s =
      .next (if pMeets (wp (cuReg n.val ra t)) (m.setWidth 18) then cuGoes n.val ((t.cu n.val).pc + 1) t else cuFault n.val 3 t))

/-- The result of a floating-point instruction: `f` gives the binary64 result and its flags under DK_FCSR.RM, the flags join
those of DK_FCSR, and VAL is raised where the operation signals invalid or divide by zero (R157). -/
def Obligations.FloatingPointComputes : Prop :=
  (∀ (rd ra rb : Reg),
    RunsOnCore (.fadd · rd ra rb) (fun c t => floats c rd [ra, rb] (fun rm => fpAdd rm (fval c ra t) (fval c rb t)) t) ∧
    RunsOnCore (.fsub · rd ra rb) (fun c t => floats c rd [ra, rb] (fun rm => fpAdd rm (fval c ra t) (fval c rb t).negate) t) ∧
    RunsOnCore (.fmul · rd ra rb) (fun c t => floats c rd [ra, rb] (fun rm => fpMul rm (fval c ra t) (fval c rb t)) t) ∧
    RunsOnCore (.fdiv · rd ra rb) (fun c t => floats c rd [ra, rb] (fun rm => fpDiv rm (fval c ra t) (fval c rb t)) t) ∧
    RunsOnCore (.fmin · rd ra rb) (fun c t => floats c rd [ra, rb] (fun _ => fpMinMax false (wv (t.lreg c ra)) (wv (t.lreg c rb))) t) ∧
    RunsOnCore (.fmax · rd ra rb) (fun c t => floats c rd [ra, rb] (fun _ => fpMinMax true (wv (t.lreg c ra)) (wv (t.lreg c rb))) t) ∧
    RunsOnCore (.fcmpeq · rd ra rb) (fun c t => floats c rd [ra, rb] (fun _ => fpFlag (fpCmpEq (wv (t.lreg c ra)) (wv (t.lreg c rb)))) t) ∧
    RunsOnCore (.fcmplt · rd ra rb) (fun c t => floats c rd [ra, rb] (fun _ => fpFlag (fpCmpLt (wv (t.lreg c ra)) (wv (t.lreg c rb)))) t) ∧
    RunsOnCore (.fcmple · rd ra rb) (fun c t => floats c rd [ra, rb] (fun _ => fpFlag (fpCmpLe (wv (t.lreg c ra)) (wv (t.lreg c rb)))) t)) ∧
  (∀ (rd ra : Reg),
    RunsOnCore (.fsqrt · rd ra 0) (fun c t => floats c rd [ra] (fun rm => fpSqrt rm (fval c ra t)) t) ∧
    RunsOnCore (.fneg · rd ra 0) (fun c t => floats c rd [ra] (fun _ => (wv (t.lreg c ra) ^^^ 0x8000000000000000, {})) t) ∧
    RunsOnCore (.fabs · rd ra 0) (fun c t => floats c rd [ra] (fun _ => (wv (t.lreg c ra) &&& 0x7FFFFFFFFFFFFFFF, {})) t) ∧
    RunsOnCore (.fcvtdl · rd ra 0) (fun c t => floats c rd [ra] (fun rm => fpOfInt rm (wv (t.lreg c ra)).toInt) t) ∧
    RunsOnCore (.fcvtdlu · rd ra 0) (fun c t => floats c rd [ra] (fun rm => fpOfInt rm (wv (t.lreg c ra)).toNat) t) ∧
    RunsOnCore (.fcvtld · rd ra 0) (fun c t => floats c rd [ra] (fun rm => toIntWord rm (-(2 ^ 63)) (2 ^ 63 - 1) (wv (t.lreg c ra))) t) ∧
    RunsOnCore (.fcvtlud · rd ra 0) (fun c t => floats c rd [ra] (fun rm => toIntWord rm 0 (2 ^ 64 - 1) (wv (t.lreg c ra))) t)) ∧
  (∀ (rd ra rb rc : Reg),
    RunsOnCore (.fma · rd ra rb rc)
      (fun c t => floats c rd [ra, rb, rc] (fun rm => fpFma rm (fval c ra t) (fval c rb t) (fval c rc t)) t) ∧
    RunsOnCore (.fms · rd ra rb rc)
      (fun c t => floats c rd [ra, rb, rc] (fun rm => fpFma rm (fval c ra t) (fval c rb t) (fval c rc t).negate) t) ∧
    RunsOnCore (.fnma · rd ra rb rc)
      (fun c t => floats c rd [ra, rb, rc] (fun rm => fpFma rm (fval c ra t).negate (fval c rb t) (fval c rc t)) t))

/-- R98, R99, R166, R167: a branch goes to its own program counter plus disp when its condition holds, and to the next
instruction otherwise; CALL and CALLR write the link word, value pc + 1 with provenance 0xC0, and jump. -/
def Obligations.BranchesAndCallsJump : Prop :=
  (∀ (ra rb : Reg) (disp : BitVec 12) (c : Fin 16) (s t : State), CoreReady c s t →
    let a := wv (t.lreg c.val ra)
    let b := wv (t.lreg c.val rb)
    let go (taken : Prop) [Decidable taken] : State :=
      commitTo c.val ((t.core c.val).pc + if taken then disp.signExtend 49 else 1) t
    exec (.beq (.core c) ra rb disp) s = .next (go (a = b)) ∧
    exec (.bne (.core c) ra rb disp) s = .next (go (a ≠ b)) ∧
    exec (.blt (.core c) ra rb disp) s = .next (go (a.toInt < b.toInt)) ∧
    exec (.bge (.core c) ra rb disp) s = .next (go (b.toInt ≤ a.toInt)) ∧
    exec (.bltu (.core c) ra rb disp) s = .next (go (a.toNat < b.toNat)) ∧
    exec (.bgeu (.core c) ra rb disp) s = .next (go (b.toNat ≤ a.toNat))) ∧
  (∀ (rd ra : Reg) (imm : BitVec 24) (off : BitVec 18) (c : Fin 16) (s t : State), CoreReady c s t →
    let pc := (t.core c.val).pc
    let link := mkw ((pc + 1).setWidth 64) 0xC0
    exec (.call (.core c) rd imm) s = .next (commitTo c.val (pc + imm.signExtend 49) (t.setLreg c.val rd link)) ∧
    ((wv (t.lreg c.val ra)).toNat < 2 ^ 49 →
      exec (.callr (.core c) rd ra off) s =
        .next (commitTo c.val ((wv (t.lreg c.val ra)).setWidth 49 + off.signExtend 49) (t.setLreg c.val rd link))) ∧
    (2 ^ 49 ≤ (wv (t.lreg c.val ra)).toNat →
      exec (.callr (.core c) rd ra off) s = .next (takeTrap c.val 0x03 0 0 ((encI 0x32 rd ra off).setWidth 64) t))) ∧
  (∀ (ra rb : Reg) (disp : BitVec 12) (n : Fin 64) (s t : State), CuReady n s t → ra.toNat < 32 → rb.toNat < 32 →
    let a := wv (cuReg n.val ra t)
    let b := wv (cuReg n.val rb t)
    let pc := (t.cu n.val).pc
    let go (taken : Prop) [Decidable taken] : State :=
      let npc : Int := pc + if taken then disp.toInt else 1
      if 0 ≤ npc ∧ npc ≤ 8191 then cuGoes n.val npc.toNat t else cuFault n.val 8 t
    exec (.beq (.cu n) ra rb disp) s = .next (go (a = b)) ∧
    exec (.bne (.cu n) ra rb disp) s = .next (go (a ≠ b)) ∧
    exec (.blt (.cu n) ra rb disp) s = .next (go (a.toInt < b.toInt)) ∧
    exec (.bge (.cu n) ra rb disp) s = .next (go (b.toInt ≤ a.toInt)) ∧
    exec (.bltu (.cu n) ra rb disp) s = .next (go (a.toNat < b.toNat)) ∧
    exec (.bgeu (.cu n) ra rb disp) s = .next (go (b.toNat ≤ a.toNat))) ∧
  (∀ (rd ra : Reg) (imm : BitVec 24) (off : BitVec 18) (n : Fin 64) (s t : State), CuReady n s t → rd.toNat < 32 → ra.toNat < 32 →
    let pc := (t.cu n.val).pc
    let u := t.setCu n.val ((t.cu n.val).put rd.toNat (mkw (BitVec.ofNat 64 (pc + 1)) 0xC0))
    let go (npc : Int) : State := if 0 ≤ npc ∧ npc ≤ 8191 then cuGoes n.val npc.toNat u else cuFault n.val 8 t
    exec (.call (.cu n) rd imm) s = .next (go (pc + imm.toInt)) ∧
    exec (.callr (.cu n) rd ra off) s =
      .next (if 2 ^ 49 ≤ (wv (cuReg n.val ra t)).toNat then cuFault n.val 2 t
             else go (((wv (cuReg n.val ra t)).toNat + off.toInt) % 2 ^ 49)))

/-- R118, R120, R161, R162: on a ready core whose access translates to a word outside the twin window, LDW writes the word
that the fabric answers to rd, STW stores d with its CRIT clamped, and CASW stores b where the word equals d and writes the
old word to rd; an error response and a translation that fails raise their trap with the effective address. -/
def Obligations.LoadsStoresAndCompares : Prop :=
  ∀ (rd ra rb : Reg) (imm : BitVec 18) (c : Fin 16) (s t t1 : State) (pa : Nat), CoreReady c s t →
    let ea := wv (t.lreg c.val ra) + imm.signExtend 64
    let d := wClamp (coreCeil c.val t) (t.lreg c.val rd)
    let b := wClamp (coreCeil c.val t) (t.lreg c.val rb)
    let txn (k : TKind) (data expect : Word) : Txn :=
      { kind := k, addr := BitVec.ofNat 48 pa, data := data, expect := expect,
        id := coreId c.val (if k = .read then 0 else pCrit (wp data)) t }
    (reach c.val ea.toNat .read t = (.inr pa, t1) → regionOf pa ≠ .twin →
      (∀ w u, fabric (txn .read 0 0) t1 = (.word w, u) → u.power.computeHeld = false →
        exec (.ldw (.core c) rd ra imm) s = .next (goesOn c.val (u.setLreg c.val rd w))) ∧
      (∀ r u, fabric (txn .read 0 0) t1 = (.err r, u) →
        exec (.ldw (.core c) rd ra imm) s = .next (takeTrap c.val 0x0D r.toNat 0 ea u))) ∧
    (reach c.val ea.toNat .write t = (.inr pa, t1) → regionOf pa ≠ .twin →
      (∀ u, fabric (txn .write d 0) t1 = (.done, u) → u.power.computeHeld = false →
        exec (.stw (.core c) rd ra imm) s = .next (goesOn c.val u)) ∧
      (∀ r u, fabric (txn .write d 0) t1 = (.err r, u) →
        exec (.stw (.core c) rd ra imm) s = .next (takeTrap c.val 0x0E r.toNat 0 ea u))) ∧
    (reach c.val (wv (t.lreg c.val ra)).toNat .cas t = (.inr pa, t1) → regionOf pa ≠ .twin →
      (∀ w u, fabric (txn .cas b (t.lreg c.val rd)) t1 = (.word w, u) → u.power.computeHeld = false →
        exec (.casw (.core c) rd ra rb 0) s = .next (goesOn c.val (u.setLreg c.val rd w))) ∧
      (∀ r u, fabric (txn .cas b (t.lreg c.val rd)) t1 = (.err r, u) →
        exec (.casw (.core c) rd ra rb 0) s = .next (takeTrap c.val 0x0E r.toNat 0 (wv (t.lreg c.val ra)) u))) ∧
    (∀ cause reason,
      (reach c.val ea.toNat .read t = (.inl (cause, reason), t1) →
        exec (.ldw (.core c) rd ra imm) s = .next (takeTrap c.val cause reason 0 ea t1)) ∧
      (reach c.val ea.toNat .write t = (.inl (cause, reason), t1) →
        exec (.stw (.core c) rd ra imm) s = .next (takeTrap c.val cause reason 0 ea t1)) ∧
      (reach c.val (wv (t.lreg c.val ra)).toNat .cas t = (.inl (cause, reason), t1) →
        exec (.casw (.core c) rd ra rb 0) s = .next (takeTrap c.val cause reason 0 (wv (t.lreg c.val ra)) t1)))

/-- R163, R186, R226, R497: CATR gives the last confirmed word of an entry inside the reader's range, CATRP its current
word, and CATW writes a word that is not provisional into a software entry inside the writer's range, its CRIT clamped;
outside the range a core takes a CATALOGUE trap and a cataloguer stops with cause 6. -/
def Obligations.CatalogueInstructionsReadAndWrite : Prop :=
  (∀ (rd ra : Reg) (imm : BitVec 18) (c : Fin 16) (s t : State), CoreReady c s t →
    let sm := wv (t.lreg c.val ra) + imm.signExtend 64
    let d := t.lreg c.val rd
    let lost : State := takeTrap c.val 0x0C 0 0 (BitVec.ofNat 64 (sm.toNat % 2 ^ 20)) t
    (coreMayRead c.val sm.toNat t = true →
      (∀ w u, catRead sm.toNat true t = (w, u) → u.power.computeHeld = false →
        exec (.catr (.core c) rd ra imm) s = .next (goesOn c.val (u.setLreg c.val rd w))) ∧
      (∀ w u, catRead sm.toNat false t = (w, u) → u.power.computeHeld = false →
        exec (.catrp (.core c) rd ra imm) s = .next (goesOn c.val (u.setLreg c.val rd w)))) ∧
    (coreMayRead c.val sm.toNat t = false →
      exec (.catr (.core c) rd ra imm) s = .next lost ∧ exec (.catrp (.core c) rd ra imm) s = .next lost) ∧
    (pProv (wp d) = true →
      exec (.catw (.core c) rd ra imm) s =
        .next (takeTrap c.val 0x09 0 0 (BitVec.ofNat 64 ((wp d).toNat + 256 * rd.toNat)) t)) ∧
    (pProv (wp d) = false →
      (coreMayWrite c.val sm.toNat t = true → ∀ u, catWrite sm.toNat (wClamp (coreCeil c.val t) d) t = u →
        u.power.computeHeld = false → exec (.catw (.core c) rd ra imm) s = .next (goesOn c.val u)) ∧
      (coreMayWrite c.val sm.toNat t = false → exec (.catw (.core c) rd ra imm) s = .next lost))) ∧
  (∀ (rd ra : Reg) (imm : BitVec 18) (n : Fin 64) (s t : State), CuReady n s t → rd.toNat < 32 → ra.toNat < 32 →
    let sm := (wv (cuReg n.val ra t) + imm.signExtend 64).toNat
    let d := cuReg n.val rd t
    (cuMayRead n.val sm t = true → ∀ w u, catRead sm true t = (w, u) → u.cu n.val = t.cu n.val →
      exec (.catr (.cu n) rd ra imm) s =
        .next (cuGoes n.val ((t.cu n.val).pc + 1) (u.setCu n.val ((u.cu n.val).put rd.toNat w)))) ∧
    (cuMayRead n.val sm t = true → ∀ w u, catRead sm false t = (w, u) → u.cu n.val = t.cu n.val → pProv (wp w) = false →
      exec (.catrp (.cu n) rd ra imm) s =
        .next (cuGoes n.val ((t.cu n.val).pc + 1) (u.setCu n.val ((u.cu n.val).put rd.toNat w)))) ∧
    (cuMayRead n.val sm t = false →
      exec (.catr (.cu n) rd ra imm) s = .next (cuFault n.val 6 t) ∧ exec (.catrp (.cu n) rd ra imm) s = .next (cuFault n.val 6 t)) ∧
    (pProv (wp d) = true ∨ (t.cu n.val).mask ≠ 0 → exec (.catw (.cu n) rd ra imm) s = .next (cuFault n.val 7 t)) ∧
    (pProv (wp d) = false → (t.cu n.val).mask = 0 →
      (cuMayWrite n.val sm t = true →
        ∀ u, catWrite sm (wClamp (BitVec.ofNat 2 (t.get (R.CATG_CUn_CTL n.val) F.CATG_CUn_CTL_CEIL)) d) t = u →
          u.cu n.val = t.cu n.val → exec (.catw (.cu n) rd ra imm) s = .next (cuGoes n.val ((t.cu n.val).pc + 1) u)) ∧
      (cuMayWrite n.val sm t = false → exec (.catw (.cu n) rd ra imm) s = .next (cuFault n.val 6 t))))

/-- R138, R140, R142, R164: WAITE on a ready core takes the oldest released notice of its carrel, its header to rd and its
payload to rd + 1, and commits; with no notice and no deadline in the past it waits. On a cataloguer it ends the run and
waits for the next trigger. A deadline that the GTC has passed ends a wait with source 0xFFF. -/
def Obligations.WaiteTakesTheOldestNotice : Prop :=
  (∀ (rd ra : Reg) (c : Fin 16) (s t : State), CoreReady c s t → rd ≠ 0 → rd.toNat % 2 = 0 →
    let q := t.carrel (t.core c.val).d1.toNat
    let dl := (wv (t.lreg c.val ra)).toNat
    (∀ x xs, q.nq.queue = x :: xs →
      exec (.waite (.core c) rd ra 0 0) s =
        .next (waiteWrite c.val rd (noticeHeader x q.nq.lost) x.payload
          (t.setCarrel (t.core c.val).d1.toNat { q with nq := { q.nq with queue := xs, lost := false } }))) ∧
    (q.nq.queue = [] → dl = 0 ∨ t.now ≤ dl →
      exec (.waite (.core c) rd ra 0 0) s = .next (t.setCore c.val { t.core c.val with wait := some (.waite rd dl) }))) ∧
  (∀ (rd : Reg) (n : Fin 64) (s t : State), CuFetches n s t → rd ≠ 0 → rd.toNat % 2 = 0 → rd.toNat < 32 →
    exec (.waite (.cu n) rd 0 0 0) s =
      .next ((t.setCu n.val { t.cu n.val with waitRd := some rd.toNat, count := (t.cu n.val).count }).addWrap
        (R.CATG_CUn_RUNS n.val) F.CATG_CUn_RUNS_RUNS 1)) ∧
  (∀ (c : Fin 16) (s : State) (rd : Reg) (dl : Nat), (s.core c.val).wait = some (.waite rd dl) → dl ≠ 0 → dl < s.now →
    exec (.waiteDeadline c) s =
      .next (agreeNote c.val 2 (waiteWrite c.val rd (noticeHeader { src := 0xFFF, stamp := s.now } false) fillWord s)))

/-- R165, R224, R225: EMIT of a run that depends on no open context hands its word, CRIT clamped to CEIL and PROV clear, to
the output list that its immediate names, whose slips are walked at once; a list that the map does not give stops the
program with cause 4. -/
def Obligations.EmitWalksItsOutputList : Prop :=
  ∀ (ra : Reg) (imm : BitVec 18) (n : Fin 64) (s t u : State) (m : Word), CuReady n s t → ra.toNat < 32 →
    let o := 0x8000 + 256 * n.val + imm.toNat
    let a := cuReg n.val ra t
    let ceil := BitVec.ofNat 2 (u.get (R.CATG_CUn_CTL n.val) F.CATG_CUn_CTL_CEIL)
    let w := mkw (wv a) (pSetProv false (pClamp ceil (wp a)))
    (255 < imm.toNat → exec (.emit (.cu n) 0 ra imm) s = .next (cuFault n.val 4 t)) ∧
    (imm.toNat ≤ 255 → engRead (slipA o) t = (m, u) → m.getLsbD 20 = false →
      exec (.emit (.cu n) 0 ra imm) s = .next (cuFault n.val 4 t)) ∧
    (imm.toNat ≤ 255 → engRead (slipA o) t = (m, u) → m.getLsbD 20 = true → u.cu n.val = t.cu n.val →
      (t.cu n.val).failed = false → (t.cu n.val).mask = 0 →
      let walk : Walk := { shelf := o, map := true, ptr := wf m 0 20, word := w, mode := 1, stamp := t.now }
      let v := runWalks walkFuel { u with cat := { u.cat with walks := u.cat.walks ++ [walk] } }
      exec (.emit (.cu n) 0 ra imm) s =
        .next (v.setCu n.val { v.cu n.val with pc := (t.cu n.val).pc + 1, count := (t.cu n.val).count + 1 }))

/-- R104, R105, R117, R131: DRD copies a desk register that the mode may read, with provenance 0xC0, and DWR and the DWR to
LK_TLBFL write one that it may write; a desk that the mode may not access raises PRIVILEGE, and a reserved number, a write
of a read-only desk and a value with a reserved bit set raise DESK with the desk's number. A flush leaves no translation of
its carrel, or none at all, on any core. -/
def Obligations.DeskRegisterAccess : Prop :=
  ∀ (rd ra : Reg) (n : BitVec 8) (c : Fin 16) (s t : State), CoreReady c s t →
    let v := wv (t.lreg c.val ra)
    let a := deskAccess n.toNat (t.core c.val).mode
    let desk : State := takeTrap c.val 0x05 0 0 (n.setWidth 64) t
    (∀ k, a = some k → k ≠ 0 → ∀ x u, deskRead c.val n.toNat t = (x, u) → u.power.computeHeld = false →
      exec (.drd (.core c) rd 0 0 n) s = .next (goesOn c.val (u.setLreg c.val rd (mkw x 0xC0)))) ∧
    (∀ k, a = some k → 2 ≤ k → deskBad n.toNat v = false → (deskWrite c.val n.toNat v t).power.computeHeld = false →
      exec (.dwr (.core c) 0 ra 0 n) s = .next (goesOn c.val (deskWrite c.val n.toNat v t))) ∧
    (a = some 0 →
      exec (.drd (.core c) rd 0 0 n) s = .next (takeTrap c.val 0x04 0 0 ((encR 0x38 rd 0 0 (n ++ 0#4)).setWidth 64) t) ∧
      exec (.dwr (.core c) 0 ra 0 n) s = .next (takeTrap c.val 0x04 0 0 ((encR 0x38 0 ra 0 (n ++ 1#4)).setWidth 64) t)) ∧
    (a = none → exec (.drd (.core c) rd 0 0 n) s = .next desk ∧ exec (.dwr (.core c) 0 ra 0 n) s = .next desk) ∧
    (a = some 1 ∨ (∃ k, a = some k ∧ 2 ≤ k ∧ deskBad n.toNat v = true) → exec (.dwr (.core c) 0 ra 0 n) s = .next desk) ∧
    ((t.core c.val).mode = 0b11 → v.toNat < 2 ^ 10 →
      ∃ u, exec (.tlbFlush (.core c) ra) s = .next u ∧
        ∀ k : Fin 16, (u.core k.val).tlb =
          (t.core k.val).tlb.filter (fun e => !v.getLsbD 9 && decide (e.carrel ≠ (v.extractLsb' 0 9).toNat)))

/-- R168, R169, R505 to R507: MBX.PUT, MBX.GET and MBX.RING act on the desk of the carrel that the librarian names in b, or
of the core's own carrel, and commit; a desk that refuses raises STORE_ERROR with reason TARGET, and in user mode they raise
PRIVILEGE. R506: a PUT into an empty direction stores the word in its slot and marks it DIRTY, and a GET by the other side
reads that slot; a PUT into a full direction is refused. -/
def Obligations.MessageDeskCarriesWords : Prop :=
  (∀ (rd ra rb : Reg) (c : Fin 16) (s t : State), CoreReady c s t →
    let b := t.lreg c.val rb
    let lib := decide ((t.core c.val).mode = 0b11)
    let n := if lib then wf b 9 9 else (t.core c.val).d1.toNat
    let k := wf b 0 3
    let user := decide ((t.core c.val).mode = 0b00)
    let refused : State := takeTrap c.val 0x0E 0 0 (wv b) t
    (user = false →
      (∀ u, deskPut n lib k (wClamp (coreCeil c.val t) (t.lreg c.val ra)) t = some u → u.power.computeHeld = false →
        exec (.mbxPut (.core c) 0 ra rb 0) s = .next (goesOn c.val u)) ∧
      (deskPut n lib k (wClamp (coreCeil c.val t) (t.lreg c.val ra)) t = none →
        exec (.mbxPut (.core c) 0 ra rb 0) s = .next refused) ∧
      (∀ w, deskGet n lib k t = some w → exec (.mbxGet (.core c) rd 0 rb 0) s = .next (goesOn c.val (t.setLreg c.val rd w))) ∧
      (deskGet n lib k t = none → exec (.mbxGet (.core c) rd 0 rb 0) s = .next refused) ∧
      (∀ u, deskRing n lib t = some u → u.power.computeHeld = false → exec (.mbxRing (.core c) 0 0 rb 0) s = .next (goesOn c.val u)) ∧
      (deskRing n lib t = none → exec (.mbxRing (.core c) 0 0 rb 0) s = .next refused)) ∧
    (user = true →
      exec (.mbxPut (.core c) 0 ra rb 0) s = .next (takeTrap c.val 0x04 0 0 ((encR 0x38 0 ra rb 2).setWidth 64) t) ∧
      exec (.mbxGet (.core c) rd 0 rb 0) s = .next (takeTrap c.val 0x04 0 0 ((encR 0x38 rd 0 rb 3).setWidth 64) t) ∧
      exec (.mbxRing (.core c) 0 0 rb 0) s = .next (takeTrap c.val 0x04 0 0 ((encR 0x38 0 0 rb 4).setWidth 64) t))) ∧
  (∀ (n : BitVec 9) (lib : Bool) (k : Fin 8) (w : Word) (s : State), deskRefuses n.toNat s = false →
    (deskFull n.toNat lib s = false →
      ∃ t, deskPut n.toNat lib k.val w s = some t ∧ deskGet n.toNat (!lib) k.val t = some w ∧
        (∀ j : Fin 8, j ≠ k → deskGet n.toNat (!lib) j.val t = deskGet n.toNat (!lib) j.val s) ∧
        (∀ j : Fin 8, deskGet n.toNat lib j.val t = deskGet n.toNat lib j.val s) ∧
        (t.reg (R.CARREL_Cc_DESK n.toNat)).getLsbD ((deskDirty lib).lo + k.val) = true) ∧
    (deskFull n.toNat lib s = true → deskPut n.toNat lib k.val w s = none))

/-- R101, R123, R124, R135, R171: FENCE and SYNC commit; RETT returns the mode, TE and the program counter that the trap
saved, of the supervisor in supervisor mode and of the librarian in librarian mode; CSW, the librarian's, saves the current
carrel with the mode of LK_TSTAT and the program counter LK_TPC and enters the carrel that a names, or raises STORE_ERROR
for a carrel that is not bound to the core. In a mode that may not execute them RETT and CSW raise PRIVILEGE. -/
def Obligations.FencesReturnsAndSwitches : Prop :=
  ∀ (ra : Reg) (c : Fin 16) (s t : State), CoreReady c s t →
    let k := t.core c.val
    let n := wf (t.lreg c.val ra) 0 9
    exec (.fence (.core c) 0 0 0 0) s = .next (goesOn c.val t) ∧
    exec (.sync (.core c) 0 0 0 0) s = .next (goesOn c.val t) ∧
    (k.mode = 0b00 → exec (.rett (.core c) 0 0 0 0) s = .next (takeTrap c.val 0x04 0 0 ((encR 0x38 0 0 0 8).setWidth 64) t)) ∧
    (k.mode = 0b01 → ∃ u, exec (.rett (.core c) 0 0 0 0) s = .next u ∧
      (u.core c.val).mode = tsPMode (deskOf c.val t).tstat ∧ (u.core c.val).pc = (deskOf c.val t).tpc ∧
      tsTE (deskOf c.val u).tstat = tsPTE (deskOf c.val t).tstat ∧ u.mem = t.mem) ∧
    (k.mode = 0b11 → k.heldSwitch = false → k.d1 = 0 ∨ carState k.d1.toNat t = 2 →
      ∃ u, exec (.rett (.core c) 0 0 0 0) s = .next u ∧
        (u.core c.val).mode = tsPMode k.lk.tstat ∧ (u.core c.val).pc = k.lk.tpc ∧
        tsTE (u.core c.val).lk.tstat = tsPTE k.lk.tstat ∧ u.mem = t.mem) ∧
    (k.mode ≠ 0b11 → exec (.csw (.core c) 0 ra 0 0) s = .next (takeTrap c.val 0x04 0 0 ((encR 0x38 0 ra 0 5).setWidth 64) t)) ∧
    (k.mode = 0b11 → boundToCore c.val n t = false →
      exec (.csw (.core c) 0 ra 0 0) s = .next (takeTrap c.val 0x0E 0 0 (BitVec.ofNat 64 n) t)) ∧
    (k.mode = 0b11 → boundToCore c.val n t = true → carState n t = 2 →
      let u := lkReturn c.val (switchOut c.val k.lk.tpc (tsPMode k.lk.tstat) (commitTo c.val k.lk.tpc t))
      exec (.csw (.core c) 0 ra 0 0) s =
        .next (heldSwitchTake c.val (switchIn c.val n (u.setCore c.val { u.core c.val with shadow := none }))))

/-- R95, R103, R130: BRK raises BREAKPOINT for code 0 unless breakpoint entry into debug is armed, SERVICE for a code below
0x800000, and LIB_SERVICE above, which is a PRIVILEGE trap from user mode; an undefined op raises ILLEGAL on a core and
stops a cataloguer with cause 2. -/
def Obligations.BreaksAndUndefinedOps : Prop :=
  (∀ (imm : BitVec 24) (c : Fin 16) (s t : State), CoreReady c s t →
    let brk := exec (.brk (.core c) 0 imm) s
    let armed := (t.pair (c.val / 2)).bpArmed && decide (pairState (c.val / 2) t = 2) && !pairSplit (c.val / 2) t
    (imm = 0 → armed = false → brk = .next (takeTrap c.val 0x08 0 imm 0 t)) ∧
    (imm = 0 → armed = true → brk = .next (debugEnter (c.val / 2) t)) ∧
    (imm ≠ 0 → imm.toNat < 0x800000 → brk = .next (takeTrap c.val 0x06 0 imm 0 t)) ∧
    (0x800000 ≤ imm.toNat → (t.core c.val).mode ≠ 0b00 → brk = .next (takeTrap c.val 0x07 0 imm 0 t)) ∧
    (0x800000 ≤ imm.toNat → (t.core c.val).mode = 0b00 →
      brk = .next (takeTrap c.val 0x04 0 0 ((encU 0x35 0 imm).setWidth 64) t))) ∧
  (∀ (x : Exu) (w : BitVec 36) (s t : State), w.extractLsb' 30 6 = 0x00 ∨ w.extractLsb' 30 6 = 0x3F →
    (∀ c, x = .core c → CoreReady c s t → exec (.undefinedOp x w) s = .next (takeTrap c.val 0x03 0 0 (w.setWidth 64) t)) ∧
    (∀ n, x = .cu n → CuReady n s t → exec (.undefinedOp x w) s = .next (cuFault n.val 2 t)))

/-- R94, R103, R147, R151, R153 to R156, R158, R162, R164, R168: an instruction with a 1 in a field that must be zero, with
a register other than L0 where L0 is required, or with a bit field past bit 63 raises ILLEGAL with its 36 bits on a core,
and stops a cataloguer with cause 2. R144, R145, R227: an instruction outside the C-profile stops a cataloguer with cause 2,
a field above L31 with cause 1, and a run that has reached RUN_LIMIT with cause 5 before its next instruction. -/
def Obligations.BadEncodingsAndProfilesStop : Prop :=
  (∀ (rd ra rb : Reg) (hi : BitVec 10) (amt pos wm : BitVec 6) (fn : BitVec 12) (imm : BitVec 18) (code : BitVec 24) (d : BitVec 8),
    hi ≠ 0 → rb ≠ 0 → 64 < pos.toNat + (wm.toNat + 1) → fn ≠ 0 → 2 ^ 10 ≤ imm.toNat → d ≠ 0 →
    (∀ p ∈ ([((.shli · rd ra hi amt), encI 0x14 rd ra (hi ++ 0#2 ++ amt)), ((.shri · rd ra hi amt), encI 0x14 rd ra (hi ++ 1#2 ++ amt)),
        ((.sari · rd ra hi amt), encI 0x14 rd ra (hi ++ 2#2 ++ amt)), ((.roti · rd ra hi amt), encI 0x14 rd ra (hi ++ 3#2 ++ amt)),
        ((.xbf · rd ra 0 pos wm), encR 0x05 rd ra 0 (pos ++ wm)), ((.xbf · rd ra rb 0 wm), encR 0x05 rd ra rb (0#6 ++ wm)),
        ((.xbfs · rd ra 0 pos wm), encR 0x06 rd ra 0 (pos ++ wm)), ((.xbfs · rd ra rb 0 wm), encR 0x06 rd ra rb (0#6 ++ wm)),
        ((.ibf · rd ra 0 pos wm), encR 0x07 rd ra 0 (pos ++ wm)),
        ((.xoct · rd ra 0 9), encR 0x08 rd ra 0 9), ((.xoct · rd ra rb 8), encR 0x08 rd ra rb 8), ((.xoct · rd ra rb 32), encR 0x08 rd ra rb 32),
        ((.ioct · rd ra 0 9), encR 0x09 rd ra 0 9), ((.ioct · rd ra rb 8), encR 0x09 rd ra rb 8), ((.ioct · rd ra rb 32), encR 0x09 rd ra rb 32),
        ((.pget · rd ra rb), encR 0x0A rd ra rb 0), ((.pseti · rd ra imm), encI 0x18 rd ra imm), ((.ptst · rd ra imm), encI 0x1A rd ra imm),
        ((.pchk · 0 ra imm), encI 0x19 0 ra imm), ((.pchk · rb ra 0), encI 0x19 rb ra 0)] : List ((Exu → Instr) × BitVec 36)),
      (∀ c s t, CoreReady c s t → exec (p.1 (.core c)) s = .next (takeTrap c.val 0x03 0 0 (p.2.setWidth 64) t)) ∧
      (∀ n s t, CuReady n s t → exec (p.1 (.cu n)) s = .next (cuFault n.val 2 t))) ∧
    (∀ p ∈ ([((.fsqrt · rd ra rb), encR 0x03 rd ra rb 4), ((.fneg · rd ra rb), encR 0x03 rd ra rb 0x28), ((.fabs · rd ra rb), encR 0x03 rd ra rb 0x29),
        ((.fcvtdl · rd ra rb), encR 0x03 rd ra rb 0x20), ((.fcvtdlu · rd ra rb), encR 0x03 rd ra rb 0x21),
        ((.fcvtld · rd ra rb), encR 0x03 rd ra rb 0x22), ((.fcvtlud · rd ra rb), encR 0x03 rd ra rb 0x23),
        ((.casw · rd ra rb fn), encR 0x22 rd ra rb fn), ((.emit · 0 ra imm), encI 0x26 0 ra imm), ((.waite · 1 ra 0 0), encR 0x27 1 ra 0 0),
        ((.waite · 2 ra rb 0), encR 0x27 2 ra rb 0), ((.waite · 2 ra 0 fn), encR 0x27 2 ra 0 fn), ((.brk · rb code), encU 0x35 rb code),
        ((.drd · rd ra rb d), encR 0x38 rd ra rb (d ++ 0#4)), ((.dwr · rd ra rb d), encR 0x38 rd ra rb (d ++ 1#4)),
        ((.mbxPut · 0 ra rb d), encR 0x38 0 ra rb (d ++ 2#4)), ((.mbxGet · rd 0 rb d), encR 0x38 rd 0 rb (d ++ 3#4)),
        ((.mbxRing · 0 0 rb d), encR 0x38 0 0 rb (d ++ 4#4)), ((.csw · 0 ra rb 0), encR 0x38 0 ra rb 5),
        ((.fence · 0 0 0 d), encR 0x38 0 0 0 (d ++ 6#4)), ((.sync · 0 0 rb 0), encR 0x38 0 0 rb 7), ((.rett · rb 0 0 0), encR 0x38 rb 0 0 8)] :
          List ((Exu → Instr) × BitVec 36)),
      ∀ c s t, CoreReady c s t → exec (p.1 (.core c)) s = .next (takeTrap c.val 0x03 0 0 (p.2.setWidth 64) t))) ∧
  (∀ (n : Fin 64) (s t : State) (rd ra rb rc : Reg) (imm : BitVec 18) (code : BitVec 24) (d : BitVec 8),
    (CuReady n s t → ∀ i ∈ floatRows (.cu n) rd ra rb rc ++ coreOnlyRows (.cu n) rd ra rb imm code d,
      exec i s = .next (cuFault n.val 2 t)) ∧
    (CuReady n s t → 32 ≤ rd.toNat →
      exec (.add (.cu n) rd ra rb) s = .next (cuFault n.val 1 t) ∧ exec (.addi (.cu n) rd ra imm) s = .next (cuFault n.val 1 t) ∧
      exec (.li (.cu n) rd code) s = .next (cuFault n.val 1 t) ∧ exec (.catr (.cu n) rd ra imm) s = .next (cuFault n.val 1 t)) ∧
    (cuLive n.val s = true → s.get (R.CATG_CUn_CTL n.val) F.CATG_CUn_CTL_RUN_LIMIT ≤ (s.cu n.val).count →
      exec (.add (.cu n) rd ra rb) s = .next (cuFault n.val 5 s) ∧ exec (.emit (.cu n) 0 ra imm) s = .next (cuFault n.val 5 s) ∧
      exec (.li (.cu n) rd code) s = .next (cuFault n.val 5 s)))

/-- R132: entry into the supervisor's handler saves the program counter, the cause, the detail and the mode with TE in
DK_TPC, DK_TCAUSE, DK_TADDR and DK_TSTAT, clears TE, and continues in supervisor mode at DK_TVEC; entry into the librarian's
handler does the same with the LK_ registers and librarian mode. D1, the ledger registers, memory and every MMIO register
keep their values. -/
def Obligations.TrapEntrySavesAndVectors : Prop :=
  (∀ (c : Fin 16) (cw : BitVec 44) (addr : BitVec 64) (s : State),
    let t := enterSup c.val cw addr s
    let d := deskOf c.val s
    (t.core c.val).pc = d.tvec ∧ (t.core c.val).mode = 0b01 ∧ (t.core c.val).d1 = (s.core c.val).d1 ∧
    (deskOf c.val t).tpc = (s.core c.val).pc ∧ (deskOf c.val t).tcause = cw ∧ (deskOf c.val t).taddr = addr ∧
    tsPMode (deskOf c.val t).tstat = (s.core c.val).mode ∧ tsPTE (deskOf c.val t).tstat = tsTE d.tstat ∧
    tsTE (deskOf c.val t).tstat = false ∧ (deskOf c.val t).tvec = d.tvec ∧ (t.core c.val).lk = (s.core c.val).lk ∧
    (∀ r, t.lreg c.val r = s.lreg c.val r) ∧ (∀ k, k ≠ c.val → t.core k = s.core k) ∧
    t.mem = s.mem ∧ t.regs = s.regs ∧ t.pending = s.pending) ∧
  (∀ (c : Fin 16) (cw : BitVec 44) (addr : BitVec 64) (s : State),
    let t := enterLib c.val cw addr s
    let k := s.core c.val
    let l := (t.core c.val).lk
    (t.core c.val).pc = k.lk.tvec ∧ (t.core c.val).mode = 0b11 ∧ (t.core c.val).d1 = k.d1 ∧
    l.tpc = k.pc ∧ l.tcause = cw ∧ l.taddr = addr ∧ tsPMode l.tstat = k.mode ∧ tsPTE l.tstat = tsTE k.lk.tstat ∧
    tsTE l.tstat = false ∧ l.tvec = k.lk.tvec ∧ deskOf c.val t = deskOf c.val s ∧
    (∀ r, t.lreg c.val r = s.lreg c.val r) ∧ (∀ j, j ≠ c.val → t.core j = s.core j) ∧
    t.mem = s.mem ∧ t.regs = s.regs ∧ t.pending = s.pending)

/-- R130, R133, R134, R422: a synchronous trap of a carrel goes to its supervisor with TE = 1 and a vector, and to the
librarian as DOUBLE with the original cause otherwise, the DK_ registers unchanged; a trap of the librarian's, a LIB_SERVICE
or a TABLE goes to the librarian. While LK_TSTAT.TE = 0 such a trap is a device-class fault, and on a split core it stops
the carrel. -/
def Obligations.TrapsReachTheirHandler : Prop :=
  ∀ (c : Fin 16) (cause reason : Nat) (code : BitVec 24) (addr : BitVec 64) (s : State),
    let k := s.core c.val
    let d := deskOf c.val s
    let toLib := decide (k.mode = 0b11) || decide (cause = 0x07) || decide (cause = 0x0F)
    let cw (n r : Nat) (e : BitVec 24) (orig : Nat) : BitVec 44 := BitVec.ofNat 44 (n + r * 2 ^ 8 + e.toNat * 2 ^ 12 + orig * 2 ^ 36)
    let trap := takeTrap c.val cause reason code addr s
    let open_ := tsTE k.lk.tstat && !pairSplit (c.val / 2) s
    (toLib = false → tsTE d.tstat = true → d.tvec ≠ 0 → trap = enterSup c.val (cw cause reason code 0) addr s) ∧
    (toLib = false → tsTE d.tstat = false ∨ d.tvec = 0 → open_ = true → trap = enterLib c.val (cw 0x10 0 0 cause) addr s) ∧
    (toLib = true → open_ = true → trap = enterLib c.val (cw cause reason code 0) addr s) ∧
    (toLib = true → pairSplit (c.val / 2) s = false → tsTE k.lk.tstat = false → trap = faultNoSrc 3 0 s) ∧
    (toLib = true → pairSplit (c.val / 2) s = true → trap = splitStop c.val cause s)

/-- R98, R108, R402: an instruction that commits sets the program counter, counts one instruction of the core's carrel, and,
on the leading core, one commit of the pair; everything else of the core, memory and every other register keep their values.
R35, R90: L0 reads as value 0 with provenance 0xC0 and discards writes; any other ledger register reads back what was
written and leaves the others alone, on a core and on a cataloguer. -/
def Obligations.CommitsAndLedgerRegisters : Prop :=
  (∀ (c : Fin 16) (npc : BitVec 49) (s : State),
    let t := commitTo c.val npc s
    let n := (s.core c.val).d1.toNat
    t.core c.val = { s.core c.val with pc := npc } ∧
    (t.carrel n).dk.retired = (s.carrel n).dk.retired + 1 ∧
    t.reg (R.EXEC_Pp_COMMITS (c.val / 2)) = s.reg (R.EXEC_Pp_COMMITS (c.val / 2)) + (if c.val % 2 = 0 then 1 else 0) ∧
    (∀ a, a ≠ R.EXEC_Pp_COMMITS (c.val / 2) → t.reg a = s.reg a) ∧
    (∀ k, k ≠ c.val → t.core k = s.core k) ∧ (∀ m, m ≠ n → t.carrel m = s.carrel m) ∧ t.mem = s.mem ∧ t.pending = s.pending) ∧
  ((∀ (s : State) (c : Nat) (r q : Reg) (w : Word),
    s.lreg c 0 = mkw 0 0xC0 ∧ (s.setLreg c 0 w).lreg c q = s.lreg c q ∧
    (r ≠ 0 → (s.setLreg c r w).lreg c r = w) ∧ (q ≠ r → (s.setLreg c r w).lreg c q = s.lreg c q)) ∧
  (∀ (k : Cu) (r q : Nat) (w : Word),
    k.get 0 = mkw 0 0xC0 ∧ (k.put 0 w).get q = k.get q ∧ (r ≠ 0 → (k.put r w).get r = w) ∧ (q ≠ r → (k.put r w).get q = k.get q)))

/-- R90, R98, R126 and the tables of R149 to R156: the frame of the instructions whose whole effect is one ledger register.
On a ready core every other ledger register, every carrel's notices, memory, every cataloguer and every MMIO register but
the pair's commit count keep the values the fetch left. -/
def Obligations.RegisterInstructionsFrame : Prop :=
  ∀ (rd ra rb : Reg) (imm : BitVec 18) (code : BitVec 24) (amt : BitVec 6) (c : Fin 16) (s t u : State), CoreReady c s t →
    (∀ i ∈ aluRows (.core c) rd ra rb ++ immediateRows (.core c) rd ra imm amt code ++ provenanceRows (.core c) rd ra rb,
      exec i s = .next u →
        (∀ q, q ≠ rd → u.lreg c.val q = t.lreg c.val q) ∧ (rd = 0 → ∀ q, u.lreg c.val q = t.lreg c.val q) ∧
        (u.core c.val).mode = (t.core c.val).mode ∧ (u.core c.val).d1 = (t.core c.val).d1 ∧ (u.core c.val).lk = (t.core c.val).lk ∧
        (u.core c.val).tlb = (t.core c.val).tlb ∧ (∀ k, k ≠ c.val → u.core k = t.core k) ∧
        (∀ n, (u.carrel n).nq = (t.carrel n).nq) ∧ (∀ n, (u.carrel n).dk.fcsr = (t.carrel n).dk.fcsr) ∧
        (∀ a, a ≠ R.EXEC_Pp_COMMITS (c.val / 2) → u.reg a = t.reg a) ∧ u.mem = t.mem ∧ u.cat = t.cat ∧ u.pending = t.pending)

/-! ### Faults, time and notices -/

/-- R48, R49: a low level on SAFE_N starts the 2 µs filter; once it has lasted 2 µs it is recognised, archived and noticed
as source 0x024, and with SAFE_IN_EN it forces every channel's demand to its safe state; the return to high ends the
recognition, is reported, and changes no demand. -/
def Obligations.SafeInputIsFilteredRecognisedAndReturned : Prop :=
  ∀ s : State,
    (s.faults.safeLow = false →
      exec .safeNFall s = .next { s with faults := { s.faults with safeLow := true, safeSince := s.el } }) ∧
    (s.faults.safeLow = true → s.faults.safeRec = false → s.power.powerHeld = false → s.faults.safeSince + 2000 ≤ s.el →
      ∃ t u, t = relayTwin 3 0x024 1 (powerRaise 0x024 1 { s with faults := { s.faults with safeRec := true } }) ∧
        exec .safeNRecognised s = .next u ∧ t.faults.safeRec = true ∧
        (t.bit R.SYS_FAULT_CTL F.SYS_FAULT_CTL_SAFE_IN_EN = true → u = (List.range 32).foldl (fun x c => demandSafe c 1 x) t) ∧
        (t.bit R.SYS_FAULT_CTL F.SYS_FAULT_CTL_SAFE_IN_EN = false → u = t)) ∧
    (s.faults.safeLow = true → s.faults.safeRec = false → s.el < s.faults.safeSince + 2000 → exec .safeNRecognised s = .next s) ∧
    (s.faults.safeRec = true →
      exec .safeNRise s = .next (powerRaise 0x024 0 { s with faults := { s.faults with safeLow := false, safeRec := false } })) ∧
    (s.faults.safeRec = false →
      exec .safeNRise s = .next { s with faults := { s.faults with safeLow := false, safeRec := false } })

/-- R13, R15, R57, R394, R395: when the die-to-die link goes down the power die takes the compute die as absent and applies
leases, and the running compute die has a device-class fault with source 0x026; when it comes up the power die's GTC copy is
realigned, every channel's command is sent again and the events kept meanwhile are delivered. -/
def Obligations.DieLinkLossAndReturn : Prop :=
  ∀ s : State,
    (s.linkUp = true → s.power.powerHeld = false → s.power.computeHeld = false → s.power.pstate ≠ .hold →
      ∃ t, t = leaseStart { s with linkUp := false } ∧
        exec .d2dLinkDown s =
          .next (fault 3 0x026 (Config.freeValue 64 t.fresh) 0 [] { t with fresh := t.fresh + 1 })) ∧
    (s.linkUp = false → s.power.powerHeld = false → s.power.computeHeld = false → s.power.pstate ≠ .hold →
      exec .d2dLinkUp s = .next (deliverHeld (resendAll (alignCopy { s with linkUp := true })))) ∧
    (s.linkUp = false → s.power.powerHeld = false → s.power.computeHeld = true →
      exec .d2dLinkUp s = .next { s with linkUp := true })

/-- R17, R26, R44, R204: a parity or duplication mismatch in a tile of the compute die other than a pair's is a
contained-class fault: it is reported, the tile's ports close and the contexts of its sources fail. Its source number and
payload no rule gives: they are free. -/
def Obligations.ParityMismatchContainsItsTile : Prop :=
  ∀ (t : Tile) (u : BitVec 6) (s : State), s.power.computeHeld = false → s.faults.device = none → (∀ p, t ≠ .pair p) →
    powerTile t = false →
    let also := match tileOwner t u.toNat with
      | some r => ownDest r s
      | none => []
    exec (.parityMismatch t u) s =
      .next ((tileSources t).foldl (fun x p => ctxFail p .late x)
        (closeTile t (fault 1 (Config.freeValue 12 s.fresh).toNat (Config.freeValue 64 (s.fresh + 1)) 0 also
          { s with fresh := s.fresh + 2 })))

/-- R44, R51: a fault of class 0, 1 or 2 sets its SEEN bit and enters the archive's queue in the order of R64 when there is
room, with its class, payload and detail; a device-class fault enters the archive the same way, starts the compute-die
reset, and gives no notice: no carrel's stream changes. The pending commands, memory and the catalogue are untouched. -/
def Obligations.FaultClassesReact : Prop :=
  ∀ (cls src : Nat) (payload detail : BitVec 64) (also : List Nat) (s : State), cls ≤ 3 → s.arch.inq.length < 56 →
    (cls = 0 → s.bit R.ARCH_CTL F.ARCH_CTL_CORR_EN = true) →
    let t := fault cls src payload detail also s
    let e : ArchEvent := { ev := { stamp := s.now, src := src, payload := immw payload }, cls := BitVec.ofNat 3 cls, detail := detail }
    t.arch.inq = insArch e s.arch.inq ∧
    (cls = 0 → t.bit R.SYS_FAULT_STAT F.SYS_FAULT_STAT_CORR_SEEN = true) ∧
    (cls = 1 → t.bit R.SYS_FAULT_STAT F.SYS_FAULT_STAT_CONT_SEEN = true) ∧
    (cls = 2 → t.bit R.SYS_FAULT_STAT F.SYS_FAULT_STAT_SILENT_SEEN = true) ∧
    (cls ≠ 3 → t.faults = s.faults) ∧
    (cls = 3 → t.faults.device.isSome = true ∧ ∀ c, (t.carrel c).nq = (s.carrel c).nq) ∧
    t.mem = s.mem ∧ t.cat = s.cat ∧ t.pending = s.pending

/-- R23, R27: a unit reset returns its unit alone, with the tile's ports as they are; a tile reset resets every unit of the
tile and reopens its ports. While the compute die is held in reset a tile of it is already reset. -/
def Obligations.TileAndUnitResets : Prop :=
  ∀ (t : Tile) (u : BitVec 6) (s : State),
    (s.power.computeHeld = false ∨ powerTile t = true →
      exec (.unitReset t u) s = .next (unitReset t u.toNat s) ∧
      ∃ v, exec (.tileReset t) s = .next v ∧ tileClosed t v = false ∧
        v = openTile t ((List.range (tileUnits t)).foldl (fun x k => unitReset t k x) s)) ∧
    (s.power.computeHeld = true → powerTile t = false →
      exec (.unitReset t u) s = .next s ∧ exec (.tileReset t) s = .next s)

/-- R55, R69, R584: a difference between the two GTC counters, the loss of lock of a PLL in use and the loss of the 25 MHz
reference are device-class faults with source 0xC40; the payload no rule gives is free. R56 to R61, R74: the alignment word
records the power die's deviation and is a GTC fault beyond 8 ns; the held copy resumes when the reference reaches it; the
failure of the night crystal is shown, and archived at once when the archive runs; after lock the fine GTC of both dies
takes the coarse count; a working domain that has been silent too long sets HOLDOVER. -/
def Obligations.ClockFaultsAndCopies : Prop :=
  (∀ s : State,
    let lost (x : State) : State := fault 3 0xC40 (Config.freeValue 64 x.fresh) 0 [] { x with fresh := x.fresh + 1 }
    (∀ flip : BitVec 64, flip ≠ 0 → gtcRuns s = true → s.time.gtcDup = s.time.gtc →
      exec (.gtcCounterMismatch flip) s = .next (lost { s with time := { s.time with gtcDup := s.time.gtc ^^^ flip } })) ∧
    (∀ p : Fin 3, pllsRun s = true → p ≠ 0 ∨ s.power.pstate ≠ .doze → exec (.pllLossOfLock p) s = .next (lost s)) ∧
    (pllsRun s = true → s.power.pstate = .doze → exec (.pllLossOfLock 0) s = .next s) ∧
    (pllsRun s = true → exec .referenceClockLoss s = .next (lost s)) ∧
    (pllsRun s = false → exec .referenceClockLoss s = .next s)) ∧
  (∀ s : State,
    (∀ dev : BitVec 8, gtcRuns s = true → s.linkUp = true → s.power.powerHeld = false → s.now % 1024 < 2 →
      let t := s.set R.TIME_GTC_STAT F.TIME_GTC_STAT_PWR_DEV dev.toNat
      (-8 ≤ dev.toInt → dev.toInt ≤ 8 → exec (.alignmentWord dev) s = .next t) ∧
      (dev.toInt < -8 ∨ 8 < dev.toInt →
        exec (.alignmentWord dev) s = .next (fault 3 0xC40 (Config.freeValue 64 s.fresh) 0 [] { t with fresh := s.fresh + 1 }))) ∧
    (s.bit R.TIME_GTC_STAT F.TIME_GTC_STAT_PWR_HELD = true → s.pnow ≤ s.now →
      ∃ t, exec .pwrCopyHoldEnd s = .next t ∧ t.bit R.TIME_GTC_STAT F.TIME_GTC_STAT_PWR_HELD = false ∧ t.time.pwrGtc = s.time.gtc) ∧
    (s.bit R.TIME_GTC_STAT F.TIME_GTC_STAT_NIGHT_SRC = false →
      let t := s.set R.TIME_GTC_STAT F.TIME_GTC_STAT_NIGHT_SRC 1
      (s.bit R.STK_STAT F.STK_STAT_FILLED = true → pllsRun s = true → exec .nightCrystalFail s = .next (faultNoSrc 0 0 t)) ∧
      (s.bit R.STK_STAT F.STK_STAT_FILLED = false ∨ pllsRun s = false →
        exec .nightCrystalFail s = .next { t with time := { t.time with nightDue := true } })) ∧
    (s.power.boot = .waitReconcile → ∃ t, exec .gtcReconcile s = .next t ∧ t.time.gtc = s.time.coarse ∧
      t.time.gtcDup = s.time.coarse ∧ t.time.pwrGtc = s.time.coarse ∧ t.time.coarseRun = false ∧ t.power.boot = .filling ∧
      (s.time.coarseRun = true → t.bit R.TIME_ALM_CTL F.TIME_ALM_CTL_HOLDOVER = true)) ∧
    (syncLost s = true → ∃ t, exec .syncLossTimeout s = .next t ∧ t.bit R.TIME_ALM_CTL F.TIME_ALM_CTL_HOLDOVER = true ∧ t.mem = s.mem))

/-- R78, R80: the selected PPS_IN edge, with CAP_EN = 1, captures the almanac and the GTC, sets OVR when the last capture
was not read, and raises source 0xC42 to the librarian. R81 to R83, R85: an enabled slot whose base has reached its compare
value fires: FIRE_CNT counts, FIRED sets, LAST takes the GTC, LATE is set when the value was already reached on enabling,
and a one-shot slot clears EN; a periodic slot's compare value moves on by whole periods to the first one after the base. A
slot that is not due does nothing. -/
def Obligations.CapturesAndTriggersFire : Prop :=
  (∀ (rising : Bool) (s : State), gtcRuns s = true → s.bit R.TIME_PPS_CTL F.TIME_PPS_CTL_CAP_EN = true →
    s.bit R.TIME_PPS_CTL F.TIME_PPS_CTL_EDGE = !rising →
    ∃ t, exec (.ppsCapture rising) s = .next t ∧ t.reg R.TIME_PPS_CAP_NS = s.time.almNs.setWidth 64 ∧
      t.reg R.TIME_PPS_CAP_SEC = s.time.almSec.setWidth 64 ∧ t.reg R.TIME_PPS_CAP_GTC = s.time.gtc ∧ t.time.ppsUnread = true ∧
      (s.time.ppsUnread = true → t.bit R.TIME_PPS_CTL F.TIME_PPS_CTL_OVR = true) ∧ t.mem = s.mem ∧ t.pending = s.pending) ∧
  (∀ (n : Fin 64) (s : State),
    let ctl := R.TIME_TRGn_CTL n.val
    let st := R.TIME_TRGn_STAT n.val
    let per := s.get (R.TIME_TRGn_PER n.val) F.TIME_TRGn_PER_PER
    (trgDue n.val s = false → exec (.triggerFire n) s = .next s) ∧
    (trgDue n.val s = true → ∃ t, exec (.triggerFire n) s = .next t ∧
      t.reg (R.TIME_TRGn_LAST n.val) = s.time.gtc ∧
      t.get st F.TIME_TRGn_STAT_FIRE_CNT = (s.get st F.TIME_TRGn_STAT_FIRE_CNT + 1) % 2 ^ 32 ∧
      t.bit st F.TIME_TRGn_STAT_FIRED = true ∧ (s.trgLate.contains n.val = true → t.bit st F.TIME_TRGn_STAT_LATE = true) ∧
      t.trgLate.contains n.val = false ∧ t.mem = s.mem ∧ t.pending = s.pending ∧
      (s.bit ctl F.TIME_TRGn_CTL_PERIODIC = false → t.bit ctl F.TIME_TRGn_CTL_EN = false) ∧
      (s.bit ctl F.TIME_TRGn_CTL_PERIODIC = true → s.bit ctl F.TIME_TRGn_CTL_BASE = false → 0 < per → trgBase n.val s + per < 2 ^ 64 →
        ∃ k, 0 < k ∧ (t.reg (R.TIME_TRGn_CMP n.val)).toNat = trgCmp n.val s + k * per ∧
          trgBase n.val s < trgCmp n.val s + k * per ∧ (k = 1 ∨ trgCmp n.val s + (k - 1) * per ≤ trgBase n.val s))))

/-- R65 to R68, R82, R136, R142, R143: a stream releases its first event once the GTC has reached its stamp plus the hold,
and no earlier; a pulse that has lasted WID ns ends; a NOTICE trap that is due on a live core enters its supervisor's
handler. -/
def Obligations.ReleasesPulsesAndNoticeTraps : Prop :=
  (∀ (c : BitVec 9) (s : State) (e : Event) (es : List Event), (s.carrel c.toNat).nq.wait = e :: es →
    (s.now < e.stamp + streamHold c.toNat s → exec (.eventRelease c) s = .next s) ∧
    (e.stamp + streamHold c.toNat s ≤ s.now →
      exec (.eventRelease c) s = .next (deliver c.toNat e false
        (s.setCarrel c.toNat { s.carrel c.toNat with nq := { (s.carrel c.toNat).nq with wait := es } })))) ∧
  (∀ (n : Fin 64) (s : State),
    ((∃ x ∈ s.time.pulses, x.1 = n.val ∧ x.2 ≤ s.now) → ∃ t, exec (.pulseEnd n) s = .next t ∧
      (∀ x ∈ t.time.pulses, x.1 ≠ n.val) ∧ (∀ x ∈ s.time.pulses, x.1 ≠ n.val → x ∈ t.time.pulses) ∧ t.regs = s.regs ∧ t.mem = s.mem) ∧
    ((∀ x ∈ s.time.pulses, x.1 = n.val → s.now < x.2) → exec (.pulseEnd n) s = .next s)) ∧
  (∀ (c : Fin 16) (s : State), coreLive c.val s = true →
    (noticeTrapDue c.val s = true → exec (.noticeTrap c) s = .next (agreeNote c.val 0 (enterSup c.val 0x820 0 s))) ∧
    (noticeTrapDue c.val s = false → exec (.noticeTrap c) s = .next s))

/-- R64, R68, R136, R142: an enabled event that reaches a carrel whose queue has room becomes its youngest notice, with its
source, stamp and payload; one whose source is not enabled changes no queue; and one that meets a full queue is lost: LOST
is set, DK_NLOST counts and stops at its maximum. -/
def Obligations.DeliveryFillsTheQueue : Prop :=
  ∀ (c : Nat) (e : Event) (s : State), (∀ k, k < 16 → (s.core k).d1.toNat = c → (s.core k).wait = none) →
    let t := deliver c e false s
    let q := s.carrel c
    (noticeEnabled c e.src s = false → (t.carrel c).nq.queue = q.nq.queue ∧ (t.carrel c).dk = q.dk) ∧
    (noticeEnabled c e.src s = true → q.nq.queue.length < noticeDepth c s →
      (t.carrel c).nq.queue = q.nq.queue ++ [{ src := e.src, late := false, stamp := e.stamp, payload := e.payload }] ∧
      (t.carrel c).dk = q.dk) ∧
    (noticeEnabled c e.src s = true → noticeDepth c s ≤ q.nq.queue.length →
      (t.carrel c).nq.queue = q.nq.queue ∧ (t.carrel c).nq.lost = true ∧
      (t.carrel c).dk.nlost.toNat = min (q.dk.nlost.toNat + 1) (2 ^ 32 - 1)) ∧
    (∀ m, m ≠ c → t.carrel m = s.carrel m) ∧ t.mem = s.mem ∧ t.pending = s.pending

/-! ### Register writes and transactions -/

/-- R6, R7, R8: an accepted write of a register without a rule of its own sets each field by its access code, a bit that
hardware set in this cycle stands, and the block acts; a write that a check of R470 or R7 refuses changes only what R483
records. -/
def Obligations.RegisterWritesFollowAccessCodes : Prop :=
  (∀ id a x s, Accepted id a (wv x) s → exec (.registerWrite id (BitVec.ofNat 48 a) x) s =
    .next (wrote a (wv x) (blkActs (writeOf id a (wv x)) (s.reg a) (wv x)) s)) ∧
  (∀ a r (w : BitVec 64) s, regAt a = some r → s.roseMask a = 0 → ∀ f ∈ r.fields,
    (newValue a w s).extractLsb' f.fld.lo f.fld.width =
      (match f.acc with
       | .rw | .wonce => w.extractLsb' f.fld.lo f.fld.width
       | .ro | .wo => (s.reg a).extractLsb' f.fld.lo f.fld.width
       | .w1c => (s.reg a).extractLsb' f.fld.lo f.fld.width &&& ~~~w.extractLsb' f.fld.lo f.fld.width
       | .w1s => (s.reg a).extractLsb' f.fld.lo f.fld.width ||| w.extractLsb' f.fld.lo f.fld.width)) ∧
  (∀ a r (w : BitVec 64) s i, regAt a = some r → (s.roseMask a).getLsbD i = true → (s.reg a).getLsbD i = true →
    (newValue a w s).getLsbD i = true) ∧
  (∀ id a w s, plainReg a s = true → accessCheck (writeOf id a w) s = none → blockOf a ≠ 14 →
    (regAt a = none ∨ ∃ r, regAt a = some r ∧
      (r.refuses (s.reg a) w = true ∨ blkRefuses (writeOf id a w) w (newValue a w s) s = true)) →
    exec (.registerWrite id (BitVec.ofNat 48 a) (immw w)) s =
      .next { logRefusal (writeOf id a w) rTARGET s with resp := .err rTARGET }) ∧
  (∀ id a w s e, regionOf a = .mmio → accessCheck (writeOf id a w) s = some e →
    exec (.registerWrite id (BitVec.ofNat 48 a) (immw w)) s = .next { logRefusal (writeOf id a w) e s with resp := .err e })

/-- R29, R120, R181, R183, R470, R483, R485: a refused transaction has no effect at its target but the record of the
refusal; an accepted one reads, writes or compares and swaps the word it names, in the regions that take it, and one to the
twin window joins the bridge's queue; a target that does not answer in time closes its tile's port and the initiator sees
FAILED. -/
def Obligations.TransactionsPassTheirChecks : Prop :=
  (∀ t s e, accessCheck t s = some e → (t.portOk = true ∨ e ≠ rFAILED) →
    exec (.transactionCheck t) s = .next { logRefusal t e s with resp := .err e }) ∧
  (∀ t s, accessCheck t s = some rFAILED → t.portOk = false →
    exec (.transactionCheck t) s = .next { faultNoSrc 3 0 s with resp := .err rFAILED }) ∧
  (∀ t s, accessCheck t s = none → regionOf t.addr.toNat = .sram → t.kind = .write →
    exec (.transactionCheck t) s = .next { s.wrMem t.addr.toNat t.data with resp := .done }) ∧
  (∀ t s, accessCheck t s = none → (t.kind = .read ∨ t.kind = .fetch ∨ t.kind = .walk) → s.eccAt t.addr.toNat = 0 →
    regionOf t.addr.toNat ∈ [.sram, .catMem, .slips, .rom, .mram] →
    exec (.transactionCheck t) s = .next { s with resp := .word (s.rdMem t.addr.toNat) }) ∧
  (∀ t s, accessCheck t s = none → regionOf t.addr.toNat = .sram → t.kind = .cas → s.eccAt t.addr.toNat = 0 →
    exec (.transactionCheck t) s = .next { (if s.rdMem t.addr.toNat = t.expect then s.wrMem t.addr.toNat t.data else s) with
      resp := .word (s.rdMem t.addr.toNat) }) ∧
  (∀ t s, accessCheck t s = none → t.kind = .cas → regionOf t.addr.toNat ∉ [.sram, .rom, .none] →
    exec (.transactionCheck t) s = .next { logRefusal t rTARGET s with resp := .err rTARGET }) ∧
  (∀ t s, accessCheck t s = none → regionOf t.addr.toNat = .twin → t.kind ≠ .cas →
    exec (.transactionCheck t) s = .next { s with bridge := { s.bridge with queue := s.bridge.queue ++ [{ txn := t, core := 16 }] } }) ∧
  (∀ t s, accessCheck t s = none → regionOf t.addr.toNat = .mram → t.kind = .write → t.id.lib = true →
    mramProtected t.addr.toNat s = false →
    exec (.transactionCheck t) s = .next { s.wrMem t.addr.toNat t.data with resp := .done }) ∧
  (∀ id a w s, accessCheck { kind := .write, addr := a, id := id, data := w } s = none →
    (regionOf a.toNat = .catMem ∨ regionOf a.toNat = .slips) →
    exec (.catalogueMemoryWrite id a w) s =
      .next (if catWriteOk a.toNat w s then { s.wrMem a.toNat w with resp := .done }
        else { logRefusal { kind := .write, addr := a, id := id, data := w } rTARGET s with resp := .err rTARGET })) ∧
  (∀ t s, timedHere t.addr.toNat s = true → ∃ u, exec (.transactionTimeout t) s = .next u ∧ u.resp = .err rFAILED ∧
    ∀ tile, tileOf t.addr.toNat = some tile → tileClosed tile u = true) ∧
  (∀ t s, timedHere t.addr.toNat s = false → exec (.transactionTimeout t) s = .next s)

/-- R476, R478, R479, R473, R560: a permit entry takes the written word when the check and the lock-out rule pass and is
refused with TARGET otherwise; an ownership register takes V and OWNER and sets ABSENT when that owner is in reset; an
ownership-map word is applied when both twins accept it while the link is up, and is refused otherwise. -/
def Obligations.PermitOwnershipAndMapWrites : Prop :=
  (∀ id a w s, isPermitEntry a = true → accessCheck (writeOf id a w) s = none → permitRefuses (writeOf id a w) w s = false →
    permitSpec.refuses (s.reg a) w = false →
    exec (.permitWrite id (BitVec.ofNat 48 a) w) s = .next { s.setReg a w with resp := .done }) ∧
  (∀ id a w s, isPermitEntry a = true → regionOf a = .mmio → accessCheck (writeOf id a w) s = none →
    (permitRefuses (writeOf id a w) w s = true ∨ permitSpec.refuses (s.reg a) w = true) →
    exec (.permitWrite id (BitVec.ofNat 48 a) w) s = .next { logRefusal (writeOf id a w) rTARGET s with resp := .err rTARGET }) ∧
  (∀ id a w s, isOwnReg a s = true → accessCheck (writeOf id a w) s = none → (∀ r, regAt a = some r → r.refuses (s.reg a) w = false) →
    exec (.ownershipWrite id (BitVec.ofNat 48 a) w) s = .next { s.setReg a (fput (w &&& 0x3FF) F.TIME_TRGn_OWN_ABSENT
      (if fget w F.TIME_TRGn_OWN_OWNER ≠ 0 ∧ s.get (R.CARREL_Cc_STAT (fget w F.TIME_TRGn_OWN_OWNER)) F.CARREL_Cc_STAT_STATE = 3 then 1 else 0))
      with resp := .done }) ∧
  (∀ id a w answer s, isMapReg a = true → accessCheck (writeOf id a w) s = none → (∃ r, regAt a = some r ∧ r.refuses (s.reg a) w = false) →
    exec (.mapWrite id (BitVec.ofNat 48 a) w answer) s =
      .next (if mapRefuses a w s = true ∨ (s.bit R.TWIN_STAT F.TWIN_STAT_LINK_UP = true ∧ answer = false) then
          { logRefusal (writeOf id a w) rTARGET s with resp := .err rTARGET }
        else { mapApply a w s with resp := .done }))

/-- R48, R51, R73, R84, R85, R561, R579, R583, R590: what an accepted write starts beside setting its fields: SAFE_IN_EN set
while SAFE_N is recognised forces every demand to its safe state, the almanac moves by STEP, enabling a slot whose value is
already reached marks its firing late, disabling one ends its pulse, the doze and park requests start their sequences, and
PEER_WAKE wakes the other twin. The multiplier and retry settings are plain fields. -/
def Obligations.ClockAndPowerControlWrites : Prop :=
  (∀ w, Starts (.sysFaultCtlWrite · w) R.SYS_FAULT_CTL (fun _ => w) (fun _ s t =>
    if s.get R.SYS_FAULT_CTL F.SYS_FAULT_CTL_SAFE_IN_EN = 0 ∧ safeForces t = true then forceSafe t else t)) ∧
  (∀ w, Starts (.almanacStep · w) R.TIME_ALM_STEP (fun _ => w) (fun _ s t =>
    let x : Int := s.time.almSec.toNat * giga + s.time.almNs.toNat + w.toInt
    { t with time := { t.time with almSec := BitVec.ofNat 48 (x.toNat / giga), almNs := BitVec.ofNat 30 (x.toNat % giga) } })) ∧
  (∀ (n : Fin 64) (k : Fin 16) w, Starts (.triggerCtlWrite · n k w) (R.TIME_TRGn_CTL n.val + k.val) (fun _ => w) (fun _ s t =>
    if k.val ≠ 0 then t
    else if s.bit (R.TIME_TRGn_CTL n.val) F.TIME_TRGn_CTL_EN = true ∧ fget w F.TIME_TRGn_CTL_EN = 0 then endPulse n.val t
    else if s.get (R.TIME_TRGn_CTL n.val) F.TIME_TRGn_CTL_EN = 0 ∧ fget w F.TIME_TRGn_CTL_EN = 1 ∧ trgCmp n.val t ≤ trgBase n.val t then
      { t with trgLate := n.val :: t.trgLate.filter (fun x => x ≠ n.val) }
    else t)) ∧
  (∀ w, Sets (.coreMultWrite · w) R.SYS_CLK_CTL (fun _ => w)) ∧
  Starts .dozeRequest R.SYS_PWR_CTL (fun _ => fput 0 F.SYS_PWR_CTL_REQ 1) (fun _ _ t =>
    if t.power.pstate = .doze then t
    else { t.set R.SYS_PWR_STAT F.SYS_PWR_STAT_STATE 1 with power := { t.power with dozeReq := true, exitPending := false } }) ∧
  Starts .parkRequest R.SYS_PWR_CTL (fun _ => fput 0 F.SYS_PWR_CTL_REQ 2) (fun _ _ t => parkBegin t) ∧
  Starts .peerWake R.TWIN_CTL (fun s => fput (wkeep R.TWIN_CTL s) F.TWIN_CTL_PEER_WAKE 1) (fun _ _ t =>
    if twinState (tryPair t) = 6 then { tryPair t with twin := { (tryPair t).twin with peerWake := true } } else tryPair t)

/-- R246, R290, R291, R332, R334, R357, R401, R466, R467, R491, R516, R580: an accepted write of a clear bit clears exactly
the counters and the log it names, and rearms the events that a first count raises; nothing else changes. -/
def Obligations.ClearsOfCountersAndLogs : Prop :=
  Starts .timeLateClr R.TIME_LATE_CNT (fun _ => fput 0 F.TIME_LATE_CNT_CLR 1)
    (fun _ _ t => t.set R.TIME_LATE_CNT F.TIME_LATE_CNT_COUNT 0) ∧
  Starts .catCntClr R.CAT_CNT_CLR (fun _ => fput 0 F.CAT_CNT_CLR_CLR 1) (fun _ _ t =>
    let u := (((t.set R.CAT_PROV_STAT F.CAT_PROV_STAT_PEAK 0).set R.CAT_PROV_STAT F.CAT_PROV_STAT_FULL_CNT 0).setReg R.CAT_WDRAW 0).setReg R.CAT_ERR_CNT 0
    { u.set R.CAT_REFLEX_STAT F.CAT_REFLEX_STAT_PEAK 0 with cat := { t.cat with fullSeen := false } }) ∧
  (∀ p : Fin 24, Starts (.ethCntclr · p) (R.ETH_Pp_CNTCLR p.val) (fun _ => fput 0 F.ETH_Pp_CNTCLR_CLR 1) (fun _ _ t =>
    let u := (List.range 8).foldl (fun u q => (u.setReg (R.ETH_Pp_Qq_DROP p.val q) 0).setReg (R.ETH_Pp_Qq_AGED p.val q) 0)
      ((List.range 14).foldl (fun u j => u.setReg (R.ETH_Pp_CNT p.val j) 0) t)
    let v := u.setPort p.val { u.port p.val with tdArmed := true }
    if p = 12 then { v with sw := { v.sw with recArmed := true } } else v)) ∧
  (∀ u : Fin 4, Starts (.macsecCntclr · u) (R.MACSEC_Iu_CNTCLR u.val) (fun _ => fput 0 F.MACSEC_Iu_CNTCLR_CLR 1) (fun _ _ t =>
    (List.range 7).foldl (fun v j => v.setReg (R.MACSEC_Iu_CNT u.val j) 0) t)) ∧
  (∀ n : Fin 16, Starts (.canCntclr · n) (R.CANn_CNTCLR n.val) (fun _ => fput 0 F.CANn_CNTCLR_CLR 1) (fun _ _ t =>
    (List.range 11).foldl (fun u j => u.setReg (R.CANn_CNT n.val j) 0) t)) ∧
  (∀ m : Fin 8, Starts (.linCntclr · m) (R.LINm_CNTCLR m.val) (fun _ => fput 0 F.LINm_CNTCLR_CLR 1) (fun _ _ t =>
    (List.range 6).foldl (fun u j => u.setReg (R.LINm_CNT m.val j) 0) t)) ∧
  Starts .nmCntclr R.NM_CNTCLR (fun _ => fput 0 F.NM_CNTCLR_CLR 1) (fun _ _ t =>
    (List.range 16).foldl (fun u n => u.set (R.NM_SWn_STAT n) F.NM_SWn_STAT_MATCHES 0)
      ((List.range 16).foldl (fun u k => u.setReg (R.NM_WINGw_CNT k) 0)
        ((List.range 36).foldl (fun u g => (u.set (R.NM_SEGs_STAT g) F.NM_SEGs_STAT_RING_ERR 0).set (R.NM_SEGs_STAT g) F.NM_SEGs_STAT_ISOLATED 0) t))) ∧
  (∀ c : Fin 32, Starts (.loadCntclr · c) (R.LOAD_CHc_CNTCLR c.val) (fun _ => fput 0 F.LOAD_CHc_CNTCLR_CLR 1)
    (fun _ _ t => t.setReg (R.LOAD_CHc_CNT c.val) 0)) ∧
  Starts .stkCeclr R.STK_CECLR (fun _ => fput 0 F.STK_CECLR_CLR 1)
    (fun _ _ t => ((List.range 8).foldl (fun u k => u.setReg (R.STK_CEt k) 0) t).setReg R.STK_CEM 0) ∧
  Starts .archClr R.ARCH_CLR (fun _ => fput 0 F.ARCH_CLR_CLR 1) (fun _ _ t =>
    { (t.set R.ARCH_STAT F.ARCH_STAT_COUNT 0).setReg R.ARCH_LOSS 0 with arch := { t.arch with live := [], armed := true } }) ∧
  Starts .archRetClr R.ARCH_CLR (fun _ => fput 0 F.ARCH_CLR_RET_CLR 1) (fun _ _ t => { t with arch := { t.arch with retained := [] } }) ∧
  Starts .permLogClr R.PERM_LOG_CLR (fun _ => fput 0 F.PERM_LOG_CLR_CLR 1) (fun _ _ t =>
    { t.set R.PERM_LOG_ID F.PERM_LOG_ID_COUNT 0 with bridge := { t.bridge with permArmed := true } }) ∧
  Starts .twinBrLogclr R.TWIN_BR_LOGCLR (fun _ => fput 0 F.TWIN_BR_LOGCLR_CLR 1) (fun _ _ t =>
    ((((List.range 16).foldl (fun u k => (u.setReg (R.TWIN_BR_LOGk_A k) 0).setReg (R.TWIN_BR_LOGk_STAMP k) 0) t).setReg R.TWIN_BR_LOGSTAT 0).setReg
      R.TWIN_BR_CNT 0).set R.TWIN_BR_STAT F.TWIN_BR_STAT_CROSSINGS 0) ∧
  Starts .carrelRcCntclr R.CARREL_RC_CNTCLR (fun _ => fput 0 F.CARREL_RC_CNTCLR_CLR 1)
    (fun _ _ t => (t.setReg R.CARREL_RC_CNT 0).setReg R.CARREL_RC_CNT2 0) ∧
  Starts .twinCntclr R.TWIN_CNTCLR (fun _ => fput 0 F.TWIN_CNTCLR_CLR 1)
    (fun _ _ t => ((mirrorDrain t).setReg R.TWIN_MIR_CNT 0).set R.TWIN_MIR_STAT F.TWIN_MIR_STAT_DROPPED 0)

/-- R216, R227, R231 to R233, R261, R268, R274, R293: a cataloguer starts at ENTRY and stops with its triggers and its wait
gone; a collation unit starts from its initial value, or from RUN with RESUME, halts on STOP, and at the end of a stream
holds the check value of what passed and says whether the trailing value agreed; the gate change, the port enables, the
forwarding-table commands, the ring tails and the management frames start as their registers say. -/
def Obligations.CatalogueCollationAndNetworkControls : Prop :=
  (∀ (n : Fin 64) w, Starts (.cataloguerStart · n w) (R.CATG_CUn_CTL n.val) (fun _ => fput w F.CATG_CUn_CTL_RUN 1) (fun _ s t =>
    if s.get (R.CATG_CUn_CTL n.val) F.CATG_CUn_CTL_RUN = 0 then
      t.setCu n.val { pc := t.get (R.CATG_CUn_CTL n.val) F.CATG_CUn_CTL_ENTRY }
    else t)) ∧
  (∀ n : Fin 64, Starts (.cataloguerStop · n) (R.CATG_CUn_CTL n.val) (fun s => fput (wkeep (R.CATG_CUn_CTL n.val) s) F.CATG_CUn_CTL_RUN 0)
    (fun _ s t => if s.bit (R.CATG_CUn_CTL n.val) F.CATG_CUn_CTL_RUN then
      t.setCu n.val { t.cu n.val with q := [], waitRd := none, stalled := false } else t)) ∧
  (∀ (u : Fin 16) w, Starts (.collationStart · u w) (R.COLL_Un_CTL u.val) (fun _ => fput w F.COLL_Un_CTL_START 1) (fun _ _ t =>
    if t.bit (R.COLL_Un_STAT u.val) F.COLL_Un_STAT_BUSY then
      (if fget w F.COLL_Un_CTL_STOP = 1 then t.setColl u.val { t.collU u.val with stopAt := some t.now } else t)
    else
      ((if fget w F.COLL_Un_CTL_RESUME = 1 then t else t.setReg (R.COLL_Un_RUN u.val) (crcStart (collParams u.val t))).set
        (R.COLL_Un_STAT u.val) F.COLL_Un_STAT_BUSY 1).setColl u.val { since := t.now, stopAt := none })) ∧
  (∀ u : Fin 16, Starts (.collationStop · u) (R.COLL_Un_CTL u.val) (fun s => fput (wkeep (R.COLL_Un_CTL u.val) s) F.COLL_Un_CTL_STOP 1)
    (fun _ _ t => if t.bit (R.COLL_Un_STAT u.val) F.COLL_Un_STAT_BUSY then
      t.setColl u.val { t.collU u.val with stopAt := some t.now } else t)) ∧
  (∀ (u : Fin 16) (stream : Octets) s, s.bit (R.COLL_Un_STAT u.val) F.COLL_Un_STAT_BUSY = true → tileClosed .collation s = false →
    s.power.computeHeld = false → s.get (R.COLL_Un_CTL u.val) F.COLL_Un_CTL_MODE = 1 → (s.collU u.val).stopAt = none →
    ∃ t, exec (.collationDone u stream) s = .next t ∧ t.bit (R.COLL_Un_STAT u.val) F.COLL_Un_STAT_BUSY = false ∧
      t.bit (R.COLL_Un_STAT u.val) F.COLL_Un_STAT_DONE = true ∧ t.mem = s.mem ∧
      t.reg (R.COLL_Un_RESULT u.val) = crcOut (collParams u.val s) (crcRun (collParams u.val s) (s.reg (R.COLL_Un_RUN u.val)) stream)) ∧
  (∀ (u : Fin 16) (body chk : Octets) s, s.bit (R.COLL_Un_STAT u.val) F.COLL_Un_STAT_BUSY = true → tileClosed .collation s = false →
    s.power.computeHeld = false → s.get (R.COLL_Un_CTL u.val) F.COLL_Un_CTL_MODE = 2 → (s.collU u.val).stopAt = none →
    chk.length = ((collParams u.val s).width + 7) / 8 →
    ∃ t, exec (.collationDone u (body ++ chk)) s = .next t ∧ t.bit (R.COLL_Un_STAT u.val) F.COLL_Un_STAT_BUSY = false ∧
      t.reg (R.COLL_Un_RESULT u.val) = crcOut (collParams u.val s) (crcRun (collParams u.val s) (s.reg (R.COLL_Un_RUN u.val)) body) ∧
      (chk = checkOctets (collParams u.val s) (t.reg (R.COLL_Un_RESULT u.val)) → t.bit (R.COLL_Un_STAT u.val) F.COLL_Un_STAT_DONE = true) ∧
      (chk ≠ checkOctets (collParams u.val s) (t.reg (R.COLL_Un_RESULT u.val)) →
        t.bit (R.COLL_Un_STAT u.val) F.COLL_Un_STAT_MISMATCH = true)) ∧
  (∀ (p : Fin 24) w, Starts (.gateChangeRequest · p w) (R.ETH_Pp_GCTL p.val) (fun _ => fput w F.ETH_Pp_GCTL_CHANGE 1)
    (fun _ _ t => gateChange p.val t)) ∧
  (∀ (p : Fin 24) w, Starts (.portEnable · p w) (R.ETH_Pp_CTL p.val) (fun _ => fput w F.ETH_Pp_CTL_EN 1) (fun _ _ t => portReturns p.val t)) ∧
  (∀ (p : Fin 24) w, Starts (.portDisable · p w) (R.ETH_Pp_CTL p.val) (fun _ => fput w F.ETH_Pp_CTL_EN 0) (fun _ s t =>
    if s.bit (R.ETH_Pp_CTL p.val) F.ETH_Pp_CTL_EN = true ∧ portState p.val t = 0 then portLeaves p.val false t else t)) ∧
  (∀ i : BitVec 16, Starts (.fdbWrite · i) R.CIRC_FDB_CMD (fun _ => fput (fput 0 F.CIRC_FDB_CMD_INDEX i.toNat) F.CIRC_FDB_CMD_WRITE 1)
    (fun _ _ t => { t with sw := { t.sw with
      fdb := spPut (fun _ => (0, 0)) t.sw.fdb (i.toNat % 2 ^ F.CIRC_FDB_CMD_INDEX.width) (t.reg R.CIRC_FDB_KEY, t.reg R.CIRC_FDB_RES) } })) ∧
  (∀ i : BitVec 16, Starts (.fdbRead · i) R.CIRC_FDB_CMD (fun _ => fput (fput 0 F.CIRC_FDB_CMD_INDEX i.toNat) F.CIRC_FDB_CMD_READ 1)
    (fun _ _ t => (t.setReg R.CIRC_FDB_KEY (fdbGet (i.toNat % 2 ^ F.CIRC_FDB_CMD_INDEX.width) t).1).setReg R.CIRC_FDB_RES
      (fdbGet (i.toNat % 2 ^ F.CIRC_FDB_CMD_INDEX.width) t).2)) ∧
  (∀ (r : Fin 64) (x : BitVec 16), Sets (.ringTailWrite · r x) (R.CIRC_RINGr_TAIL r.val) (fun _ => fput 0 F.CIRC_RINGr_TAIL_TAIL x.toNat)) ∧
  (∀ (n : Fin 2) w, Starts (.mdioStart · n w) (R.ETH_MDIOn_CMD n.val) (fun _ => fput w F.ETH_MDIOn_CMD_START 1)
    (fun _ _ t => t.set (R.ETH_MDIOn_CMD n.val) F.ETH_MDIOn_CMD_BUSY 1))

/-- R303, R309, R310, R312, R315, R316, R323, R338, R347, R349, R651, R652: what an accepted write of a CAN, LIN or wing
register starts: a new mode rechecks the pending requests, RESTART asks for bus-off recovery, RESUME ends the
acknowledgement stop, TXREQ and ABORT begin and withdraw a request, a schedule runs from START, and a wing is enabled awake,
is disabled, gives or withdraws its consent and is woken. -/
def Obligations.BusControlWrites : Prop :=
  (∀ (n : Fin 16) w, Starts (.canCtlWrite · n w) (R.CANn_CTL n.val) (fun _ => w) (fun _ s t =>
    if s.get (R.CANn_CTL n.val) F.CANn_CTL_MODE = fget w F.CANn_CTL_MODE then t
    else (List.range 256).foldl (fun u b => checkReq n.val b u) t)) ∧
  (∀ (n : Fin 16) w, Starts (.canDisable · n w) (R.CANn_CTL n.val) (fun _ => fput w F.CANn_CTL_EN 0) (fun _ s t =>
    if s.get (R.CANn_CTL n.val) F.CANn_CTL_MODE = fget w F.CANn_CTL_MODE then t
    else (List.range 256).foldl (fun u b => checkReq n.val b u) t)) ∧
  (∀ n : Fin 16, Starts (.busOffRestart · n) (R.CANn_BORST n.val) (fun _ => fput 0 F.CANn_BORST_RESTART 1) (fun _ _ t =>
    if t.get (R.CANn_ERR n.val) F.CANn_ERR_STATE = 2 then t.setCan n.val { t.can n.val with recover := true } else t)) ∧
  (∀ n : Fin 16, Starts (.noackResume · n) (R.CANn_BORST n.val) (fun _ => fput 0 F.CANn_BORST_RESUME 1) (fun _ _ t =>
    (t.set (R.CANn_ERR n.val) F.CANn_ERR_NOACK 0).setCan n.val { t.can n.val with noackDone := false })) ∧
  (∀ (n : Fin 16) (b : BitVec 8), Starts (.txRequest · n b) (R.CANn_MBb_STAT n.val b.toNat) (fun _ => fput 0 F.CANn_MBb_STAT_TXREQ 1)
    (fun _ s t => if s.get (mbStat n.val b.toNat) F.CANn_MBb_STAT_TXREQ = 0 then
        txRequest n.val b.toNat (t.set (mbStat n.val b.toNat) F.CANn_MBb_STAT_TXREQ 0)
      else t.noteRose (mbStat n.val b.toNat) (fmask F.CANn_MBb_STAT_TXREQ))) ∧
  (∀ (n : Fin 16) (b : BitVec 8), Starts (.canAbort · n b) (R.CANn_MBb_STAT n.val b.toNat) (fun _ => fput 0 F.CANn_MBb_STAT_ABORT 1)
    (fun _ _ t => abortReq n.val b.toNat t)) ∧
  (∀ (n : Fin 16) (b : BitVec 8), Starts (.mbDisable · n b) (R.CANn_MBb_CFG n.val b.toNat)
    (fun s => fput (wkeep (R.CANn_MBb_CFG n.val b.toNat) s) F.CANn_MBb_CFG_EN 0) (fun _ s t =>
      if s.bit (mbCfg n.val b.toNat) F.CANn_MBb_CFG_EN then mbDisable n.val b.toNat t else t)) ∧
  (∀ (m : Fin 8) w, Starts (.linScheduleRun · m w) (R.LINm_SCHED m.val) (fun _ => fput w F.LINm_SCHED_RUN 1) (fun _ s t =>
    let u := if s.get (R.LINm_SCHED m.val) F.LINm_SCHED_RUN = 0 then
        (t.set (R.LINm_SCHED m.val) F.LINm_SCHED_CUR (fget w F.LINm_SCHED_START)).setLin m.val { t.lin m.val with
          table := fget w F.LINm_SCHED_START, slotEnd := t.now, sw := false, hdr := none, started := false, ovr := false }
      else t
    if fget w F.LINm_SCHED_SWITCH = 1 then u.setLin m.val { u.lin m.val with sw := true } else u)) ∧
  (∀ (m : Fin 8) w, Starts (.linSwitch · m w) (R.LINm_SCHED m.val) (fun _ => fput w F.LINm_SCHED_SWITCH 1) (fun _ s t =>
    let u := if s.get (R.LINm_SCHED m.val) F.LINm_SCHED_RUN = 0 ∧ fget w F.LINm_SCHED_RUN = 1 then
        (t.set (R.LINm_SCHED m.val) F.LINm_SCHED_CUR (fget w F.LINm_SCHED_START)).setLin m.val { t.lin m.val with
          table := fget w F.LINm_SCHED_START, slotEnd := t.now, sw := false, hdr := none, started := false, ovr := false }
      else t
    u.setLin m.val { u.lin m.val with sw := true })) ∧
  (∀ (g : Fin 16) w, Starts (.wingEnable · g w) (R.NM_WINGw_CFG g.val) (fun _ => fput w F.NM_WINGw_CFG_EN 1) (fun _ s t =>
    if s.get (R.NM_WINGw_CFG g.val) F.NM_WINGw_CFG_EN = 0 then
      tryClosing g.val (enterAwake g.val true (noteUp g.val (t.setWing g.val {})))
    else t)) ∧
  (∀ (g : Fin 16) w, Starts (.wingDisable · g w) (R.NM_WINGw_CFG g.val) (fun _ => fput w F.NM_WINGw_CFG_EN 0) (fun _ s t =>
    if s.bit (R.NM_WINGw_CFG g.val) F.NM_WINGw_CFG_EN then wingDisable g.val t else t)) ∧
  (∀ (g : Fin 16) (ready : Bool), Starts (.wingReady · g ready) (R.NM_WINGw_CTL g.val)
    (fun _ => fput 0 F.NM_WINGw_CTL_READY (if ready then 1 else 0)) (fun _ s t =>
      if s.get (R.NM_WINGw_CTL g.val) F.NM_WINGw_CTL_READY = 0 ∧ ready = true then tryClosing g.val t
      else if s.bit (R.NM_WINGw_CTL g.val) F.NM_WINGw_CTL_READY = true ∧ ready = false ∧ wingState g.val t = 2 ∧
          t.bit (R.NM_WINGw_CFG g.val) F.NM_WINGw_CFG_EN = true then enterAwake g.val false (sendAborts g.val t)
      else t)) ∧
  (∀ g : Fin 16, Starts (.wingWakeWrite · g) (R.NM_WINGw_CTL g.val)
    (fun s => fput (wkeep (R.NM_WINGw_CTL g.val) s) F.NM_WINGw_CTL_WAKE 1) (fun _ _ t =>
      if t.bit (R.NM_WINGw_CFG g.val) F.NM_WINGw_CFG_EN then wingRequest g.val 0 t else t))

/-- R199, R362 to R364, R384, R404, R423, R425, R426, R445, R447, R450, R453, R463, R464: an accepted command replaces a
channel's demand with its origin and the reflex queue delivers its oldest slip command within 128 ns; REARM is the owner's
or the librarian's; the reserve pair is designated, a pair released and reset; fills, bank restores, archive entries and
flash commands and copies start. -/
def Obligations.LoadPairAndStackControlWrites : Prop :=
  (∀ (c : Fin 32) w, ∀ id s, Accepted id (R.LOAD_CHc_CMD c.val) w s → exec (.channelCommand (.write id c w)) s =
    .next (wrote (R.LOAD_CHc_CMD c.val) w (acceptCommand c.val (BitVec.ofNat 2 (fget w F.LOAD_CHc_CMD_MODE))
      (BitVec.ofNat 16 (fget w F.LOAD_CHc_CMD_DUTY)) (if id.master = 29 then 2 else 0)) s)) ∧
  (∀ s x q, s.load.reflex = x :: q → s.now ≤ x.at_ + 128 → exec (.channelCommand .slip) s =
    .next (slipCommand x { s with load := { s.load with reflex := q } })) ∧
  (∀ c : Fin 32, Starts (.rearm · c) (R.LOAD_CHc_TRIP c.val) (fun _ => fput 0 F.LOAD_CHc_TRIP_REARM 1) (fun id _ t =>
    if id.lib = true ∨ (t.bit (R.LOAD_CHc_OWN c.val) F.TIME_TRGn_OWN_V = true ∧
        t.get (R.LOAD_CHc_OWN c.val) F.TIME_TRGn_OWN_OWNER = id.carrel.toNat) then rearm c.val t else t)) ∧
  (∀ w, Starts (.reserveDesignate · w) R.EXEC_RESERVE (fun _ => w) (fun _ s t =>
    let p := t.get R.EXEC_RESERVE F.EXEC_RESERVE_PAIR
    let q := s.get R.EXEC_RESERVE F.EXEC_RESERVE_PAIR
    let was := s.bit R.EXEC_RESERVE F.EXEC_RESERVE_EN
    let en := t.bit R.EXEC_RESERVE F.EXEC_RESERVE_EN
    let u := if was = true ∧ (en = false ∨ p ≠ q) then
        (if pairState q t = 3 then setPairState q 0 t else t).set R.EXEC_RESERVE F.EXEC_RESERVE_USED 0
      else t
    if en = true ∧ (was = false ∨ p ≠ q) then (setPairState p 3 u).setCore (2 * p) {} else u)) ∧
  (∀ p : Fin 8, Starts (.pairRelease · p) (R.EXEC_Pp_CTL p.val) (fun s => fput (wkeep (R.EXEC_Pp_CTL p.val) s) F.EXEC_Pp_CTL_RELEASE 1)
    (fun _ _ t =>
      let u := t.setBit (R.EXEC_Pp_STAT p.val) F.EXEC_Pp_STAT_SPLIT (t.bit (R.EXEC_Pp_CTL p.val) F.EXEC_Pp_CTL_SPLIT)
      if pairState p.val t = 0 then pairRelease p.val u else u)) ∧
  (∀ p : Fin 8, Starts (.pairReset · p) (R.EXEC_Pp_CTL p.val) (fun s => fput (wkeep (R.EXEC_Pp_CTL p.val) s) F.EXEC_Pp_CTL_RESET 1)
    (fun _ _ t => pairReset p.val (t.setBit (R.EXEC_Pp_STAT p.val) F.EXEC_Pp_STAT_SPLIT (t.bit (R.EXEC_Pp_CTL p.val) F.EXEC_Pp_CTL_SPLIT)))) ∧
  (∀ w, Starts (.rangeFillStart · w) R.STK_FILL (fun _ => fput w F.STK_FILL_START 1) (fun _ _ t =>
    markFill { t with stk := { t.stk with
      fill := some ⟨t.get R.STK_FILL F.STK_FILL_PAGE, t.get R.STK_FILL F.STK_FILL_COUNT, decide (fget w F.STK_FILL_TEST = 1)⟩ } })) ∧
  (∀ w, Starts (.pageTestStart · w) R.STK_FILL (fun _ => fput w F.STK_FILL_TEST 1) (fun _ _ t =>
    markFill { t with stk := { t.stk with
      fill := some ⟨t.get R.STK_FILL F.STK_FILL_PAGE, t.get R.STK_FILL F.STK_FILL_COUNT, true⟩ } })) ∧
  (∀ (b : Fin 32) id s, s.roseMask R.STK_BANKWD = 0 → Accepted id R.STK_BANKWD (wkeep R.STK_BANKWD s &&& ~~~(1#64 <<< b.val)) s →
    ∃ t, exec (.bankRestore id b) s = .next t ∧ t.resp = .done ∧ (t.reg R.STK_BANKWD).getLsbD b.val = false ∧
      ((s.reg R.STK_BANKWD).getLsbD b.val = true → b.val ∈ t.stk.bankFill ∧ t.bit R.STK_STAT F.STK_STAT_FILL_BUSY = true) ∧
      t.mem = s.mem) ∧
  (∀ w, Starts (.archPut · w) R.ARCH_PUT (fun _ => w) (fun _ _ t => archive { stamp := t.now, src := 0x800, payload := immw w } 4 0 t)) ∧
  (∀ w, Starts (.xspiCommand · w) R.STK_XSPI_CMD (fun _ => fput w F.STK_XSPI_CMD_START 1) (fun _ _ t =>
    { t.set R.STK_XSPI_CMD F.STK_XSPI_CMD_BUSY 1 with stk := { t.stk with cmdRun := true } })) ∧
  (∀ w, Starts (.xspiCopy · w) R.STK_XSPI_COPY (fun _ => fput w F.STK_XSPI_COPY_START 1) (fun _ _ t =>
    { t.set R.STK_XSPI_COPY F.STK_XSPI_COPY_BUSY 1 with stk := { t.stk with copyRun := true } }))

/-- R493, R494, R502, R509, R512, R533, R620, R623: an accepted write configures a carrel as stopped and fresh or absent,
starts or resets it, enables or changes a timetable, enables a session, aborts a strongroom command, sets and clears GPIO
outputs, and starts a conversion group that then waits its turn. -/
def Obligations.CarrelVaultAndPinControlWrites : Prop :=
  (∀ (c : BitVec 9) w, Starts (.carrelConfigure · c w) (R.CARREL_Cc_CFG c.toNat) (fun _ => w) (fun _ s t =>
    let was := s.bit (R.CARREL_Cc_CFG c.toNat) F.CARREL_Cc_CFG_V
    let v := t.bit (R.CARREL_Cc_CFG c.toNat) F.CARREL_Cc_CFG_V
    markUsed (if v = true ∧ was = false then (setCarState c.toNat 1 t).set (R.CARREL_Cc_STAT c.toNat) F.CARREL_Cc_STAT_FRESH 1
      else if was = true ∧ v = false then setCarState c.toNat 0 t else t))) ∧
  (∀ c : BitVec 9, Starts (.carrelStart · c) (R.CARREL_Cc_CTL c.toNat) (fun _ => fput 0 F.CARREL_Cc_CTL_START 1)
    (fun _ _ t => carrelStart c.toNat t)) ∧
  (∀ c : BitVec 9, Starts (.carrelReset · c) (R.CARREL_Cc_CTL c.toNat) (fun _ => fput 0 F.CARREL_Cc_CTL_RESET 1)
    (fun _ _ t => carrelReset c.toNat t)) ∧
  (∀ (p : Fin 8) (k : Fin 2) w, Starts (.timetableEnable · p k w) (R.CARREL_Pp_TTk_CTL p.val k.val)
    (fun _ => fput w F.CARREL_Pp_TTk_CTL_EN 1) (fun _ s t =>
      let u := clearHalted p.val t
      let x := ttCore p.val k.val u
      if s.get (R.CARREL_Pp_TTk_CTL p.val k.val) F.CARREL_Pp_TTk_CTL_EN = 0 then
        u.setCore x { u.core x with wend := max u.now (t.reg (R.CARREL_Pp_TTk_BASE p.val k.val)).toNat }
      else u)) ∧
  (∀ (p : Fin 8) (k : Fin 2) w, Starts (.timetableChange · p k w) (R.CARREL_Pp_TTk_NEXT p.val k.val)
    (fun _ => fput w F.CARREL_Pp_TTk_NEXT_CHANGE 1)
    (fun _ _ t => clearHalted p.val (t.set (R.CARREL_Pp_TTk_NEXT p.val k.val) F.CARREL_Pp_TTk_NEXT_PENDING 1))) ∧
  (∀ (c : BitVec 9) w, Sets (.sessionEnable · c w) (R.CARREL_Cc_SES_CTL c.toNat) (fun _ => fput w F.CARREL_Cc_SES_CTL_EN 1)) ∧
  (∀ q : Fin 16, Starts (.vaultAbort · q) (R.VAULT_Qq_CTL q.val) (fun _ => fput 0 F.VAULT_Qq_CTL_ABORT 1) (fun _ _ t =>
    vStop q.val vABORTED t)) ∧
  (∀ (b : Fin 6) w, Starts (.gpioSet · b w) (R.IOC_GPIOBb_SET b.val) (fun _ => w) (fun _ _ t =>
    t.set (R.IOC_GPIOBb_LVL b.val) F.IOC_GPIOBb_LVL_OUT
      (Nat.lor (t.get (R.IOC_GPIOBb_LVL b.val) F.IOC_GPIOBb_LVL_OUT) (fget w F.IOC_GPIOBb_SET_SET)))) ∧
  (∀ (b : Fin 6) w, Starts (.gpioClr · b w) (R.IOC_GPIOBb_CLR b.val) (fun _ => w) (fun _ _ t =>
    t.set (R.IOC_GPIOBb_LVL b.val) F.IOC_GPIOBb_LVL_OUT
      (Nat.land (t.get (R.IOC_GPIOBb_LVL b.val) F.IOC_GPIOBb_LVL_OUT) (255 - fget w F.IOC_GPIOBb_CLR_CLR)))) ∧
  (∀ (g : Fin 16) w, Starts (.adcStart · g w) (R.IOC_ADCg_CFG g.val) (fun _ => fput w F.IOC_ADCg_CFG_START 1) (fun _ _ t =>
    let u := t.set (R.IOC_ADCg_CFG g.val) F.IOC_ADCg_CFG_BUSY 1
    { u with adc := u.adc ++ [(g.val, t.now)] }))

/-! ### The signal catalogue -/

/-- R187, R188, R190 to R192, R202 to R206, R210, R212: a context opens on a valid directory word with the list that the
word names; bits that end no field republish a due time that never rises; a valid signal word's field becomes a value of the
context, written at once to the current word with PROV = 1 unless the entry has NOPROV; a frame longer than MAXLEN, a due
time that has come and a fail verdict close the context, free every item that depends on it, restore the current word of
every entry written provisionally and remove the queued triggers that depend on it; a verdict after the due time is counted
with source 0x458. -/
def Obligations.ReceptionContextsOpenFillAndFail : Prop :=
  ∀ (p : Fin 48) (s : State),
    let r := s.rx p.val
    (∀ (left : Left) (o : Nat), directoryOf p.val s = some o → s.bit R.CAT_CTL F.CAT_CTL_INTAKE_EN = true → r.open_ = false →
      s.eccAt (slipA o) = 0 →
      let x := s.rdMem (slipA o)
      wf x 20 8 ≠ 0 → wf x 40 24 = 0 → wf x 28 12 = 0 ∨ (24 ≤ p.val ∧ 64 ≤ wf x 28 12 ∧ wf x 28 12 ≤ 2308) →
      ∃ t, exec (.receptionContextOpen p left) s = .next t ∧ (t.rx p.val).open_ = true ∧ (t.rx p.val).ptr = wf x 0 20 ∧
        (t.rx p.val).count = wf x 20 8 ∧ (t.rx p.val).vals = [] ∧ t.mem = s.mem ∧ t.cat.items = s.cat.items) ∧
    (∀ (i : BitVec 8) (frame : Octets) (left : Left), r.open_ = true →
      (24 ≤ p.val → r.maxlen < frame.length → ∃ t, exec (.fieldUnpack p i frame left) s = .next t ∧ ContextFailed p s t) ∧
      ((24 ≤ p.val → frame.length ≤ r.maxlen) → r.count ≤ i.toNat →
        ∃ t, exec (.fieldUnpack p i frame left) s = .next t ∧ t.rx p.val = r ∧ t.mem = s.mem ∧
          (s.reg (R.CAT_RXp_DUE p.val) ≠ 0 → (t.reg (R.CAT_RXp_DUE p.val)).toNat ≤ (s.reg (R.CAT_RXp_DUE p.val)).toNat)) ∧
      ((24 ≤ p.val → frame.length ≤ r.maxlen) → i.toNat < r.count → s.bit R.CAT_CTL F.CAT_CTL_E2E_EN = false →
        s.eccAt (slipA (r.ptr + i.toNat)) = 0 →
        let x := s.rdMem (slipA (r.ptr + i.toNat))
        let sm := wf x 1 20
        let len := wf x 36 6 + 1
        let moto := decide (wf x 42 2 = 1)
        let ps := positions (wf x 21 15) moto len
        let d := descOf (s.rdMem (catA sm 2))
        let v := unpack frame ps moto
        let ext : BitVec 64 := if x.getLsbD 44 ∧ 2 ^ (len - 1) ≤ v then BitVec.ofInt 64 ((v : Int) - 2 ^ len) else BitVec.ofNat 64 v
        let w := mkw ext (mkProv (if x.getLsbD 45 ∧ v = 2 ^ len - 1 then 0b10 else 0b00) false true 0b00 d.crit)
        x.getLsbD 0 = false → wf x 46 18 = 0 → wf x 21 15 ≤ 18463 → wf x 42 2 < 2 → s.eccAt (catA sm 2) = 0 → d.kind = 1 →
        d.src = p.val → (∀ b ∈ ps, b / 8 < frame.length) → (intakeRoom (sm / 2 ^ 18) s).1 = true →
        (d.noprov = true → ∃ t, exec (.fieldUnpack p i frame left) s = .next t ∧ t.mem = s.mem ∧
          (t.rx p.val).vals = r.vals ++ [{ shelf := sm, word := w }] ∧ t.cat.items = s.cat.items) ∧
        (d.noprov = false → s.power.pstate ≠ .doze → isProvisional sm s = false → itemFree s = true → d.ptr = 0 → s.cat.walks = [] →
          ∃ t, exec (.fieldUnpack p i frame left) s = .next t ∧ t.rdMem (catA sm 0) = w ∧ t.rdMem (catA sm 1) = s.rdMem (catA sm 1) ∧
            (t.rx p.val).vals = r.vals ++ [{ shelf := sm, word := w, written := true }] ∧
            t.cat.items = s.cat.items ++ [{ mask := 1#48 <<< p.val, eff := .entry sm [] }]))) ∧
    (r.open_ = true → (s.reg (R.CAT_RXp_DUE p.val)).toNat ≤ s.now →
      ∃ t, exec (.dueTimeExpiry p) s = .next t ∧ ContextFailed p s t ∧ (t.rx p.val).await = .late) ∧
    (r.open_ = true → ∃ t, exec (.failVerdict p) s = .next t ∧ ContextFailed p s t ∧ (t.rx p.val).await = .none) ∧
    (r.open_ = false → r.await = .late →
      let late := catErr F.CAT_ERR_CNT_LATE_VERDICT 0x458 (s.setRx p.val { r with await := .none })
      exec (.failVerdict p) s = .next late ∧ exec (.passVerdict p) s = .next late)

/-- R184, R186, R209: a pass verdict of a context whose one value belongs to an entry without a slip list writes the value
with PROV = 0 to the confirmed and the current word, the accession stamp to LAST, one more to SEQ and 0 to TOFIRED, retires
the item of the value, and closes the context. -/
def Obligations.PassVerdictAccessionsTheValue : Prop :=
  ∀ (p : Fin 48) (s : State) (v : RxVal),
    let r := s.rx p.val
    let a := v.shelf
    r.open_ = true → r.ovf = false → r.chks = [] → r.vals = [v] → s.cat.walks = [] → s.cat.emits = [] →
    (∀ x ∈ s.cat.items, x.mask.getLsbD p.val = true → x = { mask := 1#48 <<< p.val, eff := .entry a [] }) →
    s.eccAt (catA a 2) = 0 → s.eccAt (catA a 3) = 0 → (descOf (s.rdMem (catA a 2))).kind = 1 → (descOf (s.rdMem (catA a 2))).ptr = 0 →
    let w := mkw (wv v.word) (pSetProv false (wp v.word))
    ∃ t, exec (.passVerdict p) s = .next t ∧ t.rdMem (catA a 0) = w ∧ t.rdMem (catA a 1) = w ∧
      wf (t.rdMem (catA a 3)) 0 48 = s.now % 2 ^ 48 ∧ wf (t.rdMem (catA a 3)) 48 16 = (wf (s.rdMem (catA a 3)) 48 16 + 1) % 2 ^ 16 ∧
      (t.rdMem (catA a 3)).getLsbD 64 = false ∧ (t.rx p.val).open_ = false ∧ (∀ x ∈ t.cat.items, x.mask.getLsbD p.val = false) ∧
      (∀ m, m ≠ catA a 0 → m ≠ catA a 1 → m ≠ catA a 3 → t.rdMem m = s.rdMem m)

/-- R193 to R195, R199, R201, R215 to R218, R221 to R224, R213: the slip walk after a CATW acts on a LOAD slip by putting
its command at the end of the reflex queue; a template is sent to the switch when its gather's HOLD has ended and at each
multiple of its PERIOD; a timeout sets TOFIRED and LAST, and makes the confirmed word, and the current word unless it is
provisional, what SUBST says; a waiting cataloguer takes its oldest trigger, header and word, into rd and rd + 1; and a
cataloguer stalled for a ledger item goes on when one is free. -/
def Obligations.WalksSendsTimeoutsAndTriggers : Prop :=
  (∀ (w : Walk) (s : State), s.cat.walks = [w] → w.mode ≠ 0 → w.acted = [] → w.ptr ≤ 0xFFFFF → s.eccAt (slipA w.ptr) = 0 →
    let x := s.rdMem (slipA w.ptr)
    wf x 0 3 = 2 → x.getLsbD 3 = true → slipBad x = false →
    ∃ t, exec .catwSlipWalk s = .next t ∧ t.cat.walks = [] ∧ t.mem = s.mem ∧
      t.load.reflex = s.load.reflex ++ [{ chan := wf x 5 5
                                          mode := if wf x 10 2 = 0 then (if (wv w.word).getLsbD 0 then 1 else 0)
                                                  else if wf x 10 2 = 1 then (if wv w.word = 0 then 0 else 1) else 2
                                          duty := if wf x 10 2 ≤ 1 then 0 else (wv w.word).setWidth 16
                                          ok := pMeets (wp w.word) ((x.extractLsb' 12 10).setWidth 18 ||| 8)
                                          at_ := s.now }]) ∧
  (∀ (n : BitVec 12) (s : State), s.eccAt (slipA (0x4000 + 2 * n.toNat)) = 0 → s.eccAt (slipA (0x4001 + 2 * n.toNat)) = 0 →
    let m := (tmplRead n.toNat s).1
    let data := (List.range m.len).map fun j => bodyOctet m.ptr j s
    m.dest = 1 → m.e2e = 0 → s.bit R.CIRC_CTL F.CIRC_CTL_EN = true →
    (∀ g, s.cat.gathers.find? (fun x => x.1 = n.toNat) = some g → g.2 ≤ s.now →
      ∃ t, exec (.templateSend n) s = .next t ∧ t.cat.out = s.cat.out ++ [{ data := data, mask := bodyMask m s }] ∧
        (∀ x ∈ t.cat.gathers, x.1 ≠ n.toNat) ∧ t.mem = s.mem) ∧
    (m.txmode = 1 ∨ m.txmode = 2 → m.period ≠ 0 → s.now % (m.period * 1000) = 0 →
      ∃ t, exec (.templatePeriodExpiry n) s = .next t ∧ t.cat.out = s.cat.out ++ [{ data := data, mask := bodyMask m s }] ∧
        t.cat.gathers = s.cat.gathers ∧ t.mem = s.mem)) ∧
  (∀ (sm : BitVec 20) (s : State), (∀ k, k < 4 → s.eccAt (catA sm.toNat k) = 0) →
    let k := sm.toNat
    let d := descOf (s.rdMem (catA k 2))
    let c := s.rdMem (catA k 1)
    let h := s.rdMem (slipA d.ptr)
    let c' := if d.subst = 1 then mkw (wv h) (mkProv 0b01 true (pProv (wp c)) 0b00 (pCrit (wp c)))
      else if d.subst = 2 then mkw (wv c) (pSetStale true (pSetVal 0b10 (wp c))) else mkw (wv c) (pSetStale true (wp c))
    s.bit R.CAT_CTL F.CAT_CTL_SWEEP_EN = true → tileClosed (.catMem ⟨k / 2 ^ 18 % 4, Nat.mod_lt _ (by decide)⟩) s = false →
    staleTest d (s.rdMem (catA k 3)) s.now = true → (s.rdMem (catA k 3)).getLsbD 64 = false → d.kind ≠ 0 →
    (d.subst = 1 → s.eccAt (slipA d.ptr) = 0) →
    ∃ u, (d.subst = 0 ∨ d.ptr = 0 → u.cat.walks = s.cat.walks) ∧ u.rdMem (catA k 1) = c' ∧
      (isProvisional k s = true → u.rdMem (catA k 0) = s.rdMem (catA k 0)) ∧ (isProvisional k s = false → u.rdMem (catA k 0) = c') ∧
      wf (u.rdMem (catA k 3)) 0 48 = s.now % 2 ^ 48 ∧ wf (u.rdMem (catA k 3)) 48 16 = wf (s.rdMem (catA k 3)) 48 16 ∧
      (u.rdMem (catA k 3)).getLsbD 64 = true ∧
      (let v := if d.subst = 0 then u else runWalks walkFuel u
       exec (.timeoutAction sm) s = .next (if v.bit R.CAT_CTL F.CAT_CTL_TO_EVT then raiseLib (0x454 + k / 2 ^ 18) k v else v))) ∧
  (∀ (n : Fin 64) (s : State) (rd : Nat) (x : Trig) (xs : List Trig), s.bit (R.CATG_CUn_CTL n.val) F.CATG_CUn_CTL_RUN = true →
    let k := s.cu n.val
    k.waitRd = some rd → rd ≠ 0 → k.q = x :: xs → x.mask = 0 ∨ itemFree s = true →
    ∃ t, exec (.triggerDelivery n) s = .next t ∧ (t.cu n.val).get rd = trigHeader x k.lost ∧ (t.cu n.val).get (rd + 1) = x.word ∧
      (t.cu n.val).q = xs ∧ (t.cu n.val).waitRd = none ∧ (t.cu n.val).mask = x.mask ∧ (t.cu n.val).pc = k.pc + 1 ∧
      (t.cu n.val).lost = false ∧ (t.cu n.val).count = 0 ∧
      t.cat.items.length = s.cat.items.length + (if x.mask = 0 then 0 else 1) ∧ t.mem = s.mem) ∧
  (∀ (n : Fin 64) (s : State), (s.cu n.val).stalled = true → itemFree s = true →
    ∃ t, exec (.ledgerStallEnd n) s = .next t ∧ t.cu n.val = { s.cu n.val with stalled := false } ∧ t.mem = s.mem ∧
      (∀ m, m ≠ n.val → t.cu m = s.cu m))

/-! ### The switch and the buses -/

/-- R250 to R259, R264, R265, R267, R270, R271, R275: a frame is classified at its end and gets one copy for each
destination that its segment's isolation lets pass; a cell enters the rotor at a slot of its input, reaches its output in
the next rotation and is released in order 200 ns after it entered, when its queue has room; a copy starts when its port's
selection picks it and ends with the port's counters; a waiting copy moves up one class at its queue's deadline; the copies
of the catalogue go out once nothing they hold is provisional. -/
def Obligations.FramesCrossTheSwitchInCells : Prop :=
  (∀ (p : Fin 12) (x : Octets) sec s, rxAble p.val s = true → s.bit R.CIRC_CTL F.CIRC_CTL_EN = true → (s.port p.val).rx = none →
    x.length ≤ 64 → 68 ≤ s.get (R.ETH_Pp_CTL p.val) F.ETH_Pp_CTL_MAX_FRAME → (∀ c ∈ s.sw.copies, c.inp = p.val → c.closed = true) →
    (classify p.val x s).local_ = false →
    ∃ t, exec (.frameClassification ⟨p.val, by omega⟩ (.wire x false false sec)) s = .next t ∧
      (t.port p.val).rx = some { octets := x, intake := (classify p.val x s).intake, sof := s.now } ∧
      (if (classify p.val x s).drop then
          t.sw.copies = s.sw.copies ∧ t.reg (R.ETH_Pp_CNT p.val 3) = counted (s.reg (R.ETH_Pp_CNT p.val 3))
        else t.sw.copies.map (fun c => (c.inp, c.out, c.tc, c.gtc)) = s.sw.copies.map (fun c => (c.inp, c.out, c.tc, c.gtc)) ++
          (passIsolation (classify p.val x s).vid (octNat (x.take 6)) (classify p.val x s).dests s).1.map
            (fun q => (p.val, q, (classify p.val x s).tc, s.now)))) ∧
  (∀ (i : Fin 24) s c x, paced i.val s = true → tileClosed .switchCore s = false → s.sw.copies = [c] → c.inp = i.val → c.cells = [x] →
    x.phase = 0 → c.out < 24 → ∃ t y, exec (.cellAdmission i) s = .next t ∧ t.sw.copies = [{ c with cells := [y] }] ∧
      y.phase = 1 ∧ y.stamp = s.now ∧ y.seq = spGet (fun _ => 0) s.sw.seqs (24 * i.val + c.out) ∧ y.buf = (i.val + s.now / 4) % 24 ∧
      (y.arrive / 4 - 2) % 24 = (c.out + 24 - y.buf) % 24 ∧ s.now / 4 < y.arrive / 4 - 2 ∧ y.arrive / 4 - 2 ≤ s.now / 4 + 24 ∧
      spGet (fun _ => 0) t.sw.seqs (24 * i.val + c.out) = y.seq + 1 ∧ (t.port i.val).admits.head? = some (s.now / 4)) ∧
  (∀ (o i : Fin 24) s c x, s.sw.copies = [c] → c.inp = i.val → c.out = o.val → c.tc < 8 → c.cells = [x] → x.phase = 1 → x.first = true →
    x.stamp + 200 ≤ s.now → x.arrive ≤ x.stamp + 200 → portState o.val s ≠ 2 →
    0 < s.get (R.ETH_Pp_Qq o.val c.tc) F.ETH_Pp_Qq_THRESH → 0 < s.get (R.ETH_Pp_SHARE o.val) F.ETH_Pp_SHARE_POOL_MAX →
    ∃ t, exec (.cellRelease o i) s = .next t ∧
      t.sw.copies = [{ c with cells := [{ x with phase := 2 }], queued := true, enqAt := s.now, dlAt := s.now }]) ∧
  (∀ (o i : Fin 24) s c x, s.sw.copies = [c] → c.inp = i.val → c.out = o.val → c.tc < 8 → c.cells = [x] → x.phase = 1 → x.first = true →
    x.stamp + 200 ≤ s.now → x.arrive ≤ x.stamp + 200 → portState o.val s ≠ 2 → s.get (R.ETH_Pp_Qq o.val c.tc) F.ETH_Pp_Qq_THRESH = 0 →
    ∃ t, exec (.cellRelease o i) s = .next t ∧ t.sw.copies = [] ∧
      t.reg (R.ETH_Pp_Qq_DROP o.val c.tc) = counted (s.reg (R.ETH_Pp_Qq_DROP o.val c.tc))) ∧
  (∀ (o i : Fin 24) s c x, s.sw.copies = [c] → c.cells = [x] → s.now < x.stamp + 200 → exec (.cellRelease o i) s = .next s) ∧
  (∀ (o : Fin 24) s c, nextStart o.val s = some c → c.ts = none → c.sync = none → c.out ≠ 10 → c.out ≠ 11 →
    exec (.frameTransmitStart o) s = .next (putCopy { c with start := some s.now } s) ∧
    (c.rec_.isSome = true → exec (.depCopyStart o) s = .next (putCopy { c with start := some s.now } s))) ∧
  (∀ (o : Fin 24) s c, nextStart o.val s = some c → c.rec_ = none → exec (.depCopyStart o) s = .next s) ∧
  (∀ (o : Fin 14) s c, s.sw.copies = [c] → c.out = o.val → wireDone c s = true → allReleased c = true → c.bad = false →
    (∀ x ∈ c.cells, x.bad = false) → c.rec_ = none → ∃ t, exec (.frameTransmitEnd ⟨o.val, by omega⟩) s = .next t ∧ t.sw.copies = [] ∧
      t.reg (R.ETH_Pp_CNT o.val 4) = counted (s.reg (R.ETH_Pp_CNT o.val 4)) ∧
      (t.reg (R.ETH_Pp_CNT o.val 5)).toNat = min ((s.reg (R.ETH_Pp_CNT o.val 5)).toNat + c.data.length + 4) (2 ^ 64 - 1)) ∧
  (∀ (o : Fin 24) (tc : Fin 7) s c, s.sw.copies = [c] → c.out = o.val → c.tc = tc.val → c.queued = true → c.start = none →
    s.get (R.ETH_Pp_Qq o.val tc.val) F.ETH_Pp_Qq_DEADLINE ≠ 0 → c.dlAt + 100 * s.get (R.ETH_Pp_Qq o.val tc.val) F.ETH_Pp_Qq_DEADLINE ≤ s.now →
    ∃ t, exec (.agingPromotion o tc) s = .next t ∧ t.sw.copies = [{ c with tc := tc.val + 1, dlAt := s.now }] ∧
      t.reg (R.ETH_Pp_Qq_AGED o.val tc.val) = counted (s.reg (R.ETH_Pp_Qq_AGED o.val tc.val))) ∧
  (∀ s x q, s.cat.out = x :: q → x.waited = true → x.mask = 0 →
    exec .copyRecordWaitEnd s = .next (if x.failed then ethCount 12 7 { s with cat := { s.cat with out := q } }
      else catSend x none { s with cat := { s.cat with out := q } }))

/-- R263, R268, R273, R274, R280, R284, R290, R77, R293, R317 to R320: the administrative gate list becomes the operative
one at its base time; link loss starts GRACE and its end closes the port, link up opens it with its speed; the beacon timer
sets PLCA_LOST; a management read ends with its data; a tunnelled message joins its packet, which leaves when full or when
GATHER has passed; a received one goes to the bus that its stream may reach; a relayed sync frame goes to every master port
in service. -/
def Obligations.PortsGatesAndTunnelFollowTheirEvents : Prop :=
  (∀ (p : Fin 24) s, s.bit (R.ETH_Pp_GCTL p.val) F.ETH_Pp_GCTL_PENDING = true → (s.port p.val).gpend ≤ almNow s →
    s.get (R.ETH_Pp_GCTL p.val) F.ETH_Pp_GCTL_ADMIN_LEN ≤ 128 →
    ∃ t, exec (.gateListChange p) s = .next t ∧ t.get (R.ETH_Pp_GCTL p.val) F.ETH_Pp_GCTL_PENDING = 0 ∧
      t.get (R.ETH_Pp_GCTL p.val) F.ETH_Pp_GCTL_OPER_LEN = s.get (R.ETH_Pp_GCTL p.val) F.ETH_Pp_GCTL_ADMIN_LEN ∧
      (∀ j, j < s.get (R.ETH_Pp_GCTL p.val) F.ETH_Pp_GCTL_ADMIN_LEN → t.reg (R.ETH_Pp_GOPRj p.val j) = s.reg (R.ETH_Pp_GADMj p.val j)) ∧
      (t.port p.val).gbase = (s.port p.val).gpend ∧ (t.port p.val).gcycle = s.get (R.ETH_Pp_GCYCLE p.val) F.ETH_Pp_GCYCLE_CYCLE) ∧
  (∀ (p : Fin 24) s, exec (.gateEntryAdvance p) s = .next (s.setPort p.val { s.port p.val with gate := gateIndex p.val s })) ∧
  (∀ (p : Fin 12) s, portState p.val s = 0 → ∃ t, exec (.ethLinkLoss p) s = .next t ∧
    t.get (R.ETH_Pp_STAT p.val) F.ETH_Pp_STAT_LINK = 0 ∧
    t.get (R.ETH_Pp_STAT p.val) F.ETH_Pp_STAT_STATE = (if s.get (R.ETH_Pp_CTL p.val) F.ETH_Pp_CTL_GRACE = 0 then 2 else 1) ∧
    (t.port p.val).rx = none ∧ (t.port p.val).graceAt = s.now + 1000 * s.get (R.ETH_Pp_CTL p.val) F.ETH_Pp_CTL_GRACE) ∧
  (∀ (p : Fin 12) (v : Fin 6) s, s.bit (R.ETH_Pp_CTL p.val) F.ETH_Pp_CTL_EN = true → portState p.val s ≠ 0 → segAsleep (24 + p.val) s = false →
    ∃ t, exec (.ethLinkUp p v) s = .next t ∧ t.get (R.ETH_Pp_STAT p.val) F.ETH_Pp_STAT_LINK = 1 ∧
      t.get (R.ETH_Pp_STAT p.val) F.ETH_Pp_STAT_SPEED = v.val ∧ t.get (R.ETH_Pp_STAT p.val) F.ETH_Pp_STAT_STATE = 0) ∧
  (∀ (p : Fin 23) s, portState p.val s = 1 → (s.port p.val).graceAt ≤ s.now → ∃ t, exec (.graceExpiry p) s = .next t ∧
    t.get (R.ETH_Pp_STAT p.val) F.ETH_Pp_STAT_STATE = 2) ∧
  (∀ (p : Fin 4) s, ∃ t, exec (.plcaBeacon p) s = .next t ∧ (t.port p.val).beacon = s.now ∧
    t.get (R.ETH_Pp_STAT p.val) F.ETH_Pp_STAT_PLCA_LOST = 0 ∧ t.reg (R.ETH_Pp_CNT p.val 13) = counted (s.reg (R.ETH_Pp_CNT p.val 13))) ∧
  (∀ (p : Fin 4) s, s.get (R.ETH_Pp_CTL p.val) F.ETH_Pp_CTL_MODE = 1 → s.get (R.ETH_Pp_PLCA p.val) F.ETH_Pp_PLCA_NODE_ID ≠ 0 →
    s.get (R.ETH_Pp_PLCA p.val) F.ETH_Pp_PLCA_NODE_ID ≠ 255 → (s.port p.val).beacon + 4 * s.get (R.ETH_Pp_PLCA p.val) F.ETH_Pp_PLCA_TO_TIMER *
      s.get (R.ETH_Pp_PLCA p.val) F.ETH_Pp_PLCA_NODE_CNT * 100 ≤ s.now →
    ∃ t, exec (.plcaBeaconTimeout p) s = .next t ∧ t.bit (R.ETH_Pp_STAT p.val) F.ETH_Pp_STAT_PLCA_LOST = true) ∧
  (∀ (n : Fin 2) (d : BitVec 16) s, s.bit (R.ETH_MDIOn_CMD n.val) F.ETH_MDIOn_CMD_BUSY = true →
    2 ≤ s.get (R.ETH_MDIOn_CMD n.val) F.ETH_MDIOn_CMD_OP →
    exec (.mdioFrameDone n d) s = .next ((s.set (R.ETH_MDIOn_CMD n.val) F.ETH_MDIOn_CMD_BUSY 0).set (R.ETH_MDIOn_CMD n.val) F.ETH_MDIOn_CMD_RDATA d.toNat)) ∧
  (∀ s e m q, e < 64 → s.sw.tunIn = (e, m) :: q → s.bit (R.CIRC_ENCe_DEST e) F.CIRC_ENCe_DEST_V = true → ∃ t, exec .encapMessage s = .next t ∧
    t.sw.tunIn = q ∧
    t.get (R.CIRC_ENCe_CNT e) F.CIRC_ENCe_CNT_MSGS = min (s.get (R.CIRC_ENCe_CNT e) F.CIRC_ENCe_CNT_MSGS + 1) (2 ^ F.CIRC_ENCe_CNT_MSGS.width - 1) ∧
    (if s.get (R.CIRC_ENCe_CTL e) F.CIRC_ENCe_CTL_MAXMSG ≤ (s.enc e).msgs.length + 1 then
        (t.enc e).msgs = [] ∧ (t.enc e).seq = (s.enc e).seq + 1 ∧ t.sw.tunOut.length = s.sw.tunOut.length + 1
      else (t.enc e).msgs = (s.enc e).msgs ++ [m] ∧ t.sw.tunOut = s.sw.tunOut)) ∧
  (∀ (e : Fin 64) s, (s.enc e.val).msgs ≠ [] → (s.enc e.val).since + 100 * s.get (R.CIRC_ENCe_CTL e.val) F.CIRC_ENCe_CTL_GATHER ≤ s.now →
    ∃ t, exec (.encapGatherExpiry e) s = .next t ∧ (t.enc e.val).msgs = [] ∧ (t.enc e.val).seq = (s.enc e.val).seq + 1 ∧
      t.sw.tunOut.length = s.sw.tunOut.length + 1 ∧
      t.get (R.CIRC_ENCe_CNT e.val) F.CIRC_ENCe_CNT_FRAMES =
        min (s.get (R.CIRC_ENCe_CNT e.val) F.CIRC_ENCe_CNT_FRAMES + 1) (2 ^ F.CIRC_ENCe_CNT_FRAMES.width - 1)) ∧
  (∀ (d : Fin 64) (n : Fin 16) id data s, portState 13 s = 0 → s.bit (R.CIRC_DECd_CTL d.val) F.CIRC_DECd_CTL_V = true →
    (∀ k, k < d.val → s.bit (R.CIRC_DECd_CTL k) F.CIRC_DECd_CTL_V = false) →
    (s.get (R.CIRC_DECd_CTL d.val) F.CIRC_DECd_CTL_CAN_MASK).testBit n.val = true →
    exec (.decapMessage (s.reg (R.CIRC_DECd_STREAM d.val)) 1 (BitVec.ofNat 5 n.val) id data) s =
      .next (canTunnel n.val { id := id, data := data, rlen := data.length } s)) ∧
  (∀ (d : Fin 64) (m : Fin 8) id data s, portState 13 s = 0 → s.bit (R.CIRC_DECd_CTL d.val) F.CIRC_DECd_CTL_V = true →
    (∀ k, k < d.val → s.bit (R.CIRC_DECd_CTL k) F.CIRC_DECd_CTL_V = false) →
    (s.get (R.CIRC_DECd_CTL d.val) F.CIRC_DECd_CTL_LIN_MASK).testBit m.val = true →
    exec (.decapMessage (s.reg (R.CIRC_DECd_STREAM d.val)) 3 (BitVec.ofNat 5 m.val) id data) s = .next (linTunnel m.val (id.toNat % 64) data s)) ∧
  (∀ (d : Fin 2) x ago s, s.get (R.CIRC_GPTPd d.val) F.CIRC_GPTPd_SLAVE_PORT < 12 →
    rxAble (s.get (R.CIRC_GPTPd d.val) F.CIRC_GPTPd_SLAVE_PORT) s = true → ∃ t, exec (.syncRelay d x ago) s = .next t ∧
      (if d.val = 0 then t.time.sync0 else t.time.sync1) = s.now ∧
      (s.bit (R.CIRC_GPTPd d.val) F.CIRC_GPTPd_RELAY_EN = true → s.bit (R.TIME_DOMd_CFG d.val) F.TIME_DOMd_CFG_ONE_STEP = true →
        s.bit R.CIRC_CTL F.CIRC_CTL_EN = true → (∀ c ∈ s.sw.copies, c.num < s.sw.next) →
        ∀ q, q < 24 → q ≠ 12 → q ≠ 23 → (s.get (R.CIRC_GPTPd d.val) F.CIRC_GPTPd_MASTER_PORTS).testBit q = true → portState q s ≠ 2 →
          ∃ c ∈ t.sw.copies, c.out = q ∧ c.data = x ∧ c.sync = some (d.val, s.now - ago.toNat, s.get (R.CIRC_GPTPd d.val) F.CIRC_GPTPd_SLAVE_PORT)))

/-- R303 to R316, R332, R651, R652: a frame is stored in the lowest enabled receive buffer that agrees with it, with ND,
SEQ, LEN, STAMP and LOST; a frame in error fails its reception context; errors move TEC and REC and with them the state,
bus-off above 255, until the recovery that was asked for; arbitration begins for the best request, success clears it with
TXOK and STAMP, a failed attempt leaves it for a retry; a deferred copy is written off the bus; a request escalates once, at
its deadline, to ESC_ID. -/
def Obligations.CanControllersFollowTheBus : Prop :=
  (∀ (n : Fin 16) id ago s, canLive n.val s = true → exec (.canFrameMatch n id ago) s = .next (s.setCan n.val
    { s.can n.val with rxOn := true, rxSof := s.now - ago.toNat, rxId := id,
                       rxBuf := (List.range 256).find? fun b => s.bit (mbCfg n.val b) F.CANn_MBb_CFG_EN &&
                         !s.bit (mbCfg n.val b) F.CANn_MBb_CFG_DIR &&
                         decide (((s.reg (R.CANn_MBb_ID n.val b)).setWidth 52 ^^^ id) &&& (s.reg (R.CANn_MBb_AUX n.val b)).setWidth 52 &&&
                           ~~~(1#52 <<< 33) = 0) })) ∧
  (∀ (n : Fin 16) (b : Fin 256) data rlen af s, (s.can n.val).rxOn = true → (s.can n.val).rxBuf = some b.val →
    s.get (R.CANn_ERR n.val) F.CANn_ERR_REC = 0 → s.get (R.CANn_ERR n.val) F.CANn_ERR_TEC ≤ 127 → s.get (R.CANn_ERR n.val) F.CANn_ERR_STATE = 0 →
    s.bit (mbCfg n.val b.val) F.CANn_MBb_CFG_EN = true → s.bit (mbCfg n.val b.val) F.CANn_MBb_CFG_DIR = false →
    s.bit (mbCfg n.val b.val) F.CANn_MBb_CFG_STORE = true → (s.can n.val).rxId.getLsbD 30 = false →
    ∃ t, exec (.canFrameEnd n true data rlen af) s = .next t ∧ (t.can n.val).rxOn = false ∧ (t.can n.val).rxBuf = none ∧
      t.get (mbStat n.val b.val) F.CANn_MBb_STAT_ND = 1 ∧
      t.get (mbStat n.val b.val) F.CANn_MBb_STAT_SEQ = (s.get (mbStat n.val b.val) F.CANn_MBb_STAT_SEQ + 1) % 2 ^ F.CANn_MBb_STAT_SEQ.width ∧
      t.get (mbStat n.val b.val) F.CANn_MBb_STAT_LEN = data.length % 2 ^ F.CANn_MBb_STAT_LEN.width ∧
      t.get (mbStat n.val b.val) F.CANn_MBb_STAT_STAMP = (s.can n.val).rxSof % 2 ^ 32 ∧
      t.reg (R.CANn_MBb_ID n.val b.val) = (s.can n.val).rxId.setWidth 64 ∧
      (s.bit (mbStat n.val b.val) F.CANn_MBb_STAT_ND = true → t.get (mbStat n.val b.val) F.CANn_MBb_STAT_LOST = 1 ∧
        t.reg (R.CANn_CNT n.val 5) = counted (s.reg (R.CANn_CNT n.val 5))) ∧
      t.reg (R.CANn_CNT n.val 0) = counted (s.reg (R.CANn_CNT n.val 0))) ∧
  (∀ (n : Fin 16) data rlen af s, (s.can n.val).rxOn = true → ∃ t, exec (.canFrameEnd n false data rlen af) s = .next t ∧
    (t.can n.val).rxOn = false ∧ (t.can n.val).rxBuf = none ∧ (t.rx n.val).open_ = false) ∧
  (∀ (n : Fin 16) (kind : BitVec 3) strong s, canLive n.val s = true → kind ≠ 0 → kind ≠ 7 → kind ≠ 3 →
    ∃ t, exec (.canErrorDetected n kind true strong) s = .next t ∧
      (t.get (R.CANn_ERR n.val) F.CANn_ERR_LEC = kind.toNat) ∧
      t.get (R.CANn_ERR n.val) F.CANn_ERR_TEC = min (s.get (R.CANn_ERR n.val) F.CANn_ERR_TEC + 8) 511 ∧
      t.get (R.CANn_ERR n.val) F.CANn_ERR_STATE = (if 255 < s.get (R.CANn_ERR n.val) F.CANn_ERR_TEC + 8 then 2
        else if 127 < s.get (R.CANn_ERR n.val) F.CANn_ERR_TEC + 8 ∨ 127 < s.get (R.CANn_ERR n.val) F.CANn_ERR_REC then 1 else 0) ∧
      t.reg (R.CANn_CNT n.val 3) = counted (s.reg (R.CANn_CNT n.val 3))) ∧
  (∀ (n : Fin 16) (kind : BitVec 3) strong s, canLive n.val s = true → kind ≠ 0 → kind ≠ 7 →
    s.get (R.CANn_ERR n.val) F.CANn_ERR_TEC ≤ 255 → ∃ t, exec (.canErrorDetected n kind false strong) s = .next t ∧
      t.get (R.CANn_ERR n.val) F.CANn_ERR_REC = min (s.get (R.CANn_ERR n.val) F.CANn_ERR_REC + (if strong then 8 else 1)) 255 ∧
      (t.rx n.val).open_ = false ∧ t.reg (R.CANn_CNT n.val 2) = counted (s.reg (R.CANn_CNT n.val 2))) ∧
  (∀ (n : Fin 16) s, s.get (R.CANn_ERR n.val) F.CANn_ERR_STATE = 2 → (s.can n.val).recover = true →
    ∃ t, exec (.busOffRecoveryDone n) s = .next t ∧ t.get (R.CANn_ERR n.val) F.CANn_ERR_TEC = 0 ∧
      t.get (R.CANn_ERR n.val) F.CANn_ERR_REC = 0 ∧ t.get (R.CANn_ERR n.val) F.CANn_ERR_STATE = 0 ∧ (t.can n.val).recover = false) ∧
  (∀ (n : Fin 16) s b f, canLive n.val s = true → segListens n.val s = false → s.bit (R.CANn_CTL n.val) F.CANn_CTL_MONITOR = false →
    s.bit (R.CANn_CTL n.val) F.CANn_CTL_RESTRICT = false → (s.can n.val).att = none → (s.can n.val).rxOn = false →
    (s.can n.val).noackDone = false → bestTx (txContenders n.val s) = some (b, f) → s.stk.ecc = [] →
    exec (.canTxAttemptStart n) s = .next (s.setCan n.val { s.can n.val with att := some { buf := b, frame := f, sof := s.now } })) ∧
  (∀ (n : Fin 16) s a, (s.can n.val).att = some a → a.buf < 256 → s.get (R.CANn_ERR n.val) F.CANn_ERR_TEC ≤ 128 →
    s.get (R.CANn_ERR n.val) F.CANn_ERR_REC ≤ 127 → s.get (R.CANn_ERR n.val) F.CANn_ERR_STATE < 2 → s.rose = [] →
    ∃ t, exec (.canTxAttemptEnd n true) s = .next t ∧ (t.can n.val).att = none ∧
      t.get (mbStat n.val a.buf) F.CANn_MBb_STAT_TXREQ = 0 ∧ t.get (mbStat n.val a.buf) F.CANn_MBb_STAT_TXOK = 1 ∧
      t.get (mbStat n.val a.buf) F.CANn_MBb_STAT_STAMP = a.sof % 2 ^ 32 ∧
      t.get (R.CANn_ERR n.val) F.CANn_ERR_TEC = s.get (R.CANn_ERR n.val) F.CANn_ERR_TEC - 1 ∧
      t.get (R.CANn_ERR n.val) F.CANn_ERR_NOACK = 0 ∧ t.reg (R.CANn_CNT n.val 1) = counted (s.reg (R.CANn_CNT n.val 1))) ∧
  (∀ (n : Fin 16) s a, (s.can n.val).att = some a → a.buf < 256 → a.noRetry = false → s.bit (mbCfg n.val a.buf) F.CANn_MBb_CFG_SINGLE = false →
    exec (.canTxAttemptEnd n false) s = .next (s.setCan n.val { s.can n.val with att := none })) ∧
  (∀ (n : Fin 16) (b : BitVec 8) s, (s.can n.val).copies.any (fun e => e.1 = b.toNat) = true → onBus n.val b.toNat s = false →
    ∃ t, exec (.canDeferredCopy n b) s = .next t ∧ (t.can n.val).copies = (s.can n.val).copies.filter (fun e => e.1 ≠ b.toNat)) ∧
  (∀ (n : Fin 16) (b : BitVec 8) s x, (s.can n.val).reqAt = [(b.toNat, x)] → mbTx n.val b.toNat s = true → mbReq n.val b.toNat s = true →
    s.bit (R.CANn_MBb_AUX n.val b.toNat) F.CANn_MBb_AUX_ESC_EN = true → b.toNat ∉ (s.can n.val).esc →
    x + 1000 * s.get (R.CANn_MBb_AUX n.val b.toNat) F.CANn_MBb_AUX_DEADLINE ≤ s.now →
    ∃ t, exec (.canEscalation n b) s = .next t ∧ (t.can n.val).esc = b.toNat :: (s.can n.val).esc ∧
      t.get (mbStat n.val b.toNat) F.CANn_MBb_STAT_ESCALATED = 1 ∧ t.reg (R.CANn_CNT n.val 6) = counted (s.reg (R.CANn_CNT n.val 6)) ∧
      ((mbFrame n.val b.toNat t).id.extractLsb' 0 29).toNat = s.get (R.CANn_MBb_AUX n.val b.toNat) F.CANn_MBb_AUX_ESC_ID)

/-- R321 to R327, R333: a slot starts when the last has ended, with the next entry or the table that SWITCH chose; a
responder takes a header it publishes or subscribes; a response ends with its data, ND, LOST and STAMP, or with its error in
LEC; one that does not come in time and four seconds of silence are noticed. -/
def Obligations.LinControllersFollowTheSchedule : Prop :=
  (∀ (m : Fin 8) s, linLive m.val s = true → segListens (16 + m.val) s = false → s.bit (R.LINm_CTL m.val) F.LINm_CTL_ROLE = true →
    s.bit (R.LINm_SCHED m.val) F.LINm_SCHED_RUN = true → (s.lin m.val).slotEnd ≤ s.now → (s.lin m.val).wakeAt = none → (s.lin m.val).hdr = none →
    (s.lin m.val).started = true → (s.lin m.val).sw = false → s.get (R.LINm_SCHED m.val) F.LINm_SCHED_CUR < 63 →
    schGet m.val (s.get (R.LINm_SCHED m.val) F.LINm_SCHED_CUR + 1) F.LINm_SCHe_TYPE s < 2 →
    ∃ t, exec (.linSlotStart m) s = .next t ∧
      t.get (R.LINm_SCHED m.val) F.LINm_SCHED_CUR = s.get (R.LINm_SCHED m.val) F.LINm_SCHED_CUR + 1 ∧
      (t.lin m.val).brk = s.now ∧ (t.lin m.val).lastAct = s.now ∧
      (t.lin m.val).slotEnd = s.now + 100000 * schGet m.val (s.get (R.LINm_SCHED m.val) F.LINm_SCHED_CUR + 1) F.LINm_SCHe_SLOT s ∧
      (t.lin m.val).hdr =
        (let i := schGet m.val (s.get (R.LINm_SCHED m.val) F.LINm_SCHED_CUR + 1) F.LINm_SCHe_ID s
         if frDir m.val i 1 s = true ∨ frDir m.val i 2 s = true then some i else none)) ∧
  (∀ (m : Fin 8) s, linLive m.val s = true → segListens (16 + m.val) s = false → s.bit (R.LINm_CTL m.val) F.LINm_CTL_ROLE = true →
    s.bit (R.LINm_SCHED m.val) F.LINm_SCHED_RUN = true → (s.lin m.val).slotEnd ≤ s.now → (s.lin m.val).wakeAt = none → (s.lin m.val).hdr = none →
    (s.lin m.val).started = true → (s.lin m.val).sw = true → schGet m.val (s.get (R.LINm_SCHED m.val) F.LINm_SCHED_NEXT) F.LINm_SCHe_TYPE s ≠ 3 →
    ∃ t, exec (.linSlotStart m) s = .next t ∧ (t.lin m.val).sw = false ∧
      t.get (R.LINm_SCHED m.val) F.LINm_SCHED_CUR = s.get (R.LINm_SCHED m.val) F.LINm_SCHED_NEXT ∧
      (t.lin m.val).table = s.get (R.LINm_SCHED m.val) F.LINm_SCHED_NEXT) ∧
  (∀ (m : Fin 8) (i : BitVec 6) ago rate s, linLive m.val s = true → s.bit (R.LINm_CTL m.val) F.LINm_CTL_ROLE = false →
    segListens (16 + m.val) s = false → s.bit (R.LINm_CTL m.val) F.LINm_CTL_AUTOBAUD = false →
    exec (.linBreakReceived m i ago rate) s = .next (s.setLin m.val { s.lin m.val with
      hdr := if frDir m.val i.toNat 1 s || frDir m.val i.toNat 2 s then some i.toNat else none, evt := false, brk := s.now - ago.toNat,
      lastAct := s.now })) ∧
  (∀ (m : Fin 8) (i : Fin 64) data s, (s.lin m.val).hdr = some i.val → frDir m.val i.val 1 s = false →
    s.bit (frCfg m.val i.val) F.LINm_FRi_CFG_STORE = true → ∃ t, exec (.linResponseEnd m 0 data) s = .next t ∧ (t.lin m.val).hdr = none ∧
      t.reg (R.LINm_FRi_DATA m.val i.val) = linData (data.take (s.get (frCfg m.val i.val) F.LINm_FRi_CFG_LEN)) ∧
      t.get (frCfg m.val i.val) F.LINm_FRi_CFG_ND = 1 ∧
      t.get (frCfg m.val i.val) F.LINm_FRi_CFG_STAMP = (s.lin m.val).brk % 2 ^ 32 ∧
      (s.bit (frCfg m.val i.val) F.LINm_FRi_CFG_ND = true → t.get (frCfg m.val i.val) F.LINm_FRi_CFG_LOST = 1) ∧
      t.reg (R.LINm_CNT m.val 0) = counted (s.reg (R.LINm_CNT m.val 0))) ∧
  (∀ (m : Fin 8) (i : Fin 64) data s, (s.lin m.val).hdr = some i.val → frDir m.val i.val 1 s = true →
    ∃ t, exec (.linResponseEnd m 0 data) s = .next t ∧ (t.lin m.val).hdr = none ∧
      t.get (frCfg m.val i.val) F.LINm_FRi_CFG_ND = 0 ∧ t.reg (R.LINm_CNT m.val 1) = counted (s.reg (R.LINm_CNT m.val 1))) ∧
  (∀ (m : Fin 8) (i : Fin 64) (err : BitVec 3) data s, (s.lin m.val).hdr = some i.val → err ≠ 0 → frDir m.val i.val 1 s = false →
    ∃ t, exec (.linResponseEnd m err data) s = .next t ∧ (t.lin m.val).hdr = none ∧ (t.rx (16 + m.val)).open_ = false ∧
      t.get (R.LINm_STAT m.val) F.LINm_STAT_LEC = err.toNat ∧ t.reg (R.LINm_CNT m.val 2) = counted (s.reg (R.LINm_CNT m.val 2))) ∧
  (∀ (m : Fin 8) (i : Fin 64) s, (s.lin m.val).hdr = some i.val → frDir m.val i.val 2 s = true →
    (s.lin m.val).brk + (34 + 10 * (s.get (frCfg m.val i.val) F.LINm_FRi_CFG_LEN + 1)) * 35 * linDiv m.val s ≤ s.now →
    ∃ t, exec (.linResponseTimeout m) s = .next t ∧ (t.lin m.val).hdr = none ∧ (t.rx (16 + m.val)).open_ = false ∧
      t.get (R.LINm_STAT m.val) F.LINm_STAT_LEC = 3) ∧
  (∀ (m : Fin 8) s, linLive m.val s = true → s.bit (R.LINm_CTL m.val) F.LINm_CTL_IDLE_TMO = true →
    (s.lin m.val).lastAct + 4000000000 ≤ s.now → ∃ t, exec (.linIdleTimeout m) s = .next t ∧ (t.lin m.val).lastAct = s.now)

/-- R338, R342 to R348, R353, R355: a wing that is ready closes after MIN_AWAKE and after RETRY, with one token on each
ring; a token of another round is counted, one that goes on is passed to the next member, one that closes its ring with
everyone's consent arms the lock-up instant, and a refusal, an absent member or a lost token ends the round until the next
try; at the instant the wing sleeps unless a wake came before it; a wake takes it back or wakes its segments one by one,
until WAKE_TMO; MAX_AWAKE overrules those that do not consent. -/
def Obligations.WingsCloseSleepAndWake : Prop :=
  (∀ (w : Fin 16) (c : Instr) s, c = .minAwakeExpiry w ∨ c = .retryExpiry w →
    s.bit (R.NM_WINGw_CFG w.val) F.NM_WINGw_CFG_EN = true → s.bit R.NM_CTL F.NM_CTL_EN = true → wingState w.val s = 1 →
    s.bit (R.NM_WINGw_CTL w.val) F.NM_WINGw_CTL_READY = true →
    (s.wing w.val).awakeAt + wingMs w.val F.NM_WINGw_CFG_MIN_AWAKE s ≤ s.now → (s.wing w.val).retryAt ≤ s.now →
    ∃ t, exec c s = .next t ∧
      wingState w.val t = (if (ringSegs w.val s).all (fun g => decide (segMembers g s = 1)) then 3 else 2) ∧
      t.get (R.NM_WINGw_STAT w.val) F.NM_WINGw_STAT_ROUND = (s.get (R.NM_WINGw_STAT w.val) F.NM_WINGw_STAT_ROUND + 1) % 256 ∧
      (∀ g ∈ ringSegs w.val s, t.get (R.NM_SEGs_STAT g) F.NM_SEGs_STAT_CONSENT = 1) ∧
      (wingState w.val t = 2 → ∀ g ∈ ringSegs w.val s, segMembers g s ≠ 1 → spGet (fun _ => []) t.tokens g =
        tokenBody (nextMember (segMembers g s) 0) 1 (t.get (R.NM_WINGw_STAT w.val) F.NM_WINGw_STAT_ROUND) (segMembers g s) 1 0)) ∧
  (∀ (g : Fin 36) (w : Fin 16) node (body : BitVec 64) s, segWing g.val s = some w.val → segRing g.val = true →
    (body.extractLsb' 48 8).toNat ≠ s.get (R.NM_WINGw_STAT w.val) F.NM_WINGw_STAT_ROUND →
    exec (.tokenReceived g node body) s = .next (s.addSat (R.NM_SEGs_STAT g.val) F.NM_SEGs_STAT_RING_ERR 1)) ∧
  (∀ (g : Fin 36) (w : Fin 16) node (body : BitVec 64) s, segWing g.val s = some w.val → segRing g.val = true → wingState w.val s = 2 →
    (body.extractLsb' 48 8).toNat = s.get (R.NM_WINGw_STAT w.val) F.NM_WINGw_STAT_ROUND → (body.extractLsb' 60 4) = 2 →
    (body.extractLsb' 56 4) ≠ 0 → (s.wing w.val).rounds.any (fun r => decide (r.seg = g.val) && decide (r.status = 0)) = true →
    ∃ t, exec (.tokenReceived g node body) s = .next t ∧ wingState w.val t = 2 ∧
      t.get (R.NM_SEGs_STAT g.val) F.NM_SEGs_STAT_LAST_NODE = (body.extractLsb' 56 4).toNat ∧
      t.get (R.NM_SEGs_STAT g.val) F.NM_SEGs_STAT_CONSENT = (body.extractLsb' 24 8).toNat + 256 * (body.extractLsb' 16 8).toNat ∧
      ∀ r ∈ (t.wing w.val).rounds, r.seg = g.val → r.node = (body.extractLsb' 56 4).toNat ∧ r.sentAt = s.now) ∧
  (∀ (g : Fin 36) (w : Fin 16) node (body : BitVec 64) s, segWing g.val s = some w.val → segRing g.val = true → wingState w.val s = 2 →
    (body.extractLsb' 48 8).toNat = s.get (R.NM_WINGw_STAT w.val) F.NM_WINGw_STAT_ROUND → (body.extractLsb' 60 4) = 2 →
    (body.extractLsb' 56 4) = 0 → (body.extractLsb' 24 8).toNat + 256 * (body.extractLsb' 16 8).toNat = segMembers g.val s →
    (s.wing w.val).rounds.any (fun r => decide (r.seg = g.val) && decide (r.status = 0)) = true →
    (s.wing w.val).rounds.all (fun r => decide (r.seg = g.val) || decide (r.status = 1)) = true →
    ∃ t, exec (.tokenReceived g node body) s = .next t ∧ wingState w.val t = 3 ∧
      t.reg (R.NM_WINGw_LOCKUP w.val) = BitVec.ofNat 64 (s.now + 1000000 * s.get (R.NM_WINGw_CFG w.val) F.NM_WINGw_CFG_WINDOW) ∧
      t.bit (R.NM_WINGw_STAT w.val) F.NM_WINGw_STAT_OVERRULED = false ∧
      t.get (R.NM_WINGw_CNT w.val) F.NM_WINGw_CNT_ROUNDS = min (s.get (R.NM_WINGw_CNT w.val) F.NM_WINGw_CNT_ROUNDS + 1) 65535) ∧
  (∀ (g : Fin 36) (w : Fin 16) node (body : BitVec 64) s, segWing g.val s = some w.val → segRing g.val = true → wingState w.val s = 2 →
    (body.extractLsb' 48 8).toNat = s.get (R.NM_WINGw_STAT w.val) F.NM_WINGw_STAT_ROUND →
    (body.extractLsb' 60 4 = 3 ∨ (body.extractLsb' 60 4 = 2 ∧ body.extractLsb' 56 4 = 0 ∧
      (body.extractLsb' 24 8).toNat + 256 * (body.extractLsb' 16 8).toNat ≠ segMembers g.val s)) →
    (s.wing w.val).rounds.any (fun r => decide (r.seg = g.val) && decide (r.status = 0)) = true →
    ∃ t, exec (.tokenReceived g node body) s = .next t ∧ wingState w.val t = 1 ∧
      t.get (R.NM_WINGw_CNT w.val) F.NM_WINGw_CNT_FAILED = min (s.get (R.NM_WINGw_CNT w.val) F.NM_WINGw_CNT_FAILED + 1) 65535 ∧
      (t.wing w.val).retryAt = s.now + 1000000 * s.get (R.NM_WINGw_TIME w.val) F.NM_WINGw_TIME_RETRY) ∧
  (∀ (g : Fin 36) (w : Fin 16) r s, segWing g.val s = some w.val → wingState w.val s = 2 →
    (s.wing w.val).rounds.find? (fun r => decide (r.seg = g.val) && decide (r.status = 0)) = some r →
    r.sentAt + wingMs w.val F.NM_WINGw_CFG_HOP_TMO s ≤ s.now → ∃ t, exec (.hopTimeout g) s = .next t ∧ wingState w.val t = 1 ∧
      t.get (R.NM_WINGw_CNT w.val) F.NM_WINGw_CNT_FAILED = min (s.get (R.NM_WINGw_CNT w.val) F.NM_WINGw_CNT_FAILED + 1) 65535) ∧
  (∀ (w : Fin 16) s, wingState w.val s = 3 →
    (s.reg (R.NM_WINGw_LOCKUP w.val)).toNat + (if (s.reg (R.NM_WINGw_WMASK w.val)).getLsbD 61 then
      1000 * s.get R.TIME_ORDER_CTL F.TIME_ORDER_CTL_TWIN_HOLD else 64) ≤ s.now →
    (∀ x : Fin 16, x < w → wingState x.val s = 3 → s.reg (R.NM_WINGw_LOCKUP x.val) ≠ s.reg (R.NM_WINGw_LOCKUP w.val)) →
    ∃ t, exec (.lockupInstant w) s = .next t ∧ wingState w.val t = 4 ∧
      (∀ g ∈ wingSegs w.val s, t.bit (R.NM_SEGs_STAT g) F.NM_SEGs_STAT_UP = false)) ∧
  (∀ (w : Fin 16) e q s, s.bit R.NM_CTL F.NM_CTL_EN = true → (s.wing w.val).wakes = e :: q → wingState w.val s = 2 ∨
      (wingState w.val s = 3 ∧ beforeInstant e (s.reg (R.NM_WINGw_LOCKUP w.val)).toNat = true ∧
        (s.bit (R.NM_WINGw_STAT w.val) F.NM_WINGw_STAT_OVERRULED = false ∨ 0x13D < e.src ∨
          (s.reg (R.NM_WINGw_OVRMASK w.val)).getLsbD (e.src - 0x100) = true)) →
    ∃ t, exec (.wakeRequest w) s = .next t ∧ wingState w.val t = 1 ∧
      t.get (R.NM_WINGw_STAT w.val) F.NM_WINGw_STAT_CAUSE = e.src % 4096 ∧ (t.wing w.val).wakes = q ∧ (t.wing w.val).awakeAt = s.now ∧
      t.get (R.NM_WINGw_CNT w.val) F.NM_WINGw_CNT_FAILED = s.get (R.NM_WINGw_CNT w.val) F.NM_WINGw_CNT_FAILED ∧
      (wingState w.val s = 3 → (s.wing w.val).doneAt ≤ e.stamp → t.get (R.NM_WINGw_CNT w.val) F.NM_WINGw_CNT_CANCELLED =
        min (s.get (R.NM_WINGw_CNT w.val) F.NM_WINGw_CNT_CANCELLED + 1) 65535)) ∧
  (∀ (w : Fin 16) e q s, s.bit R.NM_CTL F.NM_CTL_EN = true → (s.wing w.val).wakes = e :: q → wingState w.val s = 4 →
    ∃ t, exec (.wakeRequest w) s = .next t ∧ wingState w.val t = 5 ∧
      t.get (R.NM_WINGw_STAT w.val) F.NM_WINGw_STAT_CAUSE = e.src % 4096 ∧ (t.wing w.val).wakingAt = s.now) ∧
  (∀ (g : Fin 36) (w : Fin 16) s, segWing g.val s = some w.val → wingState w.val s = 5 → segServed g.val s = true →
    ¬(16 ≤ g.val ∧ g.val < 24) → s.bit (R.NM_SEGs_STAT g.val) F.NM_SEGs_STAT_UP = false →
    ∃ t, exec (.segmentUp g) s = .next t ∧ t.bit (R.NM_SEGs_STAT g.val) F.NM_SEGs_STAT_UP = true ∧
      wingState w.val t = (if (wingSegs w.val s).all (fun x => decide (x = g.val) || s.bit (R.NM_SEGs_STAT x) F.NM_SEGs_STAT_UP) then 1 else 5)) ∧
  (∀ (m : Fin 8) (w : Fin 16) x s, segWing (16 + m.val) s = some w.val → (s.lin m.val).wakeAt = some x → x ≤ s.now →
    ∃ t, exec (.linWakeResume m) s = .next t ∧ (t.lin m.val).wakeAt = none ∧ (t.lin m.val).slotEnd = s.now ∧
      t.get (R.LINm_SCHED m.val) F.LINm_SCHED_CUR = s.get (R.LINm_SCHED m.val) F.LINm_SCHED_START ∧
      t.bit (R.NM_SEGs_STAT (16 + m.val)) F.NM_SEGs_STAT_UP = true) ∧
  (∀ (w : Fin 16) s, wingState w.val s = 5 →
    (s.wing w.val).wakingAt + 1000000 * s.get (R.NM_WINGw_TIME w.val) F.NM_WINGw_TIME_WAKE_TMO ≤ s.now →
    ∃ t, exec (.wakeTmoExpiry w) s = .next t ∧ wingState w.val t = 1 ∧
      (∀ g ∈ wingSegs w.val s, s.bit (R.NM_SEGs_STAT g) F.NM_SEGs_STAT_UP = false →
        (t.reg (R.NM_WINGw_SEGLATE w.val)).getLsbD g = true)) ∧
  (∀ (w : Fin 16) s, s.get (R.NM_WINGw_CFG w.val) F.NM_WINGw_CFG_MAX_AWAKE ≠ 0 → wingState w.val s = 1 ∨ wingState w.val s = 2 →
    (s.wing w.val).enteredAt + s.get (R.NM_WINGw_CFG w.val) F.NM_WINGw_CFG_MAX_AWAKE * 1000000000 ≤ s.now →
    ∃ t, exec (.overrule w) s = .next t ∧ wingState w.val t = 3 ∧ t.bit (R.NM_WINGw_STAT w.val) F.NM_WINGw_STAT_OVERRULED = true ∧
      t.reg (R.NM_WINGw_LOCKUP w.val) = BitVec.ofNat 64 (s.now + 1000000 * s.get (R.NM_WINGw_CFG w.val) F.NM_WINGw_CFG_WINDOW) ∧
      t.get (R.NM_WINGw_CNT w.val) F.NM_WINGw_CNT_OVERRULES = min (s.get (R.NM_WINGw_CNT w.val) F.NM_WINGw_CNT_OVERRULES + 1) 65535)

/-- R350 to R352, R591, R608: an edge on a wake pin, a selective wake frame, a run of 32 undecodable frames, a wake pulse
and the night timer are wake events with their source and the power die's stamp: they go to the wings whose mask has them,
and while the device goes to park or is parked they are kept, up to 16, and counted as lost beyond. -/
def Obligations.WakeSourcesReachTheirWings : Prop :=
  (∀ (k : Fin 8) rising lvl (w : Fin 16) s, s.power.powerHeld = false → parking s = false → s.power.pstate ≠ .off →
    s.bit (R.NM_WINGw_CFG w.val) F.NM_WINGw_CFG_EN = true → (s.reg (R.NM_WINGw_WMASK w.val)).getLsbD k.val = true →
    ∃ t, exec (.wakePinEdge ⟨k.val, by omega⟩ rising lvl) s = .next t ∧
      (t.wing w.val).wakes.length = (s.wing w.val).wakes.length + 1 ∧
      (t.wing w.val).wakes.any (fun e => decide (e.src = 0x100 + k.val) && decide (e.stamp = s.pnow)) = true) ∧
  (∀ (i : Fin 16) rising lvl s, s.power.powerHeld = false → ∃ t, exec (.wakePinEdge ⟨8 + i.val, by omega⟩ rising lvl) s = .next t ∧
      t.get (R.LOAD_HVINi i.val) F.LOAD_HVINi_LEVEL = lvl.toNat ∧
      (parking s = true → s.power.wakes.length < 16 → s.bit (R.LOAD_HVINi i.val) F.LOAD_HVINi_WAKE_EN = true →
        s.get (R.LOAD_HVINi i.val) F.LOAD_HVINi_WAKE_EDGE = (if rising then 0 else 1) →
        ∃ e, t.power.wakes = s.power.wakes ++ [e] ∧ e.src = 0x12C + i.val ∧ e.stamp = s.pnow)) ∧
  (∀ (n : Fin 16) id ide (dlc : BitVec 4) data s, swRuns n.val s = true → parking s = true → s.power.wakes.length < 16 →
    (BitVec.ofNat 29 (s.get (R.NM_SWn_ID n.val) F.NM_SWn_ID_ID) ^^^ id) &&& BitVec.ofNat 29 (s.get (R.NM_SWn_ID n.val) F.NM_SWn_ID_MASK) = 0 →
    s.bit (R.NM_SWn_CFG n.val) F.NM_SWn_CFG_IDE = ide → dlc.toNat = s.get (R.NM_SWn_CFG n.val) F.NM_SWn_CFG_DLC →
    s.bit (R.NM_SWn_CFG n.val) F.NM_SWn_CFG_DATA_EN = false ∨ dlc = 0 ∨ data &&& s.reg (R.NM_SWn_DATA n.val) ≠ 0 →
    ∃ t, exec (.selectiveWakeMatch n id ide false dlc data) s = .next t ∧ t.bit (R.NM_SWn_STAT n.val) F.NM_SWn_STAT_MATCH = true ∧
      t.get (R.NM_SWn_STAT n.val) F.NM_SWn_STAT_FDC = s.get (R.NM_SWn_STAT n.val) F.NM_SWn_STAT_FDC - 1 ∧
      t.power.wakes = s.power.wakes ++ [{ stamp := s.pnow, src := 0x108 + n.val, payload := immw (BitVec.ofNat 64 (id.toNat * 2)) }]) ∧
  (∀ (n : Fin 16) s, swRuns n.val s = true → ∃ t, exec (.swDecodeError n) s = .next t ∧
    (s.get (R.NM_SWn_STAT n.val) F.NM_SWn_STAT_FDC < 31 →
      t.get (R.NM_SWn_STAT n.val) F.NM_SWn_STAT_FDC = s.get (R.NM_SWn_STAT n.val) F.NM_SWn_STAT_FDC + 1 ∧ t.power = s.power) ∧
    (31 ≤ s.get (R.NM_SWn_STAT n.val) F.NM_SWn_STAT_FDC →
      t.get (R.NM_SWn_STAT n.val) F.NM_SWn_STAT_FDC = 0 ∧ t.bit (R.NM_SWn_STAT n.val) F.NM_SWn_STAT_ERR_WAKE = true ∧
      (parking s = true → s.power.wakes.length < 16 →
        ∃ e, t.power.wakes = s.power.wakes ++ [e] ∧ e.src = 0x108 + n.val ∧ (wv e.payload).getLsbD 0 = true))) ∧
  (∀ (m : Fin 8) s, parking s = true → s.power.wakes.length < 16 → ∃ t, exec (.linWakePulse m) s = .next t ∧
    ∃ e, t.power.wakes = s.power.wakes ++ [e] ∧ e.src = 0x118 + m.val ∧ e.stamp = s.pnow) ∧
  (∀ (m : Fin 8) s, parking s = false → segAsleep (16 + m.val) s = false → exec (.linWakePulse m) s = .next s) ∧
  (∀ s x, s.power.aonAt = some x → x ≤ s.el → parking s = true → s.power.wakes.length < 16 → ∃ t, exec .aonTimerExpiry s = .next t ∧
    t.reg R.SYS_AON_TIMER = 0 ∧ t.power.aonAt = none ∧
    ∃ e, t.power.wakes = s.power.wakes ++ [e] ∧ e.src = 0x13C ∧ e.stamp = s.pnow) ∧
  (∀ s, parking s = true → 16 ≤ s.power.wakes.length → ∀ m : Fin 8, ∃ t, exec (.linWakePulse m) s = .next t ∧
    t.power.wakes = s.power.wakes ∧ t.get R.SYS_PWR_STAT F.SYS_PWR_STAT_WAKE_LOST =
      min (s.get R.SYS_PWR_STAT F.SYS_PWR_STAT_WAKE_LOST + 1) (Fld.top F.SYS_PWR_STAT_WAKE_LOST))

/-! ### Load channels and power -/

/-- R371 to R374, R376, R383: a current over the short-circuit limit, a saturation, a current over the envelope and a wire
at T_MAX trip the channel: flag, current, count, and the output off, exhausted after RETRY_MAX attempts and else until
BACKOFF doubled for each attempt has passed; the restart counts an attempt, and CLEAN ms of output end the streak. -/
def Obligations.ProtectiveTripsHoldTheChannelOff : Prop :=
  (∀ (c : Fin 32) (cur : BitVec 20) s, (s.chan c.val).cond = true → (shortLimit c.val s : Int) < cur.toInt →
    ∃ t, exec (.shortCircuitTrip c cur) s = .next t ∧ t.get (R.LOAD_CHc_I c.val) F.LOAD_CHc_I_I_NOW = cur.toNat ∧
      Tripped c.val F.LOAD_CHc_TRIP_SC cur s t) ∧
  (∀ (c : Fin 32) (vds : BitVec 16) cur s, 8 ≤ c.val → (s.chan c.val).cond = true → (s.chan c.val).edgeAt + blankNs c.val s ≤ s.el →
    10 * s.get (R.LOAD_CHc_ELEC c.val) F.LOAD_CHc_ELEC_DESAT_V < vds.toNat →
    ∃ t, exec (.desatTrip c vds cur) s = .next t ∧ Tripped c.val F.LOAD_CHc_TRIP_DESAT cur s t) ∧
  (∀ (c : Fin 32) (cur : BitVec 20) s, (s.chan c.val).cond = true → (s.chan c.val).onSince + blankNs c.val s ≤ s.el →
    (envLimit c.val s : Int) < cur.toInt →
    ∃ t, exec (.overcurrentTrip c cur) s = .next t ∧ t.get (R.LOAD_CHc_I c.val) F.LOAD_CHc_I_I_NOW = cur.toNat ∧
      Tripped c.val F.LOAD_CHc_TRIP_OC cur s t) ∧
  (∀ (c : Fin 32) (q : BitVec 64) mean vout s, s.power.pstate ≠ .park → (s.chan c.val).wireAt + 1000000 ≤ s.el →
    ∃ t, exec (.wireModelUpdate c q mean vout) s = .next t ∧
      (t.chan c.val).wire = wireNext (profOf c.val s) 1 q.toNat (s.chan c.val).wire s ∧
      t.get (R.LOAD_CHc_WIRE c.val) F.LOAD_CHc_WIRE_T_W = (wireShown (t.chan c.val).wire).toNat ∧
      t.get (R.LOAD_CHc_I c.val) F.LOAD_CHc_I_I_MEAN = mean.toNat ∧ t.get (R.LOAD_CHc_V c.val) F.LOAD_CHc_V_V_OUT = vout.toNat ∧
      (profMax (profOf c.val s) s * 4294967296 ≤ (t.chan c.val).wire → s.bit (R.LOAD_CHc_STAT c.val) F.LOAD_CHc_STAT_OUT = true →
        Tripped c.val F.LOAD_CHc_TRIP_WIRE mean s t)) ∧
  (∀ (c : Fin 32) s, s.bit (R.LOAD_CHc_STAT c.val) F.LOAD_CHc_STAT_RESTART_PENDING = true → (s.chan c.val).restartAt ≤ s.el →
    effMode c.val (s.chan c.val).mode (s.chan c.val).duty s = 1 → holdBy c.val s = 0 →
    s.bit (R.LOAD_CHc_STAT c.val) F.LOAD_CHc_STAT_OUT = false →
    ∃ t, exec (.restartDue c) s = .next t ∧ t.bit (R.LOAD_CHc_STAT c.val) F.LOAD_CHc_STAT_OUT = true ∧ (t.chan c.val).cond = true ∧
      t.bit (R.LOAD_CHc_STAT c.val) F.LOAD_CHc_STAT_RESTART_PENDING = false ∧
      t.get (R.LOAD_CHc_CNT c.val) F.LOAD_CHc_CNT_STARTS = min (s.get (R.LOAD_CHc_CNT c.val) F.LOAD_CHc_CNT_STARTS + 1) (2 ^ 32 - 1) ∧
      t.get (R.LOAD_CHc_STAT c.val) F.LOAD_CHc_STAT_ATTEMPTS = (if (s.chan c.val).streak then
        min (s.get (R.LOAD_CHc_STAT c.val) F.LOAD_CHc_STAT_ATTEMPTS + 1) 15 else s.get (R.LOAD_CHc_STAT c.val) F.LOAD_CHc_STAT_ATTEMPTS)) ∧
  (∀ (c : Fin 32) s, (s.chan c.val).streak = true → s.bit (R.LOAD_CHc_STAT c.val) F.LOAD_CHc_STAT_OUT = true →
    (s.chan c.val).onSince + 1000000 * s.get (R.LOAD_PROFp_RETRY (profOf c.val s)) F.LOAD_PROFp_RETRY_CLEAN ≤ s.el →
    ∃ t, exec (.streakClean c) s = .next t ∧ (t.chan c.val).streak = false ∧
      t.get (R.LOAD_CHc_STAT c.val) F.LOAD_CHc_STAT_ATTEMPTS = 0)

/-- R359, R374, R375, R379 to R381, R386, R389, R392, R394, R397: the thermal latch, the clamp budget and its lock, the
open-load and external-drive marks, the shedding of the lowest class, the reverse-current block, the supply conditions, the
lease that expires into the safe state, the die-temperature warning and the pulse generator's edges set and clear what their
rules name, and the output is off while a latch or a condition of its row holds. -/
def Obligations.LoadEventsLatchAndRelease : Prop :=
  (∀ (c : Fin 32) (x : BitVec 9) s, hasLatch c.val s = true → tooHot c.val x = true →
    s.bit (R.LOAD_CHc_STAT c.val) F.LOAD_CHc_STAT_THERM = false → ∃ t, exec (.thermalLatchSet c x) s = .next t ∧
      t.bit (R.LOAD_CHc_STAT c.val) F.LOAD_CHc_STAT_THERM = true ∧ t.bit (R.LOAD_CHc_TRIP c.val) F.LOAD_CHc_TRIP_THERM = true ∧
      t.bit (R.LOAD_CHc_STAT c.val) F.LOAD_CHc_STAT_OUT = false ∧ t.get (R.LOAD_CHc_V c.val) F.LOAD_CHc_V_T_CH = x.toNat) ∧
  (∀ (c : Fin 32) (x : BitVec 9) s, tooHot c.val x = false → x.toInt < 145 →
    s.bit (R.LOAD_CHc_STAT c.val) F.LOAD_CHc_STAT_THERM = true → ∃ t, exec (.thermalLatchRelease c x) s = .next t ∧
      t.bit (R.LOAD_CHc_STAT c.val) F.LOAD_CHc_STAT_THERM = false) ∧
  (∀ (c : Fin 32) (e : BitVec 32) s, ∃ t, exec (.clampEnd c e) s = .next t ∧
    t.get (R.LOAD_CHc_CLAMP c.val) F.LOAD_CHc_CLAMP_LAST_E = e.toNat ∧
    (t.chan c.val).budget = budgetNow c.val s - (e.toNat : Int) * 1000000 ∧ (t.chan c.val).budgetAt = s.el ∧
    (s.bit (R.LOAD_CHc_STAT c.val) F.LOAD_CHc_STAT_LOCK = false →
      (t.chan c.val).budget < (s.get (R.LOAD_PROFp_CLAMP (profOf c.val s)) F.LOAD_PROFp_CLAMP_E_MIN : Int) * 1000000000 →
      t.bit (R.LOAD_CHc_STAT c.val) F.LOAD_CHc_STAT_LOCK = true ∧ t.bit (R.LOAD_CHc_STAT c.val) F.LOAD_CHc_STAT_OUT = false)) ∧
  (∀ (c : Fin 32) s, s.bit (R.LOAD_CHc_STAT c.val) F.LOAD_CHc_STAT_LOCK = true →
    (s.get (R.LOAD_PROFp_CLAMP (profOf c.val s)) F.LOAD_PROFp_CLAMP_E_REL : Int) * 1000000000 ≤ budgetNow c.val s →
    ∃ t, exec (.clampLockRelease c) s = .next t ∧ t.bit (R.LOAD_CHc_STAT c.val) F.LOAD_CHc_STAT_LOCK = false) ∧
  (∀ (c : Fin 32) (mean : BitVec 20) s, s.bit (R.LOAD_CHc_STAT c.val) F.LOAD_CHc_STAT_OUT = true →
    mean.toInt < (s.get (R.LOAD_PROFp_OL (profOf c.val s)) F.LOAD_PROFp_OL_OL_ON : Int) →
    envEnd (profOf c.val s) s + 1000000 * s.get (R.LOAD_PROFp_OL (profOf c.val s)) F.LOAD_PROFp_OL_OL_T ≤ envClock c.val s →
    ∃ t, exec (.openLoadOn c mean) s = .next t ∧ t.bit (R.LOAD_CHc_STAT c.val) F.LOAD_CHc_STAT_OL_ON = true) ∧
  (∀ (c : Fin 32) (v : BitVec 16) s, s.bit (R.LOAD_CHc_STAT c.val) F.LOAD_CHc_STAT_OUT = false →
    s.bit (R.LOAD_CHc_PROF c.val) F.LOAD_CHc_PROF_OL_OFF = true → 200 < v.toInt →
    ∃ t, exec (.openLoadOff c v) s = .next t ∧ t.bit (R.LOAD_CHc_STAT c.val) F.LOAD_CHc_STAT_OL_OFF = true) ∧
  (∀ (c : Fin 32) (v : BitVec 16) s, s.bit (R.LOAD_CHc_STAT c.val) F.LOAD_CHc_STAT_OUT = false →
    s.bit (R.LOAD_CHc_PROF c.val) F.LOAD_CHc_PROF_OL_OFF = false → 300 < v.toInt →
    ∃ t, exec (.extDrivenDetect c v) s = .next t ∧ t.bit (R.LOAD_CHc_STAT c.val) F.LOAD_CHc_STAT_EXT_DRIVEN = true) ∧
  (∀ (sum : BitVec 16) (c : Fin 8) s, s.bit R.LOAD_CTL F.LOAD_CTL_AGG_EN = true → 24000 < sum.toNat → s.load.aggAt ≤ s.el →
    (s.chan c.val).cond = true →
    (∀ d : Fin 8, (s.chan d.val).cond = true →
      s.get (R.LOAD_CHc_PROF c.val) F.LOAD_CHc_PROF_SHED < s.get (R.LOAD_CHc_PROF d.val) F.LOAD_CHc_PROF_SHED ∨
      (s.get (R.LOAD_CHc_PROF c.val) F.LOAD_CHc_PROF_SHED = s.get (R.LOAD_CHc_PROF d.val) F.LOAD_CHc_PROF_SHED ∧ d ≤ c)) →
    ∃ t, exec (.shed sum) s = .next t ∧ (t.chan c.val).shed = true ∧ t.bit (R.LOAD_CHc_TRIP c.val) F.LOAD_CHc_TRIP_SHED = true ∧
      t.bit (R.LOAD_CHc_STAT c.val) F.LOAD_CHc_STAT_OUT = false ∧ t.load.aggAt = s.el + 10000000 ∧
      t.get R.LOAD_AGG F.LOAD_AGG_SUM = sum.toNat) ∧
  (∀ (c : Fin 32) (cur : BitVec 20) s, c.val < 8 → (s.chan c.val).cond = true → cur.toInt < -500 →
    ∃ t, exec (.reverseCurrentBlock c cur) s = .next t ∧ t.bit (R.LOAD_CHc_STAT c.val) F.LOAD_CHc_STAT_REVCUR = true ∧
      t.bit (R.LOAD_CHc_STAT c.val) F.LOAD_CHc_STAT_OUT = false) ∧
  (∀ (c : Fin 32) s, ∃ t, exec (.reverseCurrentRecover c) s = .next t ∧ t.bit (R.LOAD_CHc_STAT c.val) F.LOAD_CHc_STAT_REVCUR = false) ∧
  (∀ (k : Fin 5) (mv : BitVec 16) s, supplyIn k.val mv.toNat = true → s.bit R.LOAD_STAT (supplyBit k.val) = false →
    ∃ t, exec (.supplyConditionEntry k mv) s = .next t ∧ t.bit R.LOAD_STAT (supplyBit k.val) = true ∧
      ∀ c : Fin 32, k = 4 ∨ (k = 0 ∧ c.val < 8) ∨ (k = 1 ∧ 8 ≤ c.val) → t.bit (R.LOAD_CHc_STAT c.val) F.LOAD_CHc_STAT_OUT = false) ∧
  (∀ (k : Fin 5) (mv : BitVec 16) s, supplyOut k.val mv.toNat = true → s.bit R.LOAD_STAT (supplyBit k.val) = true →
    ∃ t, exec (.supplyConditionExit k mv) s = .next t ∧ t.bit R.LOAD_STAT (supplyBit k.val) = false) ∧
  (∀ recorded s, ∃ t, exec (.reverseBatteryEnd recorded) s = .next t ∧
    (∀ c : Fin 32, t.bit (R.LOAD_CHc_STAT c.val) F.LOAD_CHc_STAT_OUT = false) ∧ t.power.computeHeld = true ∧
    (recorded = true → t.power.pstate = .hold ∧ t.get R.SYS_RST_CAUSE F.SYS_RST_CAUSE_KIND = 1)) ∧
  (∀ (c : Fin 32) x s, (s.chan c.val).leaseAt = some x → x ≤ s.el → ∃ t, exec (.leaseExpiry c) s = .next t ∧
    (t.chan c.val).leaseAt = none ∧ (t.chan c.val).mode = (safeState c.val s).1 ∧ (t.chan c.val).duty = (safeState c.val s).2 ∧
    (t.chan c.val).dsrc = 2) ∧
  (∀ (x : BitVec 9) s, ∃ t, exec (.dieTempWarn x) s = .next t ∧ t.get R.LOAD_TEMP F.LOAD_TEMP_DIE = x.toNat ∧
    ((s.get R.LOAD_CTL F.LOAD_CTL_DIE_WARN : Int) ≤ x.toInt → computeAbsent s = true → s.load.held.length < 64 →
      t.load.held.any (fun e => decide (e.ev.src = 0x25)) = true)) ∧
  (∀ (c : Fin 32) s, effMode c.val (s.chan c.val).mode (s.chan c.val).duty s = 2 → holdBy c.val s = 0 → onEdgeNow c.val s = true →
    ¬((s.chan c.val).amode = 2 ∧ (s.chan c.val).cond = true ∧ s.el < (s.chan c.val).onEnd) →
    ∃ t, exec (.pulseOnEdge c) s = .next t ∧ (t.chan c.val).cond = true ∧ (t.chan c.val).amode = 2 ∧
      (t.chan c.val).onEnd = s.el + 20 * onTime (pwmPeriod c.val s) (s.chan c.val).duty.toNat ∧
      t.bit (R.LOAD_CHc_STAT c.val) F.LOAD_CHc_STAT_OUT = true) ∧
  (∀ (c : Fin 32) s, (s.chan c.val).amode = 2 → (s.chan c.val).cond = true → (s.chan c.val).onEnd ≤ s.el →
    ∃ t, exec (.pulseOnTimeEnd c) s = .next t ∧ (t.chan c.val).cond = false ∧
      (t.chan c.val).env = (s.chan c.val).env + (s.el - (s.chan c.val).condSince) ∧ t.regs = s.regs)

/-- R360, R371 to R397: the frame of the load-channel events: an event of one channel leaves every other channel's state,
status, trips and command as they are, and no load event changes memory, the catalogue, the CAN and LIN controllers, the
switch, the collation units, the strongroom, the wings, time, the fault state, the closed ports or the pending commands. -/
def Obligations.LoadEventsKeepOtherChannelsAndDomains : Prop :=
  (∀ (c d : Fin 32), d ≠ c → ∀ (cur : BitVec 20) (vds v : BitVec 16) (q : BitVec 64) (x : BitVec 9) (e : BitVec 32),
    ∀ i ∈ ([.shortCircuitTrip c cur, .desatTrip c vds cur, .overcurrentTrip c cur, .wireModelUpdate c q cur v, .restartDue c,
        .streakClean c, .thermalLatchSet c x, .thermalLatchRelease c x, .clampEnd c e, .clampLockRelease c, .openLoadOn c cur,
        .openLoadOff c v, .extDrivenDetect c v, .reverseCurrentBlock c cur, .reverseCurrentRecover c, .leaseExpiry c, .pulseOnEdge c,
        .pulseOnTimeEnd c] : List Instr), ∀ s t, exec i s = .next t →
      t.chan d.val = s.chan d.val ∧ t.reg (R.LOAD_CHc_STAT d.val) = s.reg (R.LOAD_CHc_STAT d.val) ∧
      t.reg (R.LOAD_CHc_TRIP d.val) = s.reg (R.LOAD_CHc_TRIP d.val) ∧ t.reg (R.LOAD_CHc_CMD d.val) = s.reg (R.LOAD_CHc_CMD d.val)) ∧
  (∀ (c : Fin 32) (k : Fin 5) (cur : BitVec 20) (vds v : BitVec 16) (q : BitVec 64) (x : BitVec 9) (e : BitVec 32),
    ∀ i ∈ ([.shortCircuitTrip c cur, .desatTrip c vds cur, .overcurrentTrip c cur, .wireModelUpdate c q cur v, .restartDue c,
        .streakClean c, .thermalLatchSet c x, .thermalLatchRelease c x, .clampEnd c e, .clampLockRelease c, .openLoadOn c cur,
        .openLoadOff c v, .extDrivenDetect c v, .reverseCurrentBlock c cur, .reverseCurrentRecover c, .leaseExpiry c, .pulseOnEdge c,
        .pulseOnTimeEnd c, .shed v, .supplyConditionEntry k v, .supplyConditionExit k v, .dieTempWarn x] : List Instr),
      ∀ s t, exec i s = .next t → t.mem = s.mem ∧ t.cat = s.cat ∧ t.cans = s.cans ∧ t.lins = s.lins ∧ t.sw = s.sw ∧ t.coll = s.coll ∧
        t.vault = s.vault ∧ t.wings = s.wings ∧ t.time = s.time ∧ t.faults = s.faults ∧ t.closed = s.closed ∧ t.pending = s.pending)

/-- R581, R584 to R587, R590 to R599, R602, R604: doze begins when every pair is quiet and ends at its wake; park hands time
to the night clock and ends with a wake after OFF_MS; PGOOD, the reset hold, the crystal, the fill and the image each lead
to the next start-up step, up to the librarian's release at the image's entry point; each reset records its kind and trigger
and leaves every load output off. -/
def Obligations.PowerStatesAndStartUpFollowTheirEvents : Prop :=
  (∀ s, s.power.dozeReq = true → s.power.exitPending = false → (∀ p : Fin 8, pairState p.val s ∈ [0, 3, 4, 6, 7]) →
    ∃ t, exec .dozeEntered s = .next t ∧ t.power.pstate = .doze ∧ t.power.dozeReq = false ∧ t.regs = s.regs) ∧
  (∀ s, s.power.exitPending = true → s.power.dozeReq = true ∨ s.power.pstate = .doze → ∃ t, exec .dozeExit s = .next t ∧
    t.power.pstate = .awake ∧ t.power.exitPending = false ∧ t.get R.SYS_PWR_STAT F.SYS_PWR_STAT_STATE = 0 ∧
    ∀ p : Fin 8, pairState p.val t = (if pairState p.val s = 7 then 2 else pairState p.val s)) ∧
  (∀ s, s.power.parkStep ≠ 0 → ∃ t, exec .parkGtcHandoff s = .next t ∧ t.power.pstate = .park ∧ t.power.computeHeld = true ∧
    t.power.pwrReq = false ∧ t.power.pwrReqLowSince = s.el ∧
    (∀ c : Fin 32, t.bit (R.LOAD_CHc_STAT c.val) F.LOAD_CHc_STAT_OUT = false)) ∧
  (∀ s src, s.power.parkWake = some src → s.power.pstate = .park → s.power.pwrReqLowSince + offMs s ≤ s.el →
    ∃ t, exec .parkExit s = .next t ∧ t.power.pstate = .hold ∧ t.power.pwrReq = true ∧ t.power.pgoodBy = s.el + pgoodTmo s ∧
      t.get R.SYS_PWR_STAT F.SYS_PWR_STAT_WAKE_SRC = src % 4096 ∧ t.bit R.SYS_PWR_STAT F.SYS_PWR_STAT_WAKE_PARK = true ∧
      t.bit R.NM_CTL F.NM_CTL_EN = false ∧ t.get R.SYS_RST_CAUSE F.SYS_RST_CAUSE_KIND = 3 ∧
      t.get R.SYS_RST_CAUSE F.SYS_RST_CAUSE_TRIGGER = 7) ∧
  (∀ cfg side vote bad s, s.power.pgood = false → s.power.pwrReq = true → resetRuns s = true → s.power.powerHeld = false →
    pinLow s = false → s.power.computeUntil ≤ s.el → ∃ t, exec (.pgoodRise cfg side vote bad) s = .next t ∧
      t.power.pgood = true ∧ t.power.computeHeld = false ∧ t.power.boot = .waitCrystal ∧ t.power.xoBy = s.el + 2000000 ∧
      t.get R.SYS_BOOT F.SYS_BOOT_CFG = cfg.toNat ∧ t.bit R.TWIN_STAT F.TWIN_STAT_SIDE = side) ∧
  (∀ cfg side vote bad s, s.power.powerHeld = true → pinLow s = false → s.power.pstate = .hold → s.power.powerUntil ≤ s.el →
    ∃ t, exec (.resetHoldExpiry cfg side vote bad) s = .next t ∧ t.power.powerHeld = false ∧ t.power.pwrReq = true ∧
      (∀ c : Fin 32, t.bit (R.LOAD_CHc_STAT c.val) F.LOAD_CHc_STAT_OUT = false)) ∧
  (∀ s, s.power.boot = .waitCrystal → s.power.computeHeld = false → ∃ t, exec .crystalQualified s = .next t ∧
    t.power.boot = .waitReconcile ∧ t.faults.held = false ∧ t.regs = s.regs) ∧
  (∀ s, s.power.boot = .waitCrystal → s.power.computeHeld = false → s.power.xoBy ≤ s.el → ∃ t, exec .crystalRetry s = .next t ∧
    t.power.boot = .waitCrystal ∧ t.power.xoBy = s.el + 2000000 ∧ faultOut t = true) ∧
  (∀ s, s.power.boot = .filling → s.power.computeHeld = false → ∃ t, exec .fillDone s = .next t ∧
    (t.power.boot = .imageReady ∨ t.power.boot = .waitImage ∨ (t.power.boot = .halted ∧ t.power.computeHeld = true ∧ faultOut t = true)) ∧
    t.bit R.STK_STAT F.STK_STAT_FILLED = true ∧ ∀ a, regionOf a = .catMem → t.rdMem a = fillWord) ∧
  (∀ img s, s.power.boot = .waitImage → s.power.computeHeld = false → ∃ t, exec (.debugImageWritten img) s = .next t ∧
    t.power.boot = (if (verifyImage (listRead img) s).1.isSome then .imageReady else .halted)) ∧
  (∀ s, s.power.boot = .imageReady → s.power.computeHeld = false → injDone s = true → ∃ t, exec .librarianRelease s = .next t ∧
    t.power.pstate = .awake ∧ t.power.boot = .running ∧ pairState 0 t = 2 ∧ (t.core 0).pc = s.power.imgEntry ∧ (t.core 0).mode = 3 ∧
    t.lreg 0 1 = immw (s.power.imgBase.setWidth 64) ∧ t.lreg 0 2 = immw (s.power.imgBoot.setWidth 64)) ∧
  (∀ s, s.power.pstate = .hold → s.power.pgood = false → s.power.powerHeld = false →
    (s.power.pwrReq = true → s.power.pgoodBy ≤ s.el → ∃ t, exec .pgoodTimeout s = .next t ∧ t.power.pwrReq = false ∧
      t.power.pwrReqLowSince = s.el ∧
      t.power.pstate = (if s.power.retries < s.get R.SYS_PMIC F.SYS_PMIC_RETRIES then .hold else .park) ∧
      t.get R.SYS_PMIC F.SYS_PMIC_PGOOD_FAILS = min (s.get R.SYS_PMIC F.SYS_PMIC_PGOOD_FAILS + 1) (2 ^ 32 - 1)) ∧
    (s.power.pwrReq = false → s.power.pwrReqLowSince + offMs s ≤ s.el →
      exec .pgoodTimeout s = .next { s with power := { s.power with pwrReq := true, pgoodBy := s.el + pgoodTmo s } })) ∧
  (∀ s, s.power.pgood = true → s.power.pstate ≠ .park → s.power.pstate ≠ .off → resetRuns s = false → s.power.powerHeld = false →
    ∃ t, exec .pgoodFall s = .next t ∧ t.power.pgood = false ∧ t.power.computeHeld = true ∧ t.power.pstate = .hold ∧
      t.get R.SYS_RST_CAUSE F.SYS_RST_CAUSE_KIND = 2 ∧ t.get R.SYS_RST_CAUSE F.SYS_RST_CAUSE_TRIGGER = 6) ∧
  (∀ s, s.power.vbatAon = true → s.power.porstLow = false → ∃ t, exec (.powerOnReset true) s = .next t ∧ t.power.porstLow = true ∧
    t.power.computeHeld = true ∧ t.time.gtc = 0 ∧ t.get R.SYS_RST_CAUSE F.SYS_RST_CAUSE_KIND = 0 ∧
    t.get R.SYS_RST_CAUSE F.SYS_RST_CAUSE_TRIGGER = 0) ∧
  (∀ s, s.power.vbatAon = false → ∃ t, exec (.powerOnReset false) s = .next t ∧ t.power.vbatAon = true ∧ t.power.computeHeld = true ∧
    t.time.gtc = 0 ∧ t.power.pstate = (if s.power.vbat12 then .hold else .off) ∧ t.get R.SYS_RST_CAUSE F.SYS_RST_CAUSE_TRIGGER = 1) ∧
  (∀ s, s.power.resetLow = false → s.power.pstate ≠ .off → resetRuns s = false → ∃ t, exec .warmReset s = .next t ∧
    t.power.resetLow = true ∧ t.power.powerHeld = true ∧ t.power.computeHeld = true ∧ t.power.powerUntil = s.el + 100000 ∧
    t.get R.SYS_RST_CAUSE F.SYS_RST_CAUSE_KIND = 1 ∧ t.get R.SYS_RST_CAUSE F.SYS_RST_CAUSE_TRIGGER = 2 ∧
    (∀ c : Fin 32, t.bit (R.LOAD_CHc_STAT c.val) F.LOAD_CHc_STAT_OUT = false)) ∧
  (∀ s, deviceDue s = true → resetRuns s = false → s.power.powerHeld = false → s.power.pstate ≠ .park → s.power.pstate ≠ .off →
    ∃ t, exec .computeDieReset s = .next t ∧ t.power.computeHeld = true ∧ t.power.pstate = .hold ∧
      t.get R.SYS_RST_CAUSE F.SYS_RST_CAUSE_KIND = 2 ∧ t.get R.SYS_RST_CAUSE F.SYS_RST_CAUSE_TRIGGER = 4 ∧
      t.bit R.SYS_FAULT_STAT F.SYS_FAULT_STAT_DEVICE_SEEN = true) ∧
  (∀ aon s, ∃ t, exec (.powerLoss aon) s = .next t ∧ t.power.pstate = .off ∧ t.power.vbatAon = (s.power.vbatAon && !aon) ∧
    t.power.vbat12 = (s.power.vbat12 && aon)) ∧
  (∀ s, s.power.pstate = .off → s.power.vbat12 = false → s.power.vbatAon = true → ∃ t, exec .vbat12Return s = .next t ∧
    t.power.vbat12 = true ∧ t.power.pstate = .hold ∧ t.power.powerHeld = true ∧ t.power.powerUntil = s.el + 100000 ∧
    t.get R.SYS_RST_CAUSE F.SYS_RST_CAUSE_KIND = 1) ∧
  (∀ por s, (if por then s.power.porstLow else s.power.resetLow) = true → ∃ t, exec (.resetPinRise por) s = .next t ∧
    t.power.porstLow = (s.power.porstLow && !por) ∧ t.power.resetLow = (s.power.resetLow && por) ∧
    t.power.powerUntil = s.el + 100000 ∧ t.regs = s.regs)

/-! ### Pairs, carrels, memory and the strongroom -/

/-- R412, R415 to R420, R424 to R427, R430, R431: a mismatch of the copies, a checker fault and a digest that disagrees stop
an unsplit running pair with its fault recorded, its tile's ports closed, and the reserve pair due or the pair's carrels
stopped; the reserve pair takes over after 20 µs with the pair's carrels; the injection test gates a pair's release; entry
into debug marks the pair broken with a device-class fault. -/
def Obligations.PairFaultsStopThePair : Prop :=
  (∀ (p : Fin 8) (comp : Fin 3) ledger slice s, pairState p.val s = 2 → pairSplit p.val s = false →
    ∃ t, exec (.coreMismatch p comp ledger slice) s = .next t ∧ PairStopped p 1 comp.val s t ∧
      t.get (R.EXEC_Pp_FAULT p.val) F.EXEC_Pp_FAULT_LEDGER = ledger.toNat ∧ t.get (R.EXEC_Pp_FAULT p.val) F.EXEC_Pp_FAULT_SLICE = slice.toNat) ∧
  (∀ (p : Fin 8) (comp : Fin 4) slice s, pairState p.val s = 2 → pairSplit p.val s = false →
    ∃ t, exec (.checkerFault p comp slice) s = .next t ∧ PairStopped p 2 comp.val s t ∧
      t.get (R.EXEC_Pp_FAULT p.val) F.EXEC_Pp_FAULT_SLICE = slice.toNat) ∧
  (∀ (p : Fin 8) s, s.now % 1000000 < 2 → pairState p.val s = 2 → pairSplit p.val s = false →
    ∃ t, exec (.digestRequest p) s = .next t ∧ (t.pair p.val).digLead = some (digestOf p.val s) ∧ t.regs = s.regs) ∧
  (∀ (p : Fin 8) chk s d, (s.pair p.val).digLead = some d → pairState p.val s = 2 → pairSplit p.val s = false →
    ∃ t, exec (.digestCompare p chk) s = .next t ∧ t.reg (R.EXEC_Pp_DIGEST p.val) = d ∧ (t.pair p.val).digLead = none ∧
      t.reg (R.EXEC_Pp_DIGCNT p.val) = counted (s.reg (R.EXEC_Pp_DIGCNT p.val)) ∧ (chk = d → pairState p.val t = 2) ∧
      (chk ≠ d → PairStopped p 3 3 s t)) ∧
  (∀ h s, s.handover = some h → h.pair < 8 → h.at_ + 20000 ≤ s.now → ∃ t, exec .reserveHandover s = .next t ∧ t.handover = none ∧
    t.bit R.EXEC_RESERVE F.EXEC_RESERVE_USED = true ∧ t.get R.EXEC_RESERVE F.EXEC_RESERVE_REPLACED = h.pair % 8 ∧
    pairState (s.get R.EXEC_RESERVE F.EXEC_RESERVE_PAIR) t = 2 ∧
    (∀ c ∈ pairCarrels h.pair s, noResume c s = false →
      t.get (R.CARREL_Cc_CFG c) F.CARREL_Cc_CFG_PAIR = s.get R.EXEC_RESERVE F.EXEC_RESERVE_PAIR)) ∧
  (∀ (p : Fin 8) s, s.power.boot = .imageReady → s.power.computeHeld = false → ∃ t, exec (.injectionTestDone p true) s = .next t ∧
    (t.get R.EXEC_INJ F.EXEC_INJ_PASSED).testBit p.val = true ∧ (t.get R.EXEC_INJ F.EXEC_INJ_FAILED).testBit p.val = false) ∧
  (∀ (p : Fin 8) s, pairState p.val s = 1 → s.power.boot = .running → ∃ t, exec (.injectionTestDone p true) s = .next t ∧
    pairState p.val t = 2 ∧ t.bit (R.EXEC_Pp_STAT p.val) F.EXEC_Pp_STAT_RELEASED = true ∧
    (t.get R.EXEC_INJ F.EXEC_INJ_PASSED).testBit p.val = true) ∧
  (∀ (p : Fin 8) s, pairState p.val s = 1 → s.power.boot = .running → ∃ t, exec (.injectionTestDone p false) s = .next t ∧
    pairState p.val t = 6 ∧ (t.get R.EXEC_INJ F.EXEC_INJ_FAILED).testBit p.val = true ∧
    (t.get R.EXEC_INJ F.EXEC_INJ_PASSED).testBit p.val = false) ∧
  (∀ (p : Fin 8) b s, ∃ t, exec (.debugEntry p (some b)) s = .next t ∧ (t.pair p.val).bpArmed = b ∧ t.regs = s.regs) ∧
  (∀ (p : Fin 8) s, pairState p.val s = 2 → pairSplit p.val s = false → ∃ t, exec (.debugEntry p none) s = .next t ∧
    pairState p.val t = 5 ∧ t.bit (R.EXEC_Pp_STAT p.val) F.EXEC_Pp_STAT_BROKEN = true ∧ faultOut t = true)

/-- R494, R499 to R503, R509, R512 to R515: a reset carrel is stopped and fresh once its work has ended or its time has
passed; a pending timetable begins at a cycle's start; the next window's context is fetched ahead and entered at the
window's start, later while the librarian handles a trap; a saved context is no longer fresh; a datagram that no session
matches is counted, one that does is queued, answered once, and notices of a remote carrel are sent in groups of at most
eight. -/
def Obligations.CarrelsQuiesceSwitchAndServe : Prop :=
  (∀ (c : BitVec 9) s, c ≠ 0 → carState c.toNat s = 3 → carrelWorks c.toNat s = false ∨ (s.carrel c.toNat).quiesceBy ≤ s.now →
    ∃ t, exec (.carrelQuiesceEnd c) s = .next t ∧ carState c.toNat t = 1 ∧
      t.bit (R.CARREL_Cc_STAT c.toNat) F.CARREL_Cc_STAT_FRESH = true ∧ (t.carrel c.toNat).nq.queue = [] ∧
      (t.carrel c.toNat).dk.nlost = 0 ∧ t.reg (R.CARREL_Cc_DESK c.toNat) = 0) ∧
  (∀ (p : Fin 8) (k : Fin 2) s, s.bit (R.CARREL_Pp_TTk_NEXT p.val k.val) F.CARREL_Pp_TTk_NEXT_PENDING = true →
    s.bit (ttCtl p.val k.val) F.CARREL_Pp_TTk_CTL_EN = true → (s.reg (R.CARREL_Pp_TTk_BASE p.val k.val)).toNat ≤ s.now →
    (s.now - (s.reg (R.CARREL_Pp_TTk_BASE p.val k.val)).toNat) % max 1 (s.get (ttCtl p.val k.val) F.CARREL_Pp_TTk_CTL_CYCLE) < 2 →
    ∃ t, exec (.timetableAdopt p k) s = .next t ∧
      t.get (ttCtl p.val k.val) F.CARREL_Pp_TTk_CTL_FIRST = s.get (R.CARREL_Pp_TTk_NEXT p.val k.val) F.CARREL_Pp_TTk_NEXT_FIRST ∧
      t.get (ttCtl p.val k.val) F.CARREL_Pp_TTk_CTL_LEN = s.get (R.CARREL_Pp_TTk_NEXT p.val k.val) F.CARREL_Pp_TTk_NEXT_LEN ∧
      t.get (ttCtl p.val k.val) F.CARREL_Pp_TTk_CTL_CYCLE = s.get (R.CARREL_Pp_TTk_NEXT p.val k.val) F.CARREL_Pp_TTk_NEXT_CYCLE ∧
      t.bit (ttCtl p.val k.val) F.CARREL_Pp_TTk_CTL_EN = true ∧
      t.bit (R.CARREL_Pp_TTk_NEXT p.val k.val) F.CARREL_Pp_TTk_NEXT_PENDING = false) ∧
  (∀ (p : Fin 8) (k : Fin 2) x n s, x = ttCore p.val k.val s → s.power.computeHeld = false → coreExists x s = true →
    pairState (x / 2) s = 2 → s.bit (ttCtl p.val k.val) F.CARREL_Pp_TTk_CTL_EN = true → s.now < (s.core x).wend →
    (s.core x).wend ≤ s.now + 2000 → (ttWindow p.val k.val (s.core x).wend s).2.1 = some n → n < 512 →
    ¬((s.core x).loaded = true ∧ (s.core x).d1.toNat = n) → s.bit (R.CARREL_Cc_STAT n) F.CARREL_Cc_STAT_FRESH = false →
    ∃ t y, exec (.contextPrefetch p k) s = .next t ∧ (t.core x).shadow = some y ∧ y.carrel.toNat = n) ∧
  (∀ (p : Fin 8) (k : Fin 2) x s, x = ttCore p.val k.val s → switchDue x s = true → (s.core x).mode = 3 → (s.core x).d1 ≠ 0 →
    (s.core x).loaded = true → (s.core x).idle = false → (s.core x).heldSwitch = false →
    ∃ t, exec (.timetableSwitch p k) s = .next t ∧ (t.core x).heldSwitch = true ∧ (t.core x).d1 = (s.core x).d1 ∧
      t.get (R.CARREL_Pp_TTk_STAT p.val k.val) F.CARREL_Pp_TTk_STAT_LATE =
        min (s.get (R.CARREL_Pp_TTk_STAT p.val k.val) F.CARREL_Pp_TTk_STAT_LATE + 1) (2 ^ 32 - 1)) ∧
  (∀ (p : Fin 8) (k : Fin 2) x n s, x = ttCore p.val k.val s → switchDue x s = true → (s.core x).loaded = false →
    (s.core x).shadow = none → s.bit (ttCtl p.val k.val) F.CARREL_Pp_TTk_CTL_EN = true → s.power.dozeReq = false →
    (ttWindow p.val k.val s.now s).2.1 = some n → n < 512 → s.bit (R.CARREL_Cc_STAT n) F.CARREL_Cc_STAT_FRESH = true →
    ∃ t, exec (.timetableSwitch p k) s = .next t ∧ (t.core x).d1.toNat = n ∧ (t.core x).loaded = true ∧ (t.core x).idle = false ∧
      (t.core x).pc.toNat = s.get (R.CARREL_Cc_ENTRY n) F.CARREL_Cc_ENTRY_PC % 2 ^ 49 ∧ (t.core x).mode = (if n = 0 then 3 else 1) ∧
      (t.core x).wend = (ttWindow p.val k.val s.now s).2.2 ∧ t.bit (R.CARREL_Cc_STAT n) F.CARREL_Cc_STAT_IN = true) ∧
  (∀ (x : Fin 16) y s, s.power.computeHeld = false → (s.core x.val).outgoing = some y → ∃ t, exec (.checkpointCommit x) s = .next t ∧
    t.bit (R.CARREL_Cc_STAT y.carrel.toNat) F.CARREL_Cc_STAT_FRESH = false) ∧
  (∀ s x q, s.sw.rcIn = x :: q →
    (datagramOf x.2 = none → ∃ t, exec .remoteFrameReceive s = .next t ∧ t.sw.rcIn = q ∧
      t.get R.CARREL_RC_CNT F.CARREL_RC_CNT_UNMATCHED = min (s.get R.CARREL_RC_CNT F.CARREL_RC_CNT_UNMATCHED + 1) (2 ^ 32 - 1)) ∧
    (∀ d (c : Fin 512), datagramOf x.2 = some d → 10 ≤ x.1 → (∀ e : Fin 512, sessionMatch e.val (x.1 - 10) d s = true ↔ e = c) →
      (s.carrel c.val).reqs.length < 8 → ∃ t, exec .remoteFrameReceive s = .next t ∧ t.sw.rcIn = q ∧
        (t.carrel c.val).reqs = (s.carrel c.val).reqs ++ [requestOf d.payload] ∧ t.regs = s.regs)) ∧
  (∀ (c : BitVec 9) q r s, (s.carrel c.toNat).reqs = q :: r → s.power.computeHeld = false →
    s.bit (R.CARREL_Cc_SES_CTL c.toNat) F.CARREL_Cc_SES_CTL_EN = true →
    carState c.toNat s ≠ 2 ∨ requestBad c.toNat q = true ∨ q.op = 4 →
    ∃ t, exec (.remoteRequestServe c) s = .next t ∧ (t.carrel c.toNat).reqs = r ∧ t.sw.rcOut.length = s.sw.rcOut.length + 1 ∧
      t.get R.CARREL_RC_CNT2 F.CARREL_RC_CNT2_SERVED = min (s.get R.CARREL_RC_CNT2 F.CARREL_RC_CNT2_SERVED + 1) (2 ^ 32 - 1) ∧
      t.get R.CARREL_RC_CNT F.CARREL_RC_CNT_MALFORMED = (if carState c.toNat s = 2 ∧ requestBad c.toNat q = true then
        min (s.get R.CARREL_RC_CNT F.CARREL_RC_CNT_MALFORMED + 1) (2 ^ 32 - 1) else s.get R.CARREL_RC_CNT F.CARREL_RC_CNT_MALFORMED)) ∧
  (∀ (c : BitVec 9) x s, (s.carrel c.toNat).gather = some x → s.power.computeHeld = false →
    s.bit (R.CARREL_Cc_SES_CTL c.toNat) F.CARREL_Cc_SES_CTL_EN = true → carState c.toNat s = 2 → (s.carrel c.toNat).nq.queue ≠ [] →
    x ≤ s.now ∨ 8 ≤ (s.carrel c.toNat).nq.queue.length →
    ∃ t, exec (.remoteNoticeGatherExpiry c) s = .next t ∧ (t.carrel c.toNat).nq.queue = (s.carrel c.toNat).nq.queue.drop 8 ∧
      (t.carrel c.toNat).noticeTag = (s.carrel c.toNat).noticeTag + 1 ∧ t.sw.rcOut.length = s.sw.rcOut.length + 1)

/-- R437 to R439, R443, R445 to R447, R450 to R453, R463, R464, R621, R623, R624: a correction write stores the corrected
word, a scrub read finds and reports what has flipped, a fill and a bank restore write the fill word to every page that is
not withdrawn, the archive takes its oldest event once no older one can come, flash commands and copies end, a pin edge that
its setting selects is noted, and a conversion group stores its codes with its stamp. -/
def Obligations.MemoryEnginesPinsAndConvertersFinish : Prop :=
  (∀ (a : BitVec 48) w t0 s, a.toNat ∈ s.stk.corr → readArray a.toNat .engine s = (some w, t0) →
    ∃ t, exec (.correctionWrite a) s = .next t ∧ t.rdMem a.toNat = w ∧ t.eccAt a.toNat = 0 ∧ a.toNat ∉ t.stk.corr ∧
      ∀ b, b ≠ a.toNat → t.rdMem b = s.rdMem b) ∧
  (∀ (a : BitVec 48) flips last bit s, s.bit R.STK_CTL F.STK_CTL_SCRUB_EN = true → s.bit R.STK_STAT F.STK_STAT_FILLED = true →
    pllsRun s = true → liveIndex a.toNat = none → scrubbed a.toNat = true → isWithdrawn a.toNat false s = false →
    eccFinds (s.eccAt a.toNat ^^^ flips) = some bit → ∃ t, exec (.scrubRead a flips last) s = .next t ∧
      t.eccAt a.toNat = s.eccAt a.toNat ^^^ flips ∧ t.mem = s.mem ∧ (bit ≠ 80 → a.toNat ∈ t.stk.corr) ∧
      t.get R.STK_STAT F.STK_STAT_PASSES = (s.get R.STK_STAT F.STK_STAT_PASSES + (if last then 1 else 0)) % 2 ^ 32) ∧
  (∀ failing f s, s.stk.fill = some f → ∃ t, exec (.fillComplete failing) s = .next t ∧ t.stk.fill = none ∧
    (∀ n a, n < 2048 → f.page ≤ n → n < f.page + f.count → pageWithdrawn n s = false → 4096 * n ≤ a → a < 4096 * n + 4096 →
      t.rdMem a = fillWord ∧ t.eccAt a = 0) ∧
    (f.test = true → failing = [] → t.get R.STK_TEST_RES F.STK_TEST_RES_FAILS = 0 ∧ t.bit R.STK_STAT F.STK_STAT_TEST_FAIL = false)) ∧
  (∀ (b : Fin 32) s, b.val ∈ s.stk.bankFill → ∃ t, exec (.bankFillDone b) s = .next t ∧ b.val ∉ t.stk.bankFill ∧
    (∀ n a, n / 64 = b.val → (s.reg (R.STK_WDk (n / 64))).getLsbD (n % 64) = false → (s.reg R.STK_BANKWD).getLsbD b.val = false →
      4096 * n ≤ a → a < 4096 * n + 4096 → t.rdMem a = fillWord)) ∧
  (∀ s x q, s.arch.inq = x :: q → tileClosed .archive s = false → pllsRun s = true → s.bit R.STK_STAT F.STK_STAT_FILLED = true →
    s.arch.last ≤ x.ev.stamp → x.ev.stamp + 64 ≤ s.now → s.get R.ARCH_STAT F.ARCH_STAT_COUNT < 1024 →
    ∃ t e, exec .archiveEntryWrite s = .next t ∧ t.arch.inq = q ∧
      spGet (fun _ => ({} : ArchEntry)) t.arch.live (s.get R.ARCH_STAT F.ARCH_STAT_HEAD) = e ∧ t.arch.retained.getLast? = some e ∧
      e.stamp = BitVec.ofNat 64 x.ev.stamp ∧ e.src = BitVec.ofNat 12 x.ev.src ∧ e.cls = x.cls ∧ e.payload = wv x.ev.payload ∧
      e.seq = BitVec.ofNat 32 (s.get R.ARCH_STAT F.ARCH_STAT_SEQ) ∧ e.gap = s.arch.gap ∧ e.late = false ∧
      t.get R.ARCH_STAT F.ARCH_STAT_COUNT = s.get R.ARCH_STAT F.ARCH_STAT_COUNT + 1 ∧
      t.get R.ARCH_STAT F.ARCH_STAT_HEAD = (s.get R.ARCH_STAT F.ARCH_STAT_HEAD + 1) % 1024 ∧
      t.get R.ARCH_STAT F.ARCH_STAT_SEQ = (s.get R.ARCH_STAT F.ARCH_STAT_SEQ + 1) % 2 ^ 32) ∧
  (∀ ok (data : Octets) chg s, s.stk.cmdRun = true → ∃ t, exec (.xspiCommandDone ok data chg) s = .next t ∧ t.stk.cmdRun = false ∧
    t.bit R.STK_XSPI_CMD F.STK_XSPI_CMD_BUSY = false ∧ (ok = false → t.bit R.STK_XSPI_CMD F.STK_XSPI_CMD_ERR = true) ∧
    (ok = true → s.bit R.STK_XSPI_CMD F.STK_XSPI_CMD_DIR = false → s.get R.STK_XSPI_CMD F.STK_XSPI_CMD_LEN ≤ 256 →
      ∀ j, j < s.get R.STK_XSPI_CMD F.STK_XSPI_CMD_LEN →
        t.get (R.STK_XSPI_BUFk (j / 8)) ⟨56 - 8 * (j % 8), 8⟩ = (data.getD j 0).toNat)) ∧
  (∀ s, s.stk.copyRun = true → tileClosed .xspi s = false → ∃ t, exec .xspiCopyDone s = .next t ∧ t.stk.copyRun = false ∧
    t.bit R.STK_XSPI_COPY F.STK_XSPI_COPY_BUSY = false) ∧
  (∀ (b : Fin 6) (j : Fin 8) ext s, gtcRuns s = true → s.power.pstate = .awake →
    s.get (R.IOC_GPIOk_CFG (8 * b.val + j.val)) F.IOC_GPIOk_CFG_FUNC = 0 → s.bit (R.IOC_GPIOk_CFG (8 * b.val + j.val)) F.IOC_GPIOk_CFG_OE = false →
    ∃ t, exec (.gpioEdge b ext) s = .next t ∧ t.pinSeen.getLsbD (8 * b.val + j.val) = ext.getLsbD j.val ∧
      (s.pinSeen.getLsbD (8 * b.val + j.val) ≠ ext.getLsbD j.val →
        s.get (R.IOC_GPIOk_CFG (8 * b.val + j.val)) F.IOC_GPIOk_CFG_EDGE = 3 ∨
          s.get (R.IOC_GPIOk_CFG (8 * b.val + j.val)) F.IOC_GPIOk_CFG_EDGE = (if ext.getLsbD j.val then 1 else 2) →
        (t.reg (R.IOC_GPIOBb_EVT b.val)).getLsbD j.val = true)) ∧
  (∀ (g : Fin 16) (codes : BitVec 96) st s, s.adc.find? (fun e => e.1 = g.val) = some (g.val, st) → adcBlocked g.val s = false →
    st + adcSpan g.val s ≤ s.now → ∃ t, exec (.adcGroupComplete g codes) s = .next t ∧
      t.bit (R.IOC_ADCg_CFG g.val) F.IOC_ADCg_CFG_BUSY = false ∧ t.reg (R.IOC_ADCg_STAMP g.val) = BitVec.ofNat 64 st ∧
      (∀ e ∈ t.adc, e.1 ≠ g.val) ∧
      ∀ i, i ≤ s.get (R.IOC_ADCg_CFG g.val) F.IOC_ADCg_CFG_LEN →
        wv (t.rdMem (R.IOC_ADCg_STAMP g.val + 1 + i)) = (codes >>> (12 * i)).setWidth 64 &&& 0xFFF)

/-- R517, R520, R522, R530 to R536: a command of queue q begins when its turn comes and its checks pass, and holds what the
operation computes from its source and its key; the one check that fails gives its code and leaves memory alone. -/
def Obligations.VaultCommandsStartWhenTheirChecksPass : Prop :=
  ∀ (q : Fin 16) (s : State) (x : VSpec), vaultRuns s = true → vbusy q.val s = true → (vjob q.val s).started = false →
    (vjob q.val s).code = none → vSpec q.val s = some x → vTurn q.val x.engine s = true →
    ∀ i ∈ ([(.encrypt q, 1), (.decrypt q, 2), (.mac q, 3), (.macVerify q, 4), (.hash q, 5), (.sign q, 6), (.verify q, 7), (.agree q, 8),
          (.encap q, 9), (.decap q, 10), (.kdf q, 11), (.generate q, 12), (.unwrap q, 13), (.wrap q, 14), (.pubkey q, 15), (.retire q, 16),
          (.erase q, 17), (.random q, 18), (.bookplate q, 19), (.holdcert q, 20), (.measure q, 21), (.svnAdvance q, 22),
          (.tamperClear q, 23), (.revokeRoot q, 24)] : List (Instr × Nat)), vop q.val s = i.2 →
      (vCodes q.val x s = [] → ∃ t, exec i.1 s = .next t ∧ t = vBegin q.val x s ∧
        (∀ src s1 r s2, vRead q.val (setVjob q.val { vjob q.val s with
              started := true, gtc := s.time.gtc,
              kids := (if x.types = [] then [] else [vKid q.val s]) ++ (if vop q.val s = 0x0E then [(vkid2 q.val s).getD 0] else []) } s) =
            (.inr src, s1) → vCompute q.val src s1 = (r, s2) → r.early = false → (vjob q.val s2).code = none →
          (vjob q.val t).out = r.out ∧ (vjob q.val t).made = r.key ∧
          (vjob q.val t).code = (if r.code = 0 then none else some r.code))) ∧
      (∀ c, c < 32 → vCodes q.val x s = [c] → ∃ t, exec i.1 s = .next t ∧ VaultCompleted q c t ∧ t.mem = s.mem)

/-- R18, R522, R523, R525, R526, R533, R536, R542 to R550: a command that ends without a fault clears BUSY, sets DONE with
its code and leaves a slot retired or empty, a measurement extended by SHA-384, the minimum version, the seal and the
revocation as the operation says; programming ends in an active slot; an orphan of a reset carrel is erased; a health
failure stops the generator until it recovers and is seeded again; a tamper event latches, seals and starts the zeroisation,
which leaves retired slots and erased secrets. -/
def Obligations.VaultCommandsCompleteAndSlotsFollow : Prop :=
  (∀ (q : Fin 16) s, vaultRuns s = true → vbusy q.val s = true → (vjob q.val s).started = true → (vjob q.val s).code = none →
    (vjob q.val s).claim = none → (vjob q.val s).made = none → (vjob q.val s).out = [] ∨ vop q.val s = 0x15 →
    ∃ t, exec (.vaultCommandDone q) s = .next t ∧ VaultCompleted q 0 t ∧
      (vop q.val s = 0x10 → vKid q.val s < 256 → slotAttr (vKid q.val s) aSTATE t = 2) ∧
      (vop q.val s = 0x11 → 1024 ≤ vKid q.val s → t.reg (attrReg (vKid q.val s)) = 0) ∧
      (vop q.val s = 0x15 → ∀ j : Fin 6, t.reg (R.VAULT_MEASm_j (vAux q.val s % 8) j.val) = BitVec.ofNat 64 (Crypto.beNat
        (((Crypto.sha384 (measOctets (vAux q.val s % 8) s ++ (vjob q.val s).out)).drop (8 * j.val)).take 8))) ∧
      (vop q.val s = 0x16 → t.get R.VAULT_FUSE F.VAULT_FUSE_MIN_SVN = vAux q.val s % 128) ∧
      (vop q.val s = 0x17 → sealed t = false) ∧
      (vop q.val s = 0x18 → (t.get R.VAULT_FUSE F.VAULT_FUSE_ROOT_REVOKE).testBit (vAux q.val s % 4) = true)) ∧
  (∀ (k : BitVec 8) s, (∃ e ∈ s.vault.prog, e.1 = k.toNat ∧ e.2 + 1000000 ≤ s.el) → ∃ t, exec (.slotProgrammingDone k) s = .next t ∧
    slotAttr k.toNat aSTATE t = 1 ∧ (∀ e ∈ t.vault.prog, e.1 ≠ k.toNat)) ∧
  (∀ (k : BitVec 11) s, 1024 ≤ k.toNat → slotAttr k.toNat aSTATE s = 3 → slotInUse k.toNat s = false →
    ∃ t, exec (.orphanErase k) s = .next t ∧ t.reg (attrReg k.toNat) = 0) ∧
  (∀ (kind : BitVec 2) s, kind ≠ 0 → ∃ t, exec (.entropyHealthFailure kind) s = .next t ∧
    t.bit R.VAULT_STAT F.VAULT_STAT_ENT_OK = false ∧
    t.get R.VAULT_ENT_STAT F.VAULT_ENT_STAT_RCT_FAIL = (if kind.getLsbD 0 then
      min (s.get R.VAULT_ENT_STAT F.VAULT_ENT_STAT_RCT_FAIL + 1) (Fld.top F.VAULT_ENT_STAT_RCT_FAIL)
      else s.get R.VAULT_ENT_STAT F.VAULT_ENT_STAT_RCT_FAIL)) ∧
  (∀ s, ∃ t, exec .entropyRecovery s = .next t ∧ t.bit R.VAULT_STAT F.VAULT_STAT_ENT_OK = true ∧ t.mem = s.mem) ∧
  (∀ s, reseedDue s = true → ∃ t, exec .drbgReseed s = .next t ∧
    drbgOk t = s.bit R.VAULT_STAT F.VAULT_STAT_ENT_OK ∧
    (s.bit R.VAULT_STAT F.VAULT_STAT_ENT_OK = true → t.vault.seeded = true ∧ t.vault.reqs = 0 ∧ t.vault.seedAt = s.el)) ∧
  (∀ (i : Fin 4) s, s.bit (R.VAULT_TAMPi_CFG i.val) F.VAULT_TAMPi_CFG_EN = true → s.power.vbatAon = true →
    ∃ t, exec (.tamperRecognised i) s = .next t ∧ (t.get R.VAULT_TAMP_STAT F.VAULT_TAMP_STAT_LATCH).testBit i.val = true ∧
      sealed t = true ∧ (2 ≤ tamperWhen s → s.vault.zero = [] →
        t.vault.zero = zeroiseSlots s ∧ (zeroiseSlots s ≠ [] → t.bit R.VAULT_TAMP_STAT F.VAULT_TAMP_STAT_ZPEND = true))) ∧
  (∀ s, s.vault.zero ≠ [] → zeroDone (s.vault.zero.length - 1) s = true → ∃ t, exec .zeroiseComplete s = .next t ∧ t.vault.zero = [] ∧
    t.get R.VAULT_TAMP_STAT F.VAULT_TAMP_STAT_ZPEND = 0 ∧
    ∀ k ∈ s.vault.zero, k < 256 → slotAttr k aSTATE t = 2 ∧ ∀ o ∈ (slotKey k t).secret, o = 0xFF)

/-! ### The twins -/

/-- R485 to R492, R564: one outbound transaction is open at a time, with its timeout; the response completes it; an inbound
one is checked as master 29 without the librarian flag, is refused while IN_EN is clear, and meets an open outbound one with
a crossing that side A wins; side B retries after GAP up to eight times; a timeout and a failed retry give FAILED and are
counted; a refusal reported by the other twin is logged with its time until the log is full. A semaphore has one holder: the
read that finds it free takes it with the reader's side and carrel, any other shows the holder, and only the holder or a
librarian releases it. -/
def Obligations.TwinBridgeAndSemaphores : Prop :=
  ((∀ ans s o q, bridgeRuns s = true → s.bridge.open_ = none → s.bridge.queue = o :: q → ∃ t, exec (.twinOutboundIssue ans) s = .next t ∧
    t.bridge.open_ = some o ∧ t.bridge.queue = q ∧ t.bridge.tmoAt = some (s.now + 1000 * s.get R.TWIN_BR_CTL F.TWIN_BR_CTL_TMO) ∧
    t.bridge.retryAt = none ∧ t.get R.TWIN_BR_STAT F.TWIN_BR_STAT_OUT_OPEN = 1) ∧
  (∀ w s o, bridgeRuns s = true → s.bridge.open_ = some o → 16 ≤ o.core → s.bridge.retryAt = none → s.bridge.queue = [] →
    s.bridge.inWait = none → ∃ t, exec (.twinOutboundIssue (.word w)) s = .next t ∧ t.resp = .word w ∧ t.bridge.open_ = none ∧
      t.bridge.tmoAt = none ∧ t.get R.TWIN_BR_STAT F.TWIN_BR_STAT_OUT_OPEN = 0 ∧ t.get R.TWIN_BR_STAT F.TWIN_BR_STAT_TRY = 0) ∧
  (∀ x s, bridgeRuns s = true → s.bit R.TWIN_BR_CTL F.TWIN_BR_CTL_IN_EN = true → (s.bridge.open_ = none ∨ s.bridge.retryAt ≠ none) →
    exec (.twinInboundArrival x) s = .next
      (let r := fabric { x with addr := (x.addr.setWidth 32).setWidth 48,
                                id := ⟨29, x.id.carrel, false, min2 x.id.crit (ceilingOf x.id.carrel.toNat s)⟩ } s
       { r.2 with resp := r.1 })) ∧
  (∀ x s, bridgeRuns s = true → s.bit R.TWIN_BR_CTL F.TWIN_BR_CTL_IN_EN = false →
    exec (.twinInboundArrival x) s = .next { s with resp := .err rFAILED }) ∧
  (∀ x s o, bridgeRuns s = true → s.bit R.TWIN_BR_CTL F.TWIN_BR_CTL_IN_EN = true → s.bridge.open_ = some o → s.bridge.retryAt = none →
    exec (.twinInboundArrival x) s = .next (if localSide s = 0 then { s with resp := .crossing }
      else { s with bridge := { s.bridge with inWait := some x } })) ∧
  (∀ s o, bridgeRuns s = true → localSide s = 1 → s.bridge.open_ = some o → s.bridge.retryAt = none → s.bridge.inWait = none →
    s.get R.TWIN_BR_STAT F.TWIN_BR_STAT_TRY < 8 → ∃ t, exec .crossingResponse s = .next t ∧
      t.bridge.open_ = some o ∧ t.bridge.retryAt = some (s.now + 100 * s.get R.TWIN_BR_CTL F.TWIN_BR_CTL_GAP) ∧ t.bridge.tmoAt = none ∧
      t.get R.TWIN_BR_STAT F.TWIN_BR_STAT_TRY = s.get R.TWIN_BR_STAT F.TWIN_BR_STAT_TRY + 1 ∧
      t.get R.TWIN_BR_STAT F.TWIN_BR_STAT_CROSSINGS =
        min (s.get R.TWIN_BR_STAT F.TWIN_BR_STAT_CROSSINGS + 1) (2 ^ F.TWIN_BR_STAT_CROSSINGS.width - 1)) ∧
  (∀ s o, bridgeRuns s = true → localSide s = 1 → s.bridge.open_ = some o → 16 ≤ o.core → s.bridge.retryAt = none → s.bridge.inWait = none →
    8 ≤ s.get R.TWIN_BR_STAT F.TWIN_BR_STAT_TRY → ∃ t, exec .crossingResponse s = .next t ∧
      t.bridge.open_ = none ∧ t.resp = .err rFAILED ∧
      t.get R.TWIN_BR_CNT F.TWIN_BR_CNT_RETRY_FAIL = min (s.get R.TWIN_BR_CNT F.TWIN_BR_CNT_RETRY_FAIL + 1) (2 ^ F.TWIN_BR_CNT_RETRY_FAIL.width - 1)) ∧
  (∀ s x, bridgeRuns s = true → s.bridge.retryAt = some x → x ≤ s.now → exec .bridgeRetry s = .next { s with
    bridge := { s.bridge with retryAt := none, tmoAt := some (s.now + 1000 * s.get R.TWIN_BR_CTL F.TWIN_BR_CTL_TMO) } }) ∧
  (∀ s o x, s.power.computeHeld = false → s.bridge.open_ = some o → 16 ≤ o.core → s.bridge.inWait = none → s.bridge.tmoAt = some x → x ≤ s.now →
    ∃ t, exec .bridgeAttemptTimeout s = .next t ∧ t.bridge.open_ = none ∧ t.resp = .err rFAILED ∧
      t.get R.TWIN_BR_CNT F.TWIN_BR_CNT_TIMEOUTS = min (s.get R.TWIN_BR_CNT F.TWIN_BR_CNT_TIMEOUTS + 1) (2 ^ F.TWIN_BR_CNT_TIMEOUTS.width - 1)) ∧
  (∀ (a : BitVec 32) (r : BitVec 3) s, bridgeRuns s = true → s.get R.TWIN_BR_LOGSTAT F.TWIN_BR_LOGSTAT_COUNT < 16 →
    s.get R.TWIN_BR_LOGSTAT F.TWIN_BR_LOGSTAT_HEAD < 16 → ∃ t, exec (.mirrorRefusalReport a r) s = .next t ∧
      t.get (R.TWIN_BR_LOGk_A (s.get R.TWIN_BR_LOGSTAT F.TWIN_BR_LOGSTAT_HEAD)) F.TWIN_BR_LOGk_A_ADDR = a.toNat ∧
      t.get (R.TWIN_BR_LOGk_A (s.get R.TWIN_BR_LOGSTAT F.TWIN_BR_LOGSTAT_HEAD)) F.TWIN_BR_LOGk_A_REASON = r.toNat ∧
      t.reg (R.TWIN_BR_LOGk_STAMP (s.get R.TWIN_BR_LOGSTAT F.TWIN_BR_LOGSTAT_HEAD)) = s.time.gtc ∧
      t.get R.TWIN_BR_LOGSTAT F.TWIN_BR_LOGSTAT_COUNT = s.get R.TWIN_BR_LOGSTAT F.TWIN_BR_LOGSTAT_COUNT + 1 ∧
      t.get R.TWIN_BR_LOGSTAT F.TWIN_BR_LOGSTAT_HEAD = (s.get R.TWIN_BR_LOGSTAT F.TWIN_BR_LOGSTAT_HEAD + 1) % 16) ∧
  (∀ (a : BitVec 32) (r : BitVec 3) s, bridgeRuns s = true → 16 ≤ s.get R.TWIN_BR_LOGSTAT F.TWIN_BR_LOGSTAT_COUNT →
    exec (.mirrorRefusalReport a r) s = .next (s.addSat R.TWIN_BR_LOGSTAT F.TWIN_BR_LOGSTAT_LOST 1))) ∧
  ((∀ (k : Fin 32) (id : Ident) s, bridgeRuns s = true → localSide s = 0 → s.bit (R.TWIN_SEMs k.val) F.TWIN_SEMs_HELD = false →
    ∃ t v, exec (.semaphoreAcquire k true id) s = .next t ∧ t.resp = .word (immw v) ∧ fget v F.TWIN_SEMs_GOT = 1 ∧
      t.get (R.TWIN_SEMs k.val) F.TWIN_SEMs_HELD = 1 ∧ t.get (R.TWIN_SEMs k.val) F.TWIN_SEMs_SIDE = 1 ∧
      t.get (R.TWIN_SEMs k.val) F.TWIN_SEMs_CARREL = id.carrel.toNat ∧ t.get (R.TWIN_SEMs k.val) F.TWIN_SEMs_GOT = 0) ∧
  (∀ (k : Fin 32) (id : Ident) s, bridgeRuns s = true → localSide s = 0 → s.bit (R.TWIN_SEMs k.val) F.TWIN_SEMs_HELD = true →
    exec (.semaphoreAcquire k true id) s = .next { s with resp := .word (immw (s.reg (R.TWIN_SEMs k.val))) }) ∧
  (∀ (k : Fin 32) (id : Ident) s, localSide s = 0 → accessCheck { kind := .read, addr := BitVec.ofNat 48 (R.TWIN_SEMs k.val), id := id } s = none →
    s.bit (R.TWIN_SEMs k.val) F.TWIN_SEMs_HELD = false →
    ∃ t v, exec (.semaphoreAcquire k false id) s = .next t ∧ t.resp = .word (immw v) ∧ fget v F.TWIN_SEMs_GOT = 1 ∧
      t.get (R.TWIN_SEMs k.val) F.TWIN_SEMs_HELD = 1 ∧ t.get (R.TWIN_SEMs k.val) F.TWIN_SEMs_SIDE = 0 ∧
      t.get (R.TWIN_SEMs k.val) F.TWIN_SEMs_CARREL = id.carrel.toNat) ∧
  (∀ (k : Fin 32) (id : Ident) s, bridgeRuns s = true → localSide s = 0 → s.bit (R.TWIN_SEMs k.val) F.TWIN_SEMs_HELD = true →
    exec (.semaphoreRelease k true id) s = .next (
      if id.lib = true ∨ (s.get (R.TWIN_SEMs k.val) F.TWIN_SEMs_SIDE = 1 ∧ s.get (R.TWIN_SEMs k.val) F.TWIN_SEMs_CARREL = id.carrel.toNat) then
        { s.setReg (R.TWIN_SEMs k.val) 0 with resp := .done }
      else { s with resp := .err rTARGET })) ∧
  (∀ (k : Fin 32) (id : Ident) s, localSide s = 0 →
    accessCheck { kind := .write, addr := BitVec.ofNat 48 (R.TWIN_SEMs k.val), id := id, data := immw (fput 0 F.TWIN_SEMs_RELEASE 1) } s = none →
    s.bit (R.TWIN_SEMs k.val) F.TWIN_SEMs_HELD = true → id.lib = true →
    exec (.semaphoreRelease k false id) s = .next { s.setReg (R.TWIN_SEMs k.val) 0 with resp := .done }))

/-- R555, R557 to R561, R565, R567, R568, R570 to R574, R579: heartbeat words pair the twins or show that both claim one
side; time words give the offset, valid after the fourth; lanes and the link go down and come up; the loss of link or
sideband moves the pair to the state its side gives it, and with both lost side A takes over and side B first watches the
loads; TAKE_IN takes over at once; a mirror record is applied where the map and the permit allow; events and demands are
relayed with their own sources. -/
def Obligations.TwinsPairLoseAndTakeOver : Prop :=
  (∀ (lane : Fin 2) side pairEn s, twinRuns s = true → twinLinkUp s = true →
    Nat.testBit (s.get R.TWIN_STAT F.TWIN_STAT_LANES) lane.val = true →
    ∃ t, exec (.heartbeatWord lane side pairEn) s = .next t ∧ t.twin.hbAt = s.now ∧ t.twin.peerPair = pairEn ∧
      t.twin.peerSide = some side ∧
      (pairEn = true → s.bit R.TWIN_CTL F.TWIN_CTL_PAIR_EN = true → side = decide (localSide s = 1) →
        twinState t = 0 ∧ t.bit R.TWIN_STAT F.TWIN_STAT_SIDE_CLASH = true) ∧
      (pairEn = true → s.bit R.TWIN_CTL F.TWIN_CTL_PAIR_EN = true → side = decide (localSide s = 0) →
        twinState s = 6 ∨ ((twinState s = 0 ∨ twinState s = 5) ∧ aliveOk s = true) → twinState t = 1)) ∧
  (∀ ofs rate s, twinRuns s = true → twinLinkUp s = true → ∃ t, exec (.timeWord ofs rate) s = .next t ∧
    t.reg R.TWIN_GTC_OFS = ofs ∧ t.get R.TWIN_GTC_STAT F.TWIN_GTC_STAT_RATE = rate.toNat ∧ t.twin.meas = s.twin.meas + 1 ∧
    (3 ≤ s.twin.meas → t.bit R.TWIN_GTC_STAT F.TWIN_GTC_STAT_VALID = true)) ∧
  (∀ (lane : Fin 2) s, twinRuns s = true → Nat.testBit (s.get R.TWIN_STAT F.TWIN_STAT_LANES) lane.val = true →
    ∃ t, exec (.laneDown lane) s = .next t ∧
      t.get R.TWIN_STAT F.TWIN_STAT_LANES = s.get R.TWIN_STAT F.TWIN_STAT_LANES - 2 ^ lane.val ∧
      (s.get R.TWIN_STAT F.TWIN_STAT_LANES = 2 ^ lane.val → twinLinkUp t = false)) ∧
  (∀ (lane : Fin 2) s, twinRuns s = true → twinLinkUp s = true →
    Nat.testBit (s.get R.TWIN_STAT F.TWIN_STAT_LANES) lane.val = false → ∃ t, exec (.laneUp lane) s = .next t ∧
      t.get R.TWIN_STAT F.TWIN_STAT_LANES = s.get R.TWIN_STAT F.TWIN_STAT_LANES + 2 ^ lane.val) ∧
  (∀ s, twinRuns s = true → twinLinkUp s = true → s.twin.hbAt + 60000 ≤ s.now → ∃ t, exec .twinLinkDown s = .next t ∧
    twinLinkUp t = false ∧ t.bit R.TWIN_GTC_STAT F.TWIN_GTC_STAT_VALID = false ∧ t.twin.peerPair = false ∧
    (twinState s = 1 → twinState t = 2) ∧ (twinState s = 3 → localSide s = 0 → twinState t = 5) ∧
    (twinState s = 3 → localSide s = 1 → twinState t = 4 ∧ t.twin.witAt = s.now)) ∧
  (∀ lanes peer s, twinRuns s = true → twinLinkUp s = false → lanes ≠ 0 → ∃ t, exec (.twinLinkUp lanes peer) s = .next t ∧
    Machine.twinLinkUp t = true ∧ t.get R.TWIN_STAT F.TWIN_STAT_LANES = lanes.toNat ∧ t.twin.hbAt = s.now ∧ t.twin.meas = 0 ∧
    (twinState s = 2 → twinState t = 1)) ∧
  (∀ s, twinRuns s = true → s.power.pstate ≠ .park → twinState s ≠ 6 ∨ s.twin.peerWake = true → s.twin.aliveAt + 20000 ≤ s.now →
    exec .twAliveToggle s = .next { s with twin := { s.twin with aliveOut := !s.twin.aliveOut, aliveAt := s.now } }) ∧
  (∀ s, twinRuns s = true → aliveOk s = true → ∃ t, exec .sidebandLost s = .next t ∧ aliveOk t = false ∧
    (twinState s = 1 → twinState t = 3) ∧ (twinState s = 2 → localSide s = 0 → twinState t = 5) ∧
    (twinState s = 2 → localSide s = 1 → twinState t = 4)) ∧
  (∀ s, twinRuns s = true → aliveOk s = false → ∃ t, exec .sidebandRecovered s = .next t ∧ aliveOk t = true ∧
    (twinState s = 3 → twinState t = 1)) ∧
  (∀ s, twinRuns s = true → s.bit R.TWIN_CTL F.TWIN_CTL_PAIR_EN = true → twinState s ∈ [1, 2, 3, 6] → takeOut s = false →
    ∃ t, exec .twTakeInRecognised s = .next t ∧ twinState t = 5 ∧ t.get R.TWIN_TK_STAT F.TWIN_TK_STAT_CAUSE = 1 ∧
      t.reg R.TWIN_TK_TIME = s.time.gtc ∧
      (∀ c : Fin 32, (mapEntry .chan c.val s).testBit 1 = true → mapEntry .chan c.val t % 2 = localSide s)) ∧
  (∀ (above : BitVec 32) s, twinRuns s = true → twinState s = 4 → s.twin.witAt + 100000 ≤ s.now →
    ∃ t, exec (.witnessWindowEnd above) s = .next t ∧ twinState t = 5 ∧
      t.get R.TWIN_TK_STAT F.TWIN_TK_STAT_VERDICT = (if ∀ c : Fin 32, considered c.val s = false then 3
        else if ∀ c : Fin 32, considered c.val s = true → above.getLsbD c.val = false then 1 else 2) ∧
      t.get R.TWIN_TK_STAT F.TWIN_TK_STAT_CAUSE = 3) ∧
  (∀ (k : BitVec 20) seq tofired word last s, twinRuns s = true → twinLinkUp s = true → s.stk.ecc = [] →
    s.bit R.TWIN_GTC_STAT F.TWIN_GTC_STAT_VALID = true → (descOf (s.rdMem (catA k.toNat 2))).kind = 0 →
    (mirrorRange k.toNat F.TWIN_MIRk_RECV s = true → hasRight (permitAddr (catA k.toNat 0) 29) .write s = true →
      ∃ t, exec (.mirrorRecordApply k seq tofired word last) s = .next t ∧ t.resp = .done ∧ t.rdMem (catA k.toNat 0) = word ∧
        t.rdMem (catA k.toNat 1) = word ∧
        t.get R.TWIN_MIR_CNT F.TWIN_MIR_CNT_APPLIED = (s.get R.TWIN_MIR_CNT F.TWIN_MIR_CNT_APPLIED + 1) % 2 ^ 32) ∧
    (mirrorRange k.toNat F.TWIN_MIRk_RECV s = false →
      exec (.mirrorRecordApply k seq tofired word last) s = .next { s with resp := .err rTARGET }) ∧
    (mirrorRange k.toNat F.TWIN_MIRk_RECV s = true → hasRight (permitAddr (catA k.toNat 0) 29) .write s = false →
      exec (.mirrorRecordApply k seq tofired word last) s = .next { s with resp := .err rPERMIT })) ∧
  (∀ (c : Fin 32) (w : BitVec 19) s, twinRuns s = true → twinLinkUp s = true → s.bit R.TWIN_GTC_STAT F.TWIN_GTC_STAT_VALID = true →
    ∃ t, exec (.demandRecord c w) s = .next t ∧ t.bit (R.TWIN_DEMc c.val) F.TWIN_DEMc_V = true ∧
      t.get (R.TWIN_DEMc c.val) F.TWIN_DEMc_MODE = (w.setWidth 2).toNat ∧
      t.get R.TWIN_MIR_CNT F.TWIN_MIR_CNT_APPLIED = (s.get R.TWIN_MIR_CNT F.TWIN_MIR_CNT_APPLIED + 1) % 2 ^ 32) ∧
  (∀ (k : Fin 6) src pay (st : BitVec 64) s, twinRuns s = true → twinLinkUp s = true → s.bit R.TWIN_GTC_STAT F.TWIN_GTC_STAT_VALID = true →
    (s.carrel 0).nq.last ≤ localStamp st.toNat s → ∃ t, exec (.twinRelayEvent k src pay st) s = .next t ∧
      (t.carrel 0).nq.wait.any (fun e => decide (e.src = 0x0D0 + k.val) && decide (e.stamp = localStamp st.toNat s) && e.twin) = true ∧
      (k = 2 → t.bit R.TWIN_STAT F.TWIN_STAT_PEER_BROKEN = true)) ∧
  (∀ s, twinRuns s = true → twinLinkUp s = true → twinState s = 1 → ∃ t, exec .departReceived s = .next t ∧ twinState t = 6 ∧
    t.twin.peerWake = false)
end

