-- ==== Sys2Proof/Laws/Flags.lean ====
section
/-!
SUPPORT. The views of a word that has been put together, and the laws of the merge and the clamp (R3, R34, R36).
-/
namespace Sys2Proof.Machine

open Sys2Proof

@[simp] theorem wv_mkw (v : Value) (p : Prov) : wv (mkw v p) = v := by
  unfold wv mkw
  exact BitVec.extractLsb'_append_eq_right
@[simp] theorem wp_mkw (v : Value) (p : Prov) : wp (mkw v p) = p := by
  unfold wp mkw
  exact BitVec.extractLsb'_append_eq_left
/-- A word is its two views. -/
theorem mkw_wv_wp (w : Word) : mkw (wv w) (wp w) = w := by
  unfold wv wp mkw
  apply BitVec.eq_of_getLsbD_eq
  intro i hi
  simp only [BitVec.getLsbD_append, BitVec.getLsbD_extractLsb']
  by_cases h : i < 64
  · simp [h]
  · have h1 : i - 64 < 8 := by omega
    have h2 : 64 + (i - 64) = i := by omega
    simp [h, h1, h2]

end Sys2Proof.Machine
end

