-- ==== Sys2Proof/Laws/Registers.lean ====
section
/-!
SUPPORT. What a write of a register is once its checks let it pass, and what leaves the block's address fields alone.
-/
namespace Sys2Proof.Laws

open Sys2Proof Machine Claim

/-- The value of a word that a register write carries. -/
theorem wv_immw (w : BitVec 64) : wv (immw w) = w := by simp [immw, wv_mkw]

/-- An MMIO address fits the address of a transaction. -/
theorem mmio_addr {a : Nat} (h : regionOf a = .mmio) : (BitVec.ofNat 48 a).toNat = a := by
  have hlt : a < 2 ^ 48 := by
    unfold regionOf at h
    repeat' split at h
    all_goals first | omega | cases h
  rw [BitVec.toNat_ofNat]
  exact Nat.mod_eq_of_lt hlt

/-- An accepted write leaves the register's new value, the action of its block, and done. -/
theorem regWriteTxn_accepted {id : Ident} {a : Nat} {w : BitVec 64} {s : State} (h : Accepted id a w s) :
    regWriteTxn id a w s = .next (wrote a w (blkActs (writeOf id a w) (s.reg a) w) s) := by
  obtain ⟨hp, hc, ⟨r, hr, hrf⟩, hb⟩ := h
  simp only [plainReg, Bool.and_eq_true, decide_eq_true_eq, Bool.not_eq_true'] at hp
  obtain ⟨⟨⟨⟨⟨⟨hm, hw⟩, hl⟩, hpe⟩, ho⟩, hs⟩, hmap⟩ := hp
  have ha := mmio_addr hm
  have hne : regionOf (BitVec.ofNat 48 a).toNat ≠ .twin := by rw [ha, hm]; decide
  unfold regWriteTxn outside
  rw [if_neg hne]
  unfold fabric
  change accessCheck { kind := .write, addr := BitVec.ofNat 48 a, id := id, data := immw w } s = none at hc
  rw [hc]
  simp only [perform, ha, hm, mmioWrite, hw, hl, hpe, ho, hs, hmap, hr, Bool.false_eq_true, if_false]
  simp only [newValue, hr] at hb
  simp only [regWrite, writeOf, ha, wv_immw, hrf, Bool.false_eq_true, if_false]
  simp only [writeOf] at hb
  rw [hb]
  simp only [Bool.false_eq_true, if_false, wrote, newValue, hr]

end Sys2Proof.Laws
end

