-- ==== Sys2Proof/Laws/Sparse.lean ====
section
/-!
SUPPORT. The laws of the sparse maps: a read after a write, and that every operation keeps the canonical form.
-/
namespace Sys2Proof.Machine

variable {V : Type}

theorem spGet_spIns_same (d : Nat → V) (m : List (Nat × V)) (a : Nat) (v : V) : spGet d (spIns m a v) a = v := by
  induction m with
  | nil => simp [spIns, spGet]
  | cons e t ih =>
    obtain ⟨k, x⟩ := e
    unfold spIns
    split
    · simp [spGet]
    · split
      · simp [spGet]
      · simp [spGet, *]

theorem spGet_spIns_other (d : Nat → V) (m : List (Nat × V)) {a b : Nat} (v : V) (h : b ≠ a) : spGet d (spIns m a v) b = spGet d m b := by
  induction m with
  | nil => simp [spIns, spGet, Ne.symm h]
  | cons e t ih =>
    obtain ⟨k, x⟩ := e
    unfold spIns
    split
    · subst_vars; simp [spGet, Ne.symm h]
    · split
      · simp [spGet, Ne.symm h]
      · simp only [spGet, ih]

theorem spGet_spDel_same (d : Nat → V) (m : List (Nat × V)) (a : Nat) : spGet d (spDel m a) a = d a := by
  induction m with
  | nil => rfl
  | cons e t ih =>
    obtain ⟨k, x⟩ := e
    unfold spDel
    split
    · exact ih
    · simp [spGet, *]

theorem spGet_spDel_other (d : Nat → V) (m : List (Nat × V)) {a b : Nat} (h : b ≠ a) : spGet d (spDel m a) b = spGet d m b := by
  induction m with
  | nil => rfl
  | cons e t ih =>
    obtain ⟨k, x⟩ := e
    unfold spDel
    split
    · subst_vars; simpa [spGet, Ne.symm h] using ih
    · simp only [spGet, ih]

variable [DecidableEq V]

/-- A read after a write of the same key gives the value written. -/
@[simp] theorem spGet_spPut_same (d : Nat → V) (m : List (Nat × V)) (a : Nat) (v : V) : spGet d (spPut d m a v) a = v := by
  unfold spPut
  split
  · rw [spGet_spDel_same]; exact Eq.symm ‹_›
  · exact spGet_spIns_same d m a v

/-- A write leaves every other key alone. -/
theorem spGet_spPut_other (d : Nat → V) (m : List (Nat × V)) {a b : Nat} (v : V) (h : b ≠ a) : spGet d (spPut d m a v) b = spGet d m b := by
  unfold spPut
  split
  · exact spGet_spDel_other d m h
  · exact spGet_spIns_other d m v h

theorem spGet_spPut (d : Nat → V) (m : List (Nat × V)) (a b : Nat) (v : V) :
    spGet d (spPut d m a v) b = if b = a then v else spGet d m b := by
  split
  · subst_vars; exact spGet_spPut_same d m _ v
  · exact spGet_spPut_other d m v ‹_›

theorem spWfFrom_weaken (d : Nat → V) (m : List (Nat × V)) {b b' : Nat} (h : b' ≤ b) (w : spWfFrom d b m = true) :
    spWfFrom d b' m = true := by
  cases m with
  | nil => rfl
  | cons e t =>
    obtain ⟨k, x⟩ := e
    simp only [spWfFrom, Bool.and_eq_true, decide_eq_true_eq] at w ⊢
    exact ⟨⟨Nat.le_trans h w.1.1, w.1.2⟩, w.2⟩

theorem spWfFrom_spIns (d : Nat → V) (m : List (Nat × V)) (a : Nat) (v : V) (hv : v ≠ d a) {b : Nat} (hb : b ≤ a)
    (w : spWfFrom d b m = true) : spWfFrom d b (spIns m a v) = true := by
  induction m generalizing b with
  | nil => simp [spIns, spWfFrom, hb, hv]
  | cons e t ih =>
    obtain ⟨k, x⟩ := e
    simp only [spWfFrom, Bool.and_eq_true, decide_eq_true_eq] at w
    unfold spIns
    split
    · subst_vars; simp [spWfFrom, hb, hv, w.2]
    · split
      · simp [spWfFrom, hb, hv, w.1.2, w.2]; omega
      · simp only [spWfFrom, Bool.and_eq_true, decide_eq_true_eq]
        exact ⟨w.1, ih (by omega) w.2⟩

theorem spWfFrom_spDel (d : Nat → V) (m : List (Nat × V)) (a : Nat) {b : Nat} (w : spWfFrom d b m = true) :
    spWfFrom d b (spDel m a) = true := by
  induction m generalizing b with
  | nil => rfl
  | cons e t ih =>
    obtain ⟨k, x⟩ := e
    simp only [spWfFrom, Bool.and_eq_true, decide_eq_true_eq] at w
    unfold spDel
    split
    · exact spWfFrom_weaken d _ (Nat.le_succ_of_le w.1.1) (ih w.2)
    · simp only [spWfFrom, Bool.and_eq_true, decide_eq_true_eq]
      exact ⟨w.1, ih w.2⟩

/-- A write keeps the canonical form. -/
theorem spWf_spPut (d : Nat → V) (m : List (Nat × V)) (a : Nat) (v : V) (w : spWf d m = true) : spWf d (spPut d m a v) = true := by
  unfold spPut spWf
  split
  · exact spWfFrom_spDel d m a w
  · exact spWfFrom_spIns d m a v ‹_› (Nat.zero_le _) w

theorem spWfFrom_filter (d : Nat → V) (p : Nat × V → Bool) (m : List (Nat × V)) {b : Nat} (w : spWfFrom d b m = true) :
    spWfFrom d b (m.filter p) = true := by
  induction m generalizing b with
  | nil => rfl
  | cons e t ih =>
    obtain ⟨k, x⟩ := e
    simp only [spWfFrom, Bool.and_eq_true, decide_eq_true_eq] at w
    simp only [List.filter_cons]
    split
    · simp only [spWfFrom, Bool.and_eq_true, decide_eq_true_eq]
      exact ⟨w.1, ih w.2⟩
    · exact spWfFrom_weaken d _ (Nat.le_succ_of_le w.1.1) (ih w.2)

/-- Dropping keys keeps the canonical form. -/
theorem spWf_spKeep (d : Nat → V) (p : Nat → Bool) (m : List (Nat × V)) (w : spWf d m = true) : spWf d (spKeep p m) = true :=
  spWfFrom_filter d _ m w

/-- Below the lowest key a map reads its default. -/
theorem spGet_lt (d : Nat → V) (m : List (Nat × V)) {a b : Nat} (h : a < b) (w : spWfFrom d b m = true) : spGet d m a = d a := by
  induction m generalizing b with
  | nil => rfl
  | cons e t ih =>
    obtain ⟨k, x⟩ := e
    simp only [spWfFrom, Bool.and_eq_true, decide_eq_true_eq] at w
    have : k ≠ a := by omega
    simp only [spGet, this, if_false]
    exact ih (b := k + 1) (by omega) w.2

theorem spWfFrom_ext (d : Nat → V) (m n : List (Nat × V)) {b : Nat} (wm : spWfFrom d b m = true) (wn : spWfFrom d b n = true)
    (h : ∀ a, spGet d m a = spGet d n a) : m = n := by
  induction m generalizing n b with
  | nil =>
    cases n with
    | nil => rfl
    | cons e t =>
      obtain ⟨k, x⟩ := e
      simp only [spWfFrom, Bool.and_eq_true, decide_eq_true_eq] at wn
      exact absurd (by simpa [spGet] using (h k).symm) wn.1.2
  | cons e t ih =>
    obtain ⟨k, x⟩ := e
    have wm' := wm
    simp only [spWfFrom, Bool.and_eq_true, decide_eq_true_eq] at wm
    cases n with
    | nil => exact absurd (by simpa [spGet] using h k) wm.1.2
    | cons e' t' =>
      obtain ⟨k', x'⟩ := e'
      have wn' := wn
      simp only [spWfFrom, Bool.and_eq_true, decide_eq_true_eq] at wn
      have hk : k = k' := by
        rcases Nat.lt_trichotomy k k' with lt | eq | gt
        · have h1 := h k
          have w2 : spWfFrom d k' ((k', x') :: t') = true := by simp [spWfFrom, wn.1.2, wn.2]
          rw [spGet_lt d _ lt w2] at h1
          exact absurd (by simpa [spGet] using h1) wm.1.2
        · exact eq
        · have h1 := h k'
          have w2 : spWfFrom d k ((k, x) :: t) = true := by simp [spWfFrom, wm.1.2, wm.2]
          rw [spGet_lt d _ gt w2] at h1
          exact absurd (by simpa [spGet] using h1.symm) wn.1.2
      subst hk
      have hx : x = x' := by simpa [spGet] using h k
      subst hx
      congr 1
      refine ih t' wm.2 wn.2 fun a => ?_
      by_cases ha : k = a
      · subst ha
        rw [spGet_lt d t (Nat.lt_succ_self _) wm.2, spGet_lt d t' (Nat.lt_succ_self _) wn.2]
      · simpa [spGet, ha] using h a

/-- Maps in canonical form are equal data when they read alike at every key. -/
theorem spWf_ext (d : Nat → V) (m n : List (Nat × V)) (wm : spWf d m = true) (wn : spWf d n = true)
    (h : ∀ a, spGet d m a = spGet d n a) : m = n := spWfFrom_ext d m n wm wn h

end Sys2Proof.Machine
end

