-- ==== Sys2Proof/Laws/State.lean ====
section
/-!
SUPPORT. What each update of State leaves: one lemma a field and update, so that no proof unfolds a record update.
-/
namespace Sys2Proof.Machine

open Sys2Proof

variable (s : State)

@[simp] theorem setReg_pending (a : Nat) (v : BitVec 64) : (s.setReg a v).pending = s.pending := rfl
@[simp] theorem setReg_caps (a : Nat) (v : BitVec 64) : (s.setReg a v).caps = s.caps := rfl
@[simp] theorem setReg_mem (a : Nat) (v : BitVec 64) : (s.setReg a v).mem = s.mem := rfl
@[simp] theorem setReg_resp (a : Nat) (v : BitVec 64) : (s.setReg a v).resp = s.resp := rfl
@[simp] theorem setReg_fresh (a : Nat) (v : BitVec 64) : (s.setReg a v).fresh = s.fresh := rfl
@[simp] theorem setReg_closed (a : Nat) (v : BitVec 64) : (s.setReg a v).closed = s.closed := rfl
@[simp] theorem setReg_linkUp (a : Nat) (v : BitVec 64) : (s.setReg a v).linkUp = s.linkUp := rfl
@[simp] theorem setReg_time (a : Nat) (v : BitVec 64) : (s.setReg a v).time = s.time := rfl
@[simp] theorem setReg_faults (a : Nat) (v : BitVec 64) : (s.setReg a v).faults = s.faults := rfl
@[simp] theorem setReg_arch (a : Nat) (v : BitVec 64) : (s.setReg a v).arch = s.arch := rfl
@[simp] theorem setReg_stk (a : Nat) (v : BitVec 64) : (s.setReg a v).stk = s.stk := rfl
@[simp] theorem setReg_bridge (a : Nat) (v : BitVec 64) : (s.setReg a v).bridge = s.bridge := rfl
@[simp] theorem setReg_power (a : Nat) (v : BitVec 64) : (s.setReg a v).power = s.power := rfl
@[simp] theorem setReg_load (a : Nat) (v : BitVec 64) : (s.setReg a v).load = s.load := rfl
@[simp] theorem setReg_chans (a : Nat) (v : BitVec 64) : (s.setReg a v).chans = s.chans := rfl
@[simp] theorem setReg_cores (a : Nat) (v : BitVec 64) : (s.setReg a v).cores = s.cores := rfl
@[simp] theorem setReg_pairs (a : Nat) (v : BitVec 64) : (s.setReg a v).pairs = s.pairs := rfl
@[simp] theorem setReg_handover (a : Nat) (v : BitVec 64) : (s.setReg a v).handover = s.handover := rfl
@[simp] theorem setReg_carrels (a : Nat) (v : BitVec 64) : (s.setReg a v).carrels = s.carrels := rfl
@[simp] theorem setReg_adc (a : Nat) (v : BitVec 64) : (s.setReg a v).adc = s.adc := rfl
@[simp] theorem setReg_relays (a : Nat) (v : BitVec 64) : (s.setReg a v).relays = s.relays := rfl
@[simp] theorem setReg_pinLast (a : Nat) (v : BitVec 64) : (s.setReg a v).pinLast = s.pinLast := rfl
@[simp] theorem setReg_pinExt (a : Nat) (v : BitVec 64) : (s.setReg a v).pinExt = s.pinExt := rfl
@[simp] theorem setReg_pinSeen (a : Nat) (v : BitVec 64) : (s.setReg a v).pinSeen = s.pinSeen := rfl
@[simp] theorem setReg_trgLate (a : Nat) (v : BitVec 64) : (s.setReg a v).trgLate = s.trgLate := rfl
@[simp] theorem setReg_cat (a : Nat) (v : BitVec 64) : (s.setReg a v).cat = s.cat := rfl
@[simp] theorem setReg_coll (a : Nat) (v : BitVec 64) : (s.setReg a v).coll = s.coll := rfl
@[simp] theorem setReg_cans (a : Nat) (v : BitVec 64) : (s.setReg a v).cans = s.cans := rfl
@[simp] theorem setReg_lins (a : Nat) (v : BitVec 64) : (s.setReg a v).lins = s.lins := rfl
@[simp] theorem setReg_sw (a : Nat) (v : BitVec 64) : (s.setReg a v).sw = s.sw := rfl
@[simp] theorem setReg_wings (a : Nat) (v : BitVec 64) : (s.setReg a v).wings = s.wings := rfl
@[simp] theorem setReg_tokens (a : Nat) (v : BitVec 64) : (s.setReg a v).tokens = s.tokens := rfl
@[simp] theorem setReg_mirror (a : Nat) (v : BitVec 64) : (s.setReg a v).mirror = s.mirror := rfl
@[simp] theorem setReg_mirrorAt (a : Nat) (v : BitVec 64) : (s.setReg a v).mirrorAt = s.mirrorAt := rfl
@[simp] theorem setReg_vault (a : Nat) (v : BitVec 64) : (s.setReg a v).vault = s.vault := rfl
@[simp] theorem setReg_twin (a : Nat) (v : BitVec 64) : (s.setReg a v).twin = s.twin := rfl
@[simp] theorem setReg_rose (a : Nat) (v : BitVec 64) : (s.setReg a v).rose = s.rose := rfl
@[simp] theorem setReg_roseAt (a : Nat) (v : BitVec 64) : (s.setReg a v).roseAt = s.roseAt := rfl
@[simp] theorem setReg_core (a : Nat) (v : BitVec 64) (k : Nat) : (s.setReg a v).core k = s.core k := rfl
@[simp] theorem setReg_pair (a : Nat) (v : BitVec 64) (k : Nat) : (s.setReg a v).pair k = s.pair k := rfl
@[simp] theorem setReg_carrel (a : Nat) (v : BitVec 64) (k : Nat) : (s.setReg a v).carrel k = s.carrel k := rfl
@[simp] theorem setReg_chan (a : Nat) (v : BitVec 64) (k : Nat) : (s.setReg a v).chan k = s.chan k := rfl
@[simp] theorem setReg_eccAt (a : Nat) (v : BitVec 64) (k : Nat) : (s.setReg a v).eccAt k = s.eccAt k := rfl
@[simp] theorem setReg_can (a : Nat) (v : BitVec 64) (k : Nat) : (s.setReg a v).can k = s.can k := rfl
@[simp] theorem setReg_lin (a : Nat) (v : BitVec 64) (k : Nat) : (s.setReg a v).lin k = s.lin k := rfl
@[simp] theorem setReg_wing (a : Nat) (v : BitVec 64) (k : Nat) : (s.setReg a v).wing k = s.wing k := rfl
@[simp] theorem setReg_cu (a : Nat) (v : BitVec 64) (k : Nat) : (s.setReg a v).cu k = s.cu k := rfl
@[simp] theorem setReg_rx (a : Nat) (v : BitVec 64) (k : Nat) : (s.setReg a v).rx k = s.rx k := rfl
@[simp] theorem setReg_rdMem (a : Nat) (v : BitVec 64) (k : Nat) : (s.setReg a v).rdMem k = s.rdMem k := rfl
@[simp] theorem setReg_now (a : Nat) (v : BitVec 64)  : (s.setReg a v).now = s.now  := rfl
@[simp] theorem setReg_el (a : Nat) (v : BitVec 64)  : (s.setReg a v).el  = s.el  := rfl
@[simp] theorem setReg_pnow (a : Nat) (v : BitVec 64)  : (s.setReg a v).pnow  = s.pnow  := rfl

@[simp] theorem noteRose_pending (a : Nat) (m : BitVec 64) : (s.noteRose a m).pending = s.pending := rfl
@[simp] theorem noteRose_regs (a : Nat) (m : BitVec 64) : (s.noteRose a m).regs = s.regs := rfl
@[simp] theorem noteRose_caps (a : Nat) (m : BitVec 64) : (s.noteRose a m).caps = s.caps := rfl
@[simp] theorem noteRose_mem (a : Nat) (m : BitVec 64) : (s.noteRose a m).mem = s.mem := rfl
@[simp] theorem noteRose_resp (a : Nat) (m : BitVec 64) : (s.noteRose a m).resp = s.resp := rfl
@[simp] theorem noteRose_fresh (a : Nat) (m : BitVec 64) : (s.noteRose a m).fresh = s.fresh := rfl
@[simp] theorem noteRose_closed (a : Nat) (m : BitVec 64) : (s.noteRose a m).closed = s.closed := rfl
@[simp] theorem noteRose_linkUp (a : Nat) (m : BitVec 64) : (s.noteRose a m).linkUp = s.linkUp := rfl
@[simp] theorem noteRose_time (a : Nat) (m : BitVec 64) : (s.noteRose a m).time = s.time := rfl
@[simp] theorem noteRose_faults (a : Nat) (m : BitVec 64) : (s.noteRose a m).faults = s.faults := rfl
@[simp] theorem noteRose_arch (a : Nat) (m : BitVec 64) : (s.noteRose a m).arch = s.arch := rfl
@[simp] theorem noteRose_stk (a : Nat) (m : BitVec 64) : (s.noteRose a m).stk = s.stk := rfl
@[simp] theorem noteRose_bridge (a : Nat) (m : BitVec 64) : (s.noteRose a m).bridge = s.bridge := rfl
@[simp] theorem noteRose_power (a : Nat) (m : BitVec 64) : (s.noteRose a m).power = s.power := rfl
@[simp] theorem noteRose_load (a : Nat) (m : BitVec 64) : (s.noteRose a m).load = s.load := rfl
@[simp] theorem noteRose_chans (a : Nat) (m : BitVec 64) : (s.noteRose a m).chans = s.chans := rfl
@[simp] theorem noteRose_cores (a : Nat) (m : BitVec 64) : (s.noteRose a m).cores = s.cores := rfl
@[simp] theorem noteRose_pairs (a : Nat) (m : BitVec 64) : (s.noteRose a m).pairs = s.pairs := rfl
@[simp] theorem noteRose_handover (a : Nat) (m : BitVec 64) : (s.noteRose a m).handover = s.handover := rfl
@[simp] theorem noteRose_carrels (a : Nat) (m : BitVec 64) : (s.noteRose a m).carrels = s.carrels := rfl
@[simp] theorem noteRose_adc (a : Nat) (m : BitVec 64) : (s.noteRose a m).adc = s.adc := rfl
@[simp] theorem noteRose_relays (a : Nat) (m : BitVec 64) : (s.noteRose a m).relays = s.relays := rfl
@[simp] theorem noteRose_pinLast (a : Nat) (m : BitVec 64) : (s.noteRose a m).pinLast = s.pinLast := rfl
@[simp] theorem noteRose_pinExt (a : Nat) (m : BitVec 64) : (s.noteRose a m).pinExt = s.pinExt := rfl
@[simp] theorem noteRose_pinSeen (a : Nat) (m : BitVec 64) : (s.noteRose a m).pinSeen = s.pinSeen := rfl
@[simp] theorem noteRose_trgLate (a : Nat) (m : BitVec 64) : (s.noteRose a m).trgLate = s.trgLate := rfl
@[simp] theorem noteRose_cat (a : Nat) (m : BitVec 64) : (s.noteRose a m).cat = s.cat := rfl
@[simp] theorem noteRose_coll (a : Nat) (m : BitVec 64) : (s.noteRose a m).coll = s.coll := rfl
@[simp] theorem noteRose_cans (a : Nat) (m : BitVec 64) : (s.noteRose a m).cans = s.cans := rfl
@[simp] theorem noteRose_lins (a : Nat) (m : BitVec 64) : (s.noteRose a m).lins = s.lins := rfl
@[simp] theorem noteRose_sw (a : Nat) (m : BitVec 64) : (s.noteRose a m).sw = s.sw := rfl
@[simp] theorem noteRose_wings (a : Nat) (m : BitVec 64) : (s.noteRose a m).wings = s.wings := rfl
@[simp] theorem noteRose_tokens (a : Nat) (m : BitVec 64) : (s.noteRose a m).tokens = s.tokens := rfl
@[simp] theorem noteRose_mirror (a : Nat) (m : BitVec 64) : (s.noteRose a m).mirror = s.mirror := rfl
@[simp] theorem noteRose_mirrorAt (a : Nat) (m : BitVec 64) : (s.noteRose a m).mirrorAt = s.mirrorAt := rfl
@[simp] theorem noteRose_vault (a : Nat) (m : BitVec 64) : (s.noteRose a m).vault = s.vault := rfl
@[simp] theorem noteRose_twin (a : Nat) (m : BitVec 64) : (s.noteRose a m).twin = s.twin := rfl
@[simp] theorem noteRose_reg (a : Nat) (m : BitVec 64) (r : Nat) : (s.noteRose a m).reg r = s.reg r := rfl
@[simp] theorem noteRose_core (a : Nat) (m : BitVec 64) (k : Nat) : (s.noteRose a m).core k = s.core k := rfl
@[simp] theorem noteRose_pair (a : Nat) (m : BitVec 64) (k : Nat) : (s.noteRose a m).pair k = s.pair k := rfl
@[simp] theorem noteRose_carrel (a : Nat) (m : BitVec 64) (k : Nat) : (s.noteRose a m).carrel k = s.carrel k := rfl
@[simp] theorem noteRose_chan (a : Nat) (m : BitVec 64) (k : Nat) : (s.noteRose a m).chan k = s.chan k := rfl
@[simp] theorem noteRose_eccAt (a : Nat) (m : BitVec 64) (k : Nat) : (s.noteRose a m).eccAt k = s.eccAt k := rfl
@[simp] theorem noteRose_can (a : Nat) (m : BitVec 64) (k : Nat) : (s.noteRose a m).can k = s.can k := rfl
@[simp] theorem noteRose_lin (a : Nat) (m : BitVec 64) (k : Nat) : (s.noteRose a m).lin k = s.lin k := rfl
@[simp] theorem noteRose_wing (a : Nat) (m : BitVec 64) (k : Nat) : (s.noteRose a m).wing k = s.wing k := rfl
@[simp] theorem noteRose_cu (a : Nat) (m : BitVec 64) (k : Nat) : (s.noteRose a m).cu k = s.cu k := rfl
@[simp] theorem noteRose_rx (a : Nat) (m : BitVec 64) (k : Nat) : (s.noteRose a m).rx k = s.rx k := rfl
@[simp] theorem noteRose_rdMem (a : Nat) (m : BitVec 64) (k : Nat) : (s.noteRose a m).rdMem k = s.rdMem k := rfl
@[simp] theorem noteRose_now (a : Nat) (m : BitVec 64)  : (s.noteRose a m).now = s.now  := rfl
@[simp] theorem noteRose_el (a : Nat) (m : BitVec 64)  : (s.noteRose a m).el  = s.el  := rfl
@[simp] theorem noteRose_pnow (a : Nat) (m : BitVec 64)  : (s.noteRose a m).pnow  = s.pnow  := rfl

@[simp] theorem setCore_pending (c : Nat) (x : Core) : (s.setCore c x).pending = s.pending := rfl
@[simp] theorem setCore_regs (c : Nat) (x : Core) : (s.setCore c x).regs = s.regs := rfl
@[simp] theorem setCore_caps (c : Nat) (x : Core) : (s.setCore c x).caps = s.caps := rfl
@[simp] theorem setCore_mem (c : Nat) (x : Core) : (s.setCore c x).mem = s.mem := rfl
@[simp] theorem setCore_resp (c : Nat) (x : Core) : (s.setCore c x).resp = s.resp := rfl
@[simp] theorem setCore_fresh (c : Nat) (x : Core) : (s.setCore c x).fresh = s.fresh := rfl
@[simp] theorem setCore_closed (c : Nat) (x : Core) : (s.setCore c x).closed = s.closed := rfl
@[simp] theorem setCore_linkUp (c : Nat) (x : Core) : (s.setCore c x).linkUp = s.linkUp := rfl
@[simp] theorem setCore_time (c : Nat) (x : Core) : (s.setCore c x).time = s.time := rfl
@[simp] theorem setCore_faults (c : Nat) (x : Core) : (s.setCore c x).faults = s.faults := rfl
@[simp] theorem setCore_arch (c : Nat) (x : Core) : (s.setCore c x).arch = s.arch := rfl
@[simp] theorem setCore_stk (c : Nat) (x : Core) : (s.setCore c x).stk = s.stk := rfl
@[simp] theorem setCore_bridge (c : Nat) (x : Core) : (s.setCore c x).bridge = s.bridge := rfl
@[simp] theorem setCore_power (c : Nat) (x : Core) : (s.setCore c x).power = s.power := rfl
@[simp] theorem setCore_load (c : Nat) (x : Core) : (s.setCore c x).load = s.load := rfl
@[simp] theorem setCore_chans (c : Nat) (x : Core) : (s.setCore c x).chans = s.chans := rfl
@[simp] theorem setCore_pairs (c : Nat) (x : Core) : (s.setCore c x).pairs = s.pairs := rfl
@[simp] theorem setCore_handover (c : Nat) (x : Core) : (s.setCore c x).handover = s.handover := rfl
@[simp] theorem setCore_carrels (c : Nat) (x : Core) : (s.setCore c x).carrels = s.carrels := rfl
@[simp] theorem setCore_adc (c : Nat) (x : Core) : (s.setCore c x).adc = s.adc := rfl
@[simp] theorem setCore_relays (c : Nat) (x : Core) : (s.setCore c x).relays = s.relays := rfl
@[simp] theorem setCore_pinLast (c : Nat) (x : Core) : (s.setCore c x).pinLast = s.pinLast := rfl
@[simp] theorem setCore_pinExt (c : Nat) (x : Core) : (s.setCore c x).pinExt = s.pinExt := rfl
@[simp] theorem setCore_pinSeen (c : Nat) (x : Core) : (s.setCore c x).pinSeen = s.pinSeen := rfl
@[simp] theorem setCore_trgLate (c : Nat) (x : Core) : (s.setCore c x).trgLate = s.trgLate := rfl
@[simp] theorem setCore_cat (c : Nat) (x : Core) : (s.setCore c x).cat = s.cat := rfl
@[simp] theorem setCore_coll (c : Nat) (x : Core) : (s.setCore c x).coll = s.coll := rfl
@[simp] theorem setCore_cans (c : Nat) (x : Core) : (s.setCore c x).cans = s.cans := rfl
@[simp] theorem setCore_lins (c : Nat) (x : Core) : (s.setCore c x).lins = s.lins := rfl
@[simp] theorem setCore_sw (c : Nat) (x : Core) : (s.setCore c x).sw = s.sw := rfl
@[simp] theorem setCore_wings (c : Nat) (x : Core) : (s.setCore c x).wings = s.wings := rfl
@[simp] theorem setCore_tokens (c : Nat) (x : Core) : (s.setCore c x).tokens = s.tokens := rfl
@[simp] theorem setCore_mirror (c : Nat) (x : Core) : (s.setCore c x).mirror = s.mirror := rfl
@[simp] theorem setCore_mirrorAt (c : Nat) (x : Core) : (s.setCore c x).mirrorAt = s.mirrorAt := rfl
@[simp] theorem setCore_vault (c : Nat) (x : Core) : (s.setCore c x).vault = s.vault := rfl
@[simp] theorem setCore_twin (c : Nat) (x : Core) : (s.setCore c x).twin = s.twin := rfl
@[simp] theorem setCore_rose (c : Nat) (x : Core) : (s.setCore c x).rose = s.rose := rfl
@[simp] theorem setCore_roseAt (c : Nat) (x : Core) : (s.setCore c x).roseAt = s.roseAt := rfl
@[simp] theorem setCore_reg (c : Nat) (x : Core) (a : Nat) : (s.setCore c x).reg a = s.reg a := rfl
@[simp] theorem setCore_pair (c : Nat) (x : Core) (k : Nat) : (s.setCore c x).pair k = s.pair k := rfl
@[simp] theorem setCore_carrel (c : Nat) (x : Core) (k : Nat) : (s.setCore c x).carrel k = s.carrel k := rfl
@[simp] theorem setCore_chan (c : Nat) (x : Core) (k : Nat) : (s.setCore c x).chan k = s.chan k := rfl
@[simp] theorem setCore_eccAt (c : Nat) (x : Core) (k : Nat) : (s.setCore c x).eccAt k = s.eccAt k := rfl
@[simp] theorem setCore_can (c : Nat) (x : Core) (k : Nat) : (s.setCore c x).can k = s.can k := rfl
@[simp] theorem setCore_lin (c : Nat) (x : Core) (k : Nat) : (s.setCore c x).lin k = s.lin k := rfl
@[simp] theorem setCore_wing (c : Nat) (x : Core) (k : Nat) : (s.setCore c x).wing k = s.wing k := rfl
@[simp] theorem setCore_cu (c : Nat) (x : Core) (k : Nat) : (s.setCore c x).cu k = s.cu k := rfl
@[simp] theorem setCore_rx (c : Nat) (x : Core) (k : Nat) : (s.setCore c x).rx k = s.rx k := rfl
@[simp] theorem setCore_rdMem (c : Nat) (x : Core) (k : Nat) : (s.setCore c x).rdMem k = s.rdMem k := rfl
@[simp] theorem setCore_now (c : Nat) (x : Core)  : (s.setCore c x).now = s.now  := rfl
@[simp] theorem setCore_el (c : Nat) (x : Core)  : (s.setCore c x).el  = s.el  := rfl
@[simp] theorem setCore_pnow (c : Nat) (x : Core)  : (s.setCore c x).pnow  = s.pnow  := rfl

@[simp] theorem setPair_pending (p : Nat) (x : PairSt) : (s.setPair p x).pending = s.pending := rfl
@[simp] theorem setPair_regs (p : Nat) (x : PairSt) : (s.setPair p x).regs = s.regs := rfl
@[simp] theorem setPair_caps (p : Nat) (x : PairSt) : (s.setPair p x).caps = s.caps := rfl
@[simp] theorem setPair_mem (p : Nat) (x : PairSt) : (s.setPair p x).mem = s.mem := rfl
@[simp] theorem setPair_resp (p : Nat) (x : PairSt) : (s.setPair p x).resp = s.resp := rfl
@[simp] theorem setPair_fresh (p : Nat) (x : PairSt) : (s.setPair p x).fresh = s.fresh := rfl
@[simp] theorem setPair_closed (p : Nat) (x : PairSt) : (s.setPair p x).closed = s.closed := rfl
@[simp] theorem setPair_linkUp (p : Nat) (x : PairSt) : (s.setPair p x).linkUp = s.linkUp := rfl
@[simp] theorem setPair_time (p : Nat) (x : PairSt) : (s.setPair p x).time = s.time := rfl
@[simp] theorem setPair_faults (p : Nat) (x : PairSt) : (s.setPair p x).faults = s.faults := rfl
@[simp] theorem setPair_arch (p : Nat) (x : PairSt) : (s.setPair p x).arch = s.arch := rfl
@[simp] theorem setPair_stk (p : Nat) (x : PairSt) : (s.setPair p x).stk = s.stk := rfl
@[simp] theorem setPair_bridge (p : Nat) (x : PairSt) : (s.setPair p x).bridge = s.bridge := rfl
@[simp] theorem setPair_power (p : Nat) (x : PairSt) : (s.setPair p x).power = s.power := rfl
@[simp] theorem setPair_load (p : Nat) (x : PairSt) : (s.setPair p x).load = s.load := rfl
@[simp] theorem setPair_chans (p : Nat) (x : PairSt) : (s.setPair p x).chans = s.chans := rfl
@[simp] theorem setPair_cores (p : Nat) (x : PairSt) : (s.setPair p x).cores = s.cores := rfl
@[simp] theorem setPair_handover (p : Nat) (x : PairSt) : (s.setPair p x).handover = s.handover := rfl
@[simp] theorem setPair_carrels (p : Nat) (x : PairSt) : (s.setPair p x).carrels = s.carrels := rfl
@[simp] theorem setPair_adc (p : Nat) (x : PairSt) : (s.setPair p x).adc = s.adc := rfl
@[simp] theorem setPair_relays (p : Nat) (x : PairSt) : (s.setPair p x).relays = s.relays := rfl
@[simp] theorem setPair_pinLast (p : Nat) (x : PairSt) : (s.setPair p x).pinLast = s.pinLast := rfl
@[simp] theorem setPair_pinExt (p : Nat) (x : PairSt) : (s.setPair p x).pinExt = s.pinExt := rfl
@[simp] theorem setPair_pinSeen (p : Nat) (x : PairSt) : (s.setPair p x).pinSeen = s.pinSeen := rfl
@[simp] theorem setPair_trgLate (p : Nat) (x : PairSt) : (s.setPair p x).trgLate = s.trgLate := rfl
@[simp] theorem setPair_cat (p : Nat) (x : PairSt) : (s.setPair p x).cat = s.cat := rfl
@[simp] theorem setPair_coll (p : Nat) (x : PairSt) : (s.setPair p x).coll = s.coll := rfl
@[simp] theorem setPair_cans (p : Nat) (x : PairSt) : (s.setPair p x).cans = s.cans := rfl
@[simp] theorem setPair_lins (p : Nat) (x : PairSt) : (s.setPair p x).lins = s.lins := rfl
@[simp] theorem setPair_sw (p : Nat) (x : PairSt) : (s.setPair p x).sw = s.sw := rfl
@[simp] theorem setPair_wings (p : Nat) (x : PairSt) : (s.setPair p x).wings = s.wings := rfl
@[simp] theorem setPair_tokens (p : Nat) (x : PairSt) : (s.setPair p x).tokens = s.tokens := rfl
@[simp] theorem setPair_mirror (p : Nat) (x : PairSt) : (s.setPair p x).mirror = s.mirror := rfl
@[simp] theorem setPair_mirrorAt (p : Nat) (x : PairSt) : (s.setPair p x).mirrorAt = s.mirrorAt := rfl
@[simp] theorem setPair_vault (p : Nat) (x : PairSt) : (s.setPair p x).vault = s.vault := rfl
@[simp] theorem setPair_twin (p : Nat) (x : PairSt) : (s.setPair p x).twin = s.twin := rfl
@[simp] theorem setPair_rose (p : Nat) (x : PairSt) : (s.setPair p x).rose = s.rose := rfl
@[simp] theorem setPair_roseAt (p : Nat) (x : PairSt) : (s.setPair p x).roseAt = s.roseAt := rfl
@[simp] theorem setPair_reg (p : Nat) (x : PairSt) (a : Nat) : (s.setPair p x).reg a = s.reg a := rfl
@[simp] theorem setPair_core (p : Nat) (x : PairSt) (k : Nat) : (s.setPair p x).core k = s.core k := rfl
@[simp] theorem setPair_carrel (p : Nat) (x : PairSt) (k : Nat) : (s.setPair p x).carrel k = s.carrel k := rfl
@[simp] theorem setPair_chan (p : Nat) (x : PairSt) (k : Nat) : (s.setPair p x).chan k = s.chan k := rfl
@[simp] theorem setPair_eccAt (p : Nat) (x : PairSt) (k : Nat) : (s.setPair p x).eccAt k = s.eccAt k := rfl
@[simp] theorem setPair_can (p : Nat) (x : PairSt) (k : Nat) : (s.setPair p x).can k = s.can k := rfl
@[simp] theorem setPair_lin (p : Nat) (x : PairSt) (k : Nat) : (s.setPair p x).lin k = s.lin k := rfl
@[simp] theorem setPair_wing (p : Nat) (x : PairSt) (k : Nat) : (s.setPair p x).wing k = s.wing k := rfl
@[simp] theorem setPair_cu (p : Nat) (x : PairSt) (k : Nat) : (s.setPair p x).cu k = s.cu k := rfl
@[simp] theorem setPair_rx (p : Nat) (x : PairSt) (k : Nat) : (s.setPair p x).rx k = s.rx k := rfl
@[simp] theorem setPair_rdMem (p : Nat) (x : PairSt) (k : Nat) : (s.setPair p x).rdMem k = s.rdMem k := rfl
@[simp] theorem setPair_now (p : Nat) (x : PairSt)  : (s.setPair p x).now = s.now  := rfl
@[simp] theorem setPair_el (p : Nat) (x : PairSt)  : (s.setPair p x).el  = s.el  := rfl
@[simp] theorem setPair_pnow (p : Nat) (x : PairSt)  : (s.setPair p x).pnow  = s.pnow  := rfl

@[simp] theorem setCarrel_pending (c : Nat) (x : CarrelSt) : (s.setCarrel c x).pending = s.pending := rfl
@[simp] theorem setCarrel_regs (c : Nat) (x : CarrelSt) : (s.setCarrel c x).regs = s.regs := rfl
@[simp] theorem setCarrel_caps (c : Nat) (x : CarrelSt) : (s.setCarrel c x).caps = s.caps := rfl
@[simp] theorem setCarrel_mem (c : Nat) (x : CarrelSt) : (s.setCarrel c x).mem = s.mem := rfl
@[simp] theorem setCarrel_resp (c : Nat) (x : CarrelSt) : (s.setCarrel c x).resp = s.resp := rfl
@[simp] theorem setCarrel_fresh (c : Nat) (x : CarrelSt) : (s.setCarrel c x).fresh = s.fresh := rfl
@[simp] theorem setCarrel_closed (c : Nat) (x : CarrelSt) : (s.setCarrel c x).closed = s.closed := rfl
@[simp] theorem setCarrel_linkUp (c : Nat) (x : CarrelSt) : (s.setCarrel c x).linkUp = s.linkUp := rfl
@[simp] theorem setCarrel_time (c : Nat) (x : CarrelSt) : (s.setCarrel c x).time = s.time := rfl
@[simp] theorem setCarrel_faults (c : Nat) (x : CarrelSt) : (s.setCarrel c x).faults = s.faults := rfl
@[simp] theorem setCarrel_arch (c : Nat) (x : CarrelSt) : (s.setCarrel c x).arch = s.arch := rfl
@[simp] theorem setCarrel_stk (c : Nat) (x : CarrelSt) : (s.setCarrel c x).stk = s.stk := rfl
@[simp] theorem setCarrel_bridge (c : Nat) (x : CarrelSt) : (s.setCarrel c x).bridge = s.bridge := rfl
@[simp] theorem setCarrel_power (c : Nat) (x : CarrelSt) : (s.setCarrel c x).power = s.power := rfl
@[simp] theorem setCarrel_load (c : Nat) (x : CarrelSt) : (s.setCarrel c x).load = s.load := rfl
@[simp] theorem setCarrel_chans (c : Nat) (x : CarrelSt) : (s.setCarrel c x).chans = s.chans := rfl
@[simp] theorem setCarrel_cores (c : Nat) (x : CarrelSt) : (s.setCarrel c x).cores = s.cores := rfl
@[simp] theorem setCarrel_pairs (c : Nat) (x : CarrelSt) : (s.setCarrel c x).pairs = s.pairs := rfl
@[simp] theorem setCarrel_handover (c : Nat) (x : CarrelSt) : (s.setCarrel c x).handover = s.handover := rfl
@[simp] theorem setCarrel_adc (c : Nat) (x : CarrelSt) : (s.setCarrel c x).adc = s.adc := rfl
@[simp] theorem setCarrel_relays (c : Nat) (x : CarrelSt) : (s.setCarrel c x).relays = s.relays := rfl
@[simp] theorem setCarrel_pinLast (c : Nat) (x : CarrelSt) : (s.setCarrel c x).pinLast = s.pinLast := rfl
@[simp] theorem setCarrel_pinExt (c : Nat) (x : CarrelSt) : (s.setCarrel c x).pinExt = s.pinExt := rfl
@[simp] theorem setCarrel_pinSeen (c : Nat) (x : CarrelSt) : (s.setCarrel c x).pinSeen = s.pinSeen := rfl
@[simp] theorem setCarrel_trgLate (c : Nat) (x : CarrelSt) : (s.setCarrel c x).trgLate = s.trgLate := rfl
@[simp] theorem setCarrel_cat (c : Nat) (x : CarrelSt) : (s.setCarrel c x).cat = s.cat := rfl
@[simp] theorem setCarrel_coll (c : Nat) (x : CarrelSt) : (s.setCarrel c x).coll = s.coll := rfl
@[simp] theorem setCarrel_cans (c : Nat) (x : CarrelSt) : (s.setCarrel c x).cans = s.cans := rfl
@[simp] theorem setCarrel_lins (c : Nat) (x : CarrelSt) : (s.setCarrel c x).lins = s.lins := rfl
@[simp] theorem setCarrel_sw (c : Nat) (x : CarrelSt) : (s.setCarrel c x).sw = s.sw := rfl
@[simp] theorem setCarrel_wings (c : Nat) (x : CarrelSt) : (s.setCarrel c x).wings = s.wings := rfl
@[simp] theorem setCarrel_tokens (c : Nat) (x : CarrelSt) : (s.setCarrel c x).tokens = s.tokens := rfl
@[simp] theorem setCarrel_mirror (c : Nat) (x : CarrelSt) : (s.setCarrel c x).mirror = s.mirror := rfl
@[simp] theorem setCarrel_mirrorAt (c : Nat) (x : CarrelSt) : (s.setCarrel c x).mirrorAt = s.mirrorAt := rfl
@[simp] theorem setCarrel_vault (c : Nat) (x : CarrelSt) : (s.setCarrel c x).vault = s.vault := rfl
@[simp] theorem setCarrel_twin (c : Nat) (x : CarrelSt) : (s.setCarrel c x).twin = s.twin := rfl
@[simp] theorem setCarrel_rose (c : Nat) (x : CarrelSt) : (s.setCarrel c x).rose = s.rose := rfl
@[simp] theorem setCarrel_roseAt (c : Nat) (x : CarrelSt) : (s.setCarrel c x).roseAt = s.roseAt := rfl
@[simp] theorem setCarrel_reg (c : Nat) (x : CarrelSt) (a : Nat) : (s.setCarrel c x).reg a = s.reg a := rfl
@[simp] theorem setCarrel_core (c : Nat) (x : CarrelSt) (k : Nat) : (s.setCarrel c x).core k = s.core k := rfl
@[simp] theorem setCarrel_pair (c : Nat) (x : CarrelSt) (k : Nat) : (s.setCarrel c x).pair k = s.pair k := rfl
@[simp] theorem setCarrel_chan (c : Nat) (x : CarrelSt) (k : Nat) : (s.setCarrel c x).chan k = s.chan k := rfl
@[simp] theorem setCarrel_eccAt (c : Nat) (x : CarrelSt) (k : Nat) : (s.setCarrel c x).eccAt k = s.eccAt k := rfl
@[simp] theorem setCarrel_can (c : Nat) (x : CarrelSt) (k : Nat) : (s.setCarrel c x).can k = s.can k := rfl
@[simp] theorem setCarrel_lin (c : Nat) (x : CarrelSt) (k : Nat) : (s.setCarrel c x).lin k = s.lin k := rfl
@[simp] theorem setCarrel_wing (c : Nat) (x : CarrelSt) (k : Nat) : (s.setCarrel c x).wing k = s.wing k := rfl
@[simp] theorem setCarrel_cu (c : Nat) (x : CarrelSt) (k : Nat) : (s.setCarrel c x).cu k = s.cu k := rfl
@[simp] theorem setCarrel_rx (c : Nat) (x : CarrelSt) (k : Nat) : (s.setCarrel c x).rx k = s.rx k := rfl
@[simp] theorem setCarrel_rdMem (c : Nat) (x : CarrelSt) (k : Nat) : (s.setCarrel c x).rdMem k = s.rdMem k := rfl
@[simp] theorem setCarrel_now (c : Nat) (x : CarrelSt)  : (s.setCarrel c x).now = s.now  := rfl
@[simp] theorem setCarrel_el (c : Nat) (x : CarrelSt)  : (s.setCarrel c x).el  = s.el  := rfl
@[simp] theorem setCarrel_pnow (c : Nat) (x : CarrelSt)  : (s.setCarrel c x).pnow  = s.pnow  := rfl

@[simp] theorem setChan_pending (c : Nat) (x : Chan) : (s.setChan c x).pending = s.pending := rfl
@[simp] theorem setChan_regs (c : Nat) (x : Chan) : (s.setChan c x).regs = s.regs := rfl
@[simp] theorem setChan_caps (c : Nat) (x : Chan) : (s.setChan c x).caps = s.caps := rfl
@[simp] theorem setChan_mem (c : Nat) (x : Chan) : (s.setChan c x).mem = s.mem := rfl
@[simp] theorem setChan_resp (c : Nat) (x : Chan) : (s.setChan c x).resp = s.resp := rfl
@[simp] theorem setChan_fresh (c : Nat) (x : Chan) : (s.setChan c x).fresh = s.fresh := rfl
@[simp] theorem setChan_closed (c : Nat) (x : Chan) : (s.setChan c x).closed = s.closed := rfl
@[simp] theorem setChan_linkUp (c : Nat) (x : Chan) : (s.setChan c x).linkUp = s.linkUp := rfl
@[simp] theorem setChan_time (c : Nat) (x : Chan) : (s.setChan c x).time = s.time := rfl
@[simp] theorem setChan_faults (c : Nat) (x : Chan) : (s.setChan c x).faults = s.faults := rfl
@[simp] theorem setChan_arch (c : Nat) (x : Chan) : (s.setChan c x).arch = s.arch := rfl
@[simp] theorem setChan_stk (c : Nat) (x : Chan) : (s.setChan c x).stk = s.stk := rfl
@[simp] theorem setChan_bridge (c : Nat) (x : Chan) : (s.setChan c x).bridge = s.bridge := rfl
@[simp] theorem setChan_power (c : Nat) (x : Chan) : (s.setChan c x).power = s.power := rfl
@[simp] theorem setChan_load (c : Nat) (x : Chan) : (s.setChan c x).load = s.load := rfl
@[simp] theorem setChan_cores (c : Nat) (x : Chan) : (s.setChan c x).cores = s.cores := rfl
@[simp] theorem setChan_pairs (c : Nat) (x : Chan) : (s.setChan c x).pairs = s.pairs := rfl
@[simp] theorem setChan_handover (c : Nat) (x : Chan) : (s.setChan c x).handover = s.handover := rfl
@[simp] theorem setChan_carrels (c : Nat) (x : Chan) : (s.setChan c x).carrels = s.carrels := rfl
@[simp] theorem setChan_adc (c : Nat) (x : Chan) : (s.setChan c x).adc = s.adc := rfl
@[simp] theorem setChan_relays (c : Nat) (x : Chan) : (s.setChan c x).relays = s.relays := rfl
@[simp] theorem setChan_pinLast (c : Nat) (x : Chan) : (s.setChan c x).pinLast = s.pinLast := rfl
@[simp] theorem setChan_pinExt (c : Nat) (x : Chan) : (s.setChan c x).pinExt = s.pinExt := rfl
@[simp] theorem setChan_pinSeen (c : Nat) (x : Chan) : (s.setChan c x).pinSeen = s.pinSeen := rfl
@[simp] theorem setChan_trgLate (c : Nat) (x : Chan) : (s.setChan c x).trgLate = s.trgLate := rfl
@[simp] theorem setChan_cat (c : Nat) (x : Chan) : (s.setChan c x).cat = s.cat := rfl
@[simp] theorem setChan_coll (c : Nat) (x : Chan) : (s.setChan c x).coll = s.coll := rfl
@[simp] theorem setChan_cans (c : Nat) (x : Chan) : (s.setChan c x).cans = s.cans := rfl
@[simp] theorem setChan_lins (c : Nat) (x : Chan) : (s.setChan c x).lins = s.lins := rfl
@[simp] theorem setChan_sw (c : Nat) (x : Chan) : (s.setChan c x).sw = s.sw := rfl
@[simp] theorem setChan_wings (c : Nat) (x : Chan) : (s.setChan c x).wings = s.wings := rfl
@[simp] theorem setChan_tokens (c : Nat) (x : Chan) : (s.setChan c x).tokens = s.tokens := rfl
@[simp] theorem setChan_mirror (c : Nat) (x : Chan) : (s.setChan c x).mirror = s.mirror := rfl
@[simp] theorem setChan_mirrorAt (c : Nat) (x : Chan) : (s.setChan c x).mirrorAt = s.mirrorAt := rfl
@[simp] theorem setChan_vault (c : Nat) (x : Chan) : (s.setChan c x).vault = s.vault := rfl
@[simp] theorem setChan_twin (c : Nat) (x : Chan) : (s.setChan c x).twin = s.twin := rfl
@[simp] theorem setChan_rose (c : Nat) (x : Chan) : (s.setChan c x).rose = s.rose := rfl
@[simp] theorem setChan_roseAt (c : Nat) (x : Chan) : (s.setChan c x).roseAt = s.roseAt := rfl
@[simp] theorem setChan_reg (c : Nat) (x : Chan) (a : Nat) : (s.setChan c x).reg a = s.reg a := rfl
@[simp] theorem setChan_core (c : Nat) (x : Chan) (k : Nat) : (s.setChan c x).core k = s.core k := rfl
@[simp] theorem setChan_pair (c : Nat) (x : Chan) (k : Nat) : (s.setChan c x).pair k = s.pair k := rfl
@[simp] theorem setChan_carrel (c : Nat) (x : Chan) (k : Nat) : (s.setChan c x).carrel k = s.carrel k := rfl
@[simp] theorem setChan_eccAt (c : Nat) (x : Chan) (k : Nat) : (s.setChan c x).eccAt k = s.eccAt k := rfl
@[simp] theorem setChan_can (c : Nat) (x : Chan) (k : Nat) : (s.setChan c x).can k = s.can k := rfl
@[simp] theorem setChan_lin (c : Nat) (x : Chan) (k : Nat) : (s.setChan c x).lin k = s.lin k := rfl
@[simp] theorem setChan_wing (c : Nat) (x : Chan) (k : Nat) : (s.setChan c x).wing k = s.wing k := rfl
@[simp] theorem setChan_cu (c : Nat) (x : Chan) (k : Nat) : (s.setChan c x).cu k = s.cu k := rfl
@[simp] theorem setChan_rx (c : Nat) (x : Chan) (k : Nat) : (s.setChan c x).rx k = s.rx k := rfl
@[simp] theorem setChan_rdMem (c : Nat) (x : Chan) (k : Nat) : (s.setChan c x).rdMem k = s.rdMem k := rfl
@[simp] theorem setChan_now (c : Nat) (x : Chan)  : (s.setChan c x).now = s.now  := rfl
@[simp] theorem setChan_el (c : Nat) (x : Chan)  : (s.setChan c x).el  = s.el  := rfl
@[simp] theorem setChan_pnow (c : Nat) (x : Chan)  : (s.setChan c x).pnow  = s.pnow  := rfl

@[simp] theorem setEcc_pending (a : Nat) (e : BitVec 80) : (s.setEcc a e).pending = s.pending := rfl
@[simp] theorem setEcc_regs (a : Nat) (e : BitVec 80) : (s.setEcc a e).regs = s.regs := rfl
@[simp] theorem setEcc_caps (a : Nat) (e : BitVec 80) : (s.setEcc a e).caps = s.caps := rfl
@[simp] theorem setEcc_mem (a : Nat) (e : BitVec 80) : (s.setEcc a e).mem = s.mem := rfl
@[simp] theorem setEcc_resp (a : Nat) (e : BitVec 80) : (s.setEcc a e).resp = s.resp := rfl
@[simp] theorem setEcc_fresh (a : Nat) (e : BitVec 80) : (s.setEcc a e).fresh = s.fresh := rfl
@[simp] theorem setEcc_closed (a : Nat) (e : BitVec 80) : (s.setEcc a e).closed = s.closed := rfl
@[simp] theorem setEcc_linkUp (a : Nat) (e : BitVec 80) : (s.setEcc a e).linkUp = s.linkUp := rfl
@[simp] theorem setEcc_time (a : Nat) (e : BitVec 80) : (s.setEcc a e).time = s.time := rfl
@[simp] theorem setEcc_faults (a : Nat) (e : BitVec 80) : (s.setEcc a e).faults = s.faults := rfl
@[simp] theorem setEcc_arch (a : Nat) (e : BitVec 80) : (s.setEcc a e).arch = s.arch := rfl
@[simp] theorem setEcc_bridge (a : Nat) (e : BitVec 80) : (s.setEcc a e).bridge = s.bridge := rfl
@[simp] theorem setEcc_power (a : Nat) (e : BitVec 80) : (s.setEcc a e).power = s.power := rfl
@[simp] theorem setEcc_load (a : Nat) (e : BitVec 80) : (s.setEcc a e).load = s.load := rfl
@[simp] theorem setEcc_chans (a : Nat) (e : BitVec 80) : (s.setEcc a e).chans = s.chans := rfl
@[simp] theorem setEcc_cores (a : Nat) (e : BitVec 80) : (s.setEcc a e).cores = s.cores := rfl
@[simp] theorem setEcc_pairs (a : Nat) (e : BitVec 80) : (s.setEcc a e).pairs = s.pairs := rfl
@[simp] theorem setEcc_handover (a : Nat) (e : BitVec 80) : (s.setEcc a e).handover = s.handover := rfl
@[simp] theorem setEcc_carrels (a : Nat) (e : BitVec 80) : (s.setEcc a e).carrels = s.carrels := rfl
@[simp] theorem setEcc_adc (a : Nat) (e : BitVec 80) : (s.setEcc a e).adc = s.adc := rfl
@[simp] theorem setEcc_relays (a : Nat) (e : BitVec 80) : (s.setEcc a e).relays = s.relays := rfl
@[simp] theorem setEcc_pinLast (a : Nat) (e : BitVec 80) : (s.setEcc a e).pinLast = s.pinLast := rfl
@[simp] theorem setEcc_pinExt (a : Nat) (e : BitVec 80) : (s.setEcc a e).pinExt = s.pinExt := rfl
@[simp] theorem setEcc_pinSeen (a : Nat) (e : BitVec 80) : (s.setEcc a e).pinSeen = s.pinSeen := rfl
@[simp] theorem setEcc_trgLate (a : Nat) (e : BitVec 80) : (s.setEcc a e).trgLate = s.trgLate := rfl
@[simp] theorem setEcc_cat (a : Nat) (e : BitVec 80) : (s.setEcc a e).cat = s.cat := rfl
@[simp] theorem setEcc_coll (a : Nat) (e : BitVec 80) : (s.setEcc a e).coll = s.coll := rfl
@[simp] theorem setEcc_cans (a : Nat) (e : BitVec 80) : (s.setEcc a e).cans = s.cans := rfl
@[simp] theorem setEcc_lins (a : Nat) (e : BitVec 80) : (s.setEcc a e).lins = s.lins := rfl
@[simp] theorem setEcc_sw (a : Nat) (e : BitVec 80) : (s.setEcc a e).sw = s.sw := rfl
@[simp] theorem setEcc_wings (a : Nat) (e : BitVec 80) : (s.setEcc a e).wings = s.wings := rfl
@[simp] theorem setEcc_tokens (a : Nat) (e : BitVec 80) : (s.setEcc a e).tokens = s.tokens := rfl
@[simp] theorem setEcc_mirror (a : Nat) (e : BitVec 80) : (s.setEcc a e).mirror = s.mirror := rfl
@[simp] theorem setEcc_mirrorAt (a : Nat) (e : BitVec 80) : (s.setEcc a e).mirrorAt = s.mirrorAt := rfl
@[simp] theorem setEcc_vault (a : Nat) (e : BitVec 80) : (s.setEcc a e).vault = s.vault := rfl
@[simp] theorem setEcc_twin (a : Nat) (e : BitVec 80) : (s.setEcc a e).twin = s.twin := rfl
@[simp] theorem setEcc_rose (a : Nat) (e : BitVec 80) : (s.setEcc a e).rose = s.rose := rfl
@[simp] theorem setEcc_roseAt (a : Nat) (e : BitVec 80) : (s.setEcc a e).roseAt = s.roseAt := rfl
@[simp] theorem setEcc_reg (a : Nat) (e : BitVec 80) (r : Nat) : (s.setEcc a e).reg r = s.reg r := rfl
@[simp] theorem setEcc_core (a : Nat) (e : BitVec 80) (k : Nat) : (s.setEcc a e).core k = s.core k := rfl
@[simp] theorem setEcc_pair (a : Nat) (e : BitVec 80) (k : Nat) : (s.setEcc a e).pair k = s.pair k := rfl
@[simp] theorem setEcc_carrel (a : Nat) (e : BitVec 80) (k : Nat) : (s.setEcc a e).carrel k = s.carrel k := rfl
@[simp] theorem setEcc_chan (a : Nat) (e : BitVec 80) (k : Nat) : (s.setEcc a e).chan k = s.chan k := rfl
@[simp] theorem setEcc_can (a : Nat) (e : BitVec 80) (k : Nat) : (s.setEcc a e).can k = s.can k := rfl
@[simp] theorem setEcc_lin (a : Nat) (e : BitVec 80) (k : Nat) : (s.setEcc a e).lin k = s.lin k := rfl
@[simp] theorem setEcc_wing (a : Nat) (e : BitVec 80) (k : Nat) : (s.setEcc a e).wing k = s.wing k := rfl
@[simp] theorem setEcc_cu (a : Nat) (e : BitVec 80) (k : Nat) : (s.setEcc a e).cu k = s.cu k := rfl
@[simp] theorem setEcc_rx (a : Nat) (e : BitVec 80) (k : Nat) : (s.setEcc a e).rx k = s.rx k := rfl
@[simp] theorem setEcc_rdMem (a : Nat) (e : BitVec 80) (k : Nat) : (s.setEcc a e).rdMem k = s.rdMem k := rfl
@[simp] theorem setEcc_now (a : Nat) (e : BitVec 80)  : (s.setEcc a e).now = s.now  := rfl
@[simp] theorem setEcc_el (a : Nat) (e : BitVec 80)  : (s.setEcc a e).el  = s.el  := rfl
@[simp] theorem setEcc_pnow (a : Nat) (e : BitVec 80)  : (s.setEcc a e).pnow  = s.pnow  := rfl

@[simp] theorem setCan_pending (n : Nat) (x : CanSt) : (s.setCan n x).pending = s.pending := rfl
@[simp] theorem setCan_regs (n : Nat) (x : CanSt) : (s.setCan n x).regs = s.regs := rfl
@[simp] theorem setCan_caps (n : Nat) (x : CanSt) : (s.setCan n x).caps = s.caps := rfl
@[simp] theorem setCan_mem (n : Nat) (x : CanSt) : (s.setCan n x).mem = s.mem := rfl
@[simp] theorem setCan_resp (n : Nat) (x : CanSt) : (s.setCan n x).resp = s.resp := rfl
@[simp] theorem setCan_fresh (n : Nat) (x : CanSt) : (s.setCan n x).fresh = s.fresh := rfl
@[simp] theorem setCan_closed (n : Nat) (x : CanSt) : (s.setCan n x).closed = s.closed := rfl
@[simp] theorem setCan_linkUp (n : Nat) (x : CanSt) : (s.setCan n x).linkUp = s.linkUp := rfl
@[simp] theorem setCan_time (n : Nat) (x : CanSt) : (s.setCan n x).time = s.time := rfl
@[simp] theorem setCan_faults (n : Nat) (x : CanSt) : (s.setCan n x).faults = s.faults := rfl
@[simp] theorem setCan_arch (n : Nat) (x : CanSt) : (s.setCan n x).arch = s.arch := rfl
@[simp] theorem setCan_stk (n : Nat) (x : CanSt) : (s.setCan n x).stk = s.stk := rfl
@[simp] theorem setCan_bridge (n : Nat) (x : CanSt) : (s.setCan n x).bridge = s.bridge := rfl
@[simp] theorem setCan_power (n : Nat) (x : CanSt) : (s.setCan n x).power = s.power := rfl
@[simp] theorem setCan_load (n : Nat) (x : CanSt) : (s.setCan n x).load = s.load := rfl
@[simp] theorem setCan_chans (n : Nat) (x : CanSt) : (s.setCan n x).chans = s.chans := rfl
@[simp] theorem setCan_cores (n : Nat) (x : CanSt) : (s.setCan n x).cores = s.cores := rfl
@[simp] theorem setCan_pairs (n : Nat) (x : CanSt) : (s.setCan n x).pairs = s.pairs := rfl
@[simp] theorem setCan_handover (n : Nat) (x : CanSt) : (s.setCan n x).handover = s.handover := rfl
@[simp] theorem setCan_carrels (n : Nat) (x : CanSt) : (s.setCan n x).carrels = s.carrels := rfl
@[simp] theorem setCan_adc (n : Nat) (x : CanSt) : (s.setCan n x).adc = s.adc := rfl
@[simp] theorem setCan_relays (n : Nat) (x : CanSt) : (s.setCan n x).relays = s.relays := rfl
@[simp] theorem setCan_pinLast (n : Nat) (x : CanSt) : (s.setCan n x).pinLast = s.pinLast := rfl
@[simp] theorem setCan_pinExt (n : Nat) (x : CanSt) : (s.setCan n x).pinExt = s.pinExt := rfl
@[simp] theorem setCan_pinSeen (n : Nat) (x : CanSt) : (s.setCan n x).pinSeen = s.pinSeen := rfl
@[simp] theorem setCan_trgLate (n : Nat) (x : CanSt) : (s.setCan n x).trgLate = s.trgLate := rfl
@[simp] theorem setCan_cat (n : Nat) (x : CanSt) : (s.setCan n x).cat = s.cat := rfl
@[simp] theorem setCan_coll (n : Nat) (x : CanSt) : (s.setCan n x).coll = s.coll := rfl
@[simp] theorem setCan_lins (n : Nat) (x : CanSt) : (s.setCan n x).lins = s.lins := rfl
@[simp] theorem setCan_sw (n : Nat) (x : CanSt) : (s.setCan n x).sw = s.sw := rfl
@[simp] theorem setCan_wings (n : Nat) (x : CanSt) : (s.setCan n x).wings = s.wings := rfl
@[simp] theorem setCan_tokens (n : Nat) (x : CanSt) : (s.setCan n x).tokens = s.tokens := rfl
@[simp] theorem setCan_mirror (n : Nat) (x : CanSt) : (s.setCan n x).mirror = s.mirror := rfl
@[simp] theorem setCan_mirrorAt (n : Nat) (x : CanSt) : (s.setCan n x).mirrorAt = s.mirrorAt := rfl
@[simp] theorem setCan_vault (n : Nat) (x : CanSt) : (s.setCan n x).vault = s.vault := rfl
@[simp] theorem setCan_twin (n : Nat) (x : CanSt) : (s.setCan n x).twin = s.twin := rfl
@[simp] theorem setCan_rose (n : Nat) (x : CanSt) : (s.setCan n x).rose = s.rose := rfl
@[simp] theorem setCan_roseAt (n : Nat) (x : CanSt) : (s.setCan n x).roseAt = s.roseAt := rfl
@[simp] theorem setCan_reg (n : Nat) (x : CanSt) (a : Nat) : (s.setCan n x).reg a = s.reg a := rfl
@[simp] theorem setCan_core (n : Nat) (x : CanSt) (k : Nat) : (s.setCan n x).core k = s.core k := rfl
@[simp] theorem setCan_pair (n : Nat) (x : CanSt) (k : Nat) : (s.setCan n x).pair k = s.pair k := rfl
@[simp] theorem setCan_carrel (n : Nat) (x : CanSt) (k : Nat) : (s.setCan n x).carrel k = s.carrel k := rfl
@[simp] theorem setCan_chan (n : Nat) (x : CanSt) (k : Nat) : (s.setCan n x).chan k = s.chan k := rfl
@[simp] theorem setCan_eccAt (n : Nat) (x : CanSt) (k : Nat) : (s.setCan n x).eccAt k = s.eccAt k := rfl
@[simp] theorem setCan_lin (n : Nat) (x : CanSt) (k : Nat) : (s.setCan n x).lin k = s.lin k := rfl
@[simp] theorem setCan_wing (n : Nat) (x : CanSt) (k : Nat) : (s.setCan n x).wing k = s.wing k := rfl
@[simp] theorem setCan_cu (n : Nat) (x : CanSt) (k : Nat) : (s.setCan n x).cu k = s.cu k := rfl
@[simp] theorem setCan_rx (n : Nat) (x : CanSt) (k : Nat) : (s.setCan n x).rx k = s.rx k := rfl
@[simp] theorem setCan_rdMem (n : Nat) (x : CanSt) (k : Nat) : (s.setCan n x).rdMem k = s.rdMem k := rfl
@[simp] theorem setCan_now (n : Nat) (x : CanSt)  : (s.setCan n x).now = s.now  := rfl
@[simp] theorem setCan_el (n : Nat) (x : CanSt)  : (s.setCan n x).el  = s.el  := rfl
@[simp] theorem setCan_pnow (n : Nat) (x : CanSt)  : (s.setCan n x).pnow  = s.pnow  := rfl

@[simp] theorem setLin_pending (m : Nat) (x : LinSt) : (s.setLin m x).pending = s.pending := rfl
@[simp] theorem setLin_regs (m : Nat) (x : LinSt) : (s.setLin m x).regs = s.regs := rfl
@[simp] theorem setLin_caps (m : Nat) (x : LinSt) : (s.setLin m x).caps = s.caps := rfl
@[simp] theorem setLin_mem (m : Nat) (x : LinSt) : (s.setLin m x).mem = s.mem := rfl
@[simp] theorem setLin_resp (m : Nat) (x : LinSt) : (s.setLin m x).resp = s.resp := rfl
@[simp] theorem setLin_fresh (m : Nat) (x : LinSt) : (s.setLin m x).fresh = s.fresh := rfl
@[simp] theorem setLin_closed (m : Nat) (x : LinSt) : (s.setLin m x).closed = s.closed := rfl
@[simp] theorem setLin_linkUp (m : Nat) (x : LinSt) : (s.setLin m x).linkUp = s.linkUp := rfl
@[simp] theorem setLin_time (m : Nat) (x : LinSt) : (s.setLin m x).time = s.time := rfl
@[simp] theorem setLin_faults (m : Nat) (x : LinSt) : (s.setLin m x).faults = s.faults := rfl
@[simp] theorem setLin_arch (m : Nat) (x : LinSt) : (s.setLin m x).arch = s.arch := rfl
@[simp] theorem setLin_stk (m : Nat) (x : LinSt) : (s.setLin m x).stk = s.stk := rfl
@[simp] theorem setLin_bridge (m : Nat) (x : LinSt) : (s.setLin m x).bridge = s.bridge := rfl
@[simp] theorem setLin_power (m : Nat) (x : LinSt) : (s.setLin m x).power = s.power := rfl
@[simp] theorem setLin_load (m : Nat) (x : LinSt) : (s.setLin m x).load = s.load := rfl
@[simp] theorem setLin_chans (m : Nat) (x : LinSt) : (s.setLin m x).chans = s.chans := rfl
@[simp] theorem setLin_cores (m : Nat) (x : LinSt) : (s.setLin m x).cores = s.cores := rfl
@[simp] theorem setLin_pairs (m : Nat) (x : LinSt) : (s.setLin m x).pairs = s.pairs := rfl
@[simp] theorem setLin_handover (m : Nat) (x : LinSt) : (s.setLin m x).handover = s.handover := rfl
@[simp] theorem setLin_carrels (m : Nat) (x : LinSt) : (s.setLin m x).carrels = s.carrels := rfl
@[simp] theorem setLin_adc (m : Nat) (x : LinSt) : (s.setLin m x).adc = s.adc := rfl
@[simp] theorem setLin_relays (m : Nat) (x : LinSt) : (s.setLin m x).relays = s.relays := rfl
@[simp] theorem setLin_pinLast (m : Nat) (x : LinSt) : (s.setLin m x).pinLast = s.pinLast := rfl
@[simp] theorem setLin_pinExt (m : Nat) (x : LinSt) : (s.setLin m x).pinExt = s.pinExt := rfl
@[simp] theorem setLin_pinSeen (m : Nat) (x : LinSt) : (s.setLin m x).pinSeen = s.pinSeen := rfl
@[simp] theorem setLin_trgLate (m : Nat) (x : LinSt) : (s.setLin m x).trgLate = s.trgLate := rfl
@[simp] theorem setLin_cat (m : Nat) (x : LinSt) : (s.setLin m x).cat = s.cat := rfl
@[simp] theorem setLin_coll (m : Nat) (x : LinSt) : (s.setLin m x).coll = s.coll := rfl
@[simp] theorem setLin_cans (m : Nat) (x : LinSt) : (s.setLin m x).cans = s.cans := rfl
@[simp] theorem setLin_sw (m : Nat) (x : LinSt) : (s.setLin m x).sw = s.sw := rfl
@[simp] theorem setLin_wings (m : Nat) (x : LinSt) : (s.setLin m x).wings = s.wings := rfl
@[simp] theorem setLin_tokens (m : Nat) (x : LinSt) : (s.setLin m x).tokens = s.tokens := rfl
@[simp] theorem setLin_mirror (m : Nat) (x : LinSt) : (s.setLin m x).mirror = s.mirror := rfl
@[simp] theorem setLin_mirrorAt (m : Nat) (x : LinSt) : (s.setLin m x).mirrorAt = s.mirrorAt := rfl
@[simp] theorem setLin_vault (m : Nat) (x : LinSt) : (s.setLin m x).vault = s.vault := rfl
@[simp] theorem setLin_twin (m : Nat) (x : LinSt) : (s.setLin m x).twin = s.twin := rfl
@[simp] theorem setLin_rose (m : Nat) (x : LinSt) : (s.setLin m x).rose = s.rose := rfl
@[simp] theorem setLin_roseAt (m : Nat) (x : LinSt) : (s.setLin m x).roseAt = s.roseAt := rfl
@[simp] theorem setLin_reg (m : Nat) (x : LinSt) (a : Nat) : (s.setLin m x).reg a = s.reg a := rfl
@[simp] theorem setLin_core (m : Nat) (x : LinSt) (k : Nat) : (s.setLin m x).core k = s.core k := rfl
@[simp] theorem setLin_pair (m : Nat) (x : LinSt) (k : Nat) : (s.setLin m x).pair k = s.pair k := rfl
@[simp] theorem setLin_carrel (m : Nat) (x : LinSt) (k : Nat) : (s.setLin m x).carrel k = s.carrel k := rfl
@[simp] theorem setLin_chan (m : Nat) (x : LinSt) (k : Nat) : (s.setLin m x).chan k = s.chan k := rfl
@[simp] theorem setLin_eccAt (m : Nat) (x : LinSt) (k : Nat) : (s.setLin m x).eccAt k = s.eccAt k := rfl
@[simp] theorem setLin_can (m : Nat) (x : LinSt) (k : Nat) : (s.setLin m x).can k = s.can k := rfl
@[simp] theorem setLin_wing (m : Nat) (x : LinSt) (k : Nat) : (s.setLin m x).wing k = s.wing k := rfl
@[simp] theorem setLin_cu (m : Nat) (x : LinSt) (k : Nat) : (s.setLin m x).cu k = s.cu k := rfl
@[simp] theorem setLin_rx (m : Nat) (x : LinSt) (k : Nat) : (s.setLin m x).rx k = s.rx k := rfl
@[simp] theorem setLin_rdMem (m : Nat) (x : LinSt) (k : Nat) : (s.setLin m x).rdMem k = s.rdMem k := rfl
@[simp] theorem setLin_now (m : Nat) (x : LinSt)  : (s.setLin m x).now = s.now  := rfl
@[simp] theorem setLin_el (m : Nat) (x : LinSt)  : (s.setLin m x).el  = s.el  := rfl
@[simp] theorem setLin_pnow (m : Nat) (x : LinSt)  : (s.setLin m x).pnow  = s.pnow  := rfl

@[simp] theorem setWing_pending (w : Nat) (x : Wing) : (s.setWing w x).pending = s.pending := rfl
@[simp] theorem setWing_regs (w : Nat) (x : Wing) : (s.setWing w x).regs = s.regs := rfl
@[simp] theorem setWing_caps (w : Nat) (x : Wing) : (s.setWing w x).caps = s.caps := rfl
@[simp] theorem setWing_mem (w : Nat) (x : Wing) : (s.setWing w x).mem = s.mem := rfl
@[simp] theorem setWing_resp (w : Nat) (x : Wing) : (s.setWing w x).resp = s.resp := rfl
@[simp] theorem setWing_fresh (w : Nat) (x : Wing) : (s.setWing w x).fresh = s.fresh := rfl
@[simp] theorem setWing_closed (w : Nat) (x : Wing) : (s.setWing w x).closed = s.closed := rfl
@[simp] theorem setWing_linkUp (w : Nat) (x : Wing) : (s.setWing w x).linkUp = s.linkUp := rfl
@[simp] theorem setWing_time (w : Nat) (x : Wing) : (s.setWing w x).time = s.time := rfl
@[simp] theorem setWing_faults (w : Nat) (x : Wing) : (s.setWing w x).faults = s.faults := rfl
@[simp] theorem setWing_arch (w : Nat) (x : Wing) : (s.setWing w x).arch = s.arch := rfl
@[simp] theorem setWing_stk (w : Nat) (x : Wing) : (s.setWing w x).stk = s.stk := rfl
@[simp] theorem setWing_bridge (w : Nat) (x : Wing) : (s.setWing w x).bridge = s.bridge := rfl
@[simp] theorem setWing_power (w : Nat) (x : Wing) : (s.setWing w x).power = s.power := rfl
@[simp] theorem setWing_load (w : Nat) (x : Wing) : (s.setWing w x).load = s.load := rfl
@[simp] theorem setWing_chans (w : Nat) (x : Wing) : (s.setWing w x).chans = s.chans := rfl
@[simp] theorem setWing_cores (w : Nat) (x : Wing) : (s.setWing w x).cores = s.cores := rfl
@[simp] theorem setWing_pairs (w : Nat) (x : Wing) : (s.setWing w x).pairs = s.pairs := rfl
@[simp] theorem setWing_handover (w : Nat) (x : Wing) : (s.setWing w x).handover = s.handover := rfl
@[simp] theorem setWing_carrels (w : Nat) (x : Wing) : (s.setWing w x).carrels = s.carrels := rfl
@[simp] theorem setWing_adc (w : Nat) (x : Wing) : (s.setWing w x).adc = s.adc := rfl
@[simp] theorem setWing_relays (w : Nat) (x : Wing) : (s.setWing w x).relays = s.relays := rfl
@[simp] theorem setWing_pinLast (w : Nat) (x : Wing) : (s.setWing w x).pinLast = s.pinLast := rfl
@[simp] theorem setWing_pinExt (w : Nat) (x : Wing) : (s.setWing w x).pinExt = s.pinExt := rfl
@[simp] theorem setWing_pinSeen (w : Nat) (x : Wing) : (s.setWing w x).pinSeen = s.pinSeen := rfl
@[simp] theorem setWing_trgLate (w : Nat) (x : Wing) : (s.setWing w x).trgLate = s.trgLate := rfl
@[simp] theorem setWing_cat (w : Nat) (x : Wing) : (s.setWing w x).cat = s.cat := rfl
@[simp] theorem setWing_coll (w : Nat) (x : Wing) : (s.setWing w x).coll = s.coll := rfl
@[simp] theorem setWing_cans (w : Nat) (x : Wing) : (s.setWing w x).cans = s.cans := rfl
@[simp] theorem setWing_lins (w : Nat) (x : Wing) : (s.setWing w x).lins = s.lins := rfl
@[simp] theorem setWing_sw (w : Nat) (x : Wing) : (s.setWing w x).sw = s.sw := rfl
@[simp] theorem setWing_tokens (w : Nat) (x : Wing) : (s.setWing w x).tokens = s.tokens := rfl
@[simp] theorem setWing_mirror (w : Nat) (x : Wing) : (s.setWing w x).mirror = s.mirror := rfl
@[simp] theorem setWing_mirrorAt (w : Nat) (x : Wing) : (s.setWing w x).mirrorAt = s.mirrorAt := rfl
@[simp] theorem setWing_vault (w : Nat) (x : Wing) : (s.setWing w x).vault = s.vault := rfl
@[simp] theorem setWing_twin (w : Nat) (x : Wing) : (s.setWing w x).twin = s.twin := rfl
@[simp] theorem setWing_rose (w : Nat) (x : Wing) : (s.setWing w x).rose = s.rose := rfl
@[simp] theorem setWing_roseAt (w : Nat) (x : Wing) : (s.setWing w x).roseAt = s.roseAt := rfl
@[simp] theorem setWing_reg (w : Nat) (x : Wing) (a : Nat) : (s.setWing w x).reg a = s.reg a := rfl
@[simp] theorem setWing_core (w : Nat) (x : Wing) (k : Nat) : (s.setWing w x).core k = s.core k := rfl
@[simp] theorem setWing_pair (w : Nat) (x : Wing) (k : Nat) : (s.setWing w x).pair k = s.pair k := rfl
@[simp] theorem setWing_carrel (w : Nat) (x : Wing) (k : Nat) : (s.setWing w x).carrel k = s.carrel k := rfl
@[simp] theorem setWing_chan (w : Nat) (x : Wing) (k : Nat) : (s.setWing w x).chan k = s.chan k := rfl
@[simp] theorem setWing_eccAt (w : Nat) (x : Wing) (k : Nat) : (s.setWing w x).eccAt k = s.eccAt k := rfl
@[simp] theorem setWing_can (w : Nat) (x : Wing) (k : Nat) : (s.setWing w x).can k = s.can k := rfl
@[simp] theorem setWing_lin (w : Nat) (x : Wing) (k : Nat) : (s.setWing w x).lin k = s.lin k := rfl
@[simp] theorem setWing_cu (w : Nat) (x : Wing) (k : Nat) : (s.setWing w x).cu k = s.cu k := rfl
@[simp] theorem setWing_rx (w : Nat) (x : Wing) (k : Nat) : (s.setWing w x).rx k = s.rx k := rfl
@[simp] theorem setWing_rdMem (w : Nat) (x : Wing) (k : Nat) : (s.setWing w x).rdMem k = s.rdMem k := rfl
@[simp] theorem setWing_now (w : Nat) (x : Wing)  : (s.setWing w x).now = s.now  := rfl
@[simp] theorem setWing_el (w : Nat) (x : Wing)  : (s.setWing w x).el  = s.el  := rfl
@[simp] theorem setWing_pnow (w : Nat) (x : Wing)  : (s.setWing w x).pnow  = s.pnow  := rfl

@[simp] theorem setRx_pending (p : Nat) (x : Rx) : (s.setRx p x).pending = s.pending := rfl
@[simp] theorem setRx_regs (p : Nat) (x : Rx) : (s.setRx p x).regs = s.regs := rfl
@[simp] theorem setRx_caps (p : Nat) (x : Rx) : (s.setRx p x).caps = s.caps := rfl
@[simp] theorem setRx_mem (p : Nat) (x : Rx) : (s.setRx p x).mem = s.mem := rfl
@[simp] theorem setRx_resp (p : Nat) (x : Rx) : (s.setRx p x).resp = s.resp := rfl
@[simp] theorem setRx_fresh (p : Nat) (x : Rx) : (s.setRx p x).fresh = s.fresh := rfl
@[simp] theorem setRx_closed (p : Nat) (x : Rx) : (s.setRx p x).closed = s.closed := rfl
@[simp] theorem setRx_linkUp (p : Nat) (x : Rx) : (s.setRx p x).linkUp = s.linkUp := rfl
@[simp] theorem setRx_time (p : Nat) (x : Rx) : (s.setRx p x).time = s.time := rfl
@[simp] theorem setRx_faults (p : Nat) (x : Rx) : (s.setRx p x).faults = s.faults := rfl
@[simp] theorem setRx_arch (p : Nat) (x : Rx) : (s.setRx p x).arch = s.arch := rfl
@[simp] theorem setRx_stk (p : Nat) (x : Rx) : (s.setRx p x).stk = s.stk := rfl
@[simp] theorem setRx_bridge (p : Nat) (x : Rx) : (s.setRx p x).bridge = s.bridge := rfl
@[simp] theorem setRx_power (p : Nat) (x : Rx) : (s.setRx p x).power = s.power := rfl
@[simp] theorem setRx_load (p : Nat) (x : Rx) : (s.setRx p x).load = s.load := rfl
@[simp] theorem setRx_chans (p : Nat) (x : Rx) : (s.setRx p x).chans = s.chans := rfl
@[simp] theorem setRx_cores (p : Nat) (x : Rx) : (s.setRx p x).cores = s.cores := rfl
@[simp] theorem setRx_pairs (p : Nat) (x : Rx) : (s.setRx p x).pairs = s.pairs := rfl
@[simp] theorem setRx_handover (p : Nat) (x : Rx) : (s.setRx p x).handover = s.handover := rfl
@[simp] theorem setRx_carrels (p : Nat) (x : Rx) : (s.setRx p x).carrels = s.carrels := rfl
@[simp] theorem setRx_adc (p : Nat) (x : Rx) : (s.setRx p x).adc = s.adc := rfl
@[simp] theorem setRx_relays (p : Nat) (x : Rx) : (s.setRx p x).relays = s.relays := rfl
@[simp] theorem setRx_pinLast (p : Nat) (x : Rx) : (s.setRx p x).pinLast = s.pinLast := rfl
@[simp] theorem setRx_pinExt (p : Nat) (x : Rx) : (s.setRx p x).pinExt = s.pinExt := rfl
@[simp] theorem setRx_pinSeen (p : Nat) (x : Rx) : (s.setRx p x).pinSeen = s.pinSeen := rfl
@[simp] theorem setRx_trgLate (p : Nat) (x : Rx) : (s.setRx p x).trgLate = s.trgLate := rfl
@[simp] theorem setRx_coll (p : Nat) (x : Rx) : (s.setRx p x).coll = s.coll := rfl
@[simp] theorem setRx_cans (p : Nat) (x : Rx) : (s.setRx p x).cans = s.cans := rfl
@[simp] theorem setRx_lins (p : Nat) (x : Rx) : (s.setRx p x).lins = s.lins := rfl
@[simp] theorem setRx_sw (p : Nat) (x : Rx) : (s.setRx p x).sw = s.sw := rfl
@[simp] theorem setRx_wings (p : Nat) (x : Rx) : (s.setRx p x).wings = s.wings := rfl
@[simp] theorem setRx_tokens (p : Nat) (x : Rx) : (s.setRx p x).tokens = s.tokens := rfl
@[simp] theorem setRx_mirror (p : Nat) (x : Rx) : (s.setRx p x).mirror = s.mirror := rfl
@[simp] theorem setRx_mirrorAt (p : Nat) (x : Rx) : (s.setRx p x).mirrorAt = s.mirrorAt := rfl
@[simp] theorem setRx_vault (p : Nat) (x : Rx) : (s.setRx p x).vault = s.vault := rfl
@[simp] theorem setRx_twin (p : Nat) (x : Rx) : (s.setRx p x).twin = s.twin := rfl
@[simp] theorem setRx_rose (p : Nat) (x : Rx) : (s.setRx p x).rose = s.rose := rfl
@[simp] theorem setRx_roseAt (p : Nat) (x : Rx) : (s.setRx p x).roseAt = s.roseAt := rfl
@[simp] theorem setRx_reg (p : Nat) (x : Rx) (a : Nat) : (s.setRx p x).reg a = s.reg a := rfl
@[simp] theorem setRx_core (p : Nat) (x : Rx) (k : Nat) : (s.setRx p x).core k = s.core k := rfl
@[simp] theorem setRx_pair (p : Nat) (x : Rx) (k : Nat) : (s.setRx p x).pair k = s.pair k := rfl
@[simp] theorem setRx_carrel (p : Nat) (x : Rx) (k : Nat) : (s.setRx p x).carrel k = s.carrel k := rfl
@[simp] theorem setRx_chan (p : Nat) (x : Rx) (k : Nat) : (s.setRx p x).chan k = s.chan k := rfl
@[simp] theorem setRx_eccAt (p : Nat) (x : Rx) (k : Nat) : (s.setRx p x).eccAt k = s.eccAt k := rfl
@[simp] theorem setRx_can (p : Nat) (x : Rx) (k : Nat) : (s.setRx p x).can k = s.can k := rfl
@[simp] theorem setRx_lin (p : Nat) (x : Rx) (k : Nat) : (s.setRx p x).lin k = s.lin k := rfl
@[simp] theorem setRx_wing (p : Nat) (x : Rx) (k : Nat) : (s.setRx p x).wing k = s.wing k := rfl
@[simp] theorem setRx_rdMem (p : Nat) (x : Rx) (k : Nat) : (s.setRx p x).rdMem k = s.rdMem k := rfl
@[simp] theorem setRx_now (p : Nat) (x : Rx)  : (s.setRx p x).now = s.now  := rfl
@[simp] theorem setRx_el (p : Nat) (x : Rx)  : (s.setRx p x).el  = s.el  := rfl
@[simp] theorem setRx_pnow (p : Nat) (x : Rx)  : (s.setRx p x).pnow  = s.pnow  := rfl

@[simp] theorem setColl_pending (u : Nat) (x : CollSt) : (s.setColl u x).pending = s.pending := rfl
@[simp] theorem setColl_regs (u : Nat) (x : CollSt) : (s.setColl u x).regs = s.regs := rfl
@[simp] theorem setColl_caps (u : Nat) (x : CollSt) : (s.setColl u x).caps = s.caps := rfl
@[simp] theorem setColl_mem (u : Nat) (x : CollSt) : (s.setColl u x).mem = s.mem := rfl
@[simp] theorem setColl_resp (u : Nat) (x : CollSt) : (s.setColl u x).resp = s.resp := rfl
@[simp] theorem setColl_fresh (u : Nat) (x : CollSt) : (s.setColl u x).fresh = s.fresh := rfl
@[simp] theorem setColl_closed (u : Nat) (x : CollSt) : (s.setColl u x).closed = s.closed := rfl
@[simp] theorem setColl_linkUp (u : Nat) (x : CollSt) : (s.setColl u x).linkUp = s.linkUp := rfl
@[simp] theorem setColl_time (u : Nat) (x : CollSt) : (s.setColl u x).time = s.time := rfl
@[simp] theorem setColl_faults (u : Nat) (x : CollSt) : (s.setColl u x).faults = s.faults := rfl
@[simp] theorem setColl_arch (u : Nat) (x : CollSt) : (s.setColl u x).arch = s.arch := rfl
@[simp] theorem setColl_stk (u : Nat) (x : CollSt) : (s.setColl u x).stk = s.stk := rfl
@[simp] theorem setColl_bridge (u : Nat) (x : CollSt) : (s.setColl u x).bridge = s.bridge := rfl
@[simp] theorem setColl_power (u : Nat) (x : CollSt) : (s.setColl u x).power = s.power := rfl
@[simp] theorem setColl_load (u : Nat) (x : CollSt) : (s.setColl u x).load = s.load := rfl
@[simp] theorem setColl_chans (u : Nat) (x : CollSt) : (s.setColl u x).chans = s.chans := rfl
@[simp] theorem setColl_cores (u : Nat) (x : CollSt) : (s.setColl u x).cores = s.cores := rfl
@[simp] theorem setColl_pairs (u : Nat) (x : CollSt) : (s.setColl u x).pairs = s.pairs := rfl
@[simp] theorem setColl_handover (u : Nat) (x : CollSt) : (s.setColl u x).handover = s.handover := rfl
@[simp] theorem setColl_carrels (u : Nat) (x : CollSt) : (s.setColl u x).carrels = s.carrels := rfl
@[simp] theorem setColl_adc (u : Nat) (x : CollSt) : (s.setColl u x).adc = s.adc := rfl
@[simp] theorem setColl_relays (u : Nat) (x : CollSt) : (s.setColl u x).relays = s.relays := rfl
@[simp] theorem setColl_pinLast (u : Nat) (x : CollSt) : (s.setColl u x).pinLast = s.pinLast := rfl
@[simp] theorem setColl_pinExt (u : Nat) (x : CollSt) : (s.setColl u x).pinExt = s.pinExt := rfl
@[simp] theorem setColl_pinSeen (u : Nat) (x : CollSt) : (s.setColl u x).pinSeen = s.pinSeen := rfl
@[simp] theorem setColl_trgLate (u : Nat) (x : CollSt) : (s.setColl u x).trgLate = s.trgLate := rfl
@[simp] theorem setColl_cat (u : Nat) (x : CollSt) : (s.setColl u x).cat = s.cat := rfl
@[simp] theorem setColl_cans (u : Nat) (x : CollSt) : (s.setColl u x).cans = s.cans := rfl
@[simp] theorem setColl_lins (u : Nat) (x : CollSt) : (s.setColl u x).lins = s.lins := rfl
@[simp] theorem setColl_sw (u : Nat) (x : CollSt) : (s.setColl u x).sw = s.sw := rfl
@[simp] theorem setColl_wings (u : Nat) (x : CollSt) : (s.setColl u x).wings = s.wings := rfl
@[simp] theorem setColl_tokens (u : Nat) (x : CollSt) : (s.setColl u x).tokens = s.tokens := rfl
@[simp] theorem setColl_mirror (u : Nat) (x : CollSt) : (s.setColl u x).mirror = s.mirror := rfl
@[simp] theorem setColl_mirrorAt (u : Nat) (x : CollSt) : (s.setColl u x).mirrorAt = s.mirrorAt := rfl
@[simp] theorem setColl_vault (u : Nat) (x : CollSt) : (s.setColl u x).vault = s.vault := rfl
@[simp] theorem setColl_twin (u : Nat) (x : CollSt) : (s.setColl u x).twin = s.twin := rfl
@[simp] theorem setColl_rose (u : Nat) (x : CollSt) : (s.setColl u x).rose = s.rose := rfl
@[simp] theorem setColl_roseAt (u : Nat) (x : CollSt) : (s.setColl u x).roseAt = s.roseAt := rfl
@[simp] theorem setColl_reg (u : Nat) (x : CollSt) (a : Nat) : (s.setColl u x).reg a = s.reg a := rfl
@[simp] theorem setColl_core (u : Nat) (x : CollSt) (k : Nat) : (s.setColl u x).core k = s.core k := rfl
@[simp] theorem setColl_pair (u : Nat) (x : CollSt) (k : Nat) : (s.setColl u x).pair k = s.pair k := rfl
@[simp] theorem setColl_carrel (u : Nat) (x : CollSt) (k : Nat) : (s.setColl u x).carrel k = s.carrel k := rfl
@[simp] theorem setColl_chan (u : Nat) (x : CollSt) (k : Nat) : (s.setColl u x).chan k = s.chan k := rfl
@[simp] theorem setColl_eccAt (u : Nat) (x : CollSt) (k : Nat) : (s.setColl u x).eccAt k = s.eccAt k := rfl
@[simp] theorem setColl_can (u : Nat) (x : CollSt) (k : Nat) : (s.setColl u x).can k = s.can k := rfl
@[simp] theorem setColl_lin (u : Nat) (x : CollSt) (k : Nat) : (s.setColl u x).lin k = s.lin k := rfl
@[simp] theorem setColl_wing (u : Nat) (x : CollSt) (k : Nat) : (s.setColl u x).wing k = s.wing k := rfl
@[simp] theorem setColl_cu (u : Nat) (x : CollSt) (k : Nat) : (s.setColl u x).cu k = s.cu k := rfl
@[simp] theorem setColl_rx (u : Nat) (x : CollSt) (k : Nat) : (s.setColl u x).rx k = s.rx k := rfl
@[simp] theorem setColl_rdMem (u : Nat) (x : CollSt) (k : Nat) : (s.setColl u x).rdMem k = s.rdMem k := rfl
@[simp] theorem setColl_now (u : Nat) (x : CollSt)  : (s.setColl u x).now = s.now  := rfl
@[simp] theorem setColl_el (u : Nat) (x : CollSt)  : (s.setColl u x).el  = s.el  := rfl
@[simp] theorem setColl_pnow (u : Nat) (x : CollSt)  : (s.setColl u x).pnow  = s.pnow  := rfl

@[simp] theorem setPort_pending (p : Nat) (x : Port) : (s.setPort p x).pending = s.pending := rfl
@[simp] theorem setPort_regs (p : Nat) (x : Port) : (s.setPort p x).regs = s.regs := rfl
@[simp] theorem setPort_caps (p : Nat) (x : Port) : (s.setPort p x).caps = s.caps := rfl
@[simp] theorem setPort_mem (p : Nat) (x : Port) : (s.setPort p x).mem = s.mem := rfl
@[simp] theorem setPort_resp (p : Nat) (x : Port) : (s.setPort p x).resp = s.resp := rfl
@[simp] theorem setPort_fresh (p : Nat) (x : Port) : (s.setPort p x).fresh = s.fresh := rfl
@[simp] theorem setPort_closed (p : Nat) (x : Port) : (s.setPort p x).closed = s.closed := rfl
@[simp] theorem setPort_linkUp (p : Nat) (x : Port) : (s.setPort p x).linkUp = s.linkUp := rfl
@[simp] theorem setPort_time (p : Nat) (x : Port) : (s.setPort p x).time = s.time := rfl
@[simp] theorem setPort_faults (p : Nat) (x : Port) : (s.setPort p x).faults = s.faults := rfl
@[simp] theorem setPort_arch (p : Nat) (x : Port) : (s.setPort p x).arch = s.arch := rfl
@[simp] theorem setPort_stk (p : Nat) (x : Port) : (s.setPort p x).stk = s.stk := rfl
@[simp] theorem setPort_bridge (p : Nat) (x : Port) : (s.setPort p x).bridge = s.bridge := rfl
@[simp] theorem setPort_power (p : Nat) (x : Port) : (s.setPort p x).power = s.power := rfl
@[simp] theorem setPort_load (p : Nat) (x : Port) : (s.setPort p x).load = s.load := rfl
@[simp] theorem setPort_chans (p : Nat) (x : Port) : (s.setPort p x).chans = s.chans := rfl
@[simp] theorem setPort_cores (p : Nat) (x : Port) : (s.setPort p x).cores = s.cores := rfl
@[simp] theorem setPort_pairs (p : Nat) (x : Port) : (s.setPort p x).pairs = s.pairs := rfl
@[simp] theorem setPort_handover (p : Nat) (x : Port) : (s.setPort p x).handover = s.handover := rfl
@[simp] theorem setPort_carrels (p : Nat) (x : Port) : (s.setPort p x).carrels = s.carrels := rfl
@[simp] theorem setPort_adc (p : Nat) (x : Port) : (s.setPort p x).adc = s.adc := rfl
@[simp] theorem setPort_relays (p : Nat) (x : Port) : (s.setPort p x).relays = s.relays := rfl
@[simp] theorem setPort_pinLast (p : Nat) (x : Port) : (s.setPort p x).pinLast = s.pinLast := rfl
@[simp] theorem setPort_pinExt (p : Nat) (x : Port) : (s.setPort p x).pinExt = s.pinExt := rfl
@[simp] theorem setPort_pinSeen (p : Nat) (x : Port) : (s.setPort p x).pinSeen = s.pinSeen := rfl
@[simp] theorem setPort_trgLate (p : Nat) (x : Port) : (s.setPort p x).trgLate = s.trgLate := rfl
@[simp] theorem setPort_cat (p : Nat) (x : Port) : (s.setPort p x).cat = s.cat := rfl
@[simp] theorem setPort_coll (p : Nat) (x : Port) : (s.setPort p x).coll = s.coll := rfl
@[simp] theorem setPort_cans (p : Nat) (x : Port) : (s.setPort p x).cans = s.cans := rfl
@[simp] theorem setPort_lins (p : Nat) (x : Port) : (s.setPort p x).lins = s.lins := rfl
@[simp] theorem setPort_wings (p : Nat) (x : Port) : (s.setPort p x).wings = s.wings := rfl
@[simp] theorem setPort_tokens (p : Nat) (x : Port) : (s.setPort p x).tokens = s.tokens := rfl
@[simp] theorem setPort_mirror (p : Nat) (x : Port) : (s.setPort p x).mirror = s.mirror := rfl
@[simp] theorem setPort_mirrorAt (p : Nat) (x : Port) : (s.setPort p x).mirrorAt = s.mirrorAt := rfl
@[simp] theorem setPort_vault (p : Nat) (x : Port) : (s.setPort p x).vault = s.vault := rfl
@[simp] theorem setPort_twin (p : Nat) (x : Port) : (s.setPort p x).twin = s.twin := rfl
@[simp] theorem setPort_rose (p : Nat) (x : Port) : (s.setPort p x).rose = s.rose := rfl
@[simp] theorem setPort_roseAt (p : Nat) (x : Port) : (s.setPort p x).roseAt = s.roseAt := rfl
@[simp] theorem setPort_reg (p : Nat) (x : Port) (a : Nat) : (s.setPort p x).reg a = s.reg a := rfl
@[simp] theorem setPort_core (p : Nat) (x : Port) (k : Nat) : (s.setPort p x).core k = s.core k := rfl
@[simp] theorem setPort_pair (p : Nat) (x : Port) (k : Nat) : (s.setPort p x).pair k = s.pair k := rfl
@[simp] theorem setPort_carrel (p : Nat) (x : Port) (k : Nat) : (s.setPort p x).carrel k = s.carrel k := rfl
@[simp] theorem setPort_chan (p : Nat) (x : Port) (k : Nat) : (s.setPort p x).chan k = s.chan k := rfl
@[simp] theorem setPort_eccAt (p : Nat) (x : Port) (k : Nat) : (s.setPort p x).eccAt k = s.eccAt k := rfl
@[simp] theorem setPort_can (p : Nat) (x : Port) (k : Nat) : (s.setPort p x).can k = s.can k := rfl
@[simp] theorem setPort_lin (p : Nat) (x : Port) (k : Nat) : (s.setPort p x).lin k = s.lin k := rfl
@[simp] theorem setPort_wing (p : Nat) (x : Port) (k : Nat) : (s.setPort p x).wing k = s.wing k := rfl
@[simp] theorem setPort_cu (p : Nat) (x : Port) (k : Nat) : (s.setPort p x).cu k = s.cu k := rfl
@[simp] theorem setPort_rx (p : Nat) (x : Port) (k : Nat) : (s.setPort p x).rx k = s.rx k := rfl
@[simp] theorem setPort_rdMem (p : Nat) (x : Port) (k : Nat) : (s.setPort p x).rdMem k = s.rdMem k := rfl
@[simp] theorem setPort_now (p : Nat) (x : Port)  : (s.setPort p x).now = s.now  := rfl
@[simp] theorem setPort_el (p : Nat) (x : Port)  : (s.setPort p x).el  = s.el  := rfl
@[simp] theorem setPort_pnow (p : Nat) (x : Port)  : (s.setPort p x).pnow  = s.pnow  := rfl

/-! ### Reading back what was written -/

theorem reg_setReg (a k : Nat) (x : BitVec 64) : (s.setReg a x).reg k = if k = a then x else s.reg k :=
  spGet_spPut _ _ a k x
@[simp] theorem reg_setReg_same (a : Nat) (x : BitVec 64) : (s.setReg a x).reg a = x := spGet_spPut_same _ _ _ _
theorem reg_setReg_other {a k : Nat} (x : BitVec 64) (h : k ≠ a) : (s.setReg a x).reg k = s.reg k := spGet_spPut_other _ _ _ h
theorem core_setCore (c k : Nat) (x : Core) : (s.setCore c x).core k = if k = c then x else s.core k :=
  spGet_spPut _ _ c k x
@[simp] theorem core_setCore_same (c : Nat) (x : Core) : (s.setCore c x).core c = x := spGet_spPut_same _ _ _ _
theorem core_setCore_other {c k : Nat} (x : Core) (h : k ≠ c) : (s.setCore c x).core k = s.core k := spGet_spPut_other _ _ _ h
theorem pair_setPair (p k : Nat) (x : PairSt) : (s.setPair p x).pair k = if k = p then x else s.pair k :=
  spGet_spPut _ _ p k x
@[simp] theorem pair_setPair_same (p : Nat) (x : PairSt) : (s.setPair p x).pair p = x := spGet_spPut_same _ _ _ _
theorem pair_setPair_other {p k : Nat} (x : PairSt) (h : k ≠ p) : (s.setPair p x).pair k = s.pair k := spGet_spPut_other _ _ _ h
theorem carrel_setCarrel (c k : Nat) (x : CarrelSt) : (s.setCarrel c x).carrel k = if k = c then x else s.carrel k :=
  spGet_spPut _ _ c k x
@[simp] theorem carrel_setCarrel_same (c : Nat) (x : CarrelSt) : (s.setCarrel c x).carrel c = x := spGet_spPut_same _ _ _ _
theorem carrel_setCarrel_other {c k : Nat} (x : CarrelSt) (h : k ≠ c) : (s.setCarrel c x).carrel k = s.carrel k := spGet_spPut_other _ _ _ h
theorem chan_setChan (c k : Nat) (x : Chan) : (s.setChan c x).chan k = if k = c then x else s.chan k :=
  spGet_spPut _ _ c k x
@[simp] theorem chan_setChan_same (c : Nat) (x : Chan) : (s.setChan c x).chan c = x := spGet_spPut_same _ _ _ _
theorem chan_setChan_other {c k : Nat} (x : Chan) (h : k ≠ c) : (s.setChan c x).chan k = s.chan k := spGet_spPut_other _ _ _ h
theorem eccAt_setEcc (a k : Nat) (x : BitVec 80) : (s.setEcc a x).eccAt k = if k = a then x else s.eccAt k :=
  spGet_spPut _ _ a k x
@[simp] theorem eccAt_setEcc_same (a : Nat) (x : BitVec 80) : (s.setEcc a x).eccAt a = x := spGet_spPut_same _ _ _ _
theorem eccAt_setEcc_other {a k : Nat} (x : BitVec 80) (h : k ≠ a) : (s.setEcc a x).eccAt k = s.eccAt k := spGet_spPut_other _ _ _ h
theorem can_setCan (n k : Nat) (x : CanSt) : (s.setCan n x).can k = if k = n then x else s.can k :=
  spGet_spPut _ _ n k x
@[simp] theorem can_setCan_same (n : Nat) (x : CanSt) : (s.setCan n x).can n = x := spGet_spPut_same _ _ _ _
theorem can_setCan_other {n k : Nat} (x : CanSt) (h : k ≠ n) : (s.setCan n x).can k = s.can k := spGet_spPut_other _ _ _ h
theorem lin_setLin (m k : Nat) (x : LinSt) : (s.setLin m x).lin k = if k = m then x else s.lin k :=
  spGet_spPut _ _ m k x
@[simp] theorem lin_setLin_same (m : Nat) (x : LinSt) : (s.setLin m x).lin m = x := spGet_spPut_same _ _ _ _
theorem lin_setLin_other {m k : Nat} (x : LinSt) (h : k ≠ m) : (s.setLin m x).lin k = s.lin k := spGet_spPut_other _ _ _ h
theorem wing_setWing (w k : Nat) (x : Wing) : (s.setWing w x).wing k = if k = w then x else s.wing k :=
  spGet_spPut _ _ w k x
@[simp] theorem wing_setWing_same (w : Nat) (x : Wing) : (s.setWing w x).wing w = x := spGet_spPut_same _ _ _ _
theorem wing_setWing_other {w k : Nat} (x : Wing) (h : k ≠ w) : (s.setWing w x).wing k = s.wing k := spGet_spPut_other _ _ _ h

@[simp] theorem get_setReg_same (a : Nat) (v : BitVec 64) (f : Fld) : (s.setReg a v).get a f = fget v f := by simp [State.get]
theorem get_setReg_other {a b : Nat} (v : BitVec 64) (f : Fld) (h : b ≠ a) : (s.setReg a v).get b f = s.get b f := by
  simp [State.get, reg_setReg_other s v h]

@[simp] theorem noteRose_get (a : Nat) (m : BitVec 64) (k : Nat) (f : Fld) : (s.noteRose a m).get k f = s.get k f := rfl
@[simp] theorem noteRose_bit (a : Nat) (m : BitVec 64) (k : Nat) (f : Fld) : (s.noteRose a m).bit k f = s.bit k f := rfl
@[simp] theorem setCore_get (c : Nat) (x : Core) (a : Nat) (f : Fld) : (s.setCore c x).get a f = s.get a f := rfl
@[simp] theorem setCore_bit (c : Nat) (x : Core) (a : Nat) (f : Fld) : (s.setCore c x).bit a f = s.bit a f := rfl
@[simp] theorem setPair_get (p : Nat) (x : PairSt) (a : Nat) (f : Fld) : (s.setPair p x).get a f = s.get a f := rfl
@[simp] theorem setPair_bit (p : Nat) (x : PairSt) (a : Nat) (f : Fld) : (s.setPair p x).bit a f = s.bit a f := rfl
@[simp] theorem setCarrel_get (c : Nat) (x : CarrelSt) (a : Nat) (f : Fld) : (s.setCarrel c x).get a f = s.get a f := rfl
@[simp] theorem setCarrel_bit (c : Nat) (x : CarrelSt) (a : Nat) (f : Fld) : (s.setCarrel c x).bit a f = s.bit a f := rfl
@[simp] theorem setChan_get (c : Nat) (x : Chan) (a : Nat) (f : Fld) : (s.setChan c x).get a f = s.get a f := rfl
@[simp] theorem setChan_bit (c : Nat) (x : Chan) (a : Nat) (f : Fld) : (s.setChan c x).bit a f = s.bit a f := rfl
@[simp] theorem setEcc_get (a : Nat) (e : BitVec 80) (k : Nat) (f : Fld) : (s.setEcc a e).get k f = s.get k f := rfl
@[simp] theorem setEcc_bit (a : Nat) (e : BitVec 80) (k : Nat) (f : Fld) : (s.setEcc a e).bit k f = s.bit k f := rfl
@[simp] theorem setCan_get (n : Nat) (x : CanSt) (a : Nat) (f : Fld) : (s.setCan n x).get a f = s.get a f := rfl
@[simp] theorem setCan_bit (n : Nat) (x : CanSt) (a : Nat) (f : Fld) : (s.setCan n x).bit a f = s.bit a f := rfl
@[simp] theorem setLin_get (m : Nat) (x : LinSt) (a : Nat) (f : Fld) : (s.setLin m x).get a f = s.get a f := rfl
@[simp] theorem setLin_bit (m : Nat) (x : LinSt) (a : Nat) (f : Fld) : (s.setLin m x).bit a f = s.bit a f := rfl
@[simp] theorem setWing_get (w : Nat) (x : Wing) (a : Nat) (f : Fld) : (s.setWing w x).get a f = s.get a f := rfl
@[simp] theorem setWing_bit (w : Nat) (x : Wing) (a : Nat) (f : Fld) : (s.setWing w x).bit a f = s.bit a f := rfl
@[simp] theorem setRx_get (p : Nat) (x : Rx) (a : Nat) (f : Fld) : (s.setRx p x).get a f = s.get a f := rfl
@[simp] theorem setRx_bit (p : Nat) (x : Rx) (a : Nat) (f : Fld) : (s.setRx p x).bit a f = s.bit a f := rfl
@[simp] theorem setColl_get (u : Nat) (x : CollSt) (a : Nat) (f : Fld) : (s.setColl u x).get a f = s.get a f := rfl
@[simp] theorem setColl_bit (u : Nat) (x : CollSt) (a : Nat) (f : Fld) : (s.setColl u x).bit a f = s.bit a f := rfl
@[simp] theorem setPort_get (p : Nat) (x : Port) (a : Nat) (f : Fld) : (s.setPort p x).get a f = s.get a f := rfl
@[simp] theorem setPort_bit (p : Nat) (x : Port) (a : Nat) (f : Fld) : (s.setPort p x).bit a f = s.bit a f := rfl

end Sys2Proof.Machine
end

