-- ==== Sys2Proof/Laws/Run.lean ====
section
/-!
SUPPORT. What running one instruction is on a ready core and on a ready cataloguer: one lemma for each way an instruction
runs, so that no proof unfolds the executors.
-/
namespace Sys2Proof.Machine

open Sys2Proof Claim

theorem cu_setCu_same (s : State) (n : Nat) (x : Cu) : (s.setCu n x).cu n = x := by
  unfold State.setCu State.setBit State.set State.cu
  simp

@[simp] theorem setLreg_power (s : State) (c : Nat) (r : BitVec 6) (w : Word) : (s.setLreg c r w).power = s.power := rfl

theorem setLreg_pc (s : State) (c : Nat) (r : BitVec 6) (w : Word) : ((s.setLreg c r w).core c).pc = (s.core c).pc := by
  rw [State.setLreg, core_setCore_same]
  unfold Core.put
  split <;> rfl

/-- On a ready core an instruction that is well encoded and that the pair has is its own effect. -/
theorem onCore_ready {c : Fin 16} {s t : State} {i : Insn} {body : State → State} (h : CoreReady c s t) (hb : i.bad = false)
    (hp : i.onPair = true) : onCore c.val i body s = body t := by
  obtain ⟨h1, h2, h3, _⟩ := h
  simp [onCore, h1, h2, h3, hb, hp]

/-- On a ready core a badly encoded instruction, or one that a pair does not have, raises ILLEGAL (R95, R147). -/
theorem onCore_bad {c : Fin 16} {s t : State} {i : Insn} {body : State → State} (h : CoreReady c s t)
    (hb : (i.bad || !i.onPair) = true) : onCore c.val i body s = illegal c.val i t := by
  obtain ⟨h1, h2, h3, _⟩ := h
  simp [onCore, h1, h2, h3, hb]

/-- On a ready cataloguer an instruction that is well encoded, that the C-profile has and that names L0 to L31 alone is its own
effect. -/
theorem onCu_ready {n : Fin 64} {s t : State} {i : Insn} {body : State → CuOut} (h : CuReady n s t) (hb : i.bad = false)
    (hc : i.onCu = true) (hr : i.high = false) :
    onCu n.val i body s = cuFinish n.val (t.cu n.val).count (body t) t := by
  obtain ⟨⟨h1, h3, ⟨w, h4⟩, h5⟩, h2⟩ := h
  have h7 : ¬ (s.get (R.CATG_CUn_CTL n.val) F.CATG_CUn_CTL_RUN_LIMIT ≤ (s.cu n.val).count) := by omega
  have h8 : ¬ (8191 ≤ (s.cu n.val).pc) := by omega
  simp [onCu, h1, h4, hb, hc, hr, h7, h8, h5]

/-- On a ready cataloguer a badly encoded instruction, or one outside the C-profile, stops the program with cause 2 (R227). -/
theorem onCu_bad {n : Fin 64} {s t : State} {i : Insn} {body : State → CuOut} (h : CuReady n s t)
    (hb : (i.bad || !i.onCu) = true) : onCu n.val i body s = cuFault n.val 2 t := by
  obtain ⟨⟨h1, h3, ⟨w, h4⟩, h5⟩, h2⟩ := h
  have h7 : ¬ (s.get (R.CATG_CUn_CTL n.val) F.CATG_CUn_CTL_RUN_LIMIT ≤ (s.cu n.val).count) := by omega
  have h8 : ¬ (8191 ≤ (s.cu n.val).pc) := by omega
  simp [onCu, h1, h4, hb, h7, h8]

/-- A ready cataloguer's program counter has a successor. -/
theorem cuReady_pc {n : Fin 64} {s t : State} (h : CuReady n s t) : (t.cu n.val).pc < 8191 := by
  rw [h.1.2.2.2]; exact h.1.2.1

/-- A program counter inside the program memory goes on. -/
theorem cuFinish_next {n : Nat} {p : Int} {u t : State} (h0 : 0 ≤ p) (h1 : p ≤ 8191) (hc : (u.cu n).count = (t.cu n).count) :
    cuFinish n (t.cu n).count (.next p u) t = cuGoes n p.toNat u := by
  have h9 : ¬ (p < 0 ∨ (8191 : Int) < p) := by omega
  simp only [cuFinish, h9, if_false, cuGoes, hc]

theorem cuFinish_out {n : Nat} {p : Int} {u t : State} (h : p < 0 ∨ 8191 < p) :
    cuFinish n (t.cu n).count (.next p u) t = cuFault n 8 t := by
  simp only [cuFinish, h, if_true]

/-- An instruction of `runPure` computes its register. -/
theorem computes_of_runPure {i : Exu → Instr} {I : Exu → Insn} {fields : List Reg} {rd : Reg} {f : (Reg → Word) → Word}
    (hx : ∀ x s, exec (i x) s = runPure x (I x) rd f s) (hb : ∀ x, (I x).bad = false) (hp : ∀ x, (I x).onPair = true)
    (hc : ∀ x, (I x).onCu = true) (hr : ∀ x, (I x).regs = fields) : Computes i fields rd f := by
  refine ⟨fun c s t h => ?_, fun n s t h hreg => ?_⟩
  · rw [hx, runPure, runInsn]
    simp only [onCore_ready h (hb _) (hp _), corePut, finishNext, finishAt, setLreg_power, h.2.2.2, setLreg_pc]
    rfl
  · have h6 : (I (.cu n)).high = false := by
      simp only [Insn.high, hr, List.any_eq_false, decide_eq_true_eq, Nat.not_le]
      exact fun r hm => hreg r hm
    have hp := cuReady_pc h
    rw [hx, runPure, runInsn]
    simp only [onCu_ready h (hb _) (hc _) h6, cuPut]
    rw [cuFinish_next (by omega) (by omega)]
    · congr 2
    · rw [cu_setCu_same]; unfold Cu.put; split <;> rfl

/-- An instruction of `runInsn` that a pair has is its own effect on a ready core. -/
theorem runsOnCore_of_runInsn {i : Exu → Instr} {I : Exu → Insn} {core : Exu → Nat → State → State}
    {cu : Exu → Nat → State → CuOut} {f : Nat → State → State} (hx : ∀ x s, exec (i x) s = runInsn x (I x) (core x) (cu x) s)
    (hb : ∀ x, (I x).bad = false) (hp : ∀ x, (I x).onPair = true)
    (hf : ∀ c s t, CoreReady c s t → core (.core c) c.val t = f c.val t) : RunsOnCore i f := by
  intro c s t h
  rw [hx, runInsn]
  simp only [onCore_ready h (hb _) (hp _), hf c s t h]

end Sys2Proof.Machine
end

