-- ==== Sys2Proof/WellFormed.lean ====
section
/-!
DEFINITION. Which operands a command of each row may carry, where the shape of the operand admits more than the spec does.
-/
namespace Sys2Proof

/-- The units that a tile holds, which a unit number counts (spec/01_architecture.md R11, R12, R23). -/
def unitCount (t : Tile) : Nat :=
  match t with
  | .cataloguer _ | .lin => 8
  | .collation => 16
  | .t1s | .can _ => 4
  | .serdes => 6
  | .uplinks => 2
  | _ => 1

/-- May a frame come from there at a switch port (spec/06_circulation_switch.md R248)? Octets of a wire come at the twelve
external ports, what a ring or another block sends comes at an internal one. -/
def frameFits (p : Nat) (src : FrameIn) : Bool :=
  match src with
  | .wire _ _ _ _ => decide (p < 12)
  | .ring _ | .internal => decide (12 ≤ p)

/-- The values of op whose every word some instruction row of the table executes (spec/04_yilfixa_instruction_reference.md
R148): the other rows share an op with undefined values of fn. -/
def definedOp (op : Nat) : Bool :=
  decide (5 ≤ op ∧ op ≤ 9) || decide (0x10 ≤ op ∧ op ≤ 0x16) || decide (0x18 ≤ op ∧ op ≤ 0x1A) || decide (0x20 ≤ op ∧ op ≤ 0x27) ||
  decide (0x31 ≤ op ∧ op ≤ 0x35)

/-- Is the command one that the table's row admits? -/
def Instr.wellFormed (i : Instr) : Bool :=
  match i with
  | .registerWrite _ _ _ => true
  | .sysFaultCtlWrite _ _ => true
  | .safeNFall => true
  | .safeNRecognised => true
  | .safeNRise => true
  | .d2dLinkDown => true
  | .d2dLinkUp => true
  | .parityMismatch t u => decide (u.toNat < unitCount t)
  | .tileReset _ => true
  | .unitReset t u => decide (u.toNat < unitCount t)
  | .transactionCheck _ => true
  | .transactionTimeout _ => true
  | .gtcCounterMismatch flip => decide (flip ≠ 0)
  | .pllLossOfLock _ => true
  | .referenceClockLoss => true
  | .alignmentWord _ => true
  | .pwrCopyHoldEnd => true
  | .nightCrystalFail => true
  | .gtcReconcile => true
  | .eventRelease _ => true
  | .waiteDeadline _ => true
  | .noticeTrap _ => true
  | .almanacStep _ _ => true
  | .syncLossTimeout => true
  | .syncRelay _ _ _ => true
  | .ppsCapture _ => true
  | .triggerCtlWrite _ _ _ _ => true
  | .triggerFire _ => true
  | .pulseEnd _ => true
  | .timeLateClr _ => true
  | .add _ _ _ _ => true
  | .sub _ _ _ _ => true
  | .and _ _ _ _ => true
  | .or _ _ _ _ => true
  | .xor _ _ _ _ => true
  | .andn _ _ _ _ => true
  | .shl _ _ _ _ => true
  | .shr _ _ _ _ => true
  | .sar _ _ _ _ => true
  | .rot _ _ _ _ => true
  | .min _ _ _ _ => true
  | .max _ _ _ _ => true
  | .minu _ _ _ _ => true
  | .maxu _ _ _ _ => true
  | .cmpeq _ _ _ _ => true
  | .cmpne _ _ _ _ => true
  | .cmplt _ _ _ _ => true
  | .cmpltu _ _ _ _ => true
  | .cmple _ _ _ _ => true
  | .cmpleu _ _ _ _ => true
  | .mul _ _ _ _ => true
  | .mulh _ _ _ _ => true
  | .mulhu _ _ _ _ => true
  | .div _ _ _ _ => true
  | .divu _ _ _ _ => true
  | .rem _ _ _ _ => true
  | .remu _ _ _ _ => true
  | .fadd _ _ _ _ => true
  | .fsub _ _ _ _ => true
  | .fmul _ _ _ _ => true
  | .fdiv _ _ _ _ => true
  | .fsqrt _ _ _ _ => true
  | .fmin _ _ _ _ => true
  | .fmax _ _ _ _ => true
  | .fcmpeq _ _ _ _ => true
  | .fcmplt _ _ _ _ => true
  | .fcmple _ _ _ _ => true
  | .fneg _ _ _ _ => true
  | .fabs _ _ _ _ => true
  | .fcvtdl _ _ _ _ => true
  | .fcvtdlu _ _ _ _ => true
  | .fcvtld _ _ _ _ => true
  | .fcvtlud _ _ _ _ => true
  | .fma _ _ _ _ _ => true
  | .fms _ _ _ _ _ => true
  | .fnma _ _ _ _ _ => true
  | .xbf _ _ _ _ _ _ => true
  | .xbfs _ _ _ _ _ _ => true
  | .ibf _ _ _ _ _ _ => true
  | .xoct _ _ _ _ _ => true
  | .ioct _ _ _ _ _ => true
  | .pget _ _ _ _ => true
  | .pset _ _ _ _ => true
  | .pmrg _ _ _ _ => true
  | .addi _ _ _ _ => true
  | .andi _ _ _ _ => true
  | .ori _ _ _ _ => true
  | .xori _ _ _ _ => true
  | .shli _ _ _ _ _ => true
  | .shri _ _ _ _ _ => true
  | .sari _ _ _ _ _ => true
  | .roti _ _ _ _ _ => true
  | .cmpeqi _ _ _ _ => true
  | .cmplti _ _ _ _ => true
  | .pseti _ _ _ _ => true
  | .pchk _ _ _ _ => true
  | .ptst _ _ _ _ => true
  | .ldw _ _ _ _ => true
  | .stw _ _ _ _ => true
  | .casw _ _ _ _ _ => true
  | .catr _ _ _ _ => true
  | .catrp _ _ _ _ => true
  | .catw _ _ _ _ => true
  | .catwSlipWalk => true
  | .emit _ _ _ _ => true
  | .waite _ _ _ _ _ => true
  | .beq _ _ _ _ => true
  | .bne _ _ _ _ => true
  | .blt _ _ _ _ => true
  | .bge _ _ _ _ => true
  | .bltu _ _ _ _ => true
  | .bgeu _ _ _ _ => true
  | .call _ _ _ => true
  | .callr _ _ _ _ => true
  | .li _ _ _ => true
  | .lsh _ _ _ => true
  | .brk _ _ _ => true
  | .drd _ _ _ _ _ => true
  | .dwr _ _ _ _ _ => true
  | .tlbFlush _ _ => true
  | .mbxPut _ _ _ _ _ => true
  | .mbxGet _ _ _ _ _ => true
  | .mbxRing _ _ _ _ _ => true
  | .csw _ _ _ _ _ => true
  | .fence _ _ _ _ _ => true
  | .sync _ _ _ _ _ => true
  | .rett _ _ _ _ _ => true
  | .catalogueMemoryWrite _ _ _ => true
  | .receptionContextOpen _ _ => true
  | .fieldUnpack _ _ _ _ => true
  | .dueTimeExpiry _ => true
  | .passVerdict _ => true
  | .failVerdict _ => true
  | .ledgerStallEnd _ => true
  | .triggerDelivery _ => true
  | .templateSend _ => true
  | .templatePeriodExpiry _ => true
  | .timeoutAction _ => true
  | .cataloguerStart _ _ _ => true
  | .cataloguerStop _ _ => true
  | .catCntClr _ => true
  | .collationStart _ _ _ => true
  | .collationStop _ _ => true
  | .collationDone _ _ => true
  | .frameClassification p src => frameFits p.val src
  | .cellAdmission _ => true
  | .cellRelease _ _ => true
  | .frameTransmitStart _ => true
  | .depCopyStart _ => true
  | .frameTransmitEnd _ => true
  | .agingPromotion _ _ => true
  | .gateChangeRequest _ _ _ => true
  | .gateListChange _ => true
  | .gateEntryAdvance _ => true
  | .ethLinkLoss _ => true
  | .ethLinkUp _ _ => true
  | .portEnable _ _ _ => true
  | .portDisable _ _ _ => true
  | .graceExpiry _ => true
  | .fdbWrite _ _ => true
  | .fdbRead _ _ => true
  | .plcaBeacon _ => true
  | .plcaBeaconTimeout _ => true
  | .encapMessage => true
  | .encapGatherExpiry _ => true
  | .decapMessage _ _ _ _ data => decide (data.length ≤ 2048)
  | .ringTailWrite _ _ _ => true
  | .mdioStart _ _ _ => true
  | .mdioFrameDone _ _ => true
  | .ethCntclr _ _ => true
  | .macsecCntclr _ _ => true
  | .copyRecordWaitEnd => true
  | .canCtlWrite _ _ _ => true
  | .canDisable _ _ _ => true
  | .canFrameMatch _ _ _ => true
  | .canFrameEnd _ _ data _ _ => decide (data.length ≤ 2048)
  | .canErrorDetected _ _ _ _ => true
  | .busOffRecoveryDone _ => true
  | .busOffRestart _ _ => true
  | .noackResume _ _ => true
  | .txRequest _ _ _ => true
  | .canTxAttemptStart _ => true
  | .canTxAttemptEnd _ _ => true
  | .canDeferredCopy _ _ => true
  | .canAbort _ _ _ => true
  | .canEscalation _ _ => true
  | .mbDisable _ _ _ => true
  | .canCntclr _ _ => true
  | .linScheduleRun _ _ _ => true
  | .linSwitch _ _ _ => true
  | .linSlotStart _ => true
  | .linBreakReceived _ _ _ _ => true
  | .linResponseEnd _ _ data => decide (data.length ≤ 8)
  | .linResponseTimeout _ => true
  | .linIdleTimeout _ => true
  | .linCntclr _ _ => true
  | .wingEnable _ _ _ => true
  | .wingDisable _ _ _ => true
  | .wingReady _ _ _ => true
  | .minAwakeExpiry _ => true
  | .tokenReceived _ _ _ => true
  | .hopTimeout _ => true
  | .retryExpiry _ => true
  | .lockupInstant _ => true
  | .wakeRequest _ => true
  | .wingWakeWrite _ _ => true
  | .segmentUp _ => true
  | .wakeTmoExpiry _ => true
  | .linWakeResume _ => true
  | .overrule _ => true
  | .selectiveWakeMatch _ _ _ _ _ _ => true
  | .swDecodeError _ => true
  | .linWakePulse _ => true
  | .wakePinEdge _ _ _ => true
  | .aonTimerExpiry => true
  | .nmCntclr _ => true
  | .channelCommand _ => true
  | .shortCircuitTrip _ _ => true
  | .desatTrip _ _ _ => true
  | .overcurrentTrip _ _ => true
  | .wireModelUpdate _ _ _ _ => true
  | .restartDue _ => true
  | .streakClean _ => true
  | .rearm _ _ => true
  | .thermalLatchSet _ _ => true
  | .thermalLatchRelease _ _ => true
  | .clampEnd _ _ => true
  | .clampLockRelease _ => true
  | .openLoadOn _ _ => true
  | .openLoadOff _ _ => true
  | .extDrivenDetect _ _ => true
  | .shed _ => true
  | .reverseCurrentBlock _ _ => true
  | .reverseCurrentRecover _ => true
  | .supplyConditionEntry _ _ => true
  | .supplyConditionExit _ _ => true
  | .reverseBatteryEnd _ => true
  | .leaseExpiry _ => true
  | .dieTempWarn _ => true
  | .loadCntclr _ _ => true
  | .coreMismatch _ _ _ _ => true
  | .checkerFault _ _ _ => true
  | .digestRequest _ => true
  | .digestCompare _ _ => true
  | .reserveHandover => true
  | .reserveDesignate _ _ => true
  | .pairRelease _ _ => true
  | .injectionTestDone _ _ => true
  | .pairReset _ _ => true
  | .debugEntry _ _ => true
  | .coreMultWrite _ _ => true
  | .correctionWrite _ => true
  | .scrubRead _ _ _ => true
  | .rangeFillStart _ _ => true
  | .pageTestStart _ _ => true
  | .fillComplete _ => true
  | .bankRestore _ _ => true
  | .bankFillDone _ => true
  | .stkCeclr _ => true
  | .archiveEntryWrite => true
  | .archPut _ _ => true
  | .archClr _ => true
  | .archRetClr _ => true
  | .xspiCommand _ _ => true
  | .xspiCommandDone _ data _ => decide (data.length ≤ 256)
  | .xspiCopy _ _ => true
  | .xspiCopyDone => true
  | .permitWrite _ _ _ => true
  | .ownershipWrite _ _ _ => true
  | .permLogClr _ => true
  | .twinOutboundIssue _ => true
  | .twinInboundArrival _ => true
  | .crossingResponse => true
  | .bridgeRetry => true
  | .bridgeAttemptTimeout => true
  | .mirrorRefusalReport _ _ => true
  | .semaphoreAcquire _ _ _ => true
  | .semaphoreRelease _ _ _ => true
  | .twinBrLogclr _ => true
  | .carrelConfigure _ _ _ => true
  | .carrelStart _ _ => true
  | .carrelReset _ _ => true
  | .carrelQuiesceEnd _ => true
  | .timetableEnable _ _ _ _ => true
  | .timetableChange _ _ _ _ => true
  | .timetableAdopt _ _ => true
  | .contextPrefetch _ _ => true
  | .timetableSwitch _ _ => true
  | .checkpointCommit _ => true
  | .sessionEnable _ _ _ => true
  | .remoteFrameReceive => true
  | .remoteRequestServe _ => true
  | .remoteNoticeGatherExpiry _ => true
  | .carrelRcCntclr _ => true
  | .encrypt _ => true
  | .decrypt _ => true
  | .mac _ => true
  | .macVerify _ => true
  | .hash _ => true
  | .sign _ => true
  | .verify _ => true
  | .agree _ => true
  | .encap _ => true
  | .decap _ => true
  | .kdf _ => true
  | .generate _ => true
  | .unwrap _ => true
  | .wrap _ => true
  | .pubkey _ => true
  | .retire _ => true
  | .erase _ => true
  | .random _ => true
  | .bookplate _ => true
  | .holdcert _ => true
  | .measure _ => true
  | .svnAdvance _ => true
  | .tamperClear _ => true
  | .revokeRoot _ => true
  | .vaultAbort _ _ => true
  | .vaultCommandDone _ => true
  | .slotProgrammingDone _ => true
  | .orphanErase _ => true
  | .entropyHealthFailure _ => true
  | .entropyRecovery => true
  | .drbgReseed => true
  | .tamperRecognised _ => true
  | .zeroiseComplete => true
  | .heartbeatWord _ _ _ => true
  | .timeWord _ _ => true
  | .laneDown _ => true
  | .twinLinkDown => true
  | .twinLinkUp lanes _ => decide (lanes ≠ 0)
  | .twAliveToggle => true
  | .sidebandLost => true
  | .sidebandRecovered => true
  | .twTakeInRecognised => true
  | .witnessWindowEnd _ => true
  | .mapWrite _ _ _ _ => true
  | .mirrorRecordApply _ _ _ _ _ => true
  | .demandRecord _ _ => true
  | .twinRelayEvent _ _ _ _ => true
  | .departReceived => true
  | .peerWake _ => true
  | .twinCntclr _ => true
  | .dozeRequest _ => true
  | .dozeEntered => true
  | .dozeExit => true
  | .parkRequest _ => true
  | .parkGtcHandoff => true
  | .parkExit => true
  | .pgoodRise _ _ _ _ => true
  | .crystalQualified => true
  | .crystalRetry => true
  | .fillDone => true
  | .librarianRelease => true
  | .pgoodTimeout => true
  | .pgoodFall => true
  | .powerOnReset _ => true
  | .warmReset => true
  | .computeDieReset => true
  | .powerLoss _ => true
  | .vbat12Return => true
  | .gpioEdge _ _ => true
  | .gpioSet _ _ _ => true
  | .gpioClr _ _ _ => true
  | .adcStart _ _ _ => true
  | .adcGroupComplete _ _ => true
  | .undefinedOp _ w => !definedOp (w.extractLsb' 30 6).toNat
  | .pulseOnEdge _ => true
  | .pulseOnTimeEnd _ => true
  | .laneUp _ => true
  | .resetPinRise _ => true
  | .resetHoldExpiry _ _ _ _ => true
  | .debugImageWritten _ => true

end Sys2Proof
end

