-- ==== Sys2Proof/Tests/Slice0.lean ====
section
/-!
SUPPORT. Tests: ill-formed commands, the worked examples of the spec, single steps, and for each statement that has hypotheses a
state and operands that meet them (witness_ and the statement's name).
-/
namespace Sys2Proof.Tests

open Sys2Proof Machine Claim

set_option Elab.async false

/-! ### States -/

/-- A device in AWAKE with both dies running, its registers as reset leaves them. -/
def up : State := { State.reset with power := { pstate := .awake, computeHeld := false, boot := .running, pgood := true } }
/-- Set fields of registers. -/
def wr (s : State) (l : List (Nat × Fld × Nat)) : State := l.foldl (fun t x => t.set x.1 x.2.1 x.2.2) s
/-- The same state at n ns. -/
def at_ (n : Nat) (s : State) : State := { s with time := { s.time with gtc := BitVec.ofNat 64 n, gtcDup := BitVec.ofNat 64 n, pwrGtc := BitVec.ofNat 64 n, el := n } }
/-- The twin link is up, with both directions of the bridge open. -/
def lnk : State := wr up [(R.TWIN_STAT, F.TWIN_STAT_LINK_UP, 1), (R.TWIN_BR_CTL, F.TWIN_BR_CTL_IN_EN, 1), (R.TWIN_BR_CTL, F.TWIN_BR_CTL_OUT_EN, 1)]
/-- The same on side B. -/
def lnkB : State := wr lnk [(R.TWIN_STAT, F.TWIN_STAT_SIDE, 1)]

/-- Core 0 may execute in librarian mode. -/
def rdy : State :=
  let s := wr up [(R.EXEC_Pp_STAT 0, F.EXEC_Pp_STAT_STATE, 2)]
  s.setCore 0 { s.core 0 with idle := false }
/-- Core 0 may execute carrel 1 in a mode. -/
def moded (m : BitVec 2) : State :=
  let s := wr rdy [(R.CARREL_Cc_TBASE 1, F.CARREL_Cc_TBASE_EN, 1), (R.CARREL_Cc_STAT 1, F.CARREL_Cc_STAT_STATE, 2),
    (R.STK_TAGn 0, F.STK_TAGn_SHARED, 1)]
  s.setCore 0 { s.core 0 with mode := m, d1 := 1, tlb := [⟨1, 0, 0, false, 0xF⟩] }
/-- Cataloguer 63 may execute. -/
def cuRdy : State := wr up [(R.CATG_CUn_CTL 63, F.CATG_CUn_CTL_RUN, 1), (R.CATG_CUn_CTL 63, F.CATG_CUn_CTL_RUN_LIMIT, 1)]
theorem core_ready : CoreReady 0 rdy rdy := by unfold CoreReady; decide +kernel
theorem core_ready_user : CoreReady 0 (moded 0b00) (moded 0b00) := by unfold CoreReady; decide +kernel
theorem core_ready_supervisor : CoreReady 0 (moded 0b01) (moded 0b01) := by unfold CoreReady; decide +kernel
theorem cu_fetches : CuFetches 63 cuRdy cuRdy := ⟨by decide +kernel, by decide +kernel, ⟨_, by rfl⟩, rfl⟩
theorem cu_ready : CuReady 63 cuRdy cuRdy := ⟨cu_fetches, by decide +kernel⟩
/-- Core 0 may execute with a value in L1. -/
def rdyAt (a : BitVec 64) : State := rdy.setLreg 0 1 (immw a)
theorem ready_of (s : State) (h : coreLive 0 s = true ∧ noticeTrapDue 0 s = false ∧ coreFetch 0 s = (true, s) ∧ s.power.computeHeld = false) :
    CoreReady 0 s s := h

/-- The boot core's librarian at ASIL D. -/
def libId : Ident := { master := 0, carrel := 0, lib := true, crit := 3 }
/-- Carrel k is configured and stopped, its notices in 4 words at b. -/
def configured (k b remote : Nat) (s : State) : State :=
  wr s [(R.CARREL_Cc_CFG k, F.CARREL_Cc_CFG_V, 1), (R.CARREL_Cc_CFG k, F.CARREL_Cc_CFG_QDEPTH, 4), (R.CARREL_Cc_CFG k, F.CARREL_Cc_CFG_QBASE, b),
    (R.CARREL_Cc_CFG k, F.CARREL_Cc_CFG_REMOTE, remote), (R.CARREL_Cc_STAT k, F.CARREL_Cc_STAT_STATE, 1), (R.CARREL_Cc_CTX k, F.CARREL_Cc_CTX_BASE,
        16)]
/-- Configured carrels, a wing with a segment, a checked uplink, and a test of the reserve pair passed. -/
def rich : State :=
  wr (configured 511 2048 1 (configured 341 2052 0 up)) [(R.EXEC_INJ, F.EXEC_INJ_PASSED, 0xFF), (R.NM_CTL, F.NM_CTL_EN, 1),
    (R.NM_SEGs_CFG 17, F.NM_SEGs_CFG_MEMBER, 1), (R.NM_SEGs_CFG 17, F.NM_SEGs_CFG_WING, 15), (R.LINm_CTL 1, F.LINm_CTL_ROLE, 1),
    (R.MACSEC_Iu_CTL 0, F.MACSEC_Iu_CTL_EN, 1), (R.MACSEC_Iu_CTL 0, F.MACSEC_Iu_CTL_VALIDATE, 2)]
/-- `Accepted`, as a computation. -/
def accepts (id : Ident) (a : Nat) (w : BitVec 64) (s : State) : Bool :=
  plainReg a s && decide (accessCheck (writeOf id a w) s = none) &&
  (match regAt a with | some r => !r.refuses (s.reg a) w | none => false) && !blkRefuses (writeOf id a w) w (newValue a w s) s
theorem accepted_of {id : Ident} {a : Nat} {w : BitVec 64} {s : State} (h : accepts id a w s = true) : Accepted id a w s := by
  simp only [accepts, Bool.and_eq_true, decide_eq_true_eq, Bool.not_eq_true'] at h
  refine ⟨h.1.1.1, h.1.1.2, ?_, h.2⟩
  have h2 := h.1.2
  split at h2
  · exact ⟨_, by assumption, by simpa using h2⟩
  · simp at h2

/-! ### Ill-formed commands are refused -/

theorem test_wellFormed_units :
    (Instr.parityMismatch .lin 8).wellFormed = false ∧ (Instr.parityMismatch .lin 7).wellFormed = true ∧
    (Instr.unitReset (.can 3) 4).wellFormed = false ∧ (Instr.unitReset (.can 3) 3).wellFormed = true := by decide
theorem test_wellFormed_values :
    (Instr.gtcCounterMismatch 0).wellFormed = false ∧ (Instr.twinLinkUp 0 []).wellFormed = false ∧
    (Instr.undefinedOp (.core 0) (5#6 ++ 0#30)).wellFormed = false ∧ (Instr.undefinedOp (.core 0) (BitVec.allOnes 36)).wellFormed = true := by
  decide +kernel
theorem test_wellFormed_frames :
    (Instr.frameClassification 12 (.wire [] true false none)).wellFormed = false ∧ (Instr.frameClassification 11 .internal).wellFormed = false := by
  decide
theorem test_wellFormed_lengths :
    (Instr.decapMessage 0 0 0 0 (List.replicate 2049 0)).wellFormed = false ∧
    (Instr.canFrameEnd 0 true (List.replicate 2049 0) 0 0).wellFormed = false ∧
    (Instr.linResponseEnd 0 0 (List.replicate 9 0)).wellFormed = false ∧
    (Instr.xspiCommandDone true (List.replicate 257 0) []).wellFormed = false := by decide +kernel

/-! ### The spec's worked examples -/

/-- spec/01_architecture.md, Provenance: the corrected wheel speed. -/
theorem test_merge_of_the_wheel_speed :
    pMerge 0xD0 0x81 = 0x91 ∧ pMerge 0x91 0xC0 = 0x91 ∧ pClamp 0b01 0x91 = 0x51 := by decide
/-- spec/04_yilfixa_instruction_reference.md, under R156: the mask 0x231. -/
theorem test_mask_of_the_wheel_speed : pMeets 0x91 0x231 = true ∧ pMeets 0x51 0x231 = false := by decide
/-- spec/04_yilfixa_instruction_reference.md, Worked encodings. -/
theorem test_worked_encodings :
    encR 0x01 5 6 7 0x001 = 0x045187001#36 ∧ encB 0x30 3 9 2 0xFFD = 0xC03242FFD#36 := by decide
/-- spec/02_time_and_ordering.md, under R63: short stamps against 0x12_0000_1000. -/
theorem test_short_stamps :
    extStamp 32 0xFFFFF000 0x1200001000 = 0x11FFFFF000 ∧ extStamp 32 0x800 0x1200001000 = 0x1200000800 := by decide
/-- spec/05_signal_catalogue.md, under R190: the Motorola and the Intel field of a CAN FD data field. -/
theorem test_unpack :
    let f : Octets := [0x00, 0x00, 0xA7, 0x3C, 0x9D, 0x61]
    unpack f (positions 23 true 12) true = 0xA73 ∧ unpack f (positions 34 false 10) false = 0x067 := by decide +kernel
/-- spec/05_signal_catalogue.md R231: the check values over "123456789" of POLY 0 to 7. -/
theorem test_check_values :
    (List.range 8).map (fun p => crcOf (crcFixed p) [0x31, 0x32, 0x33, 0x34, 0x35, 0x36, 0x37, 0x38, 0x39]) =
      [0x4B, 0xDF, 0x29B1, 0xBB3D, 0xCBF43926, 0xE3069283, 0x1697D06A, 0x995DC9BBDF1939FA] := by decide +kernel
/-- spec/13_carrels.md, under R515: carrel 300's request for shelfmark 0x0_4A21 with TAG 42. -/
theorem test_remote_request :
    let q := requestOf [0x01, 0x06, 0x01, 0x2C, 0, 0, 0, 0x2A, 0x01, 0, 0, 0, 0, 0, 0, 0, 0x4A, 0x21]
    q.ver = 1 ∧ q.op = 6 ∧ q.carrel = 300 ∧ q.tag = 42 ∧ q.count = 1 ∧ q.flags = 0 ∧ q.address = 0x4A21 := by
  decide +kernel

/-! ### One step -/

/-- What the step of the one waiting command leaves of a state, of which `f` reads a part. -/
def after {α : Type} (c : Instr) (s : State) (f : State → α) : Option α :=
  match step { s with pending := [c] } with
  | .next t => some (f t)
  | _ => none

/-- spec/04_yilfixa_instruction_reference.md, under R152: the second LSH of the worked constant. -/
theorem test_lsh : after (.lsh (.core 0) 1 0xABCDEF) (rdyAt 0x123456789) (fun t => t.lreg 0 1) = some (immw 0x0123456789ABCDEF) := by
  decide +kernel
/-- R150: a division by zero gives all ones and raises VAL to invalid. -/
theorem test_div_by_zero : after (.div (.core 0) 2 1 0) (rdyAt 7) (fun t => t.lreg 0 2) = some (mkw (BitVec.allOnes 64) 0xC2) := by
  decide +kernel
/-- R149: the sum wraps, into a register that is also a source. -/
theorem test_add_wraps : after (.add (.core 0) 1 1 1) (rdyAt (2 ^ 63 + 1)) (fun t => t.lreg 0 1) = some (immw 2) := by decide +kernel
/-- R110 to R113: carrel 37's walk of spec/03_yilfixa_programming_model.md, with the tables where the example has them. -/
theorem test_walk :
    let s := (((moded 0b00).setCore 0 { (moded 0b00).core 0 with d1 := 37, tlb := [] }).wrMem 0x400201 (BitVec.ofNat 72 (1 + 0x400400)) |>.wrMem
      0x400409 (BitVec.ofNat 72 (1 + 0x400600))).wrMem 0x400634 (BitVec.ofNat 72 (1 + 2 + 4 * 0b1011 + 0x523000))
    (reach 0 0x41234567 .read (wr s [(R.CARREL_Cc_TBASE 37, F.CARREL_Cc_TBASE_EN, 1), (R.CARREL_Cc_TBASE 37, F.CARREL_Cc_TBASE_ROOT, 0x400200 / 512),
      (R.STK_TAGn 0x400, F.STK_TAGn_OWNER, 37)])).1 = .inr 0x523567 := by decide +kernel
/-- R81 to R83: slot 9 of spec/02_time_and_ordering.md fires once and skips twice when the almanac is stepped. -/
theorem test_trigger_catches_up :
    let s := wr { up with time := { up.time with almSec := 1200, almNs := 47000000 } } [(R.TIME_TRGn_CTL 9, F.TIME_TRGn_CTL_EN, 1),
      (R.TIME_TRGn_CTL 9, F.TIME_TRGn_CTL_BASE, 1), (R.TIME_TRGn_CTL 9, F.TIME_TRGn_CTL_PERIODIC, 1), (R.TIME_TRGn_PER 9, F.TIME_TRGn_PER_PER,
          10000000),
      (R.TIME_TRGn_CMP_SEC 9, F.TIME_TRGn_CMP_SEC_SEC, 1200)]
    after (.triggerFire 9) (s.setReg (R.TIME_TRGn_CMP 9) 20000000) (fun t => (t.get (R.TIME_TRGn_STAT 9) F.TIME_TRGn_STAT_FIRE_CNT,
      t.get (R.TIME_TRGn_STAT 9) F.TIME_TRGn_STAT_SKIP_CNT, t.reg (R.TIME_TRGn_CMP 9))) = some (1, 2, 50000000) := by decide +kernel
/-- R6: a write of one to a W1C bit clears it. -/
theorem test_write_one_clears :
    after (.registerWrite libId (BitVec.ofNat 48 R.TIME_PPS_CTL) (immw (fmask F.TIME_PPS_CTL_OVR))) (wr up [(R.TIME_PPS_CTL, F.TIME_PPS_CTL_OVR, 1)])
      (fun t => (t.bit R.TIME_PPS_CTL F.TIME_PPS_CTL_OVR, t.resp)) = some (false, .done) := by decide +kernel

/-! ### The hypotheses of the statements are met -/

theorem witness_AluAndMulDivGroupsCompute : (∃ c s t, CoreReady c s t) ∧ ∃ n s t, CuReady n s t ∧ ∀ r ∈ ([31, 31, 31] : List Reg), r.toNat < 32 :=
  ⟨⟨0, _, _, core_ready⟩, 63, _, _, cu_ready, by decide⟩

theorem witness_ImmediateFormsCompute : (∃ c s t, CoreReady c s t) ∧ ∃ n s t, CuReady n s t ∧ ∀ r ∈ ([31, 31] : List Reg), r.toNat < 32 :=
  ⟨⟨0, _, _, core_ready⟩, 63, _, _, cu_ready, by decide⟩

theorem witness_FieldsOctetsProvenanceCompute :
    (∃ c s t, CoreReady c s t) ∧ (∃ n s t, CuReady n s t ∧ ∀ r ∈ ([31, 31, 0] : List Reg), r.toNat < 32) ∧
    (∃ pos wm : BitVec 6, pos.toNat + (wm.toNat + 1) ≤ 64) ∧ ∃ k : BitVec 4, k.toNat ≤ 8 :=
  ⟨⟨0, _, _, core_ready⟩, ⟨63, _, _, cu_ready, by decide⟩, ⟨63, 0, by decide⟩, 8, by decide⟩

theorem witness_FloatingPointComputes : ∃ c s t, CoreReady c s t := ⟨0, _, _, core_ready⟩

theorem witness_BranchesAndCallsJump :
    (∃ c s t, CoreReady c s t ∧ (wv (t.lreg c.val 1)).toNat < 2 ^ 49) ∧
    (∃ c s t, CoreReady c s t ∧ 2 ^ 49 ≤ (wv (t.lreg c.val 1)).toNat) ∧
    ∃ n s t, CuReady n s t ∧ (31 : Reg).toNat < 32 ∧ (31 : Reg).toNat < 32 :=
  ⟨⟨0, rdy, _, core_ready, by decide +kernel⟩, ⟨0, rdy.setLreg 0 1 (immw (2 ^ 49)), _, ready_of _ (by decide +kernel), by decide +kernel⟩,
   63, _, _, cu_ready, by decide, by decide⟩

theorem witness_LoadsStoresAndCompares :
    let d (s : State) : Word := wClamp (coreCeil 0 s) (s.lreg 0 0)
    let txn (k : TKind) (pa : Nat) (data expect : Word) (s : State) : Txn :=
      { kind := k, addr := BitVec.ofNat 48 pa, data := data, expect := expect, id := coreId 0 (if k = .read then 0 else pCrit (wp data)) s }
    (∃ s t1 pa, CoreReady 0 s s ∧ reach 0 (wv (s.lreg 0 1) + (0x1FFFF#18).signExtend 64).toNat .read s = (.inr pa, t1) ∧
      regionOf pa ≠ .twin ∧ ∃ w u, fabric (txn .read pa 0 0 s) t1 = (.word w, u) ∧ u.power.computeHeld = false) ∧
    (∃ s t1 pa, CoreReady 0 s s ∧ reach 0 (wv (s.lreg 0 1) + (0x1FFFF#18).signExtend 64).toNat .read s = (.inr pa, t1) ∧
      regionOf pa ≠ .twin ∧ ∃ r u, fabric (txn .read pa 0 0 s) t1 = (.err r, u)) ∧
    (∃ s t1 pa, CoreReady 0 s s ∧ reach 0 (wv (s.lreg 0 1) + (0#18).signExtend 64).toNat .write s = (.inr pa, t1) ∧
      regionOf pa ≠ .twin ∧ ∃ u, fabric (txn .write pa (d s) 0 s) t1 = (.done, u) ∧ u.power.computeHeld = false) ∧
    (∃ s t1 pa, CoreReady 0 s s ∧ reach 0 (wv (s.lreg 0 1)).toNat .cas s = (.inr pa, t1) ∧
      regionOf pa ≠ .twin ∧ ∃ w u, fabric (txn .cas pa (d s) (s.lreg 0 0) s) t1 = (.word w, u) ∧ u.power.computeHeld = false) ∧
    (∃ s t1 pa, CoreReady 0 s s ∧ reach 0 (wv (s.lreg 0 1)).toNat .cas s = (.inr pa, t1) ∧
      regionOf pa ≠ .twin ∧ ∃ r u, fabric (txn .cas pa (d s) (s.lreg 0 0) s) t1 = (.err r, u)) ∧
    (∃ s t1 cause reason, CoreReady 0 s s ∧ reach 0 (wv (s.lreg 0 1)).toNat .cas s = (.inl (cause, reason), t1)) :=
  ⟨⟨rdyAt 0, _, _, ready_of _ (by decide +kernel), rfl, by decide +kernel, _, _, rfl, by decide +kernel⟩,
   ⟨rdyAt 0x900000, _, _, ready_of _ (by decide +kernel), rfl, by decide +kernel, _, _, rfl⟩,
   ⟨rdyAt 0x7FFFFF, _, _, ready_of _ (by decide +kernel), rfl, by decide +kernel, _, rfl, by decide +kernel⟩,
   ⟨rdyAt 0x7FFFFF, _, _, ready_of _ (by decide +kernel), rfl, by decide +kernel, _, _, rfl, by decide +kernel⟩,
   ⟨rdyAt 0x900000, _, _, ready_of _ (by decide +kernel), rfl, by decide +kernel, _, _, rfl⟩,
   ⟨rdyAt (2 ^ 48), _, _, _, ready_of _ (by decide +kernel), rfl⟩⟩

theorem witness_CatalogueInstructionsReadAndWrite :
    (∃ s, CoreReady 0 s s ∧ coreMayRead 0 (2 ^ 20 - 1) s = true ∧ ∃ w u, catRead (2 ^ 20 - 1) true s = (w, u) ∧ u.power.computeHeld = false) ∧
    (∃ s, CoreReady 0 s s ∧ coreMayRead 0 (2 ^ 20) s = false) ∧
    (∃ s, CoreReady 0 s s ∧ pProv (wp (s.lreg 0 1)) = true) ∧
    (∃ s, CoreReady 0 s s ∧ pProv (wp (s.lreg 0 1)) = false ∧ coreMayWrite 0 5 s = true ∧ ∃ u, catWrite 5 (wClamp (coreCeil 0 s) (s.lreg 0 1)) s = u ∧
      u.power.computeHeld = false) ∧
    (∃ s, CoreReady 0 s s ∧ pProv (wp (s.lreg 0 1)) = false ∧ coreMayWrite 0 5 s = false) ∧
    (∃ s, CuReady 63 s s ∧ cuMayRead 63 0 s = true ∧ ∃ w u, catRead 0 false s = (w, u) ∧ u.cu 63 = s.cu 63 ∧ pProv (wp w) = false) ∧
    (∃ s, CuReady 63 s s ∧ cuMayRead 63 (2 ^ 20) s = false ∧ pProv (wp (cuReg 63 0 s)) = false ∧ (s.cu 63).mask = 0 ∧ cuMayWrite 63 0 s = false) ∧
    (∃ s, CuReady 63 s s ∧ pProv (wp (cuReg 63 1 s)) = true) :=
  ⟨⟨rdy, core_ready, by decide +kernel, _, _, rfl, by decide +kernel⟩, ⟨rdy, core_ready, by decide +kernel⟩,
   ⟨rdy.setLreg 0 1 (mkw 0 (pSetProv true 0)), ready_of _ (by decide +kernel), by decide +kernel⟩,
   ⟨rdy.wrMem (catA 5 2) (BitVec.ofNat 72 (2 * 2 ^ 0)), ready_of _ (by decide +kernel), by decide +kernel, by decide +kernel, _, rfl,
       by decide +kernel⟩,
   ⟨rdy, core_ready, by decide +kernel, by decide +kernel⟩,
   ⟨wr cuRdy [(R.CATG_TLt_RD_LO 7, F.CATG_TLt_RD_LO_SHELF, 0), (R.CATG_TLt_RD_HI 7, F.CATG_TLt_RD_HI_SHELF, 0)],
     ⟨⟨by decide +kernel, by decide +kernel, ⟨_, by rfl⟩, rfl⟩, by decide +kernel⟩, by decide +kernel, _, _, rfl, by decide +kernel,
         by decide +kernel⟩,
   ⟨cuRdy, cu_ready, by decide +kernel, by decide +kernel, by decide +kernel, by decide +kernel⟩,
   ⟨cuRdy.setCu 63 ((cuRdy.cu 63).put 1 (mkw 0 (pSetProv true 0))), ⟨⟨by decide +kernel, by decide +kernel, ⟨_, by rfl⟩, rfl⟩, by decide +kernel⟩,
       by decide +kernel⟩⟩

theorem witness_WaiteTakesTheOldestNotice :
    (∃ (rd : Reg) (s : State) (x : Notice) (xs : List Notice), CoreReady 0 s s ∧ rd ≠ 0 ∧ rd.toNat % 2 = 0 ∧
      (s.carrel (s.core 0).d1.toNat).nq.queue = x :: xs) ∧
    (∃ (rd : Reg) (s : State), CoreReady 0 s s ∧ rd ≠ 0 ∧ rd.toNat % 2 = 0 ∧ (s.carrel (s.core 0).d1.toNat).nq.queue = [] ∧
      s.now ≤ (wv (s.lreg 0 1)).toNat) ∧
    (∃ (rd : Reg) (s : State), CuFetches 63 s s ∧ rd ≠ 0 ∧ rd.toNat % 2 = 0 ∧ rd.toNat < 32) ∧
    (∃ (c : Fin 16) (s : State) (rd : Reg) (dl : Nat), (s.core c.val).wait = some (.waite rd dl) ∧ dl ≠ 0 ∧ dl < s.now) :=
  ⟨⟨62, rdy.setCarrel 0 { rdy.carrel 0 with nq := { queue := [{}] } }, {}, [], ready_of _ (by decide +kernel), by decide, by decide, by rfl⟩,
   ⟨62, rdy, core_ready, by decide, by decide, by decide +kernel, by decide +kernel⟩,
   ⟨30, cuRdy, cu_fetches, by decide, by decide, by decide⟩,
   15, at_ 2 (up.setCore 15 { wait := some (.waite 2 1) }), 2, 1, by decide +kernel, by decide, by decide +kernel⟩

theorem witness_EmitWalksItsOutputList :
    (∃ (imm : BitVec 18) (s : State), CuReady 63 s s ∧ 255 < imm.toNat) ∧
    (∃ (imm : BitVec 18) (s u : State) (m : Word), CuReady 63 s s ∧ imm.toNat ≤ 255 ∧
      engRead (slipA (0x8000 + 256 * 63 + imm.toNat)) s = (m, u) ∧ m.getLsbD 20 = false) ∧
    (∃ (imm : BitVec 18) (s u : State) (m : Word), CuReady 63 s s ∧ imm.toNat ≤ 255 ∧
      engRead (slipA (0x8000 + 256 * 63 + imm.toNat)) s = (m, u) ∧ m.getLsbD 20 = true ∧ u.cu 63 = s.cu 63 ∧ (s.cu 63).failed = false ∧
      (s.cu 63).mask = 0) :=
  ⟨⟨256, cuRdy, cu_ready, by decide⟩, ⟨255, cuRdy, _, _, cu_ready, by decide, rfl, by decide +kernel⟩,
   255, cuRdy.wrMem (slipA (0x8000 + 256 * 63 + 255)) (BitVec.ofNat 72 (2 ^ 20)), _, _,
     ⟨⟨by decide +kernel, by decide +kernel, ⟨_, by rfl⟩, rfl⟩, by decide +kernel⟩, by decide, rfl, by decide +kernel, by rfl, by rfl, by rfl⟩

theorem witness_DeskRegisterAccess :
    (∃ s, CoreReady 0 s s ∧ (∃ x u, deskAccess 0 (s.core 0).mode = some 1 ∧ deskRead 0 0 s = (x, u) ∧ u.power.computeHeld = false) ∧
      (∃ k, deskAccess 37 (s.core 0).mode = some k ∧ 2 ≤ k ∧ deskBad 37 0 = false ∧ (deskWrite 0 37 0 s).power.computeHeld = false) ∧
      deskAccess 14 (s.core 0).mode = none ∧ (∃ k, deskAccess 49 (s.core 0).mode = some k ∧ 2 ≤ k ∧ deskBad 49 (2 ^ 10) = true) ∧
      (s.core 0).mode = 0b11) ∧
    (∃ s, CoreReady 0 s s ∧ deskAccess 49 (s.core 0).mode = some 0) :=
  ⟨⟨rdy, core_ready, ⟨_, _, by rfl, rfl, by decide +kernel⟩, ⟨_, rfl, by decide +kernel, by decide +kernel, by decide +kernel⟩, by decide +kernel,
    ⟨_, rfl, by decide, by decide⟩, by rfl⟩, moded 0b00, core_ready_user, by decide +kernel⟩

theorem witness_MessageDeskCarriesWords :
    (∃ s, CoreReady 0 s s ∧ decide ((s.core 0).mode = 0b00) = false ∧ (∃ u, deskPut 511 true 7 (wClamp (coreCeil 0 s) (s.lreg 0 0)) s = some u ∧
      u.power.computeHeld = false) ∧ deskPut 0 true 7 (wClamp (coreCeil 0 s) (s.lreg 0 0)) s = none ∧ (∃ w, deskGet 511 true 7 s = some w) ∧
      deskGet 0 true 7 s = none ∧ (∃ u, deskRing 511 true s = some u ∧ u.power.computeHeld = false) ∧ deskRing 0 true s = none) ∧
    (∃ s, CoreReady 0 s s ∧ decide ((s.core 0).mode = 0b00) = true) ∧
    (∃ (n : BitVec 9) (lib : Bool) (s : State), deskRefuses n.toNat s = false ∧ deskFull n.toNat lib s = false) ∧
    (∃ (n : BitVec 9) (lib : Bool) (s : State), deskRefuses n.toNat s = false ∧ deskFull n.toNat lib s = true) :=
  ⟨⟨rdy, core_ready, by decide +kernel, ⟨_, rfl, by decide +kernel⟩, by decide +kernel, ⟨_, rfl⟩, by decide +kernel, ⟨_, rfl, by decide +kernel⟩,
    by decide +kernel⟩, ⟨_, core_ready_user, by decide +kernel⟩, ⟨511, true, rdy, by decide +kernel, by decide +kernel⟩,
   511, false, wr rdy [(R.CARREL_Cc_DESK 511, F.CARREL_Cc_DESK_OUT_FULL, 1)], by decide +kernel, by decide +kernel⟩

theorem witness_FencesReturnsAndSwitches :
    (∃ s, CoreReady 0 s s ∧ (s.core 0).mode = 0b00) ∧ (∃ s, CoreReady 0 s s ∧ (s.core 0).mode = 0b01) ∧
    (∃ s, CoreReady 0 s s ∧ (s.core 0).mode = 0b11 ∧ (s.core 0).heldSwitch = false ∧ (s.core 0).d1 = 0 ∧
      boundToCore 0 (wf (s.lreg 0 1) 0 9) s = false) ∧
    (∃ s, CoreReady 0 s s ∧ (s.core 0).mode = 0b11 ∧ boundToCore 0 (wf (s.lreg 0 1) 0 9) s = true ∧ carState (wf (s.lreg 0 1) 0 9) s = 2) :=
  ⟨⟨_, core_ready_user, by decide +kernel⟩, ⟨_, core_ready_supervisor, by decide +kernel⟩,
   ⟨rdyAt 1, ready_of _ (by decide +kernel), by decide +kernel, by decide +kernel, by decide +kernel, by decide +kernel⟩,
   wr (rdyAt 511) [(R.CARREL_Cc_CFG 511, F.CARREL_Cc_CFG_V, 1), (R.CARREL_Cc_STAT 511, F.CARREL_Cc_STAT_STATE, 2)],
     ready_of _ (by decide +kernel), by decide +kernel, by decide +kernel, by decide +kernel⟩

theorem witness_BreaksAndUndefinedOps :
    (∃ s, CoreReady 0 s s ∧ (s.pair 0).bpArmed = false ∧ (s.core 0).mode ≠ 0b00) ∧
    (∃ s, CoreReady 0 s s ∧ (s.pair 0).bpArmed = true ∧ pairState 0 s = 2 ∧ pairSplit 0 s = false) ∧
    (∃ s, CoreReady 0 s s ∧ (s.core 0).mode = 0b00) ∧ (∃ w : BitVec 36, w.extractLsb' 30 6 = 0x3F) ∧ (∃ w : BitVec 36, w.extractLsb' 30 6 = 0) ∧
    (∃ i : BitVec 24, i ≠ 0 ∧ i.toNat < 0x800000) ∧ (∃ i : BitVec 24, 0x800000 ≤ i.toNat) ∧ ∃ s, CuReady 63 s s :=
  ⟨⟨rdy, core_ready, by decide +kernel, by decide +kernel⟩,
   ⟨{ rdy with pairs := spPut (fun _ => {}) rdy.pairs 0 { bpArmed := true } }, ready_of _ (by decide +kernel), by decide +kernel, by decide +kernel,
       by decide +kernel⟩,
   ⟨_, core_ready_user, by decide +kernel⟩, ⟨BitVec.allOnes 36, by decide⟩, ⟨0, by decide⟩, ⟨0x7FFFFF, by decide⟩, ⟨0x800000, by decide⟩, _, cu_ready⟩

theorem witness_BadEncodingsAndProfilesStop :
    (∃ (hi : BitVec 10) (rb : Reg) (pos wm : BitVec 6) (fn : BitVec 12) (imm : BitVec 18) (d : BitVec 8),
      hi ≠ 0 ∧ rb ≠ 0 ∧ 64 < pos.toNat + (wm.toNat + 1) ∧ fn ≠ 0 ∧ 2 ^ 10 ≤ imm.toNat ∧ d ≠ 0) ∧
    (∃ c s t, CoreReady c s t) ∧ (∃ n s t, CuReady n s t) ∧ (∃ rd : Reg, 32 ≤ rd.toNat) ∧
    (∃ (n : Fin 64) (s : State), cuLive n.val s = true ∧ s.get (R.CATG_CUn_CTL n.val) F.CATG_CUn_CTL_RUN_LIMIT ≤ (s.cu n.val).count) :=
  ⟨⟨1, 1, 63, 1, 1, 2 ^ 10, 1, by decide⟩, ⟨0, _, _, core_ready⟩, ⟨63, _, _, cu_ready⟩, ⟨32, by decide⟩,
   0, wr up [(R.CATG_CUn_CTL 0, F.CATG_CUn_CTL_RUN, 1), (R.CATG_CUn_CTL 0, F.CATG_CUn_CTL_RUN_LIMIT, 0)], by decide +kernel, by decide +kernel⟩

theorem witness_TrapsReachTheirHandler :
    let toLib (cause : Nat) (s : State) : Bool := decide ((s.core 0).mode = 0b11) || decide (cause = 0x07) || decide (cause = 0x0F)
    let armed (s : State) : Bool := tsTE (s.core 0).lk.tstat && !pairSplit 0 s
    (∃ s, toLib 0x08 s = false ∧ tsTE (deskOf 0 s).tstat = true ∧ (deskOf 0 s).tvec ≠ 0) ∧
    (∃ s, toLib 0x08 s = false ∧ (tsTE (deskOf 0 s).tstat = false ∨ (deskOf 0 s).tvec = 0) ∧ armed s = true) ∧
    (∃ s, toLib 0x08 s = true ∧ armed s = true) ∧
    (∃ s, toLib 0x0F s = true ∧ pairSplit 0 s = false ∧ tsTE (s.core 0).lk.tstat = false) ∧
    (∃ s, toLib 0x07 s = true ∧ pairSplit 0 s = true) :=
  ⟨⟨setDesk 0 { tstat := 4, tvec := 16 } (moded 0b00), by decide +kernel⟩, ⟨(moded 0b00).setCore 0 { (moded 0b00).core 0 with lk := { tstat := 4 } },
      by decide +kernel⟩,
   ⟨rdy.setCore 0 { rdy.core 0 with lk := { tstat := 4 } }, by decide +kernel⟩, ⟨rdy.setCore 0 { rdy.core 0 with lk := { tstat := 0 } },
       by decide +kernel⟩,
   wr (moded 0b00) [(R.EXEC_Pp_STAT 0, F.EXEC_Pp_STAT_SPLIT, 1)], by decide +kernel⟩

theorem witness_CommitsAndLedgerRegisters : (∃ r : Reg, r ≠ 0) ∧ (∃ q r : Reg, q ≠ r) ∧ (∃ r : Nat, r ≠ 0) ∧ ∃ a, a ≠ R.EXEC_Pp_COMMITS 0 :=
  ⟨⟨63, by decide⟩, ⟨63, 62, by decide⟩, ⟨31, by decide⟩, R.EXEC_Pp_COMMITS 7, by decide⟩

theorem witness_RegisterInstructionsFrame :
    ∃ (s u : State), CoreReady 0 s s ∧ (.add (.core 0) 1 2 3 : Instr) ∈ aluRows (.core 0) 1 2 3 ∧ exec (.add (.core 0) 1 2 3) s = .next u :=
  ⟨rdy, _, core_ready, by simp [aluRows], rfl⟩

theorem witness_IdleStepIsOneTick :
    (∃ s : State, s.pending = [] ∧ gtcRuns s = true ∧ s.linkUp = true ∧ s.power.powerHeld = false ∧
      s.bit R.TIME_GTC_STAT F.TIME_GTC_STAT_PWR_HELD = false ∧ almRate s = 0 ∧ s.time.almNs.toNat + 2 < 1000000000) ∧
    (∃ s : State, s.pending = [] ∧ s.time.coarseRun = true) :=
  ⟨⟨up, by decide +kernel⟩, { up with time := { up.time with coarseRun := true } }, by decide +kernel⟩

theorem witness_EveryStepKeepsTheCanonicalForm : ∃ s t : State, s.canonical = true ∧ step s = .next t :=
  ⟨{ up with pending := [.safeNFall] }, _, by decide +kernel, rfl⟩

theorem witness_SafeInputIsFilteredRecognisedAndReturned :
    (∃ s : State, s.faults.safeLow = false) ∧
    (∃ s : State, s.faults.safeLow = true ∧ s.faults.safeRec = false ∧ s.power.powerHeld = false ∧ s.faults.safeSince + 2000 ≤ s.el) ∧
    (∃ s : State, s.faults.safeLow = true ∧ s.faults.safeRec = false ∧ s.el < s.faults.safeSince + 2000) ∧
    (∃ s : State, s.faults.safeRec = true) ∧ (∃ s : State, s.faults.safeRec = false) :=
  ⟨⟨up, by decide +kernel⟩, ⟨at_ 2000 { up with faults := { up.faults with safeLow := true } }, by decide +kernel⟩,
   ⟨at_ 1999 { up with faults := { up.faults with safeLow := true } }, by decide +kernel⟩,
   ⟨{ up with faults := { up.faults with safeRec := true } }, by decide +kernel⟩, up, by decide +kernel⟩

theorem witness_DieLinkLossAndReturn :
    (∃ s : State, s.linkUp = true ∧ s.power.powerHeld = false ∧ s.power.computeHeld = false ∧ s.power.pstate ≠ .hold) ∧
    (∃ s : State, s.linkUp = false ∧ s.power.powerHeld = false ∧ s.power.computeHeld = false ∧ s.power.pstate ≠ .hold) ∧
    (∃ s : State, s.linkUp = false ∧ s.power.powerHeld = false ∧ s.power.computeHeld = true) :=
  ⟨⟨up, by decide +kernel⟩, ⟨{ up with linkUp := false }, by decide +kernel⟩,
   { State.reset with linkUp := false, power := { State.reset.power with computeHeld := true, powerHeld := false } }, by decide +kernel⟩

theorem witness_ParityMismatchContainsItsTile :
    ∃ (t : Tile) (s : State), s.power.computeHeld = false ∧ s.faults.device = none ∧ (∀ p, t ≠ .pair p) ∧ powerTile t = false :=
  ⟨.lin, up, by decide +kernel, by decide +kernel, by simp, by decide +kernel⟩

theorem witness_FaultClassesReact :
    ∃ (cls : Nat) (s : State), cls ≤ 3 ∧ s.arch.inq.length < 56 ∧ (cls = 0 → s.bit R.ARCH_CTL F.ARCH_CTL_CORR_EN = true) :=
  ⟨3, up, by decide +kernel⟩

theorem witness_TileAndUnitResets :
    (∃ (t : Tile) (s : State), s.power.computeHeld = false ∨ powerTile t = true) ∧
    (∃ (t : Tile) (s : State), s.power.computeHeld = true ∧ powerTile t = false) :=
  ⟨⟨.lin, up, by decide +kernel⟩, .lin, { up with power := { up.power with computeHeld := true } }, by decide +kernel⟩

theorem witness_ClockFaultsAndCopies :
    (∃ (flip : BitVec 64) (s : State), flip ≠ 0 ∧ gtcRuns s = true ∧ s.time.gtcDup = s.time.gtc) ∧
    (∃ (p : Fin 3) (s : State), pllsRun s = true ∧ (p ≠ 0 ∨ s.power.pstate ≠ .doze)) ∧
    (∃ s : State, pllsRun s = true ∧ s.power.pstate = .doze) ∧ (∃ s : State, pllsRun s = false) ∧
    (∃ s : State, gtcRuns s = true ∧ s.linkUp = true ∧ s.power.powerHeld = false ∧ s.now % 1024 < 2) ∧
    (∃ dev : BitVec 8, -8 ≤ dev.toInt ∧ dev.toInt ≤ 8) ∧ (∃ dev : BitVec 8, dev.toInt < -8 ∨ 8 < dev.toInt) ∧
    (∃ s : State, s.bit R.TIME_GTC_STAT F.TIME_GTC_STAT_PWR_HELD = true ∧ s.pnow ≤ s.now) ∧
    (∃ s : State, s.bit R.TIME_GTC_STAT F.TIME_GTC_STAT_NIGHT_SRC = false ∧ s.bit R.STK_STAT F.STK_STAT_FILLED = true ∧ pllsRun s = true) ∧
    (∃ s : State, s.bit R.TIME_GTC_STAT F.TIME_GTC_STAT_NIGHT_SRC = false ∧
      (s.bit R.STK_STAT F.STK_STAT_FILLED = false ∨ pllsRun s = false)) ∧
    (∃ s : State, s.power.boot = .waitReconcile ∧ s.time.coarseRun = true) ∧ (∃ s : State, syncLost s = true) :=
  ⟨⟨1, up, by decide +kernel⟩, ⟨0, up, by decide +kernel⟩, ⟨{ up with power := { up.power with pstate := .doze } }, by decide +kernel⟩,
   ⟨State.reset, by decide +kernel⟩, ⟨up, by decide +kernel⟩, ⟨8, by decide⟩, ⟨9, by decide⟩,
   ⟨wr up [(R.TIME_GTC_STAT, F.TIME_GTC_STAT_PWR_HELD, 1)], by decide +kernel⟩,
   ⟨wr up [(R.TIME_GTC_STAT, F.TIME_GTC_STAT_NIGHT_SRC, 0), (R.STK_STAT, F.STK_STAT_FILLED, 1)], by decide +kernel⟩,
   ⟨wr State.reset [(R.TIME_GTC_STAT, F.TIME_GTC_STAT_NIGHT_SRC, 0)], by decide +kernel⟩,
   ⟨{ up with power := { up.power with boot := .waitReconcile }, time := { up.time with coarseRun := true } }, by decide +kernel⟩,
   at_ (2 ^ 40) (wr up [(R.TIME_DOMd_CFG 0, F.TIME_DOMd_CFG_EN, 1)]), by decide +kernel⟩

theorem witness_CapturesAndTriggersFire :
    (∃ (rising : Bool) (s : State), gtcRuns s = true ∧ s.bit R.TIME_PPS_CTL F.TIME_PPS_CTL_CAP_EN = true ∧
      s.bit R.TIME_PPS_CTL F.TIME_PPS_CTL_EDGE = !rising ∧ s.time.ppsUnread = true) ∧
    (∃ (n : Fin 64) (s : State), trgDue n.val s = false) ∧
    (∃ (n : Fin 64) (s : State), trgDue n.val s = true ∧ s.bit (R.TIME_TRGn_CTL n.val) F.TIME_TRGn_CTL_PERIODIC = false ∧
      s.trgLate.contains n.val = true) ∧
    (∃ (n : Fin 64) (s : State), trgDue n.val s = true ∧ s.bit (R.TIME_TRGn_CTL n.val) F.TIME_TRGn_CTL_PERIODIC = true ∧
      s.bit (R.TIME_TRGn_CTL n.val) F.TIME_TRGn_CTL_BASE = false ∧ 0 < s.get (R.TIME_TRGn_PER n.val) F.TIME_TRGn_PER_PER ∧
      trgBase n.val s + s.get (R.TIME_TRGn_PER n.val) F.TIME_TRGn_PER_PER < 2 ^ 64) :=
  ⟨⟨true, let s := wr up [(R.TIME_PPS_CTL, F.TIME_PPS_CTL_CAP_EN, 1)]; { s with time := { s.time with ppsUnread := true } }, by decide +kernel⟩,
   ⟨63, up, by decide +kernel⟩,
   ⟨63, { wr up [(R.TIME_TRGn_CTL 63, F.TIME_TRGn_CTL_EN, 1)] with trgLate := [63] }, by decide +kernel⟩,
   63, wr up [(R.TIME_TRGn_CTL 63, F.TIME_TRGn_CTL_EN, 1), (R.TIME_TRGn_CTL 63, F.TIME_TRGn_CTL_PERIODIC, 1), (R.TIME_TRGn_PER 63,
       F.TIME_TRGn_PER_PER, 1)],
     by decide +kernel⟩

theorem witness_ReleasesPulsesAndNoticeTraps :
    (∃ (c : BitVec 9) (s : State) (e : Event) (es : List Event), (s.carrel c.toNat).nq.wait = e :: es ∧ s.now < e.stamp + streamHold c.toNat s) ∧
    (∃ (c : BitVec 9) (s : State) (e : Event) (es : List Event), (s.carrel c.toNat).nq.wait = e :: es ∧ e.stamp + streamHold c.toNat s ≤ s.now) ∧
    (∃ (n : Fin 64) (s : State), ∃ x ∈ s.time.pulses, x.1 = n.val ∧ x.2 ≤ s.now) ∧
    (∃ (n : Fin 64) (s : State), ∀ x ∈ s.time.pulses, x.1 = n.val → s.now < x.2) ∧
    (∃ (c : Fin 16) (s : State), coreLive c.val s = true ∧ noticeTrapDue c.val s = true) ∧
    (∃ (c : Fin 16) (s : State), coreLive c.val s = true ∧ noticeTrapDue c.val s = false) :=
  ⟨⟨511, at_ 63 (up.setCarrel 511 { up.carrel 511 with nq := { wait := [{}] } }), {}, [], by decide +kernel⟩,
   ⟨511, at_ (2 ^ 40) (up.setCarrel 511 { up.carrel 511 with nq := { wait := [{}] } }), {}, [], by decide +kernel⟩,
   ⟨63, { up with time := { up.time with pulses := [(63, 0)] } }, (63, 0), by decide +kernel⟩, ⟨63, up, by decide +kernel⟩,
   ⟨0, let s := setDesk 0 { trapEn := true, tstat := 4, tvec := 16 } (moded 0b00); s.setCarrel 1 { s.carrel 1 with nq := { queue := [{}] } },
       by decide +kernel⟩,
   0, rdy, by decide +kernel⟩

theorem witness_DeliveryFillsTheQueue :
    (∃ (c : Nat) (s : State), (∀ k, k < 16 → (s.core k).d1.toNat = c → (s.core k).wait = none) ∧ noticeEnabled c 0 s = false) ∧
    (∃ (c : Nat) (s : State), (∀ k, k < 16 → (s.core k).d1.toNat = c → (s.core k).wait = none) ∧ noticeEnabled c 0 s = true ∧
      (s.carrel c).nq.queue.length < noticeDepth c s) ∧
    (∃ (c : Nat) (s : State), (∀ k, k < 16 → (s.core k).d1.toNat = c → (s.core k).wait = none) ∧ noticeEnabled c 0 s = true ∧
      noticeDepth c s ≤ (s.carrel c).nq.queue.length) :=
  ⟨⟨511, up.setCarrel 511 { up.carrel 511 with dk := { nmask := 0 } }, by decide +kernel⟩,
   ⟨511, (wr up [(R.CARREL_Cc_CFG 511, F.CARREL_Cc_CFG_QDEPTH, 1)]).setReg (R.CARREL_Cc_NALLOW 511) 1, by decide +kernel⟩,
   511, (wr (up.setCarrel 511 { up.carrel 511 with nq := { queue := [{}] } }) [(R.CARREL_Cc_CFG 511, F.CARREL_Cc_CFG_QDEPTH, 1)]).setReg
     (R.CARREL_Cc_NALLOW 511) 1, by decide +kernel⟩

theorem witness_ClockAndPowerControlWrites :
    (∃ (w : BitVec 64) (id : Ident) (s : State), Accepted id R.SYS_FAULT_CTL w s) ∧
    (∃ (w : BitVec 64) (id : Ident) (s : State), Accepted id R.TIME_ALM_STEP w s) ∧
    (∃ (n : Fin 64) (k : Fin 16) (w : BitVec 64) (id : Ident) (s : State), Accepted id (R.TIME_TRGn_CTL n.val + k.val) w s) ∧
    (∃ (w : BitVec 64) (id : Ident) (s : State), Accepted id R.SYS_CLK_CTL w s) ∧
    (∃ (id : Ident) (s : State), Accepted id R.SYS_PWR_CTL (fput 0 F.SYS_PWR_CTL_REQ 1) s) ∧
    (∃ (id : Ident) (s : State), Accepted id R.SYS_PWR_CTL (fput 0 F.SYS_PWR_CTL_REQ 2) s) ∧
    (∃ (id : Ident) (s : State), Accepted id R.TWIN_CTL (fput (wkeep R.TWIN_CTL s) F.TWIN_CTL_PEER_WAKE 1) s) :=
  ⟨⟨0xf, libId, up, accepted_of (by decide +kernel)⟩,
   ⟨0x40, libId, up, accepted_of (by decide +kernel)⟩,
   ⟨63, 0, 0x40, libId, up, accepted_of (by decide +kernel)⟩,
   ⟨0x40, libId, up, accepted_of (by decide +kernel)⟩,
   ⟨libId, up, accepted_of (by decide +kernel)⟩,
   ⟨libId, up, accepted_of (by decide +kernel)⟩,
   ⟨libId, up, accepted_of (by decide +kernel)⟩⟩

theorem witness_ClearsOfCountersAndLogs :
    (∃ (id : Ident) (s : State), Accepted id R.TIME_LATE_CNT (fput 0 F.TIME_LATE_CNT_CLR 1) s) ∧
    (∃ (id : Ident) (s : State), Accepted id R.CAT_CNT_CLR (fput 0 F.CAT_CNT_CLR_CLR 1) s) ∧
    (∃ (p : Fin 24) (id : Ident) (s : State), Accepted id (R.ETH_Pp_CNTCLR p.val) (fput 0 F.ETH_Pp_CNTCLR_CLR 1) s) ∧
    (∃ (u : Fin 4) (id : Ident) (s : State), Accepted id (R.MACSEC_Iu_CNTCLR u.val) (fput 0 F.MACSEC_Iu_CNTCLR_CLR 1) s) ∧
    (∃ (n : Fin 16) (id : Ident) (s : State), Accepted id (R.CANn_CNTCLR n.val) (fput 0 F.CANn_CNTCLR_CLR 1) s) ∧
    (∃ (m : Fin 8) (id : Ident) (s : State), Accepted id (R.LINm_CNTCLR m.val) (fput 0 F.LINm_CNTCLR_CLR 1) s) ∧
    (∃ (id : Ident) (s : State), Accepted id R.NM_CNTCLR (fput 0 F.NM_CNTCLR_CLR 1) s) ∧
    (∃ (c : Fin 32) (id : Ident) (s : State), Accepted id (R.LOAD_CHc_CNTCLR c.val) (fput 0 F.LOAD_CHc_CNTCLR_CLR 1) s) ∧
    (∃ (id : Ident) (s : State), Accepted id R.STK_CECLR (fput 0 F.STK_CECLR_CLR 1) s) ∧
    (∃ (id : Ident) (s : State), Accepted id R.ARCH_CLR (fput 0 F.ARCH_CLR_CLR 1) s) ∧
    (∃ (id : Ident) (s : State), Accepted id R.ARCH_CLR (fput 0 F.ARCH_CLR_RET_CLR 1) s) ∧
    (∃ (id : Ident) (s : State), Accepted id R.PERM_LOG_CLR (fput 0 F.PERM_LOG_CLR_CLR 1) s) ∧
    (∃ (id : Ident) (s : State), Accepted id R.TWIN_BR_LOGCLR (fput 0 F.TWIN_BR_LOGCLR_CLR 1) s) ∧
    (∃ (id : Ident) (s : State), Accepted id R.CARREL_RC_CNTCLR (fput 0 F.CARREL_RC_CNTCLR_CLR 1) s) ∧
    (∃ (id : Ident) (s : State), Accepted id R.TWIN_CNTCLR (fput 0 F.TWIN_CNTCLR_CLR 1) s) :=
  ⟨⟨libId, up, accepted_of (by decide +kernel)⟩,
   ⟨libId, up, accepted_of (by decide +kernel)⟩,
   ⟨23, libId, up, accepted_of (by decide +kernel)⟩,
   ⟨3, libId, up, accepted_of (by decide +kernel)⟩,
   ⟨15, libId, up, accepted_of (by decide +kernel)⟩,
   ⟨7, libId, up, accepted_of (by decide +kernel)⟩,
   ⟨libId, up, accepted_of (by decide +kernel)⟩,
   ⟨31, libId, up, accepted_of (by decide +kernel)⟩,
   ⟨libId, up, accepted_of (by decide +kernel)⟩,
   ⟨libId, up, accepted_of (by decide +kernel)⟩,
   ⟨libId, up, accepted_of (by decide +kernel)⟩,
   ⟨libId, up, accepted_of (by decide +kernel)⟩,
   ⟨libId, up, accepted_of (by decide +kernel)⟩,
   ⟨libId, up, accepted_of (by decide +kernel)⟩,
   ⟨libId, up, accepted_of (by decide +kernel)⟩⟩

theorem witness_CatalogueCollationAndNetworkControls :
    (∃ (n : Fin 64) (w : BitVec 64) (id : Ident) (s : State), Accepted id (R.CATG_CUn_CTL n.val) (fput w F.CATG_CUn_CTL_RUN 1) s) ∧
    (∃ (n : Fin 64) (id : Ident) (s : State), Accepted id (R.CATG_CUn_CTL n.val) (fput (wkeep (R.CATG_CUn_CTL n.val) s) F.CATG_CUn_CTL_RUN 0) s) ∧
    (∃ (u : Fin 16) (w : BitVec 64) (id : Ident) (s : State), Accepted id (R.COLL_Un_CTL u.val) (fput w F.COLL_Un_CTL_START 1) s) ∧
    (∃ (u : Fin 16) (id : Ident) (s : State), Accepted id (R.COLL_Un_CTL u.val) (fput (wkeep (R.COLL_Un_CTL u.val) s) F.COLL_Un_CTL_STOP 1) s) ∧
    (∃ (u : Fin 16) (s : State), s.bit (R.COLL_Un_STAT u.val) F.COLL_Un_STAT_BUSY = true ∧ tileClosed .collation s = false ∧
      s.power.computeHeld = false ∧ s.get (R.COLL_Un_CTL u.val) F.COLL_Un_CTL_MODE = 1 ∧ (s.collU u.val).stopAt = none) ∧
    (∃ (u : Fin 16) (chk : Octets) (s : State), s.bit (R.COLL_Un_STAT u.val) F.COLL_Un_STAT_BUSY = true ∧ tileClosed .collation s = false ∧
      s.power.computeHeld = false ∧ s.get (R.COLL_Un_CTL u.val) F.COLL_Un_CTL_MODE = 2 ∧ (s.collU u.val).stopAt = none ∧
      chk.length = ((collParams u.val s).width + 7) / 8) ∧
    (∃ (p : Fin 24) (w : BitVec 64) (id : Ident) (s : State), Accepted id (R.ETH_Pp_GCTL p.val) (fput w F.ETH_Pp_GCTL_CHANGE 1) s) ∧
    (∃ (p : Fin 24) (w : BitVec 64) (id : Ident) (s : State), Accepted id (R.ETH_Pp_CTL p.val) (fput w F.ETH_Pp_CTL_EN 1) s) ∧
    (∃ (p : Fin 24) (w : BitVec 64) (id : Ident) (s : State), Accepted id (R.ETH_Pp_CTL p.val) (fput w F.ETH_Pp_CTL_EN 0) s) ∧
    (∃ (i : BitVec 16) (id : Ident) (s : State), Accepted id R.CIRC_FDB_CMD (fput (fput 0 F.CIRC_FDB_CMD_INDEX i.toNat) F.CIRC_FDB_CMD_WRITE 1) s) ∧
    (∃ (i : BitVec 16) (id : Ident) (s : State), Accepted id R.CIRC_FDB_CMD (fput (fput 0 F.CIRC_FDB_CMD_INDEX i.toNat) F.CIRC_FDB_CMD_READ 1) s) ∧
    (∃ (r : Fin 64) (x : BitVec 16) (id : Ident) (s : State), Accepted id (R.CIRC_RINGr_TAIL r.val) (fput 0 F.CIRC_RINGr_TAIL_TAIL x.toNat) s) ∧
    (∃ (n : Fin 2) (w : BitVec 64) (id : Ident) (s : State), Accepted id (R.ETH_MDIOn_CMD n.val) (fput w F.ETH_MDIOn_CMD_START 1) s) :=
  ⟨⟨63, 0x30a0f, libId, up, accepted_of (by decide +kernel)⟩,
   ⟨63, libId, up, accepted_of (by decide +kernel)⟩,
   ⟨15, 0x40, libId, up, accepted_of (by decide +kernel)⟩,
   ⟨15, libId, up, accepted_of (by decide +kernel)⟩,
   ⟨15, wr up [(R.COLL_Un_STAT 15, F.COLL_Un_STAT_BUSY, 1), (R.COLL_Un_CTL 15, F.COLL_Un_CTL_MODE, 1)], by decide +kernel⟩,
   ⟨15, List.replicate 8 0, (wr up [(R.COLL_Un_STAT 15, F.COLL_Un_STAT_BUSY, 1), (R.COLL_Un_CTL 15, F.COLL_Un_CTL_MODE, 2), (R.COLL_Un_CTL 15,
       F.COLL_Un_CTL_POLY, 8), (R.COLL_Un_CTL 15, F.COLL_Un_CTL_WIDTH, 63)]), by decide +kernel⟩,
   ⟨23, 0x40, libId, up, accepted_of (by decide +kernel)⟩,
   ⟨23, 0x30a09, libId, up, accepted_of (by decide +kernel)⟩,
   ⟨23, 0x30a09, libId, up, accepted_of (by decide +kernel)⟩,
   ⟨0xffff, libId, up, accepted_of (by decide +kernel)⟩,
   ⟨0xffff, libId, up, accepted_of (by decide +kernel)⟩,
   ⟨63, 0xffff, libId, up, accepted_of (by decide +kernel)⟩,
   ⟨1, 0x27000000000005, libId, up, accepted_of (by decide +kernel)⟩⟩

theorem witness_BusControlWrites :
    (∃ (n : Fin 16) (w : BitVec 64) (id : Ident) (s : State), Accepted id (R.CANn_CTL n.val) w s) ∧
    (∃ (n : Fin 16) (w : BitVec 64) (id : Ident) (s : State), Accepted id (R.CANn_CTL n.val) (fput w F.CANn_CTL_EN 0) s) ∧
    (∃ (n : Fin 16) (id : Ident) (s : State), Accepted id (R.CANn_BORST n.val) (fput 0 F.CANn_BORST_RESTART 1) s) ∧
    (∃ (n : Fin 16) (id : Ident) (s : State), Accepted id (R.CANn_BORST n.val) (fput 0 F.CANn_BORST_RESUME 1) s) ∧
    (∃ (n : Fin 16) (b : BitVec 8) (id : Ident) (s : State), Accepted id (R.CANn_MBb_STAT n.val b.toNat) (fput 0 F.CANn_MBb_STAT_TXREQ 1) s) ∧
    (∃ (n : Fin 16) (b : BitVec 8) (id : Ident) (s : State), Accepted id (R.CANn_MBb_STAT n.val b.toNat) (fput 0 F.CANn_MBb_STAT_ABORT 1) s) ∧
    (∃ (n : Fin 16) (b : BitVec 8) (id : Ident) (s : State),
        Accepted id (R.CANn_MBb_CFG n.val b.toNat) (fput (wkeep (R.CANn_MBb_CFG n.val b.toNat) s) F.CANn_MBb_CFG_EN 0) s) ∧
    (∃ (m : Fin 8) (w : BitVec 64) (id : Ident) (s : State), Accepted id (R.LINm_SCHED m.val) (fput w F.LINm_SCHED_RUN 1) s) ∧
    (∃ (m : Fin 8) (w : BitVec 64) (id : Ident) (s : State), Accepted id (R.LINm_SCHED m.val) (fput w F.LINm_SCHED_SWITCH 1) s) ∧
    (∃ (g : Fin 16) (w : BitVec 64) (id : Ident) (s : State), Accepted id (R.NM_WINGw_CFG g.val) (fput w F.NM_WINGw_CFG_EN 1) s) ∧
    (∃ (g : Fin 16) (w : BitVec 64) (id : Ident) (s : State), Accepted id (R.NM_WINGw_CFG g.val) (fput w F.NM_WINGw_CFG_EN 0) s) ∧
    (∃ (g : Fin 16) (ready : Bool) (id : Ident) (s : State),
        Accepted id (R.NM_WINGw_CTL g.val) (fput 0 F.NM_WINGw_CTL_READY (if ready then 1 else 0)) s) ∧
    (∃ (g : Fin 16) (id : Ident) (s : State), Accepted id (R.NM_WINGw_CTL g.val) (fput (wkeep (R.NM_WINGw_CTL g.val) s) F.NM_WINGw_CTL_WAKE 1) s) :=
  ⟨⟨15, 0x40, libId, up, accepted_of (by decide +kernel)⟩,
   ⟨15, 0x40, libId, up, accepted_of (by decide +kernel)⟩,
   ⟨15, libId, up, accepted_of (by decide +kernel)⟩,
   ⟨15, libId, up, accepted_of (by decide +kernel)⟩,
   ⟨15, 0xff, libId, up, accepted_of (by decide +kernel)⟩,
   ⟨15, 0xff, libId, up, accepted_of (by decide +kernel)⟩,
   ⟨15, 0xff, libId, up, accepted_of (by decide +kernel)⟩,
   ⟨7, 0x40, libId, up, accepted_of (by decide +kernel)⟩,
   ⟨7, 0x40, libId, up, accepted_of (by decide +kernel)⟩,
   ⟨15, 0x27000000000005, libId, rich, accepted_of (by decide +kernel)⟩,
   ⟨15, 0x27000000000005, libId, up, accepted_of (by decide +kernel)⟩,
   ⟨15, true, libId, up, accepted_of (by decide +kernel)⟩,
   ⟨15, libId, up, accepted_of (by decide +kernel)⟩⟩

theorem witness_LoadPairAndStackControlWrites :
    (∃ (c : Fin 32) (w : BitVec 64) (id : Ident) (s : State), Accepted id (R.LOAD_CHc_CMD c.val) w s) ∧
    (∃ (s : State) (x : LoadSlip) (q : List LoadSlip), s.load.reflex = x :: q ∧ s.now ≤ x.at_ + 128) ∧
    (∃ (c : Fin 32) (id : Ident) (s : State), Accepted id (R.LOAD_CHc_TRIP c.val) (fput 0 F.LOAD_CHc_TRIP_REARM 1) s) ∧
    (∃ (w : BitVec 64) (id : Ident) (s : State), Accepted id R.EXEC_RESERVE w s) ∧
    (∃ (p : Fin 8) (id : Ident) (s : State), Accepted id (R.EXEC_Pp_CTL p.val) (fput (wkeep (R.EXEC_Pp_CTL p.val) s) F.EXEC_Pp_CTL_RELEASE 1) s) ∧
    (∃ (p : Fin 8) (id : Ident) (s : State), Accepted id (R.EXEC_Pp_CTL p.val) (fput (wkeep (R.EXEC_Pp_CTL p.val) s) F.EXEC_Pp_CTL_RESET 1) s) ∧
    (∃ (w : BitVec 64) (id : Ident) (s : State), Accepted id R.STK_FILL (fput w F.STK_FILL_START 1) s) ∧
    (∃ (w : BitVec 64) (id : Ident) (s : State), Accepted id R.STK_FILL (fput w F.STK_FILL_TEST 1) s) ∧
    (∃ (b : Fin 32) (id : Ident) (s : State), s.roseMask R.STK_BANKWD = 0 ∧
      Accepted id R.STK_BANKWD (wkeep R.STK_BANKWD s &&& ~~~(1#64 <<< b.val)) s ∧ (s.reg R.STK_BANKWD).getLsbD b.val = true) ∧
    (∃ (w : BitVec 64) (id : Ident) (s : State), Accepted id R.ARCH_PUT w s) ∧
    (∃ (w : BitVec 64) (id : Ident) (s : State), Accepted id R.STK_XSPI_CMD (fput w F.STK_XSPI_CMD_START 1) s) ∧
    (∃ (w : BitVec 64) (id : Ident) (s : State), Accepted id R.STK_XSPI_COPY (fput w F.STK_XSPI_COPY_START 1) s) :=
  ⟨⟨31, 0, libId, wr up [(R.LOAD_CHc_PROF 31, F.LOAD_CHc_PROF_EN, 1)], accepted_of (by decide +kernel)⟩,
   ⟨{ up with load := { up.load with reflex := [{ chan := 31, mode := 1, duty := 0, ok := true, at_ := 0 }] } },
       { chan := 31, mode := 1, duty := 0, ok := true, at_ := 0 }, [], by decide +kernel⟩,
   ⟨31, libId, up, accepted_of (by decide +kernel)⟩,
   ⟨0xf, libId, rich, accepted_of (by decide +kernel)⟩,
   ⟨7, libId, up, accepted_of (by decide +kernel)⟩,
   ⟨7, libId, up, accepted_of (by decide +kernel)⟩,
   ⟨0x1900000, libId, up, accepted_of (by decide +kernel)⟩,
   ⟨0x1900000, libId, up, accepted_of (by decide +kernel)⟩,
   ⟨31, libId, up.setReg R.STK_BANKWD (1#64 <<< 31), by decide +kernel, accepted_of (by decide +kernel), by decide +kernel⟩,
   ⟨0x40, libId, up, accepted_of (by decide +kernel)⟩,
   ⟨0x40, libId, up, accepted_of (by decide +kernel)⟩,
   ⟨0x40, libId, up, accepted_of (by decide +kernel)⟩⟩

theorem witness_CarrelVaultAndPinControlWrites :
    (∃ (c : BitVec 9) (w : BitVec 64) (id : Ident) (s : State), Accepted id (R.CARREL_Cc_CFG c.toNat) w s) ∧
    (∃ (c : BitVec 9) (id : Ident) (s : State), Accepted id (R.CARREL_Cc_CTL c.toNat) (fput 0 F.CARREL_Cc_CTL_START 1) s) ∧
    (∃ (c : BitVec 9) (id : Ident) (s : State), Accepted id (R.CARREL_Cc_CTL c.toNat) (fput 0 F.CARREL_Cc_CTL_RESET 1) s) ∧
    (∃ (p : Fin 8) (k : Fin 2) (w : BitVec 64) (id : Ident) (s : State),
        Accepted id (R.CARREL_Pp_TTk_CTL p.val k.val) (fput w F.CARREL_Pp_TTk_CTL_EN 1) s) ∧
    (∃ (p : Fin 8) (k : Fin 2) (w : BitVec 64) (id : Ident) (s : State),
        Accepted id (R.CARREL_Pp_TTk_NEXT p.val k.val) (fput w F.CARREL_Pp_TTk_NEXT_CHANGE 1) s) ∧
    (∃ (c : BitVec 9) (w : BitVec 64) (id : Ident) (s : State), Accepted id (R.CARREL_Cc_SES_CTL c.toNat) (fput w F.CARREL_Cc_SES_CTL_EN 1) s) ∧
    (∃ (q : Fin 16) (id : Ident) (s : State), Accepted id (R.VAULT_Qq_CTL q.val) (fput 0 F.VAULT_Qq_CTL_ABORT 1) s) ∧
    (∃ (b : Fin 6) (w : BitVec 64) (id : Ident) (s : State), Accepted id (R.IOC_GPIOBb_SET b.val) w s) ∧
    (∃ (b : Fin 6) (w : BitVec 64) (id : Ident) (s : State), Accepted id (R.IOC_GPIOBb_CLR b.val) w s) ∧
    (∃ (g : Fin 16) (w : BitVec 64) (id : Ident) (s : State), Accepted id (R.IOC_ADCg_CFG g.val) (fput w F.IOC_ADCg_CFG_START 1) s) :=
  ⟨⟨0x1ff, 0x40, libId, up, accepted_of (by decide +kernel)⟩,
   ⟨0x155, libId, rich, accepted_of (by decide +kernel)⟩,
   ⟨0x155, libId, rich, accepted_of (by decide +kernel)⟩,
   ⟨7, 1, 0x7d0000800, libId, up, accepted_of (by decide +kernel)⟩,
   ⟨7, 1, 0x7d0000800, libId, up, accepted_of (by decide +kernel)⟩,
   ⟨0x1ff, 0x40, libId, rich, accepted_of (by decide +kernel)⟩,
   ⟨15, libId, up, accepted_of (by decide +kernel)⟩,
   ⟨5, 0x40, libId, up, accepted_of (by decide +kernel)⟩,
   ⟨5, 0x40, libId, up, accepted_of (by decide +kernel)⟩,
   ⟨15, 0x40, libId, up, accepted_of (by decide +kernel)⟩⟩

theorem takes_of {a : Nat} {v w : BitVec 64} (h : (regAt a).all (fun r => !r.refuses v w) = true) :
    ∀ r, regAt a = some r → r.refuses v w = false := by
  intro r hr
  simpa [hr] using h

theorem witness_RegisterWritesFollowAccessCodes :
    (∃ (id : Ident) (a : Nat) (x : Word) (s : State), Accepted id a (wv x) s) ∧
    (∃ (a : Nat) (r : RSpec) (s : State), regAt a = some r ∧ s.roseMask a = 0 ∧ r.fields ≠ []) ∧
    (∃ (a : Nat) (r : RSpec) (s : State) (i : Nat), regAt a = some r ∧ (s.roseMask a).getLsbD i = true ∧ (s.reg a).getLsbD i = true) ∧
    (∃ (id : Ident) (a : Nat) (w : BitVec 64) (s : State), plainReg a s = true ∧ accessCheck (writeOf id a w) s = none ∧ blockOf a ≠ 14 ∧
      regAt a = none) ∧
    (∃ (id : Ident) (a : Nat) (w : BitVec 64) (s : State) (r : RSpec), plainReg a s = true ∧ accessCheck (writeOf id a w) s = none ∧
      blockOf a ≠ 14 ∧ regAt a = some r ∧ r.refuses (s.reg a) w = true) ∧
    (∃ (id : Ident) (a : Nat) (w : BitVec 64) (s : State) (e : Reason), regionOf a = .mmio ∧ accessCheck (writeOf id a w) s = some e) :=
  ⟨⟨libId, R.TIME_LATE_CNT, immw 1, up, accepted_of (by decide +kernel)⟩,
   ⟨R.SYS_FAULT_CTL, (regAt R.SYS_FAULT_CTL).get (by decide +kernel), up, by simp, by decide +kernel, by decide +kernel⟩,
   ⟨R.TIME_PPS_CTL, (regAt R.TIME_PPS_CTL).get (by decide +kernel),
     (let s := wr up [(R.TIME_PPS_CTL, F.TIME_PPS_CTL_OVR, 1)]; s.noteRose R.TIME_PPS_CTL (fmask F.TIME_PPS_CTL_OVR)), F.TIME_PPS_CTL_OVR.lo,
     by simp, by decide +kernel, by decide +kernel⟩,
   ⟨libId, 0xF0000FFF, 0, up, by decide +kernel⟩,
   ⟨libId, R.SYS_FAULT_CTL, BitVec.allOnes 64, up, (regAt R.SYS_FAULT_CTL).get (by decide +kernel), by decide +kernel, by decide +kernel,
     by decide +kernel, by simp, by decide +kernel⟩,
   { libId with lib := false }, R.SYS_FAULT_CTL, 0, up, rPERMIT, by decide +kernel⟩

theorem witness_PermitOwnershipAndMapWrites :
    (∃ (id : Ident) (a : Nat) (w : BitVec 64) (s : State), isPermitEntry a = true ∧ accessCheck (writeOf id a w) s = none ∧
      permitRefuses (writeOf id a w) w s = false ∧ permitSpec.refuses (s.reg a) w = false) ∧
    (∃ (id : Ident) (a : Nat) (w : BitVec 64) (s : State), isPermitEntry a = true ∧ regionOf a = .mmio ∧ accessCheck (writeOf id a w) s = none ∧
      (permitRefuses (writeOf id a w) w s = true ∨ permitSpec.refuses (s.reg a) w = true)) ∧
    (∃ (id : Ident) (a : Nat) (w : BitVec 64) (s : State), isOwnReg a s = true ∧ accessCheck (writeOf id a w) s = none ∧
      (∀ r, regAt a = some r → r.refuses (s.reg a) w = false)) ∧
    (∃ (id : Ident) (a : Nat) (w : BitVec 64) (s : State), isMapReg a = true ∧ accessCheck (writeOf id a w) s = none ∧
      (∃ r, regAt a = some r ∧ r.refuses (s.reg a) w = false)) :=
  ⟨⟨libId, 0xF000F001, 0xB, up, by decide +kernel⟩, ⟨libId, 0xF000F000, 0x3, up, by decide +kernel⟩,
   ⟨libId, R.TIME_TRGn_OWN 63, 0x203, up, by decide +kernel, by decide +kernel, takes_of (by decide +kernel)⟩,
   libId, 0xF0120222, 0, up, by decide +kernel, by decide +kernel, (regAt 0xF0120222).get (by decide +kernel), by simp, by decide +kernel⟩

/-- Context 47 is open. -/
def opened (r : Rx) (s : State) : State := s.setRx 47 { r with open_ := true }
/-- Context 24 of an open frame, whose one intake word names shelfmark 5 with an eight-bit field at octet 0. -/
def fielded (desc : Nat) : State :=
  let s := ((wr up [(R.CAT_CTL, F.CAT_CTL_E2E_EN, 0)]).wrMem (slipA 0) (BitVec.ofNat 72 (5 * 2 ^ 1 + 7 * 2 ^ 36))).wrMem (catA 5 2)
    (BitVec.ofNat 72 (1 + 24 * 2 ^ 2 + desc * 2 ^ 28))
  s.setRx 24 { open_ := true, count := 1, maxlen := 64 }

theorem witness_ReceptionContextsOpenFillAndFail :
    (∃ (p : Fin 48) (s : State) (o : Nat), directoryOf p.val s = some o ∧ s.bit R.CAT_CTL F.CAT_CTL_INTAKE_EN = true ∧ (s.rx p.val).open_ = false ∧
      s.eccAt (slipA o) = 0 ∧ wf (s.rdMem (slipA o)) 20 8 ≠ 0 ∧ wf (s.rdMem (slipA o)) 40 24 = 0 ∧
      (wf (s.rdMem (slipA o)) 28 12 = 0 ∨ (24 ≤ p.val ∧ 64 ≤ wf (s.rdMem (slipA o)) 28 12 ∧ wf (s.rdMem (slipA o)) 28 12 ≤ 2308))) ∧
    (∃ (p : Fin 48) (s : State) (frame : Octets), (s.rx p.val).open_ = true ∧ 24 ≤ p.val ∧ (s.rx p.val).maxlen < frame.length) ∧
    (∃ (p : Fin 48) (s : State) (i : BitVec 8) (frame : Octets), (s.rx p.val).open_ = true ∧
      (24 ≤ p.val → frame.length ≤ (s.rx p.val).maxlen) ∧ (s.rx p.val).count ≤ i.toNat) ∧
    (∃ (p : Fin 48) (i : BitVec 8) (frame : Octets),
      let fits (noprov : Bool) (s : State) : Prop :=
        let r := s.rx p.val
        let x := s.rdMem (slipA (r.ptr + i.toNat))
        let sm := wf x 1 20
        let ps := positions (wf x 21 15) (decide (wf x 42 2 = 1)) (wf x 36 6 + 1)
        let d := descOf (s.rdMem (catA sm 2))
        r.open_ = true ∧ (24 ≤ p.val → frame.length ≤ r.maxlen) ∧ i.toNat < r.count ∧ s.bit R.CAT_CTL F.CAT_CTL_E2E_EN = false ∧
        s.eccAt (slipA (r.ptr + i.toNat)) = 0 ∧ x.getLsbD 0 = false ∧ wf x 46 18 = 0 ∧ wf x 21 15 ≤ 18463 ∧ wf x 42 2 < 2 ∧
        s.eccAt (catA sm 2) = 0 ∧ d.kind = 1 ∧ d.src = p.val ∧ (∀ b ∈ ps, b / 8 < frame.length) ∧ (intakeRoom (sm / 2 ^ 18) s).1 = true ∧
        d.noprov = noprov ∧ s.power.pstate ≠ .doze ∧ isProvisional sm s = false ∧ itemFree s = true ∧ d.ptr = 0 ∧ s.cat.walks = []
      fits true (fielded 1) ∧ fits false (fielded 0)) ∧
    (∃ (p : Fin 48) (s : State), (s.rx p.val).open_ = true ∧ (s.reg (R.CAT_RXp_DUE p.val)).toNat ≤ s.now) ∧
    (∃ (p : Fin 48) (s : State), (s.rx p.val).open_ = false ∧ (s.rx p.val).await = .late) :=
  ⟨⟨0, ((wr up [(R.CAT_CTL, F.CAT_CTL_INTAKE_EN, 1)]).setCan 0 { up.can 0 with rxOn := true, rxBuf := some 0 }).wrMem (slipA 0)
      (BitVec.ofNat 72 (2 ^ 20)), 0, by decide +kernel⟩,
   ⟨47, opened { maxlen := 0 } up, [0], by decide +kernel⟩, ⟨47, opened { count := 255 } up, 255, [], by decide +kernel⟩,
   ⟨24, 0, List.replicate 64 0, by decide +kernel⟩,
   ⟨47, opened {} up, by decide +kernel⟩, 47, up.setRx 47 { await := .late }, by decide +kernel⟩

theorem witness_PassVerdictAccessionsTheValue :
    ∃ (p : Fin 48) (s : State) (v : RxVal), (s.rx p.val).open_ = true ∧ (s.rx p.val).ovf = false ∧ (s.rx p.val).chks = [] ∧ (s.rx p.val).vals = [v] ∧
      s.cat.walks = [] ∧ s.cat.emits = [] ∧
      (∀ x ∈ s.cat.items, x.mask.getLsbD p.val = true → x = { mask := 1#48 <<< p.val, eff := .entry v.shelf [] }) ∧
      s.eccAt (catA v.shelf 2) = 0 ∧ s.eccAt (catA v.shelf 3) = 0 ∧ (descOf (s.rdMem (catA v.shelf 2))).kind = 1 ∧
      (descOf (s.rdMem (catA v.shelf 2))).ptr = 0 :=
  ⟨47, opened { vals := [{ shelf := 5, word := 7 }] } ({ up with cat := { up.cat with items := [{ mask := 1#48 <<< 47, eff := .entry 5 [] }] } }.wrMem
      (catA 5 2) 1), { shelf := 5, word := 7 }, by decide +kernel⟩

/-- Template n of the slip store, of TXMODE mode and PERIOD 1, which the switch sends, once its gather ends at 0. -/
def templated (n mode : Nat) : State :=
  let s := ((wr up [(R.CIRC_CTL, F.CIRC_CTL_EN, 1)]).wrMem (slipA (0x4000 + 2 * n)) (BitVec.ofNat 72 (1 + 8 * 2 ^ 14 + mode * 2 ^ 46))).wrMem
    (slipA (0x4001 + 2 * n)) 1
  { s with cat := { s.cat with gathers := [(n, 0)] } }

theorem witness_WalksSendsTimeoutsAndTriggers :
    (∃ (w : Walk) (s : State), s.cat.walks = [w] ∧ w.mode ≠ 0 ∧ w.acted = [] ∧ w.ptr ≤ 0xFFFFF ∧ s.eccAt (slipA w.ptr) = 0 ∧
      wf (s.rdMem (slipA w.ptr)) 0 3 = 2 ∧ (s.rdMem (slipA w.ptr)).getLsbD 3 = true ∧ slipBad (s.rdMem (slipA w.ptr)) = false) ∧
    (∃ (n : BitVec 12) (s : State) (g : Nat × Nat), s.eccAt (slipA (0x4000 + 2 * n.toNat)) = 0 ∧ s.eccAt (slipA (0x4001 + 2 * n.toNat)) = 0 ∧
      (tmplRead n.toNat s).1.dest = 1 ∧ (tmplRead n.toNat s).1.e2e = 0 ∧ s.bit R.CIRC_CTL F.CIRC_CTL_EN = true ∧
      s.cat.gathers.find? (fun x => x.1 = n.toNat) = some g ∧ g.2 ≤ s.now ∧
      ((tmplRead n.toNat s).1.txmode = 1 ∨ (tmplRead n.toNat s).1.txmode = 2) ∧ (tmplRead n.toNat s).1.period ≠ 0 ∧
      s.now % ((tmplRead n.toNat s).1.period * 1000) = 0) ∧
    (∃ (sm : BitVec 20) (s : State), (∀ k, k < 4 → s.eccAt (catA sm.toNat k) = 0) ∧ s.bit R.CAT_CTL F.CAT_CTL_SWEEP_EN = true ∧
      tileClosed (.catMem ⟨sm.toNat / 2 ^ 18 % 4, Nat.mod_lt _ (by decide)⟩) s = false ∧
      staleTest (descOf (s.rdMem (catA sm.toNat 2))) (s.rdMem (catA sm.toNat 3)) s.now = true ∧
      (s.rdMem (catA sm.toNat 3)).getLsbD 64 = false ∧ (descOf (s.rdMem (catA sm.toNat 2))).kind ≠ 0 ∧
      ((descOf (s.rdMem (catA sm.toNat 2))).subst = 1 → s.eccAt (slipA (descOf (s.rdMem (catA sm.toNat 2))).ptr) = 0) ∧
      isProvisional sm.toNat s = false) ∧
    (∃ (n : Fin 64) (s : State) (rd : Nat) (x : Trig) (xs : List Trig), s.bit (R.CATG_CUn_CTL n.val) F.CATG_CUn_CTL_RUN = true ∧
      (s.cu n.val).waitRd = some rd ∧ rd ≠ 0 ∧ (s.cu n.val).q = x :: xs ∧ (x.mask = 0 ∨ itemFree s = true)) ∧
    (∃ (n : Fin 64) (s : State), (s.cu n.val).stalled = true ∧ itemFree s = true) :=
  ⟨⟨{ shelf := 0, ptr := 0xFFFFF, word := 1 },
      { up with cat := { up.cat with walks := [{ shelf := 0, ptr := 0xFFFFF, word := 1 }] } }.wrMem (slipA 0xFFFFF)
      (BitVec.ofNat 72 (2 + 8)), by decide +kernel⟩,
   ⟨0xFFF, templated 0xFFF 1, (0xFFF, 0), by decide +kernel⟩,
   ⟨0xFFFFF, at_ 100000 ((wr up [(R.CAT_CTL, F.CAT_CTL_SWEEP_EN,
       1)]).wrMem (catA 0xFFFFF 2) (BitVec.ofNat 72 (2 + 2 ^ 8)) |>.wrMem (catA 0xFFFFF 3) 0),
     by decide +kernel⟩,
   ⟨63, cuRdy.setCu 63 { waitRd := some 30, q := [{}] }, 30, {}, [], by decide +kernel⟩,
   63, up.setCu 63 { stalled := true }, by decide +kernel⟩

theorem witness_LoadEventsKeepOtherChannelsAndDomains :
    (∃ (c d : Fin 32) (s t : State), d ≠ c ∧ exec (.streakClean c) s = .next t) ∧ (∃ (v : BitVec 16) (s t : State), exec (.shed v) s = .next t) :=
  ⟨⟨31, 0, up, _, by decide, rfl⟩, 0, up, _, rfl⟩

/-- Queue 15 holds a RANDOM for eight octets that has not started, with room for cap of them. -/
def randoms (n : Nat) : State :=
  let s := wr up [(R.VAULT_Qq_CMD 15, F.VAULT_Qq_CMD_OP, 18), (R.VAULT_Qq_SRCLEN 15, F.VAULT_Qq_SRCLEN_LEN, n),
    (R.VAULT_Qq_DSTLEN 15, F.VAULT_Qq_DSTLEN_LEN, 8), (R.VAULT_Qq_STAT 15, F.VAULT_Qq_STAT_BUSY, 1), (R.VAULT_STAT, F.VAULT_STAT_DRBG_OK, 1)]
  setVjob 15 {} s

theorem witness_VaultCommandsStartWhenTheirChecksPass :
    let waits (q : Fin 16) (x : VSpec) (s : State) : Prop := vaultRuns s = true ∧ vbusy q.val s = true ∧ (vjob q.val s).started = false ∧
      (vjob q.val s).code = none ∧ vTurn q.val x.engine s = true ∧ vop q.val s = 18
    (∃ (q : Fin 16) (s : State) (x : VSpec), waits q x s ∧ vSpec q.val s = some x ∧ vCodes q.val x s = [] ∧
      ∃ src s1 r s2, vRead q.val (setVjob q.val { vjob q.val s with started := true, gtc := s.time.gtc, kids := [] } s) = (.inr src, s1) ∧
        vCompute q.val src s1 = (r, s2) ∧ r.early = false ∧ (vjob q.val s2).code = none) ∧
    (∃ (q : Fin 16) (s : State) (x : VSpec) (c : Nat), waits q x s ∧ vSpec q.val s = some x ∧ c < 32 ∧ vCodes q.val x s = [c]) :=
  ⟨⟨15, randoms 0, _, by decide +kernel, rfl, by decide +kernel, _, _, _, _, rfl, rfl, by decide +kernel, by decide +kernel⟩,
   15, randoms 1, _, vFORMAT, by decide +kernel, rfl, by decide +kernel, by decide +kernel⟩

theorem witness_MemoryEnginesPinsAndConvertersFinish_correction :
    ∃ (a : BitVec 48) (w : Word) (t0 s : State), a.toNat ∈ s.stk.corr ∧ readArray a.toNat .engine s = (some w, t0) :=
  ⟨0x7FFFFF, _, _, { up with stk := { up.stk with corr := [0x7FFFFF] } }, by decide +kernel, rfl⟩

theorem witness_VaultCommandsCompleteAndSlotsFollow_slots :
    (∃ (k : BitVec 11) (s : State), 1024 ≤ k.toNat ∧ slotAttr k.toNat aSTATE s = 3 ∧ slotInUse k.toNat s = false) ∧
    (∃ s : State, reseedDue s = true ∧ s.bit R.VAULT_STAT F.VAULT_STAT_ENT_OK = true) ∧
    (∃ (i : Fin 4) (s : State), s.bit (R.VAULT_TAMPi_CFG i.val) F.VAULT_TAMPi_CFG_EN = true ∧ s.power.vbatAon = true ∧ 2 ≤ tamperWhen s ∧
      s.vault.zero = []) :=
  ⟨⟨2047, wr up [(attrReg 2047, aSTATE, 3)], by decide +kernel⟩, ⟨wr up [(R.VAULT_STAT, F.VAULT_STAT_ENT_OK, 1)], by decide +kernel⟩,
   3, { wr up [(R.VAULT_TAMPi_CFG 3, F.VAULT_TAMPi_CFG_EN, 1)] with power := { up.power with vbatAon := true } }, by decide +kernel⟩

theorem witness_PowerStatesAndStartUpFollowTheirEvents_timeout :
    (∃ s : State, s.power.pstate = .hold ∧ s.power.pgood = false ∧ s.power.powerHeld = false ∧ s.power.pwrReq = true ∧ s.power.pgoodBy ≤ s.el) ∧
    (∃ s : State, s.power.pstate = .hold ∧ s.power.pgood = false ∧ s.power.powerHeld = false ∧ s.power.pwrReq = false ∧
      s.power.pwrReqLowSince + offMs s ≤ s.el) :=
  ⟨⟨{ up with power := { pstate := .hold, pgood := false, powerHeld := false, pwrReq := true, pgoodBy := 0 } }, by decide +kernel⟩,
   at_ (2 ^ 60) { up with power := { pstate := .hold, pgood := false, powerHeld := false, pwrReq := false } }, by decide +kernel⟩

/-- An IPv4 datagram to port 0 from port 0 of address 0 without a checksum or data, in a frame. -/
def emptyDatagram : Octets :=
  List.replicate 12 0 ++ [0x08, 0x00, 0x45] ++ List.replicate 8 0 ++ [17] ++ List.replicate 10 0 ++ List.replicate 4 0 ++ [0, 8, 0, 0]

theorem witness_CarrelsQuiesceSwitchAndServe_frames :
    (∃ (s : State) (x : Nat × Octets) (q : List (Nat × Octets)), s.sw.rcIn = x :: q ∧ datagramOf x.2 = none) ∧
    (∃ (s : State) (x : Nat × Octets) (q : List (Nat × Octets)) (d : Datagram) (c : Fin 512), s.sw.rcIn = x :: q ∧ datagramOf x.2 = some d ∧
      10 ≤ x.1 ∧ (∀ e : Fin 512, sessionMatch e.val (x.1 - 10) d s = true ↔ e = c) ∧ (s.carrel c.val).reqs.length < 8) :=
  ⟨⟨{ up with sw := { up.sw with rcIn := [(10, [])] } }, (10, []), [], by decide +kernel⟩,
   let s := wr up [(R.CARREL_Cc_CFG 511, F.CARREL_Cc_CFG_V, 1), (R.CARREL_Cc_CFG 511, F.CARREL_Cc_CFG_REMOTE, 1), (R.CARREL_Cc_SES_CTL 511,
       F.CARREL_Cc_SES_CTL_EN, 1)]
   { s with sw := { s.sw with rcIn := [(10, emptyDatagram)] } }, (10, emptyDatagram), [],
       { v6 := false, src := 0, dst := 0, sport := 0, dport := 0, payload := [] }, 511, by decide +kernel,
     by decide +kernel, by decide +kernel, by decide +kernel,
     by decide +kernel⟩

theorem witness_TransactionsPassTheirChecks :
    (∃ (t : Txn) (s : State) (e : Reason), accessCheck t s = some e ∧ ((t.portOk = true ∨ e ≠ rFAILED))) ∧
    (∃ (t : Txn) (s : State), accessCheck t s = some rFAILED ∧ t.portOk = false) ∧
    (∃ (t : Txn) (s : State), accessCheck t s = none ∧ regionOf t.addr.toNat = .sram ∧ t.kind = .write) ∧
    (∃ (t : Txn) (s : State), accessCheck t s = none ∧ ((t.kind = .read ∨ t.kind = .fetch ∨ t.kind = .walk)) ∧ s.eccAt t.addr.toNat = 0 ∧
        regionOf t.addr.toNat ∈ [.sram, .catMem, .slips, .rom, .mram]) ∧
    (∃ (t : Txn) (s : State), accessCheck t s = none ∧ regionOf t.addr.toNat = .sram ∧ t.kind = .cas ∧ s.eccAt t.addr.toNat = 0) ∧
    (∃ (t : Txn) (s : State), accessCheck t s = none ∧ t.kind = .cas ∧ regionOf t.addr.toNat ∉ [.sram, .rom, .none]) ∧
    (∃ (t : Txn) (s : State), accessCheck t s = none ∧ regionOf t.addr.toNat = .twin ∧ t.kind ≠ .cas) ∧
    (∃ (t : Txn) (s : State), accessCheck t s = none ∧ regionOf t.addr.toNat = .mram ∧ t.kind = .write ∧ t.id.lib = true ∧
        mramProtected t.addr.toNat s = false) ∧
    (∃ (id : _) (a : BitVec 48) (w : _) (s : State), accessCheck { kind := .write, addr := a, id := id, data := w } s = none ∧
        ((regionOf a.toNat = .catMem ∨ regionOf a.toNat = .slips))) ∧
    (∃ (t : Txn) (s : State), timedHere t.addr.toNat s = true) ∧
    (∃ (t : Txn) (s : State), timedHere t.addr.toNat s = false) :=
  ⟨⟨{ addr := 0x1000010, id := { master := 5, lib := false } }, up, rPERMIT, by decide +kernel⟩,
   ⟨{ addr := 0x1000010, portOk := false }, up, by decide +kernel⟩,
   ⟨{ kind := .write, addr := 0x10 }, up, by decide +kernel⟩,
   ⟨{ addr := 0x10 }, up, by decide +kernel⟩,
   ⟨{ kind := .cas, addr := 0x10 }, up, by decide +kernel⟩,
   ⟨{ kind := .cas, addr := 0xF0000000 }, up, by decide +kernel⟩,
   ⟨{ addr := 0x100000010 }, lnk, by decide +kernel⟩,
   ⟨{ kind := .write, addr := 0x101F0000 }, up, by decide +kernel⟩,
   ⟨{}, 0x1000000, 5, up, by decide +kernel⟩,
   ⟨{ addr := 0x1000010 }, up, by decide +kernel⟩,
   ⟨{ addr := 0x100000010 }, up, by decide +kernel⟩⟩

theorem witness_FramesCrossTheSwitchInCells :
    (∃ (p : Fin 12) (x : Octets) (s : State), rxAble p.val s = true ∧ s.bit R.CIRC_CTL F.CIRC_CTL_EN = true ∧ (s.port p.val).rx = none ∧
        x.length ≤ 64 ∧ 68 ≤ s.get (R.ETH_Pp_CTL p.val) F.ETH_Pp_CTL_MAX_FRAME ∧ ((∀ c ∈ s.sw.copies, c.inp = p.val → c.closed = true)) ∧
        (classify p.val x s).local_ = false) ∧
    (∃ (i : Fin 24) (s : State) (c : Copy) (x : Cell), paced i.val s = true ∧ tileClosed .switchCore s = false ∧ s.sw.copies = [c] ∧ c.inp = i.val ∧
        c.cells = [x] ∧ x.phase = 0 ∧ c.out < 24) ∧
    (∃ (o : Fin 24) (i : Fin 24) (s : State) (c : Copy) (x : Cell), s.sw.copies = [c] ∧ c.inp = i.val ∧ c.out = o.val ∧ c.tc < 8 ∧ c.cells = [x] ∧
        x.phase = 1 ∧ x.first = true ∧ x.stamp + 200 ≤ s.now ∧ x.arrive ≤ x.stamp + 200 ∧ portState o.val s ≠ 2 ∧
        0 < s.get (R.ETH_Pp_Qq o.val c.tc) F.ETH_Pp_Qq_THRESH ∧ 0 < s.get (R.ETH_Pp_SHARE o.val) F.ETH_Pp_SHARE_POOL_MAX) ∧
    (∃ (o : Fin 24) (i : Fin 24) (s : State) (c : Copy) (x : Cell), s.sw.copies = [c] ∧ c.inp = i.val ∧ c.out = o.val ∧ c.tc < 8 ∧ c.cells = [x] ∧
        x.phase = 1 ∧ x.first = true ∧ x.stamp + 200 ≤ s.now ∧ x.arrive ≤ x.stamp + 200 ∧ portState o.val s ≠ 2 ∧
        s.get (R.ETH_Pp_Qq o.val c.tc) F.ETH_Pp_Qq_THRESH = 0) ∧
    (∃ (s : State) (c : Copy) (x : Cell), s.sw.copies = [c] ∧ c.cells = [x] ∧ s.now < x.stamp + 200) ∧
    (∃ (o : Fin 24) (s : State) (c : Copy), nextStart o.val s = some c ∧ c.ts = none ∧ c.sync = none ∧ c.out ≠ 10 ∧ c.out ≠ 11) ∧
    (∃ (o : Fin 24) (s : State) (c : Copy), nextStart o.val s = some c ∧ c.rec_ = none) ∧
    (∃ (o : Fin 14) (s : State) (c : Copy), s.sw.copies = [c] ∧ c.out = o.val ∧ wireDone c s = true ∧ allReleased c = true ∧ c.bad = false ∧
        (∀ x ∈ c.cells, x.bad = false) ∧ c.rec_ = none) ∧
    (∃ (o : Fin 24) (tc : Fin 7) (s : State) (c : Copy), s.sw.copies = [c] ∧ c.out = o.val ∧ c.tc = tc.val ∧ c.queued = true ∧ c.start = none ∧
        s.get (R.ETH_Pp_Qq o.val tc.val) F.ETH_Pp_Qq_DEADLINE ≠ 0 ∧ c.dlAt + 100 * s.get (R.ETH_Pp_Qq o.val tc.val) F.ETH_Pp_Qq_DEADLINE ≤ s.now) ∧
    (∃ (s : State) (x : CatSend) (q : _), s.cat.out = x :: q ∧ x.waited = true ∧ x.mask = 0) :=
  ⟨⟨0, List.replicate 60 0, (wr up [(R.CIRC_CTL, F.CIRC_CTL_EN, 1), (R.ETH_Pp_STAT 0, F.ETH_Pp_STAT_STATE, 0), (R.ETH_Pp_STAT 1, F.ETH_Pp_STAT_STATE,
      0), (R.ETH_Pp_CTL 0, F.ETH_Pp_CTL_MAX_FRAME, 1522), (R.ETH_Pp_Qq 1 0, F.ETH_Pp_Qq_THRESH, 100)]), by decide +kernel⟩,
   ⟨0, { (wr up [(R.CIRC_CTL, F.CIRC_CTL_EN, 1), (R.ETH_Pp_STAT 0, F.ETH_Pp_STAT_STATE, 0), (R.ETH_Pp_STAT 1, F.ETH_Pp_STAT_STATE, 0), (R.ETH_Pp_CTL 0, F.ETH_Pp_CTL_MAX_FRAME, 1522), (R.ETH_Pp_Qq 1 0, F.ETH_Pp_Qq_THRESH, 100)]) with sw := { ((wr up [(R.CIRC_CTL, F.CIRC_CTL_EN, 1), (R.ETH_Pp_STAT 0, F.ETH_Pp_STAT_STATE, 0), (R.ETH_Pp_STAT 1, F.ETH_Pp_STAT_STATE, 0), (R.ETH_Pp_CTL 0, F.ETH_Pp_CTL_MAX_FRAME, 1522), (R.ETH_Pp_Qq 1 0, F.ETH_Pp_Qq_THRESH, 100)])).sw with copies := [{ num := 0, frame := 0, inp := 0, out := 1, tc := 0, data := [], len := 64, closed := true, cells := [{ first := true, last := true, octets := 64, phase := 0 }] }] } }, { num := 0, frame := 0, inp := 0, out := 1, tc := 0, data := [], len := 64, closed := true, cells := [{ first := true, last := true, octets := 64, phase := 0 }] }, { first := true, last := true, octets := 64, phase := 0 }, by decide +kernel⟩,
   ⟨1, 0, { (at_ 1000 (wr up [(R.CIRC_CTL, F.CIRC_CTL_EN, 1), (R.ETH_Pp_STAT 0, F.ETH_Pp_STAT_STATE, 0), (R.ETH_Pp_STAT 1, F.ETH_Pp_STAT_STATE, 0), (R.ETH_Pp_CTL 0, F.ETH_Pp_CTL_MAX_FRAME, 1522), (R.ETH_Pp_Qq 1 0, F.ETH_Pp_Qq_THRESH, 100)])) with sw := { ((at_ 1000 (wr up [(R.CIRC_CTL, F.CIRC_CTL_EN, 1), (R.ETH_Pp_STAT 0, F.ETH_Pp_STAT_STATE, 0), (R.ETH_Pp_STAT 1, F.ETH_Pp_STAT_STATE, 0), (R.ETH_Pp_CTL 0, F.ETH_Pp_CTL_MAX_FRAME, 1522), (R.ETH_Pp_Qq 1 0, F.ETH_Pp_Qq_THRESH, 100)]))).sw with copies := [{ num := 0, frame := 0, inp := 0, out := 1, tc := 0, data := [], len := 64, closed := true, cells := [{ first := true, last := true, octets := 64, phase := 1,stamp := 100, arrive := 200 }] }] } }, { num := 0, frame := 0, inp := 0, out := 1, tc := 0, data := [], len := 64, closed := true, cells := [{ first := true, last := true, octets := 64, phase := 1,stamp := 100, arrive := 200 }] }, { first := true, last := true, octets := 64, phase := 1,stamp := 100, arrive := 200 }, by decide +kernel⟩,
   ⟨1, 0, { (at_ 1000 (wr up [(R.CIRC_CTL, F.CIRC_CTL_EN, 1), (R.ETH_Pp_STAT 1, F.ETH_Pp_STAT_STATE, 0), (R.ETH_Pp_Qq 1 0, F.ETH_Pp_Qq_THRESH, 0)])) with sw := { ((at_ 1000 (wr up [(R.CIRC_CTL, F.CIRC_CTL_EN, 1), (R.ETH_Pp_STAT 1, F.ETH_Pp_STAT_STATE, 0), (R.ETH_Pp_Qq 1 0, F.ETH_Pp_Qq_THRESH, 0)]))).sw with copies := [{ num := 0, frame := 0, inp := 0, out := 1, tc := 0, data := [], len := 64, closed := true, cells := [{ first := true, last := true, octets := 64, phase := 1,stamp := 100, arrive := 200 }] }] } }, { num := 0, frame := 0, inp := 0, out := 1, tc := 0, data := [], len := 64, closed := true, cells := [{ first := true, last := true, octets := 64, phase := 1,stamp := 100, arrive := 200 }] }, { first := true, last := true, octets := 64, phase := 1,stamp := 100, arrive := 200 }, by decide +kernel⟩,
   ⟨{ (at_ 200 (wr up [(R.CIRC_CTL, F.CIRC_CTL_EN, 1), (R.ETH_Pp_STAT 0, F.ETH_Pp_STAT_STATE, 0), (R.ETH_Pp_STAT 1, F.ETH_Pp_STAT_STATE, 0), (R.ETH_Pp_CTL 0, F.ETH_Pp_CTL_MAX_FRAME, 1522), (R.ETH_Pp_Qq 1 0, F.ETH_Pp_Qq_THRESH, 100)])) with sw := { ((at_ 200 (wr up [(R.CIRC_CTL, F.CIRC_CTL_EN, 1), (R.ETH_Pp_STAT 0, F.ETH_Pp_STAT_STATE, 0), (R.ETH_Pp_STAT 1, F.ETH_Pp_STAT_STATE, 0), (R.ETH_Pp_CTL 0, F.ETH_Pp_CTL_MAX_FRAME, 1522), (R.ETH_Pp_Qq 1 0, F.ETH_Pp_Qq_THRESH, 100)]))).sw with copies := [{ num := 0, frame := 0, inp := 0, out := 1, tc := 0, data := [], len := 64, closed := true, cells := [{ first := true, last := true, octets := 64, phase := 1,stamp := 100, arrive := 200 }] }] } }, { num := 0, frame := 0, inp := 0, out := 1, tc := 0, data := [], len := 64, closed := true, cells := [{ first := true, last := true, octets := 64, phase := 1,stamp := 100, arrive := 200 }] }, { first := true, last := true, octets := 64, phase := 1,stamp := 100, arrive := 200 }, by decide +kernel⟩,
   ⟨1, { (at_ 1000 (wr up [(R.CIRC_CTL, F.CIRC_CTL_EN, 1), (R.ETH_Pp_STAT 0, F.ETH_Pp_STAT_STATE, 0), (R.ETH_Pp_STAT 1, F.ETH_Pp_STAT_STATE, 0), (R.ETH_Pp_CTL 0, F.ETH_Pp_CTL_MAX_FRAME, 1522), (R.ETH_Pp_Qq 1 0, F.ETH_Pp_Qq_THRESH, 100)])) with sw := { ((at_ 1000 (wr up [(R.CIRC_CTL, F.CIRC_CTL_EN, 1), (R.ETH_Pp_STAT 0, F.ETH_Pp_STAT_STATE, 0), (R.ETH_Pp_STAT 1, F.ETH_Pp_STAT_STATE, 0), (R.ETH_Pp_CTL 0, F.ETH_Pp_CTL_MAX_FRAME, 1522), (R.ETH_Pp_Qq 1 0, F.ETH_Pp_Qq_THRESH, 100)]))).sw with copies := [{ num := 0, frame := 0, inp := 0, out := 1, tc := 0, data := [], len := 64, closed := true, cells := [{ first := true, last := true, octets := 64, phase := 2 }], queued := true }] } }, { num := 0, frame := 0, inp := 0, out := 1, tc := 0, data := [], len := 64, closed := true, cells := [{ first := true, last := true, octets := 64, phase := 2 }], queued := true }, by decide +kernel⟩,
   ⟨1, { (at_ 1000 (wr up [(R.CIRC_CTL, F.CIRC_CTL_EN, 1), (R.ETH_Pp_STAT 0, F.ETH_Pp_STAT_STATE, 0), (R.ETH_Pp_STAT 1, F.ETH_Pp_STAT_STATE, 0), (R.ETH_Pp_CTL 0, F.ETH_Pp_CTL_MAX_FRAME, 1522), (R.ETH_Pp_Qq 1 0, F.ETH_Pp_Qq_THRESH, 100)])) with sw := { ((at_ 1000 (wr up [(R.CIRC_CTL, F.CIRC_CTL_EN, 1), (R.ETH_Pp_STAT 0, F.ETH_Pp_STAT_STATE, 0), (R.ETH_Pp_STAT 1, F.ETH_Pp_STAT_STATE, 0), (R.ETH_Pp_CTL 0, F.ETH_Pp_CTL_MAX_FRAME, 1522), (R.ETH_Pp_Qq 1 0, F.ETH_Pp_Qq_THRESH, 100)]))).sw with copies := [{ num := 0, frame := 0, inp := 0, out := 1, tc := 0, data := [], len := 64, closed := true, cells := [{ first := true, last := true, octets := 64, phase := 2 }], queued := true }] } }, { num := 0, frame := 0, inp := 0, out := 1, tc := 0, data := [], len := 64, closed := true, cells := [{ first := true, last := true, octets := 64, phase := 2 }], queued := true }, by decide +kernel⟩,
   ⟨1, { (at_ 1000000 (wr up [(R.CIRC_CTL, F.CIRC_CTL_EN, 1), (R.ETH_Pp_STAT 0, F.ETH_Pp_STAT_STATE, 0), (R.ETH_Pp_STAT 1, F.ETH_Pp_STAT_STATE, 0), (R.ETH_Pp_CTL 0, F.ETH_Pp_CTL_MAX_FRAME, 1522), (R.ETH_Pp_Qq 1 0, F.ETH_Pp_Qq_THRESH, 100)])) with sw := { ((at_ 1000000 (wr up [(R.CIRC_CTL, F.CIRC_CTL_EN, 1), (R.ETH_Pp_STAT 0, F.ETH_Pp_STAT_STATE, 0), (R.ETH_Pp_STAT 1, F.ETH_Pp_STAT_STATE, 0), (R.ETH_Pp_CTL 0, F.ETH_Pp_CTL_MAX_FRAME, 1522), (R.ETH_Pp_Qq 1 0, F.ETH_Pp_Qq_THRESH, 100)]))).sw with copies := [{ num := 0, frame := 0, inp := 0, out := 1, tc := 0, data := [], len := 64, closed := true, cells := [{ first := true, last := true, octets := 64, phase := 2 }], queued := true, start := some 0 }] } }, { num := 0, frame := 0, inp := 0, out := 1, tc := 0, data := [], len := 64, closed := true, cells := [{ first := true, last := true, octets := 64, phase := 2 }], queued := true, start := some 0 }, by decide +kernel⟩,
   ⟨1, 0, { (at_ 1000000 (wr (wr up [(R.CIRC_CTL, F.CIRC_CTL_EN, 1), (R.ETH_Pp_STAT 0, F.ETH_Pp_STAT_STATE, 0), (R.ETH_Pp_STAT 1, F.ETH_Pp_STAT_STATE, 0), (R.ETH_Pp_CTL 0, F.ETH_Pp_CTL_MAX_FRAME, 1522), (R.ETH_Pp_Qq 1 0, F.ETH_Pp_Qq_THRESH, 100)]) [(R.ETH_Pp_Qq 1 0, F.ETH_Pp_Qq_DEADLINE, 1)])) with sw := { ((at_ 1000000 (wr (wr up [(R.CIRC_CTL, F.CIRC_CTL_EN, 1), (R.ETH_Pp_STAT 0, F.ETH_Pp_STAT_STATE, 0), (R.ETH_Pp_STAT 1, F.ETH_Pp_STAT_STATE, 0), (R.ETH_Pp_CTL 0, F.ETH_Pp_CTL_MAX_FRAME, 1522), (R.ETH_Pp_Qq 1 0, F.ETH_Pp_Qq_THRESH, 100)]) [(R.ETH_Pp_Qq 1 0, F.ETH_Pp_Qq_DEADLINE, 1)]))).sw with copies := [{ num := 0, frame := 0, inp := 0, out := 1, tc := 0, data := [], len := 64, closed := true, cells := [{ first := true, last := true, octets := 64, phase := 2 }], queued := true }] } }, { num := 0, frame := 0, inp := 0, out := 1, tc := 0, data := [], len := 64, closed := true, cells := [{ first := true, last := true, octets := 64, phase := 2 }], queued := true }, by decide +kernel⟩,
   ⟨{ up with cat := { up.cat with out := [{ data := [], mask := 0, waited := true }] } }, { data := [], mask := 0, waited := true }, [],
       by decide +kernel⟩⟩

theorem witness_PortsGatesAndTunnelFollowTheirEvents :
    (∃ (p : Fin 24) (s : State), s.bit (R.ETH_Pp_GCTL p.val) F.ETH_Pp_GCTL_PENDING = true ∧ (s.port p.val).gpend ≤ almNow s ∧
        s.get (R.ETH_Pp_GCTL p.val) F.ETH_Pp_GCTL_ADMIN_LEN ≤ 128) ∧
    (∃ (p : Fin 12) (s : State), portState p.val s = 0) ∧
    (∃ (p : Fin 12) (s : State), s.bit (R.ETH_Pp_CTL p.val) F.ETH_Pp_CTL_EN = true ∧ portState p.val s ≠ 0 ∧ segAsleep (24 + p.val) s = false) ∧
    (∃ (p : Fin 23) (s : State), portState p.val s = 1 ∧ (s.port p.val).graceAt ≤ s.now) ∧
    (∃ (p : Fin 4) (s : State), s.get (R.ETH_Pp_CTL p.val) F.ETH_Pp_CTL_MODE = 1 ∧ s.get (R.ETH_Pp_PLCA p.val) F.ETH_Pp_PLCA_NODE_ID ≠ 0 ∧
        s.get (R.ETH_Pp_PLCA p.val) F.ETH_Pp_PLCA_NODE_ID ≠ 255 ∧
        (s.port p.val).beacon + 4 * s.get (R.ETH_Pp_PLCA p.val) F.ETH_Pp_PLCA_TO_TIMER * s.get (R.ETH_Pp_PLCA p.val) F.ETH_Pp_PLCA_NODE_CNT * 100 ≤ s.now) ∧
    (∃ (n : Fin 2) (s : State), s.bit (R.ETH_MDIOn_CMD n.val) F.ETH_MDIOn_CMD_BUSY = true ∧ 2 ≤ s.get (R.ETH_MDIOn_CMD n.val) F.ETH_MDIOn_CMD_OP) ∧
    (∃ (s : State) (e : Nat) (m : AcfMsg) (q : _), e < 64 ∧ s.sw.tunIn = (e, m) :: q ∧ s.bit (R.CIRC_ENCe_DEST e) F.CIRC_ENCe_DEST_V = true) ∧
    (∃ (e : Fin 64) (s : State), (s.enc e.val).msgs ≠ [] ∧ (s.enc e.val).since + 100 * s.get (R.CIRC_ENCe_CTL e.val) F.CIRC_ENCe_CTL_GATHER ≤ s.now) ∧
    (∃ (d : Fin 64) (n : Fin 16) (s : State), portState 13 s = 0 ∧ s.bit (R.CIRC_DECd_CTL d.val) F.CIRC_DECd_CTL_V = true ∧ ((∀ k, k < d.val →
        s.bit (R.CIRC_DECd_CTL k) F.CIRC_DECd_CTL_V = false)) ∧ (s.get (R.CIRC_DECd_CTL d.val) F.CIRC_DECd_CTL_CAN_MASK).testBit n.val = true) ∧
    (∃ (d : Fin 64) (m : Fin 8) (s : State), portState 13 s = 0 ∧ s.bit (R.CIRC_DECd_CTL d.val) F.CIRC_DECd_CTL_V = true ∧ ((∀ k, k < d.val →
        s.bit (R.CIRC_DECd_CTL k) F.CIRC_DECd_CTL_V = false)) ∧ (s.get (R.CIRC_DECd_CTL d.val) F.CIRC_DECd_CTL_LIN_MASK).testBit m.val = true) ∧
    (∃ (d : Fin 2) (s : State), s.get (R.CIRC_GPTPd d.val) F.CIRC_GPTPd_SLAVE_PORT < 12 ∧
        rxAble (s.get (R.CIRC_GPTPd d.val) F.CIRC_GPTPd_SLAVE_PORT) s = true) :=
  ⟨⟨23, (wr up [(R.ETH_Pp_GCTL 23, F.ETH_Pp_GCTL_PENDING, 1), (R.ETH_Pp_GCTL 23, F.ETH_Pp_GCTL_ADMIN_LEN, 128)]), by decide +kernel⟩,
   ⟨11, (wr up [(R.ETH_Pp_STAT 11, F.ETH_Pp_STAT_STATE, 0)]), by decide +kernel⟩,
   ⟨0, (wr up [(R.ETH_Pp_CTL 0, F.ETH_Pp_CTL_EN, 1), (R.ETH_Pp_STAT 0, F.ETH_Pp_STAT_STATE, 2)]), by decide +kernel⟩,
   ⟨22, (wr up [(R.ETH_Pp_STAT 22, F.ETH_Pp_STAT_STATE, 1)]), by decide +kernel⟩,
   ⟨3, (at_ 10000000 (wr up [(R.ETH_Pp_CTL 3, F.ETH_Pp_CTL_MODE, 1), (R.ETH_Pp_PLCA 3, F.ETH_Pp_PLCA_NODE_ID, 5)])), by decide +kernel⟩,
   ⟨1, (wr up [(R.ETH_MDIOn_CMD 1, F.ETH_MDIOn_CMD_BUSY, 1), (R.ETH_MDIOn_CMD 1, F.ETH_MDIOn_CMD_OP, 2)]), by decide +kernel⟩,
   ⟨{ (wr up [(R.CIRC_ENCe_DEST 63, F.CIRC_ENCe_DEST_V, 1)]) with sw := { ((wr up [(R.CIRC_ENCe_DEST 63, F.CIRC_ENCe_DEST_V, 1)])).sw with tunIn := [(63, {})] } }, 63, {}, [], by decide +kernel⟩,
   ⟨63, (at_ 1000000 { up with sw := { (up).sw with encs := [(63, { msgs := [{}] })] } }), by decide +kernel⟩,
   ⟨0, 15, (wr up [(R.ETH_Pp_STAT 13, F.ETH_Pp_STAT_STATE, 0), (R.CIRC_DECd_CTL 0, F.CIRC_DECd_CTL_V, 1), (R.CIRC_DECd_CTL 0,
       F.CIRC_DECd_CTL_CAN_MASK, 65535)]), by decide +kernel⟩,
   ⟨63, 7, (wr up [(R.ETH_Pp_STAT 13, F.ETH_Pp_STAT_STATE, 0), (R.CIRC_DECd_CTL 63, F.CIRC_DECd_CTL_V, 1), (R.CIRC_DECd_CTL 63,
       F.CIRC_DECd_CTL_LIN_MASK, 255)]), by decide +kernel⟩,
   ⟨1, (wr up [(R.ETH_Pp_STAT 0, F.ETH_Pp_STAT_STATE, 0)]), by decide +kernel⟩⟩

theorem witness_CanControllersFollowTheBus :
    (∃ (n : Fin 16) (s : State), canLive n.val s = true) ∧
    (∃ (n : Fin 16) (b : Fin 256) (s : State), (s.can n.val).rxOn = true ∧ (s.can n.val).rxBuf = some b.val ∧
        s.get (R.CANn_ERR n.val) F.CANn_ERR_REC = 0 ∧ s.get (R.CANn_ERR n.val) F.CANn_ERR_TEC ≤ 127 ∧ s.get (R.CANn_ERR n.val) F.CANn_ERR_STATE = 0 ∧
        s.bit (mbCfg n.val b.val) F.CANn_MBb_CFG_EN = true ∧ s.bit (mbCfg n.val b.val) F.CANn_MBb_CFG_DIR = false ∧
        s.bit (mbCfg n.val b.val) F.CANn_MBb_CFG_STORE = true ∧ (s.can n.val).rxId.getLsbD 30 = false) ∧
    (∃ (n : Fin 16) (s : State), (s.can n.val).rxOn = true) ∧
    (∃ (n : Fin 16) (kind : BitVec 3) (s : State), canLive n.val s = true ∧ kind ≠ 0 ∧ kind ≠ 7 ∧ kind ≠ 3) ∧
    (∃ (n : Fin 16) (kind : BitVec 3) (s : State), canLive n.val s = true ∧ kind ≠ 0 ∧ kind ≠ 7 ∧ s.get (R.CANn_ERR n.val) F.CANn_ERR_TEC ≤ 255) ∧
    (∃ (n : Fin 16) (s : State), s.get (R.CANn_ERR n.val) F.CANn_ERR_STATE = 2 ∧ (s.can n.val).recover = true) ∧
    (∃ (n : Fin 16) (s : State) (b : _) (f : CanFrame), canLive n.val s = true ∧ segListens n.val s = false ∧
        s.bit (R.CANn_CTL n.val) F.CANn_CTL_MONITOR = false ∧ s.bit (R.CANn_CTL n.val) F.CANn_CTL_RESTRICT = false ∧ (s.can n.val).att = none ∧
        (s.can n.val).rxOn = false ∧ (s.can n.val).noackDone = false ∧ bestTx (txContenders n.val s) = some (b, f) ∧ s.stk.ecc = []) ∧
    (∃ (n : Fin 16) (s : State) (a : CanAtt), (s.can n.val).att = some a ∧ a.buf < 256 ∧ s.get (R.CANn_ERR n.val) F.CANn_ERR_TEC ≤ 128 ∧
        s.get (R.CANn_ERR n.val) F.CANn_ERR_REC ≤ 127 ∧ s.get (R.CANn_ERR n.val) F.CANn_ERR_STATE < 2 ∧ s.rose = []) ∧
    (∃ (n : Fin 16) (s : State) (a : CanAtt), (s.can n.val).att = some a ∧ a.buf < 256 ∧ a.noRetry = false ∧
        s.bit (mbCfg n.val a.buf) F.CANn_MBb_CFG_SINGLE = false) ∧
    (∃ (n : Fin 16) (b : BitVec 8) (s : State), (s.can n.val).copies.any (fun e => e.1 = b.toNat) = true ∧ onBus n.val b.toNat s = false) ∧
    (∃ (n : Fin 16) (b : BitVec 8) (s : State) (x : Nat), (s.can n.val).reqAt = [(b.toNat, x)] ∧ mbTx n.val b.toNat s = true ∧
        mbReq n.val b.toNat s = true ∧ s.bit (R.CANn_MBb_AUX n.val b.toNat) F.CANn_MBb_AUX_ESC_EN = true ∧ b.toNat ∉ (s.can n.val).esc ∧
        x + 1000 * s.get (R.CANn_MBb_AUX n.val b.toNat) F.CANn_MBb_AUX_DEADLINE ≤ s.now) :=
  ⟨⟨15, (wr up [(R.CANn_CTL 15, F.CANn_CTL_EN, 1)]), by decide +kernel⟩,
   ⟨15, 255,
       { (wr up [(R.CANn_CTL 15, F.CANn_CTL_EN, 1), (R.CANn_MBb_CFG 15 255, F.CANn_MBb_CFG_EN, 1), (R.CANn_MBb_CFG 15 255, F.CANn_MBb_CFG_STORE, 1)]) with cans := [(15, { rxOn := true, rxBuf := some 255 })] }, by decide +kernel⟩,
   ⟨0, { up with cans := [(0, { rxOn := true })] }, by decide +kernel⟩,
   ⟨15, 1, (wr up [(R.CANn_CTL 15, F.CANn_CTL_EN, 1)]), by decide +kernel⟩,
   ⟨15, 1, (wr up [(R.CANn_CTL 15, F.CANn_CTL_EN, 1)]), by decide +kernel⟩,
   ⟨15, { (wr up [(R.CANn_ERR 15, F.CANn_ERR_STATE, 2)]) with cans := [(15, { recover := true })] }, by decide +kernel⟩,
   ⟨15, (wr up [(R.CANn_CTL 15, F.CANn_CTL_EN, 1), (R.CANn_MBb_CFG 15 255, F.CANn_MBb_CFG_EN, 1), (R.CANn_MBb_CFG 15 255, F.CANn_MBb_CFG_DIR, 1),
       (R.CANn_MBb_STAT 15 255, F.CANn_MBb_STAT_TXREQ, 1)]), 255, mbFrame 15 255 up, by decide +kernel⟩,
   ⟨15, { up with cans := [(15, { att := some { buf := 255, frame := {} } })] }, { buf := 255, frame := {} }, by decide +kernel⟩,
   ⟨15, { up with cans := [(15, { att := some { buf := 255, frame := {} } })] }, { buf := 255, frame := {} }, by decide +kernel⟩,
   ⟨15, 255, { up with cans := [(15, { copies := [(255, [])] })] }, by decide +kernel⟩,
   ⟨15, 255,
       { (at_ 1000000 (wr up [(R.CANn_MBb_CFG 15 255, F.CANn_MBb_CFG_EN, 1), (R.CANn_MBb_CFG 15 255, F.CANn_MBb_CFG_DIR, 1), (R.CANn_MBb_STAT 15 255, F.CANn_MBb_STAT_TXREQ, 1), (R.CANn_MBb_AUX 15 255, F.CANn_MBb_AUX_ESC_EN, 1)])) with cans := [(15, { reqAt := [(255, 0)] })] }, 0, by decide +kernel⟩⟩

theorem witness_LinControllersFollowTheSchedule :
    (∃ (m : Fin 8) (s : State), linLive m.val s = true ∧ segListens (16 + m.val) s = false ∧ s.bit (R.LINm_CTL m.val) F.LINm_CTL_ROLE = true ∧
        s.bit (R.LINm_SCHED m.val) F.LINm_SCHED_RUN = true ∧ (s.lin m.val).slotEnd ≤ s.now ∧ (s.lin m.val).wakeAt = none ∧ (s.lin m.val).hdr = none ∧
        (s.lin m.val).started = true ∧ (s.lin m.val).sw = false ∧ s.get (R.LINm_SCHED m.val) F.LINm_SCHED_CUR < 63 ∧
        schGet m.val (s.get (R.LINm_SCHED m.val) F.LINm_SCHED_CUR + 1) F.LINm_SCHe_TYPE s < 2) ∧
    (∃ (m : Fin 8) (s : State), linLive m.val s = true ∧ segListens (16 + m.val) s = false ∧ s.bit (R.LINm_CTL m.val) F.LINm_CTL_ROLE = true ∧
        s.bit (R.LINm_SCHED m.val) F.LINm_SCHED_RUN = true ∧ (s.lin m.val).slotEnd ≤ s.now ∧ (s.lin m.val).wakeAt = none ∧ (s.lin m.val).hdr = none ∧
        (s.lin m.val).started = true ∧ (s.lin m.val).sw = true ∧ schGet m.val (s.get (R.LINm_SCHED m.val) F.LINm_SCHED_NEXT) F.LINm_SCHe_TYPE s ≠ 3) ∧
    (∃ (m : Fin 8) (s : State), linLive m.val s = true ∧ s.bit (R.LINm_CTL m.val) F.LINm_CTL_ROLE = false ∧ segListens (16 + m.val) s = false ∧
        s.bit (R.LINm_CTL m.val) F.LINm_CTL_AUTOBAUD = false) ∧
    (∃ (m : Fin 8) (i : Fin 64) (s : State), (s.lin m.val).hdr = some i.val ∧ frDir m.val i.val 1 s = false ∧
        s.bit (frCfg m.val i.val) F.LINm_FRi_CFG_STORE = true) ∧
    (∃ (m : Fin 8) (i : Fin 64) (s : State), (s.lin m.val).hdr = some i.val ∧ frDir m.val i.val 1 s = true) ∧
    (∃ (m : Fin 8) (i : Fin 64) (err : BitVec 3) (s : State), (s.lin m.val).hdr = some i.val ∧ err ≠ 0 ∧ frDir m.val i.val 1 s = false) ∧
    (∃ (m : Fin 8) (i : Fin 64) (s : State), (s.lin m.val).hdr = some i.val ∧ frDir m.val i.val 2 s = true ∧
        (s.lin m.val).brk + (34 + 10 * (s.get (frCfg m.val i.val) F.LINm_FRi_CFG_LEN + 1)) * 35 * linDiv m.val s ≤ s.now) ∧
    (∃ (m : Fin 8) (s : State), linLive m.val s = true ∧ s.bit (R.LINm_CTL m.val) F.LINm_CTL_IDLE_TMO = true ∧
        (s.lin m.val).lastAct + 4000000000 ≤ s.now) :=
  ⟨⟨7, { (wr up [(R.LINm_CTL 7, F.LINm_CTL_EN, 1), (R.LINm_CTL 7, F.LINm_CTL_ROLE, 1), (R.LINm_SCHED 7, F.LINm_SCHED_RUN, 1), (R.LINm_SCHED 7, F.LINm_SCHED_CUR, 62)]) with lins := [(7, { started := true })] }, by decide +kernel⟩,
   ⟨7, { (wr up [(R.LINm_CTL 7, F.LINm_CTL_EN, 1), (R.LINm_CTL 7, F.LINm_CTL_ROLE, 1), (R.LINm_SCHED 7, F.LINm_SCHED_RUN, 1), (R.LINm_SCHED 7, F.LINm_SCHED_NEXT, 63)]) with lins := [(7, { started := true, sw := true })] }, by decide +kernel⟩,
   ⟨7, (wr up [(R.LINm_CTL 7, F.LINm_CTL_EN, 1)]), by decide +kernel⟩,
   ⟨7, 63, { (wr up [(R.LINm_FRi_CFG 7 63, F.LINm_FRi_CFG_STORE, 1)]) with lins := [(7, { hdr := some 63 })] }, by decide +kernel⟩,
   ⟨7, 63, { (wr up [(R.LINm_FRi_CFG 7 63, F.LINm_FRi_CFG_EN, 1), (R.LINm_FRi_CFG 7 63, F.LINm_FRi_CFG_DIR, 1)]) with lins := [(7, { hdr := some 63 })] }, by decide +kernel⟩,
   ⟨7, 63, 7, { up with lins := [(7, { hdr := some 63 })] }, by decide +kernel⟩,
   ⟨7, 63, { (at_ 1000000000 (wr up [(R.LINm_FRi_CFG 7 63, F.LINm_FRi_CFG_EN, 1), (R.LINm_FRi_CFG 7 63, F.LINm_FRi_CFG_DIR, 2)])) with lins := [(7, { hdr := some 63 })] }, by decide +kernel⟩,
   ⟨7, (at_ 4000000000 (wr up [(R.LINm_CTL 7, F.LINm_CTL_EN, 1), (R.LINm_CTL 7, F.LINm_CTL_IDLE_TMO, 1)])), by decide +kernel⟩⟩

theorem witness_WingsCloseSleepAndWake :
    (∃ (w : Fin 16) (c : Instr) (s : State), (c = .minAwakeExpiry w ∨ c = .retryExpiry w) ∧ s.bit (R.NM_WINGw_CFG w.val) F.NM_WINGw_CFG_EN = true ∧
        s.bit R.NM_CTL F.NM_CTL_EN = true ∧ wingState w.val s = 1 ∧ s.bit (R.NM_WINGw_CTL w.val) F.NM_WINGw_CTL_READY = true ∧
        (s.wing w.val).awakeAt + wingMs w.val F.NM_WINGw_CFG_MIN_AWAKE s ≤ s.now ∧ (s.wing w.val).retryAt ≤ s.now) ∧
    (∃ (g : Fin 36) (w : Fin 16) (body : BitVec 64) (s : State), segWing g.val s = some w.val ∧ segRing g.val = true ∧
        (body.extractLsb' 48 8).toNat ≠ s.get (R.NM_WINGw_STAT w.val) F.NM_WINGw_STAT_ROUND) ∧
    (∃ (g : Fin 36) (w : Fin 16) (body : BitVec 64) (s : State), segWing g.val s = some w.val ∧ segRing g.val = true ∧ wingState w.val s = 2 ∧
        (body.extractLsb' 48 8).toNat = s.get (R.NM_WINGw_STAT w.val) F.NM_WINGw_STAT_ROUND ∧ (body.extractLsb' 60 4) = 2 ∧
        (body.extractLsb' 56 4) ≠ 0 ∧ (s.wing w.val).rounds.any (fun r => decide (r.seg = g.val) && decide (r.status = 0)) = true) ∧
    (∃ (g : Fin 36) (w : Fin 16) (body : BitVec 64) (s : State), segWing g.val s = some w.val ∧ segRing g.val = true ∧ wingState w.val s = 2 ∧
        (body.extractLsb' 48 8).toNat = s.get (R.NM_WINGw_STAT w.val) F.NM_WINGw_STAT_ROUND ∧ (body.extractLsb' 60 4) = 2 ∧
        (body.extractLsb' 56 4) = 0 ∧ (body.extractLsb' 24 8).toNat + 256 * (body.extractLsb' 16 8).toNat = segMembers g.val s ∧
        (s.wing w.val).rounds.any (fun r => decide (r.seg = g.val) && decide (r.status = 0)) = true ∧
        (s.wing w.val).rounds.all (fun r => decide (r.seg = g.val) || decide (r.status = 1)) = true) ∧
    (∃ (g : Fin 36) (w : Fin 16) (body : BitVec 64) (s : State), segWing g.val s = some w.val ∧ segRing g.val = true ∧ wingState w.val s = 2 ∧
        (body.extractLsb' 48 8).toNat = s.get (R.NM_WINGw_STAT w.val) F.NM_WINGw_STAT_ROUND ∧
        ((body.extractLsb' 60 4 = 3 ∨ (body.extractLsb' 60 4 = 2 ∧ body.extractLsb' 56 4 = 0 ∧
        (body.extractLsb' 24 8).toNat + 256 * (body.extractLsb' 16 8).toNat ≠ segMembers g.val s))) ∧
        (s.wing w.val).rounds.any (fun r => decide (r.seg = g.val) && decide (r.status = 0)) = true) ∧
    (∃ (g : Fin 36) (w : Fin 16) (r : Round) (s : State), segWing g.val s = some w.val ∧ wingState w.val s = 2 ∧
        (s.wing w.val).rounds.find? (fun r => decide (r.seg = g.val) && decide (r.status = 0)) = some r ∧
        r.sentAt + wingMs w.val F.NM_WINGw_CFG_HOP_TMO s ≤ s.now) ∧
    (∃ (w : Fin 16) (s : State), wingState w.val s = 3 ∧
        (s.reg (R.NM_WINGw_LOCKUP w.val)).toNat + (if (s.reg (R.NM_WINGw_WMASK w.val)).getLsbD 61 then 1000 * s.get R.TIME_ORDER_CTL F.TIME_ORDER_CTL_TWIN_HOLD else 64) ≤ s.now ∧ ((∀ x : Fin 16, x < w → wingState x.val s = 3 → s.reg (R.NM_WINGw_LOCKUP x.val) ≠ s.reg (R.NM_WINGw_LOCKUP w.val)))) ∧
    (∃ (w : Fin 16) (e : Event) (q : _) (s : State), s.bit R.NM_CTL F.NM_CTL_EN = true ∧ (s.wing w.val).wakes = e :: q ∧
        (wingState w.val s = 2 ∨ (wingState w.val s = 3 ∧ beforeInstant e (s.reg (R.NM_WINGw_LOCKUP w.val)).toNat = true ∧
        (s.bit (R.NM_WINGw_STAT w.val) F.NM_WINGw_STAT_OVERRULED = false ∨ 0x13D < e.src ∨ (s.reg (R.NM_WINGw_OVRMASK w.val)).getLsbD (e.src - 0x100) = true)))) ∧
    (∃ (w : Fin 16) (e : Event) (q : _) (s : State), s.bit R.NM_CTL F.NM_CTL_EN = true ∧ (s.wing w.val).wakes = e :: q ∧ wingState w.val s = 4) ∧
    (∃ (g : Fin 36) (w : Fin 16) (s : State), segWing g.val s = some w.val ∧ wingState w.val s = 5 ∧ segServed g.val s = true ∧ ¬(16 ≤ g.val ∧
        g.val < 24) ∧ s.bit (R.NM_SEGs_STAT g.val) F.NM_SEGs_STAT_UP = false) ∧
    (∃ (m : Fin 8) (w : Fin 16) (x : Nat) (s : State), segWing (16 + m.val) s = some w.val ∧ (s.lin m.val).wakeAt = some x ∧ x ≤ s.now) ∧
    (∃ (w : Fin 16) (s : State), wingState w.val s = 5 ∧
        (s.wing w.val).wakingAt + 1000000 * s.get (R.NM_WINGw_TIME w.val) F.NM_WINGw_TIME_WAKE_TMO ≤ s.now) ∧
    (∃ (w : Fin 16) (s : State), s.get (R.NM_WINGw_CFG w.val) F.NM_WINGw_CFG_MAX_AWAKE ≠ 0 ∧ (wingState w.val s = 1 ∨ wingState w.val s = 2) ∧
        (s.wing w.val).enteredAt + s.get (R.NM_WINGw_CFG w.val) F.NM_WINGw_CFG_MAX_AWAKE * 1000000000 ≤ s.now) :=
  ⟨⟨0, .minAwakeExpiry 0, (at_ 100000000000 (wr up [(R.NM_CTL, F.NM_CTL_EN, 1), (R.NM_WINGw_CFG 0, F.NM_WINGw_CFG_EN, 1), (R.NM_SEGs_CFG 0,
      F.NM_SEGs_CFG_MEMBER, 1), (R.NM_WINGw_STAT 0, F.NM_WINGw_STAT_STATE, 1), (R.NM_WINGw_CTL 0, F.NM_WINGw_CTL_READY, 1)])), by decide +kernel⟩,
   ⟨0, 0, 1#64 <<< 48, (wr up [(R.NM_CTL, F.NM_CTL_EN, 1), (R.NM_WINGw_CFG 0, F.NM_WINGw_CFG_EN, 1), (R.NM_SEGs_CFG 0, F.NM_SEGs_CFG_MEMBER, 1),
       (R.NM_WINGw_STAT 0, F.NM_WINGw_STAT_STATE, 2)]), by decide +kernel⟩,
   ⟨0, 0, 0x2100000000000000,
       { (wr up [(R.NM_CTL, F.NM_CTL_EN, 1), (R.NM_WINGw_CFG 0, F.NM_WINGw_CFG_EN, 1), (R.NM_SEGs_CFG 0, F.NM_SEGs_CFG_MEMBER, 1), (R.NM_WINGw_STAT 0, F.NM_WINGw_STAT_STATE, 2)]) with wings := [(0, { rounds := [{ seg := 0 }] })] }, by decide +kernel⟩,
   ⟨0, 0, 0x2000000001000000,
       { (wr up [(R.NM_CTL, F.NM_CTL_EN, 1), (R.NM_WINGw_CFG 0, F.NM_WINGw_CFG_EN, 1), (R.NM_SEGs_CFG 0, F.NM_SEGs_CFG_MEMBER, 1), (R.NM_WINGw_STAT 0, F.NM_WINGw_STAT_STATE, 2)]) with wings := [(0, { rounds := [{ seg := 0 }] })] }, by decide +kernel⟩,
   ⟨0, 0, 0x3000000000000000,
       { (wr up [(R.NM_CTL, F.NM_CTL_EN, 1), (R.NM_WINGw_CFG 0, F.NM_WINGw_CFG_EN, 1), (R.NM_SEGs_CFG 0, F.NM_SEGs_CFG_MEMBER, 1), (R.NM_WINGw_STAT 0, F.NM_WINGw_STAT_STATE, 2)]) with wings := [(0, { rounds := [{ seg := 0 }] })] }, by decide +kernel⟩,
   ⟨0, 0, { seg := 0 },
       { (at_ 100000000000 (wr up [(R.NM_CTL, F.NM_CTL_EN, 1), (R.NM_WINGw_CFG 0, F.NM_WINGw_CFG_EN, 1), (R.NM_SEGs_CFG 0, F.NM_SEGs_CFG_MEMBER, 1), (R.NM_WINGw_STAT 0, F.NM_WINGw_STAT_STATE, 2)])) with wings := [(0, { rounds := [{ seg := 0 }] })] }, by decide +kernel⟩,
   ⟨15, (at_ 64 (wr up [(R.NM_WINGw_STAT 15, F.NM_WINGw_STAT_STATE, 3)])), by decide +kernel⟩,
   ⟨0, { src := 0x100 }, [],
       { (wr up [(R.NM_CTL, F.NM_CTL_EN, 1), (R.NM_WINGw_CFG 0, F.NM_WINGw_CFG_EN, 1), (R.NM_SEGs_CFG 0, F.NM_SEGs_CFG_MEMBER, 1), (R.NM_WINGw_STAT 0, F.NM_WINGw_STAT_STATE, 2)]) with wings := [(0, { wakes := [{ src := 0x100 }] })] }, by decide +kernel⟩,
   ⟨0, { src := 0x100 }, [],
       { (wr up [(R.NM_CTL, F.NM_CTL_EN, 1), (R.NM_WINGw_CFG 0, F.NM_WINGw_CFG_EN, 1), (R.NM_SEGs_CFG 0, F.NM_SEGs_CFG_MEMBER, 1), (R.NM_WINGw_STAT 0, F.NM_WINGw_STAT_STATE, 4)]) with wings := [(0, { wakes := [{ src := 0x100 }] })] }, by decide +kernel⟩,
   ⟨0, 0, (wr up [(R.NM_CTL, F.NM_CTL_EN, 1), (R.NM_WINGw_CFG 0, F.NM_WINGw_CFG_EN, 1), (R.NM_SEGs_CFG 0, F.NM_SEGs_CFG_MEMBER, 1),
       (R.NM_WINGw_STAT 0, F.NM_WINGw_STAT_STATE, 5), (R.CANn_CTL 0, F.CANn_CTL_EN, 1)]), by decide +kernel⟩,
   ⟨7, 0, 0,
       { (wr up [(R.NM_WINGw_CFG 0, F.NM_WINGw_CFG_EN, 1), (R.NM_SEGs_CFG 23, F.NM_SEGs_CFG_MEMBER, 1)]) with lins := [(7, { wakeAt := some 0 })] },
       by decide +kernel⟩,
   ⟨15, (at_ 100000000000 (wr up [(R.NM_WINGw_STAT 15, F.NM_WINGw_STAT_STATE, 5)])), by decide +kernel⟩,
   ⟨0, (at_ 100000000000 (wr up [(R.NM_CTL, F.NM_CTL_EN, 1), (R.NM_WINGw_CFG 0, F.NM_WINGw_CFG_EN, 1), (R.NM_SEGs_CFG 0, F.NM_SEGs_CFG_MEMBER, 1),
       (R.NM_WINGw_STAT 0, F.NM_WINGw_STAT_STATE, 1), (R.NM_WINGw_CFG 0, F.NM_WINGw_CFG_MAX_AWAKE, 1)])), by decide +kernel⟩⟩

theorem witness_WakeSourcesReachTheirWings :
    (∃ (k : Fin 8) (w : Fin 16) (s : State), s.power.powerHeld = false ∧ parking s = false ∧ s.power.pstate ≠ .off ∧
        s.bit (R.NM_WINGw_CFG w.val) F.NM_WINGw_CFG_EN = true ∧ (s.reg (R.NM_WINGw_WMASK w.val)).getLsbD k.val = true) ∧
    (∃ (s : State), s.power.powerHeld = false) ∧
    (∃ (n : Fin 16) (id : _) (ide : _) (dlc : BitVec 4) (data : _) (s : State), swRuns n.val s = true ∧ parking s = true ∧ s.power.wakes.length < 16 ∧
        (BitVec.ofNat 29 (s.get (R.NM_SWn_ID n.val) F.NM_SWn_ID_ID) ^^^ id) &&& BitVec.ofNat 29 (s.get (R.NM_SWn_ID n.val) F.NM_SWn_ID_MASK) = 0 ∧
        s.bit (R.NM_SWn_CFG n.val) F.NM_SWn_CFG_IDE = ide ∧ dlc.toNat = s.get (R.NM_SWn_CFG n.val) F.NM_SWn_CFG_DLC ∧
        (s.bit (R.NM_SWn_CFG n.val) F.NM_SWn_CFG_DATA_EN = false ∨ dlc = 0 ∨ data &&& s.reg (R.NM_SWn_DATA n.val) ≠ 0)) ∧
    (∃ (n : Fin 16) (s : State), swRuns n.val s = true) ∧
    (∃ (s : State), parking s = true ∧ s.power.wakes.length < 16) ∧
    (∃ (m : Fin 8) (s : State), parking s = false ∧ segAsleep (16 + m.val) s = false) ∧
    (∃ (s : State) (x : _), s.power.aonAt = some x ∧ x ≤ s.el ∧ parking s = true ∧ s.power.wakes.length < 16) ∧
    (∃ (s : State), parking s = true ∧ 16 ≤ s.power.wakes.length) :=
  ⟨⟨7, 0, (wr up [(R.NM_CTL, F.NM_CTL_EN, 1), (R.NM_WINGw_CFG 0, F.NM_WINGw_CFG_EN, 1), (R.NM_SEGs_CFG 0, F.NM_SEGs_CFG_MEMBER, 1),
      (R.NM_WINGw_STAT 0, F.NM_WINGw_STAT_STATE, 1), (R.NM_WINGw_WMASK 0, F.NM_WINGw_WMASK_MASK, 255)]), by decide +kernel⟩,
   ⟨up, by decide +kernel⟩,
   ⟨15, 0, false, 0, 0, (wr { up with power := { up.power with pstate := .park } } [(R.NM_SWn_CFG 15, F.NM_SWn_CFG_EN, 1)]), by decide +kernel⟩,
   ⟨15, (wr { up with power := { up.power with pstate := .park } } [(R.NM_SWn_CFG 15, F.NM_SWn_CFG_EN, 1)]), by decide +kernel⟩,
   ⟨{ up with power := { up.power with pstate := .park } }, by decide +kernel⟩,
   ⟨7, up, by decide +kernel⟩,
   ⟨{ up with power := { up.power with pstate := .park, aonAt := some 0 } }, 0, by decide +kernel⟩,
   ⟨{ up with power := { up.power with pstate := .park, wakes := List.replicate 16 {} } }, by decide +kernel⟩⟩

theorem witness_ProtectiveTripsHoldTheChannelOff :
    (∃ (c : Fin 32) (cur : BitVec 20) (s : State), (s.chan c.val).cond = true ∧ (shortLimit c.val s : Int) < cur.toInt) ∧
    (∃ (c : Fin 32) (vds : BitVec 16) (s : State), 8 ≤ c.val ∧ (s.chan c.val).cond = true ∧ (s.chan c.val).edgeAt + blankNs c.val s ≤ s.el ∧
        10 * s.get (R.LOAD_CHc_ELEC c.val) F.LOAD_CHc_ELEC_DESAT_V < vds.toNat) ∧
    (∃ (c : Fin 32) (cur : BitVec 20) (s : State), (s.chan c.val).cond = true ∧ (s.chan c.val).onSince + blankNs c.val s ≤ s.el ∧
        (envLimit c.val s : Int) < cur.toInt) ∧
    (∃ (c : Fin 32) (s : State), s.power.pstate ≠ .park ∧ (s.chan c.val).wireAt + 1000000 ≤ s.el) ∧
    (∃ (c : Fin 32) (s : State), s.bit (R.LOAD_CHc_STAT c.val) F.LOAD_CHc_STAT_RESTART_PENDING = true ∧ (s.chan c.val).restartAt ≤ s.el ∧
        effMode c.val (s.chan c.val).mode (s.chan c.val).duty s = 1 ∧ holdBy c.val s = 0 ∧
        s.bit (R.LOAD_CHc_STAT c.val) F.LOAD_CHc_STAT_OUT = false) ∧
    (∃ (c : Fin 32) (s : State), (s.chan c.val).streak = true ∧ s.bit (R.LOAD_CHc_STAT c.val) F.LOAD_CHc_STAT_OUT = true ∧
        (s.chan c.val).onSince + 1000000 * s.get (R.LOAD_PROFp_RETRY (profOf c.val s)) F.LOAD_PROFp_RETRY_CLEAN ≤ s.el) :=
  ⟨⟨0, 0x7FFFF, { up with chans := [(0, { cond := true })] }, by decide +kernel⟩,
   ⟨31, 0xFFFF, { (at_ 1000000000000 up) with chans := [(31, { cond := true })] }, by decide +kernel⟩,
   ⟨31, 0x7FFFF, { (at_ 1000000000000 up) with chans := [(31, { cond := true })] }, by decide +kernel⟩,
   ⟨31, (at_ 1000000000000 up), by decide +kernel⟩,
   ⟨31, { (wr up [(R.LOAD_CHc_PROF 31, F.LOAD_CHc_PROF_EN, 1), (R.LOAD_CHc_STAT 31, F.LOAD_CHc_STAT_RESTART_PENDING, 1)]) with chans := [(31, { mode := 1 })] }, by decide +kernel⟩,
   ⟨31, { (at_ 1000000000000 (wr up [(R.LOAD_CHc_STAT 31, F.LOAD_CHc_STAT_OUT, 1)])) with chans := [(31, { streak := true })] }, by decide +kernel⟩⟩

theorem witness_LoadEventsLatchAndRelease :
    (∃ (c : Fin 32) (x : BitVec 9) (s : State), hasLatch c.val s = true ∧ tooHot c.val x = true ∧
        s.bit (R.LOAD_CHc_STAT c.val) F.LOAD_CHc_STAT_THERM = false) ∧
    (∃ (c : Fin 32) (x : BitVec 9) (s : State), tooHot c.val x = false ∧ x.toInt < 145 ∧ s.bit (R.LOAD_CHc_STAT c.val) F.LOAD_CHc_STAT_THERM = true) ∧
    (∃ (c : Fin 32) (s : State), s.bit (R.LOAD_CHc_STAT c.val) F.LOAD_CHc_STAT_LOCK = true ∧
        (s.get (R.LOAD_PROFp_CLAMP (profOf c.val s)) F.LOAD_PROFp_CLAMP_E_REL : Int) * 1000000000 ≤ budgetNow c.val s) ∧
    (∃ (c : Fin 32) (mean : BitVec 20) (s : State), s.bit (R.LOAD_CHc_STAT c.val) F.LOAD_CHc_STAT_OUT = true ∧
        mean.toInt < (s.get (R.LOAD_PROFp_OL (profOf c.val s)) F.LOAD_PROFp_OL_OL_ON : Int) ∧
        envEnd (profOf c.val s) s + 1000000 * s.get (R.LOAD_PROFp_OL (profOf c.val s)) F.LOAD_PROFp_OL_OL_T ≤ envClock c.val s) ∧
    (∃ (c : Fin 32) (v : BitVec 16) (s : State), s.bit (R.LOAD_CHc_STAT c.val) F.LOAD_CHc_STAT_OUT = false ∧
        s.bit (R.LOAD_CHc_PROF c.val) F.LOAD_CHc_PROF_OL_OFF = true ∧ 200 < v.toInt) ∧
    (∃ (c : Fin 32) (v : BitVec 16) (s : State), s.bit (R.LOAD_CHc_STAT c.val) F.LOAD_CHc_STAT_OUT = false ∧
        s.bit (R.LOAD_CHc_PROF c.val) F.LOAD_CHc_PROF_OL_OFF = false ∧ 300 < v.toInt) ∧
    (∃ (sum : BitVec 16) (c : Fin 8) (s : State), s.bit R.LOAD_CTL F.LOAD_CTL_AGG_EN = true ∧ 24000 < sum.toNat ∧ s.load.aggAt ≤ s.el ∧
        (s.chan c.val).cond = true ∧ ((∀ d : Fin 8, (s.chan d.val).cond = true →
        s.get (R.LOAD_CHc_PROF c.val) F.LOAD_CHc_PROF_SHED < s.get (R.LOAD_CHc_PROF d.val) F.LOAD_CHc_PROF_SHED ∨ (s.get (R.LOAD_CHc_PROF c.val) F.LOAD_CHc_PROF_SHED = s.get (R.LOAD_CHc_PROF d.val) F.LOAD_CHc_PROF_SHED ∧ d ≤ c)))) ∧
    (∃ (c : Fin 32) (cur : BitVec 20) (s : State), c.val < 8 ∧ (s.chan c.val).cond = true ∧ cur.toInt < -500) ∧
    (∃ (k : Fin 5) (mv : BitVec 16) (s : State), supplyIn k.val mv.toNat = true ∧ s.bit R.LOAD_STAT (supplyBit k.val) = false) ∧
    (∃ (k : Fin 5) (mv : BitVec 16) (s : State), supplyOut k.val mv.toNat = true ∧ s.bit R.LOAD_STAT (supplyBit k.val) = true) ∧
    (∃ (c : Fin 32) (x : _) (s : State), (s.chan c.val).leaseAt = some x ∧ x ≤ s.el) ∧
    (∃ (c : Fin 32) (s : State), effMode c.val (s.chan c.val).mode (s.chan c.val).duty s = 2 ∧ holdBy c.val s = 0 ∧ onEdgeNow c.val s = true ∧
        ¬((s.chan c.val).amode = 2 ∧ (s.chan c.val).cond = true ∧ s.el < (s.chan c.val).onEnd)) ∧
    (∃ (c : Fin 32) (s : State), (s.chan c.val).amode = 2 ∧ (s.chan c.val).cond = true ∧ (s.chan c.val).onEnd ≤ s.el) :=
  ⟨⟨0, 175, up, by decide +kernel⟩,
   ⟨31, 0, (wr up [(R.LOAD_CHc_STAT 31, F.LOAD_CHc_STAT_THERM, 1)]), by decide +kernel⟩,
   ⟨31, (wr up [(R.LOAD_CHc_STAT 31, F.LOAD_CHc_STAT_LOCK, 1)]), by decide +kernel⟩,
   ⟨31, 0xFFFFF, { (wr up [(R.LOAD_CHc_STAT 31, F.LOAD_CHc_STAT_OUT, 1)]) with chans := [(31, { env := 1000000000000000 })] }, by decide +kernel⟩,
   ⟨31, 201, (wr up [(R.LOAD_CHc_PROF 31, F.LOAD_CHc_PROF_OL_OFF, 1)]), by decide +kernel⟩,
   ⟨31, 301, up, by decide +kernel⟩,
   ⟨24001, 7, { (wr up [(R.LOAD_CTL, F.LOAD_CTL_AGG_EN, 1)]) with chans := [(7, { cond := true })] }, by decide +kernel⟩,
   ⟨7, 0xFFE0B, { up with chans := [(7, { cond := true })] }, by decide +kernel⟩,
   ⟨0, 4499, up, by decide +kernel⟩,
   ⟨0, 5001, (wr up [(R.LOAD_STAT, F.LOAD_STAT_UV12, 1)]), by decide +kernel⟩,
   ⟨31, 0, { up with chans := [(31, { leaseAt := some 0 })] }, by decide +kernel⟩,
   ⟨31, { (wr up [(R.LOAD_CHc_PROF 31, F.LOAD_CHc_PROF_EN, 1), (R.LOAD_CHc_PWM 31, F.LOAD_CHc_PWM_PERIOD, 2000)]) with linkUp := false, chans := [(31, { mode := 2, duty := 0x8000 })] }, by decide +kernel⟩,
   ⟨31, { up with chans := [(31, { amode := 2, cond := true })] }, by decide +kernel⟩⟩

theorem witness_PowerStatesAndStartUpFollowTheirEvents :
    (∃ (s : State), s.power.dozeReq = true ∧ s.power.exitPending = false ∧ (∀ p : Fin 8, pairState p.val s ∈ [0, 3, 4, 6, 7])) ∧
    (∃ (s : State), s.power.exitPending = true ∧ (s.power.dozeReq = true ∨ s.power.pstate = .doze)) ∧
    (∃ (s : State), s.power.parkStep ≠ 0) ∧
    (∃ (s : State) (src : _), s.power.parkWake = some src ∧ s.power.pstate = .park ∧ s.power.pwrReqLowSince + offMs s ≤ s.el) ∧
    (∃ (s : State), s.power.pgood = false ∧ s.power.pwrReq = true ∧ resetRuns s = true ∧ s.power.powerHeld = false ∧ pinLow s = false ∧
        s.power.computeUntil ≤ s.el) ∧
    (∃ (s : State), s.power.powerHeld = true ∧ pinLow s = false ∧ s.power.pstate = .hold ∧ s.power.powerUntil ≤ s.el) ∧
    (∃ (s : State), s.power.boot = .waitCrystal ∧ s.power.computeHeld = false) ∧
    (∃ (s : State), s.power.boot = .waitCrystal ∧ s.power.computeHeld = false ∧ s.power.xoBy ≤ s.el) ∧
    (∃ (s : State), s.power.boot = .filling ∧ s.power.computeHeld = false) ∧
    (∃ (s : State), s.power.boot = .waitImage ∧ s.power.computeHeld = false) ∧
    (∃ (s : State), s.power.boot = .imageReady ∧ s.power.computeHeld = false ∧ injDone s = true) ∧
    (∃ (s : State), s.power.pstate = .hold ∧ s.power.pgood = false ∧ s.power.powerHeld = false) ∧
    (∃ (s : State), s.power.pgood = true ∧ s.power.pstate ≠ .park ∧ s.power.pstate ≠ .off ∧ resetRuns s = false ∧ s.power.powerHeld = false) ∧
    (∃ (s : State), s.power.vbatAon = true ∧ s.power.porstLow = false) ∧
    (∃ (s : State), s.power.vbatAon = false) ∧
    (∃ (s : State), s.power.resetLow = false ∧ s.power.pstate ≠ .off ∧ resetRuns s = false) ∧
    (∃ (s : State), deviceDue s = true ∧ resetRuns s = false ∧ s.power.powerHeld = false ∧ s.power.pstate ≠ .park ∧ s.power.pstate ≠ .off) ∧
    (∃ (s : State), s.power.pstate = .off ∧ s.power.vbat12 = false ∧ s.power.vbatAon = true) ∧
    (∃ (por : Bool) (s : State), (if por then s.power.porstLow else s.power.resetLow) = true) :=
  ⟨⟨{ up with power := { (up).power with dozeReq := true } }, by decide +kernel⟩,
   ⟨{ up with power := { (up).power with dozeReq := true, exitPending := true } }, by decide +kernel⟩,
   ⟨{ up with power := { (up).power with parkStep := 1 } }, by decide +kernel⟩,
   ⟨{ (at_ 1000000000 up) with power := { ((at_ 1000000000 up)).power with pstate := .park, parkWake := some 0x100 } }, 0x100, by decide +kernel⟩,
   ⟨State.reset, by decide +kernel⟩,
   ⟨{ State.reset with power := { (State.reset).power with powerHeld := true } }, by decide +kernel⟩,
   ⟨{ up with power := { (up).power with boot := .waitCrystal } }, by decide +kernel⟩,
   ⟨{ up with power := { (up).power with boot := .waitCrystal } }, by decide +kernel⟩,
   ⟨{ up with power := { (up).power with boot := .filling } }, by decide +kernel⟩,
   ⟨{ up with power := { (up).power with boot := .waitImage } }, by decide +kernel⟩,
   ⟨{ (wr up [(R.EXEC_INJ, F.EXEC_INJ_PASSED, 255)]) with power := { ((wr up [(R.EXEC_INJ, F.EXEC_INJ_PASSED, 255)])).power with boot := .imageReady } }, by decide +kernel⟩,
   ⟨(at_ 1000000000 State.reset), by decide +kernel⟩,
   ⟨up, by decide +kernel⟩,
   ⟨up, by decide +kernel⟩,
   ⟨{ up with power := { (up).power with vbatAon := false } }, by decide +kernel⟩,
   ⟨up, by decide +kernel⟩,
   ⟨{ up with faults := { up.faults with device := some 0 } }, by decide +kernel⟩,
   ⟨{ up with power := { (up).power with pstate := .off, vbat12 := false } }, by decide +kernel⟩,
   ⟨true, { up with power := { (up).power with porstLow := true } }, by decide +kernel⟩⟩

theorem witness_PairFaultsStopThePair :
    (∃ (p : Fin 8) (s : State), pairState p.val s = 2 ∧ pairSplit p.val s = false) ∧
    (∃ (p : Fin 8) (s : State), pairState p.val s = 2 ∧ pairSplit p.val s = false) ∧
    (∃ (p : Fin 8) (s : State), s.now % 1000000 < 2 ∧ pairState p.val s = 2 ∧ pairSplit p.val s = false) ∧
    (∃ (p : Fin 8) (s : State) (d : _), (s.pair p.val).digLead = some d ∧ pairState p.val s = 2 ∧ pairSplit p.val s = false) ∧
    (∃ (h : Handover) (s : State), s.handover = some h ∧ h.pair < 8 ∧ h.at_ + 20000 ≤ s.now) ∧
    (∃ (s : State), s.power.boot = .imageReady ∧ s.power.computeHeld = false) ∧
    (∃ (p : Fin 8) (s : State), pairState p.val s = 1 ∧ s.power.boot = .running) ∧
    (∃ (p : Fin 8) (s : State), pairState p.val s = 1 ∧ s.power.boot = .running) ∧
    (∃ (p : Fin 8) (s : State), pairState p.val s = 2 ∧ pairSplit p.val s = false) :=
  ⟨⟨7, (wr up [(R.EXEC_Pp_STAT 7, F.EXEC_Pp_STAT_STATE, 2)]), by decide +kernel⟩,
   ⟨7, (wr up [(R.EXEC_Pp_STAT 7, F.EXEC_Pp_STAT_STATE, 2)]), by decide +kernel⟩,
   ⟨7, (wr up [(R.EXEC_Pp_STAT 7, F.EXEC_Pp_STAT_STATE, 2)]), by decide +kernel⟩,
   ⟨7, { (wr up [(R.EXEC_Pp_STAT 7, F.EXEC_Pp_STAT_STATE, 2)]) with pairs := [(7, { digLead := some 5 })] }, 5, by decide +kernel⟩,
   ⟨{ pair := 7, at_ := 0 }, { at_ 20000 up with handover := some { pair := 7, at_ := 0 } }, by decide +kernel⟩,
   ⟨{ up with power := { (up).power with boot := .imageReady } }, by decide +kernel⟩,
   ⟨7, (wr up [(R.EXEC_Pp_STAT 7, F.EXEC_Pp_STAT_STATE, 1)]), by decide +kernel⟩,
   ⟨7, (wr up [(R.EXEC_Pp_STAT 7, F.EXEC_Pp_STAT_STATE, 1)]), by decide +kernel⟩,
   ⟨7, (wr up [(R.EXEC_Pp_STAT 7, F.EXEC_Pp_STAT_STATE, 2)]), by decide +kernel⟩⟩

theorem witness_CarrelsQuiesceSwitchAndServe :
    (∃ (c : BitVec 9) (s : State), c ≠ 0 ∧ carState c.toNat s = 3 ∧ (carrelWorks c.toNat s = false ∨ (s.carrel c.toNat).quiesceBy ≤ s.now)) ∧
    (∃ (p : Fin 8) (k : Fin 2) (s : State), s.bit (R.CARREL_Pp_TTk_NEXT p.val k.val) F.CARREL_Pp_TTk_NEXT_PENDING = true ∧
        s.bit (ttCtl p.val k.val) F.CARREL_Pp_TTk_CTL_EN = true ∧ (s.reg (R.CARREL_Pp_TTk_BASE p.val k.val)).toNat ≤ s.now ∧
        (s.now - (s.reg (R.CARREL_Pp_TTk_BASE p.val k.val)).toNat) % max 1 (s.get (ttCtl p.val k.val) F.CARREL_Pp_TTk_CTL_CYCLE) < 2) ∧
    (∃ (p : Fin 8) (k : Fin 2) (x : Nat) (n : Nat) (s : State), x = ttCore p.val k.val s ∧ s.power.computeHeld = false ∧ coreExists x s = true ∧
        pairState (x / 2) s = 2 ∧ s.bit (ttCtl p.val k.val) F.CARREL_Pp_TTk_CTL_EN = true ∧ s.now < (s.core x).wend ∧ (s.core x).wend ≤ s.now + 2000 ∧
        (ttWindow p.val k.val (s.core x).wend s).2.1 = some n ∧ n < 512 ∧ ¬((s.core x).loaded = true ∧ (s.core x).d1.toNat = n) ∧
        s.bit (R.CARREL_Cc_STAT n) F.CARREL_Cc_STAT_FRESH = false) ∧
    (∃ (p : Fin 8) (k : Fin 2) (x : Nat) (s : State), x = ttCore p.val k.val s ∧ switchDue x s = true ∧ (s.core x).mode = 3 ∧ (s.core x).d1 ≠ 0 ∧
        (s.core x).loaded = true ∧ (s.core x).idle = false ∧ (s.core x).heldSwitch = false) ∧
    (∃ (p : Fin 8) (k : Fin 2) (x : Nat) (n : Nat) (s : State), x = ttCore p.val k.val s ∧ switchDue x s = true ∧ (s.core x).loaded = false ∧
        (s.core x).shadow = none ∧ s.bit (ttCtl p.val k.val) F.CARREL_Pp_TTk_CTL_EN = true ∧ s.power.dozeReq = false ∧
        (ttWindow p.val k.val s.now s).2.1 = some n ∧ n < 512 ∧ s.bit (R.CARREL_Cc_STAT n) F.CARREL_Cc_STAT_FRESH = true) ∧
    (∃ (x : Fin 16) (y : Ctx) (s : State), s.power.computeHeld = false ∧ (s.core x.val).outgoing = some y) ∧
    (∃ (s : State) (x : Nat × Octets) (q : List (Nat × Octets)), s.sw.rcIn = x :: q) ∧
    (∃ (c : BitVec 9) (q : RemoteReq) (r : _) (s : State), (s.carrel c.toNat).reqs = q :: r ∧ s.power.computeHeld = false ∧
        s.bit (R.CARREL_Cc_SES_CTL c.toNat) F.CARREL_Cc_SES_CTL_EN = true ∧ (carState c.toNat s ≠ 2 ∨ requestBad c.toNat q = true ∨ q.op = 4)) ∧
    (∃ (c : BitVec 9) (x : Nat) (s : State), (s.carrel c.toNat).gather = some x ∧ s.power.computeHeld = false ∧
        s.bit (R.CARREL_Cc_SES_CTL c.toNat) F.CARREL_Cc_SES_CTL_EN = true ∧ carState c.toNat s = 2 ∧ (s.carrel c.toNat).nq.queue ≠ [] ∧
        (x ≤ s.now ∨ 8 ≤ (s.carrel c.toNat).nq.queue.length)) :=
  ⟨⟨511, (wr up [(R.CARREL_Cc_STAT 511, F.CARREL_Cc_STAT_STATE, 3)]), by decide +kernel⟩,
   ⟨7, 1, (wr up [(R.CARREL_Pp_TTk_NEXT 7 1, F.CARREL_Pp_TTk_NEXT_PENDING, 1), (R.CARREL_Pp_TTk_CTL 7 1, F.CARREL_Pp_TTk_CTL_EN, 1)]),
       by decide +kernel⟩,
   ⟨7, 0, 14, 1,
       { (wr up [(R.CARREL_Cc_CFG 1, F.CARREL_Cc_CFG_V, 1), (R.CARREL_Cc_CFG 1, F.CARREL_Cc_CFG_PAIR, 7), (R.CARREL_Cc_STAT 1, F.CARREL_Cc_STAT_STATE, 2), (R.CARREL_Pp_TEi 7 0, F.CARREL_Pp_TEi_CARREL, 1), (R.CARREL_Pp_TTk_CTL 7 0, F.CARREL_Pp_TTk_CTL_EN, 1), (R.CARREL_Pp_TTk_CTL 7 0, F.CARREL_Pp_TTk_CTL_LEN, 1), (R.CARREL_Pp_TTk_CTL 7 0, F.CARREL_Pp_TTk_CTL_CYCLE, 1000), (R.EXEC_Pp_STAT 7, F.EXEC_Pp_STAT_STATE, 2), (R.CARREL_Cc_STAT 1, F.CARREL_Cc_STAT_FRESH, 0)]) with cores := [(14, { wend := 1 })] }, by decide +kernel⟩,
   ⟨7, 0, 14,
       { (wr up [(R.CARREL_Cc_CFG 1, F.CARREL_Cc_CFG_V, 1), (R.CARREL_Cc_CFG 1, F.CARREL_Cc_CFG_PAIR, 7), (R.CARREL_Cc_STAT 1, F.CARREL_Cc_STAT_STATE, 2), (R.CARREL_Pp_TEi 7 0, F.CARREL_Pp_TEi_CARREL, 1), (R.CARREL_Pp_TTk_CTL 7 0, F.CARREL_Pp_TTk_CTL_EN, 1), (R.CARREL_Pp_TTk_CTL 7 0, F.CARREL_Pp_TTk_CTL_LEN, 1), (R.CARREL_Pp_TTk_CTL 7 0, F.CARREL_Pp_TTk_CTL_CYCLE, 1000), (R.EXEC_Pp_STAT 7, F.EXEC_Pp_STAT_STATE, 2)]) with cores := [(14, { mode := 3, d1 := 1, loaded := true, idle := false })] }, by decide +kernel⟩,
   ⟨7, 0, 14, 1, (wr up [(R.CARREL_Cc_CFG 1, F.CARREL_Cc_CFG_V, 1), (R.CARREL_Cc_CFG 1, F.CARREL_Cc_CFG_PAIR, 7), (R.CARREL_Cc_STAT 1,
       F.CARREL_Cc_STAT_STATE, 2), (R.CARREL_Pp_TEi 7 0, F.CARREL_Pp_TEi_CARREL, 1), (R.CARREL_Pp_TTk_CTL 7 0, F.CARREL_Pp_TTk_CTL_EN, 1),
       (R.CARREL_Pp_TTk_CTL 7 0, F.CARREL_Pp_TTk_CTL_LEN, 1), (R.CARREL_Pp_TTk_CTL 7 0, F.CARREL_Pp_TTk_CTL_CYCLE, 1000), (R.EXEC_Pp_STAT 7,
       F.EXEC_Pp_STAT_STATE, 2), (R.CARREL_Cc_STAT 1, F.CARREL_Cc_STAT_FRESH, 1)]), by decide +kernel⟩,
   ⟨15, {}, { up with cores := [(15, { outgoing := some {} })] }, by decide +kernel⟩,
   ⟨{ up with sw := { (up).sw with rcIn := [(10, [])] } }, (10, []), [], by decide +kernel⟩,
   ⟨511, {}, [], { (wr up [(R.CARREL_Cc_SES_CTL 511, F.CARREL_Cc_SES_CTL_EN, 1)]) with carrels := [(511, { reqs := [{}] })] }, by decide +kernel⟩,
   ⟨511, 0, { (wr up [(R.CARREL_Cc_SES_CTL 511, F.CARREL_Cc_SES_CTL_EN, 1), (R.CARREL_Cc_STAT 511, F.CARREL_Cc_STAT_STATE, 2)]) with carrels := [(511, { gather := some 0, nq := { queue := [{}] } })] }, by decide +kernel⟩⟩

theorem witness_MemoryEnginesPinsAndConvertersFinish :
    (∃ (a : BitVec 48) (flips : BitVec 80) (bit : Nat) (s : State), s.bit R.STK_CTL F.STK_CTL_SCRUB_EN = true ∧
        s.bit R.STK_STAT F.STK_STAT_FILLED = true ∧ pllsRun s = true ∧ liveIndex a.toNat = none ∧ scrubbed a.toNat = true ∧
        isWithdrawn a.toNat false s = false ∧ eccFinds (s.eccAt a.toNat ^^^ flips) = some bit) ∧
    (∃ (f : FillJob) (s : State), s.stk.fill = some f) ∧
    (∃ (b : Fin 32) (s : State), b.val ∈ s.stk.bankFill) ∧
    (∃ (s : State) (x : ArchEvent) (q : _), s.arch.inq = x :: q ∧ tileClosed .archive s = false ∧ pllsRun s = true ∧
        s.bit R.STK_STAT F.STK_STAT_FILLED = true ∧ s.arch.last ≤ x.ev.stamp ∧ x.ev.stamp + 64 ≤ s.now ∧ s.get R.ARCH_STAT F.ARCH_STAT_COUNT < 1024) ∧
    (∃ (s : State), s.stk.cmdRun = true) ∧
    (∃ (s : State), s.stk.copyRun = true ∧ tileClosed .xspi s = false) ∧
    (∃ (b : Fin 6) (j : Fin 8) (s : State), gtcRuns s = true ∧ s.power.pstate = .awake ∧
        s.get (R.IOC_GPIOk_CFG (8 * b.val + j.val)) F.IOC_GPIOk_CFG_FUNC = 0 ∧
        s.bit (R.IOC_GPIOk_CFG (8 * b.val + j.val)) F.IOC_GPIOk_CFG_OE = false) ∧
    (∃ (g : Fin 16) (st : Nat) (s : State), s.adc.find? (fun e => e.1 = g.val) = some (g.val, st) ∧ adcBlocked g.val s = false ∧
        st + adcSpan g.val s ≤ s.now) :=
  ⟨⟨0, 1, 0, (wr up [(R.STK_CTL, F.STK_CTL_SCRUB_EN, 1), (R.STK_STAT, F.STK_STAT_FILLED, 1)]), by decide +kernel⟩,
   ⟨{ page := 0, count := 1, test := true }, { up with stk := { up.stk with fill := some { page := 0, count := 1, test := true } } },
       by decide +kernel⟩,
   ⟨31, { up with stk := { up.stk with bankFill := [31] } }, by decide +kernel⟩,
   ⟨{ (at_ 64 (wr up [(R.STK_STAT, F.STK_STAT_FILLED, 1)])) with arch := { up.arch with inq := [{}] } }, {}, [], by decide +kernel⟩,
   ⟨{ up with stk := { up.stk with cmdRun := true } }, by decide +kernel⟩,
   ⟨{ up with stk := { up.stk with copyRun := true } }, by decide +kernel⟩,
   ⟨5, 7, up, by decide +kernel⟩,
   ⟨15, 0, { (at_ 1000000 up) with adc := [(15, 0)] }, by decide +kernel⟩⟩

theorem witness_VaultCommandsCompleteAndSlotsFollow :
    (∃ (q : Fin 16) (s : State), vaultRuns s = true ∧ vbusy q.val s = true ∧ (vjob q.val s).started = true ∧ (vjob q.val s).code = none ∧
        (vjob q.val s).claim = none ∧ (vjob q.val s).made = none ∧ ((vjob q.val s).out = [] ∨ vop q.val s = 0x15)) ∧
    (∃ (k : BitVec 8) (s : State), ((∃ e ∈ s.vault.prog, e.1 = k.toNat ∧ e.2 + 1000000 ≤ s.el))) ∧
    (∃ (kind : BitVec 2), kind ≠ 0) ∧
    (∃ (s : State), s.vault.zero ≠ [] ∧ zeroDone (s.vault.zero.length - 1) s = true) :=
  ⟨⟨15, { (wr up [(R.VAULT_Qq_STAT 15, F.VAULT_Qq_STAT_BUSY, 1)]) with vault := { ((wr up [(R.VAULT_Qq_STAT 15, F.VAULT_Qq_STAT_BUSY, 1)])).vault with jobs := [(15, { started := true })] } }, by decide +kernel⟩,
   ⟨255, { (at_ 1000000 up) with vault := { up.vault with prog := [(255, 0)] } }, by decide +kernel⟩,
   ⟨3, by decide +kernel⟩,
   ⟨{ (at_ 1000000000 up) with vault := { up.vault with zero := [0] } }, by decide +kernel⟩⟩

theorem witness_TwinBridgeAndSemaphores :
    (∃ (s : State) (o : OutTxn) (q : _), bridgeRuns s = true ∧ s.bridge.open_ = none ∧ s.bridge.queue = o :: q) ∧
    (∃ (s : State) (o : OutTxn), bridgeRuns s = true ∧ s.bridge.open_ = some o ∧ 16 ≤ o.core ∧ s.bridge.retryAt = none ∧ s.bridge.queue = [] ∧
        s.bridge.inWait = none) ∧
    (∃ (s : State), bridgeRuns s = true ∧ s.bit R.TWIN_BR_CTL F.TWIN_BR_CTL_IN_EN = true ∧ ((s.bridge.open_ = none ∨ s.bridge.retryAt ≠ none))) ∧
    (∃ (s : State), bridgeRuns s = true ∧ s.bit R.TWIN_BR_CTL F.TWIN_BR_CTL_IN_EN = false) ∧
    (∃ (s : State) (o : OutTxn), bridgeRuns s = true ∧ s.bit R.TWIN_BR_CTL F.TWIN_BR_CTL_IN_EN = true ∧ s.bridge.open_ = some o ∧
        s.bridge.retryAt = none) ∧
    (∃ (s : State) (o : OutTxn), bridgeRuns s = true ∧ localSide s = 1 ∧ s.bridge.open_ = some o ∧ s.bridge.retryAt = none ∧ s.bridge.inWait = none ∧
        s.get R.TWIN_BR_STAT F.TWIN_BR_STAT_TRY < 8) ∧
    (∃ (s : State) (o : OutTxn), bridgeRuns s = true ∧ localSide s = 1 ∧ s.bridge.open_ = some o ∧ 16 ≤ o.core ∧ s.bridge.retryAt = none ∧
        s.bridge.inWait = none ∧ 8 ≤ s.get R.TWIN_BR_STAT F.TWIN_BR_STAT_TRY) ∧
    (∃ (s : State) (x : Nat), bridgeRuns s = true ∧ s.bridge.retryAt = some x ∧ x ≤ s.now) ∧
    (∃ (s : State) (o : OutTxn) (x : Nat), s.power.computeHeld = false ∧ s.bridge.open_ = some o ∧ 16 ≤ o.core ∧ s.bridge.inWait = none ∧
        s.bridge.tmoAt = some x ∧ x ≤ s.now) ∧
    (∃ (s : State), bridgeRuns s = true ∧ s.get R.TWIN_BR_LOGSTAT F.TWIN_BR_LOGSTAT_COUNT < 16 ∧
        s.get R.TWIN_BR_LOGSTAT F.TWIN_BR_LOGSTAT_HEAD < 16) ∧
    (∃ (s : State), bridgeRuns s = true ∧ 16 ≤ s.get R.TWIN_BR_LOGSTAT F.TWIN_BR_LOGSTAT_COUNT) ∧
    (∃ (k : Fin 32) (s : State), bridgeRuns s = true ∧ localSide s = 0 ∧ s.bit (R.TWIN_SEMs k.val) F.TWIN_SEMs_HELD = false) ∧
    (∃ (k : Fin 32) (s : State), bridgeRuns s = true ∧ localSide s = 0 ∧ s.bit (R.TWIN_SEMs k.val) F.TWIN_SEMs_HELD = true) ∧
    (∃ (k : Fin 32) (id : Ident) (s : State), localSide s = 0 ∧
        accessCheck { kind := .read, addr := BitVec.ofNat 48 (R.TWIN_SEMs k.val), id := id } s = none ∧
        s.bit (R.TWIN_SEMs k.val) F.TWIN_SEMs_HELD = false) ∧
    (∃ (k : Fin 32) (s : State), bridgeRuns s = true ∧ localSide s = 0 ∧ s.bit (R.TWIN_SEMs k.val) F.TWIN_SEMs_HELD = true) ∧
    (∃ (k : Fin 32) (id : Ident) (s : State), localSide s = 0 ∧
        accessCheck { kind := .write, addr := BitVec.ofNat 48 (R.TWIN_SEMs k.val), id := id, data := immw (fput 0 F.TWIN_SEMs_RELEASE 1) } s = none ∧
        s.bit (R.TWIN_SEMs k.val) F.TWIN_SEMs_HELD = true ∧ id.lib = true) :=
  ⟨⟨{ lnk with bridge := { lnk.bridge with queue := [{ txn := { addr := 0x100000010 } }] } }, { txn := { addr := 0x100000010 } }, [],
      by decide +kernel⟩,
   ⟨{ lnk with bridge := { lnk.bridge with open_ := some { txn := { addr := 0x100000010 } } } }, { txn := { addr := 0x100000010 } },
       by decide +kernel⟩,
   ⟨lnk, by decide +kernel⟩,
   ⟨wr lnk [(R.TWIN_BR_CTL, F.TWIN_BR_CTL_IN_EN, 0)], by decide +kernel⟩,
   ⟨{ lnk with bridge := { lnk.bridge with open_ := some { txn := { addr := 0x100000010 } } } }, { txn := { addr := 0x100000010 } },
       by decide +kernel⟩,
   ⟨{ lnkB with bridge := { lnkB.bridge with open_ := some { txn := { addr := 0x100000010 } } } }, { txn := { addr := 0x100000010 } },
       by decide +kernel⟩,
   ⟨{ wr lnkB [(R.TWIN_BR_STAT, F.TWIN_BR_STAT_TRY, 8)] with bridge := { lnkB.bridge with open_ := some { txn := { addr := 0x100000010 } } } },
       { txn := { addr := 0x100000010 } }, by decide +kernel⟩,
   ⟨{ lnk with bridge := { lnk.bridge with retryAt := some 0 } }, 0, by decide +kernel⟩,
   ⟨{ lnk with bridge := { lnk.bridge with open_ := some { txn := { addr := 0x100000010 } }, tmoAt := some 0 } }, { txn := { addr := 0x100000010 } },
       0, by decide +kernel⟩,
   ⟨lnk, by decide +kernel⟩,
   ⟨wr lnk [(R.TWIN_BR_LOGSTAT, F.TWIN_BR_LOGSTAT_COUNT, 16)], by decide +kernel⟩,
   ⟨31, lnk, by decide +kernel⟩,
   ⟨31, wr lnk [(R.TWIN_SEMs 31, F.TWIN_SEMs_HELD, 1)], by decide +kernel⟩,
   ⟨0, {}, lnk, by decide +kernel⟩,
   ⟨31, wr lnk [(R.TWIN_SEMs 31, F.TWIN_SEMs_HELD, 1)], by decide +kernel⟩,
   ⟨0, {}, wr lnk [(R.TWIN_SEMs 0, F.TWIN_SEMs_HELD, 1)], by decide +kernel⟩⟩

theorem witness_TwinsPairLoseAndTakeOver :
    (∃ (lane : Fin 2) (s : State), twinRuns s = true ∧ twinLinkUp s = true ∧ Nat.testBit (s.get R.TWIN_STAT F.TWIN_STAT_LANES) lane.val = true) ∧
    (∃ (s : State), twinRuns s = true ∧ twinLinkUp s = true) ∧
    (∃ (lane : Fin 2) (s : State), twinRuns s = true ∧ Nat.testBit (s.get R.TWIN_STAT F.TWIN_STAT_LANES) lane.val = true) ∧
    (∃ (lane : Fin 2) (s : State), twinRuns s = true ∧ twinLinkUp s = true ∧ Nat.testBit (s.get R.TWIN_STAT F.TWIN_STAT_LANES) lane.val = false) ∧
    (∃ (s : State), twinRuns s = true ∧ twinLinkUp s = true ∧ s.twin.hbAt + 60000 ≤ s.now) ∧
    (∃ (lanes : _) (s : State), twinRuns s = true ∧ twinLinkUp s = false ∧ lanes ≠ 0) ∧
    (∃ (s : State), twinRuns s = true ∧ s.power.pstate ≠ .park ∧ (twinState s ≠ 6 ∨ s.twin.peerWake = true) ∧ s.twin.aliveAt + 20000 ≤ s.now) ∧
    (∃ (s : State), twinRuns s = true ∧ aliveOk s = true) ∧
    (∃ (s : State), twinRuns s = true ∧ aliveOk s = false) ∧
    (∃ (s : State), twinRuns s = true ∧ s.bit R.TWIN_CTL F.TWIN_CTL_PAIR_EN = true ∧ twinState s ∈ [1, 2, 3, 6] ∧ takeOut s = false) ∧
    (∃ (s : State), twinRuns s = true ∧ twinState s = 4 ∧ s.twin.witAt + 100000 ≤ s.now) ∧
    (∃ (k : BitVec 20) (s : State), twinRuns s = true ∧ twinLinkUp s = true ∧ s.stk.ecc = [] ∧ s.bit R.TWIN_GTC_STAT F.TWIN_GTC_STAT_VALID = true ∧
        (descOf (s.rdMem (catA k.toNat 2))).kind = 0) ∧
    (∃ (s : State), twinRuns s = true ∧ twinLinkUp s = true ∧ s.bit R.TWIN_GTC_STAT F.TWIN_GTC_STAT_VALID = true) ∧
    (∃ (st : BitVec 64) (s : State), twinRuns s = true ∧ twinLinkUp s = true ∧ s.bit R.TWIN_GTC_STAT F.TWIN_GTC_STAT_VALID = true ∧
        (s.carrel 0).nq.last ≤ localStamp st.toNat s) ∧
    (∃ (s : State), twinRuns s = true ∧ twinLinkUp s = true ∧ twinState s = 1) :=
  ⟨⟨1, (wr up [(R.TWIN_STAT, F.TWIN_STAT_LINK_UP, 1), (R.TWIN_STAT, F.TWIN_STAT_STATE, 0), (R.TWIN_STAT, F.TWIN_STAT_LANES, 3)]), by decide +kernel⟩,
   ⟨(wr up [(R.TWIN_STAT, F.TWIN_STAT_LINK_UP, 1), (R.TWIN_STAT, F.TWIN_STAT_STATE, 0), (R.TWIN_STAT, F.TWIN_STAT_LANES, 3)]), by decide +kernel⟩,
   ⟨1, (wr up [(R.TWIN_STAT, F.TWIN_STAT_LINK_UP, 1), (R.TWIN_STAT, F.TWIN_STAT_STATE, 0), (R.TWIN_STAT, F.TWIN_STAT_LANES, 3)]), by decide +kernel⟩,
   ⟨1, (wr up [(R.TWIN_STAT, F.TWIN_STAT_LINK_UP, 1), (R.TWIN_STAT, F.TWIN_STAT_LANES, 1)]), by decide +kernel⟩,
   ⟨(at_ 60000 (wr up [(R.TWIN_STAT, F.TWIN_STAT_LINK_UP, 1), (R.TWIN_STAT, F.TWIN_STAT_STATE, 1), (R.TWIN_STAT, F.TWIN_STAT_LANES, 3)])),
       by decide +kernel⟩,
   ⟨3, up, by decide +kernel⟩,
   ⟨(at_ 20000 up), by decide +kernel⟩,
   ⟨(wr up [(R.TWIN_STAT, F.TWIN_STAT_ALIVE_OK, 1)]), by decide +kernel⟩,
   ⟨(wr up [(R.TWIN_STAT, F.TWIN_STAT_ALIVE_OK, 0)]), by decide +kernel⟩,
   ⟨(wr up [(R.TWIN_STAT, F.TWIN_STAT_LINK_UP, 1), (R.TWIN_STAT, F.TWIN_STAT_STATE, 1), (R.TWIN_STAT, F.TWIN_STAT_LANES, 3), (R.TWIN_CTL,
       F.TWIN_CTL_PAIR_EN, 1), (R.TWIN_CTL, F.TWIN_CTL_ORDER, 0)]), by decide +kernel⟩,
   ⟨(at_ 100000 (wr up [(R.TWIN_STAT, F.TWIN_STAT_LINK_UP, 1), (R.TWIN_STAT, F.TWIN_STAT_STATE, 4), (R.TWIN_STAT, F.TWIN_STAT_LANES, 3)])),
       by decide +kernel⟩,
   ⟨0xFFFFF, (wr up [(R.TWIN_STAT, F.TWIN_STAT_LINK_UP, 1), (R.TWIN_STAT, F.TWIN_STAT_STATE, 1), (R.TWIN_STAT, F.TWIN_STAT_LANES, 3),
       (R.TWIN_GTC_STAT, F.TWIN_GTC_STAT_VALID, 1)]), by decide +kernel⟩,
   ⟨(wr up [(R.TWIN_STAT, F.TWIN_STAT_LINK_UP, 1), (R.TWIN_STAT, F.TWIN_STAT_STATE, 1), (R.TWIN_STAT, F.TWIN_STAT_LANES, 3), (R.TWIN_GTC_STAT,
       F.TWIN_GTC_STAT_VALID, 1)]), by decide +kernel⟩,
   ⟨0, (wr up [(R.TWIN_STAT, F.TWIN_STAT_LINK_UP, 1), (R.TWIN_STAT, F.TWIN_STAT_STATE, 1), (R.TWIN_STAT, F.TWIN_STAT_LANES, 3), (R.TWIN_GTC_STAT,
       F.TWIN_GTC_STAT_VALID, 1)]), by decide +kernel⟩,
   ⟨(wr up [(R.TWIN_STAT, F.TWIN_STAT_LINK_UP, 1), (R.TWIN_STAT, F.TWIN_STAT_STATE, 1), (R.TWIN_STAT, F.TWIN_STAT_LANES, 3)]), by decide +kernel⟩⟩

end Sys2Proof.Tests
end

section
namespace Sys2Proof.Proofs
open Sys2Proof Machine Claim

/-- Every permit entry leaves reset without a right but those of master 0 (R475). -/
theorem permitEntry_reset (r : Fin 8) (m : Fin 64) :
    resetReg (R.PERM_TABLE r.val m.val) = if m.val = 0 then (if r.val = 6 then 0xB else 0xF) else 0 := by
  revert r m; decide +kernel

/-- Settles O4: the permit table by `permitEntry_reset`, every other clause by evaluating the reset state. -/
theorem resetStateIsAsStated : Obligations.ResetStateIsAsStated := by
  unfold Obligations.ResetStateIsAsStated
  refine ⟨by decide, by decide, by decide, by decide, by decide +kernel, by decide +kernel, by decide +kernel, by decide +kernel,
    by decide +kernel, by decide +kernel, by decide +kernel, by decide +kernel, by decide +kernel, by decide +kernel,
    permitEntry_reset⟩

end Sys2Proof.Proofs
end

section
namespace Sys2Proof.Machine
open Sys2Proof Claim

/-! ### Register fields, bit by bit (R6) -/

/-- Does a field hold bit i? -/
def Fld.has (f : Fld) (i : Nat) : Bool := decide (f.lo ≤ i) && decide (i < f.lo + f.width)

/-- Does a write leave the written value in the field (R6)? -/
def FSpec.written (f : FSpec) : Bool := decide (f.acc = .rw) || decide (f.acc = .wonce)

/-- Two fields share no bit, or a write leaves its own value in both. -/
def FSpec.compatible (f g : FSpec) : Bool :=
  decide (f.fld.lo + f.fld.width ≤ g.fld.lo) || decide (g.fld.lo + g.fld.width ≤ f.fld.lo) || (f.written && g.written)

/-- The fields of a register lie inside it and are compatible in pairs. -/
def RSpec.tidy (r : RSpec) : Bool :=
  r.fields.all (fun f => decide (f.fld.lo + f.fld.width ≤ 64)) && decide (r.fields.Pairwise fun f g => f.compatible g = true)

theorem RSpec.tidy_iff {r : RSpec} : r.tidy = true ↔
    (∀ f ∈ r.fields, f.fld.lo + f.fld.width ≤ 64) ∧ r.fields.Pairwise fun f g => f.compatible g = true := by
  simp [RSpec.tidy]

theorem FSpec.compatible_shared {f g : FSpec} {i : Nat} (h : f.compatible g = true) (hf : f.fld.has i = true)
    (hg : g.fld.has i = true) : f.written = true ∧ g.written = true := by
  simp only [FSpec.compatible, Fld.has, Bool.and_eq_true, Bool.or_eq_true, decide_eq_true_eq] at h hf hg
  exact h.resolve_left (by omega)

theorem getLsbD_fmask {f : Fld} {i : Nat} (h : f.lo + f.width ≤ 64) : (fmask f).getLsbD i = f.has i := by
  have hones : (1#64 <<< f.width - 1#64) = (BitVec.allOnes f.width).setWidth 64 := by
    apply BitVec.eq_of_toNat_eq
    have hw : 2 ^ f.width ≤ 2 ^ 64 := Nat.pow_le_pow_right (by omega) (by omega)
    have hp := Nat.two_pow_pos f.width
    simp only [BitVec.toNat_sub, BitVec.toNat_shiftLeft, BitVec.toNat_ofNat, BitVec.toNat_setWidth, BitVec.toNat_allOnes,
      Nat.shiftLeft_eq]
    rcases Nat.lt_or_eq_of_le hw with hlt | heq <;> omega
  rw [fmask, hones]
  simp only [BitVec.getLsbD_shiftLeft, BitVec.getLsbD_setWidth, BitVec.getLsbD_allOnes, Fld.has]
  grind

theorem getLsbD_fput_fget {f : Fld} {i : Nat} (h : f.lo + f.width ≤ 64) (v w : BitVec 64) :
    (fput v f (fget w f)).getLsbD i = if f.has i = true then w.getLsbD i else v.getLsbD i := by
  have hval : (BitVec.ofNat 64 (fget w f)) = (w.extractLsb' f.lo f.width).setWidth 64 := by
    rw [fget, BitVec.ofNat_toNat]
  simp only [fput, hval, BitVec.getLsbD_or, BitVec.getLsbD_and, BitVec.getLsbD_not, getLsbD_fmask h, BitVec.getLsbD_shiftLeft,
    BitVec.getLsbD_setWidth, BitVec.getLsbD_extractLsb']
  by_cases hi : f.has i = true
  · simp only [Fld.has, Bool.and_eq_true, decide_eq_true_eq] at hi
    have h1 : f.lo + (i - f.lo) = i := by omega
    simp [Fld.has, hi, h1]
    grind
  · simp only [hi]
    grind

/-- What a write of the bits `w` leaves of a field that holds `v`, by the field's access code (R6). -/
def Acc.leaves {n : Nat} (acc : Acc) (w v : BitVec n) : BitVec n :=
  match acc with
  | .rw | .wonce => w
  | .ro | .wo => v
  | .w1c => v &&& ~~~w
  | .w1s => v ||| w

/-- The same of one bit. -/
def codeBit (acc : Acc) (w v : Bool) : Bool :=
  match acc with
  | .rw | .wonce => w
  | .ro | .wo => v
  | .w1c => v && !w
  | .w1s => v || w

theorem getLsbD_leaves {n i : Nat} (acc : Acc) (w v : BitVec n) (hi : i < n) :
    (acc.leaves w v).getLsbD i = codeBit acc (w.getLsbD i) (v.getLsbD i) := by
  cases acc <;> simp [Acc.leaves, codeBit, hi]

theorem getLsbD_apply {f : FSpec} {i : Nat} (h : f.fld.lo + f.fld.width ≤ 64) (w v : BitVec 64) :
    (f.apply w v).getLsbD i =
      if f.fld.has i = true then codeBit f.acc (w.getLsbD i) (v.getLsbD i) else v.getLsbD i := by
  have hlt : f.fld.has i = true → i < 64 := by
    simp only [Fld.has, Bool.and_eq_true, decide_eq_true_eq]; omega
  cases hacc : f.acc <;> simp only [FSpec.apply, hacc, codeBit, getLsbD_fput_fget h, BitVec.getLsbD_and, BitVec.getLsbD_not,
    BitVec.getLsbD_or, getLsbD_fmask h] <;> grind

theorem codeBit_written {f : FSpec} (h : f.written = true) (w v : Bool) : codeBit f.acc w v = w := by
  simp only [FSpec.written, Bool.or_eq_true, decide_eq_true_eq] at h
  rcases h with h | h <;> rw [h] <;> rfl

/-- Fields that do not hold a bit leave it as it is. -/
theorem getLsbD_foldl_untouched {fs : List FSpec} {i : Nat} (hin : ∀ f ∈ fs, f.fld.lo + f.fld.width ≤ 64)
    (hno : ∀ f ∈ fs, f.fld.has i = false) (w v : BitVec 64) :
    (fs.foldl (fun v f => f.apply w v) v).getLsbD i = v.getLsbD i := by
  induction fs generalizing v with
  | nil => rfl
  | cons f fs ih =>
    simp only [List.forall_mem_cons] at hin hno
    rw [List.foldl_cons, ih hin.2 hno.2, getLsbD_apply hin.1, hno.1]
    simp

/-- A bit that already holds the written value keeps it where every field that holds it takes the written value. -/
theorem getLsbD_foldl_written {fs : List FSpec} {i : Nat} (hin : ∀ f ∈ fs, f.fld.lo + f.fld.width ≤ 64)
    (hw : ∀ f ∈ fs, f.fld.has i = true → f.written = true) {w v : BitVec 64} (hv : v.getLsbD i = w.getLsbD i) :
    (fs.foldl (fun v f => f.apply w v) v).getLsbD i = w.getLsbD i := by
  induction fs generalizing v with
  | nil => exact hv
  | cons f fs ih =>
    simp only [List.forall_mem_cons] at hin hw
    refine ih hin.2 hw.2 ?_
    rw [getLsbD_apply hin.1]
    split
    · exact codeBit_written (hw.1 ‹_›) _ _
    · exact hv

/-- A write leaves in each bit of a field what the field's access code says. -/
theorem getLsbD_apply_field {r : RSpec} (ht : r.tidy = true) {f : FSpec} (hf : f ∈ r.fields) {i : Nat}
    (hi : f.fld.has i = true) (old w : BitVec 64) :
    (r.apply old w).getLsbD i = codeBit f.acc (w.getLsbD i) (old.getLsbD i) := by
  obtain ⟨hin, hpair⟩ := RSpec.tidy_iff.mp ht
  obtain ⟨before, after, heq⟩ := List.append_of_mem hf
  rw [heq] at hin hpair
  simp only [List.forall_mem_append, List.forall_mem_cons] at hin
  obtain ⟨hinB, hinF, hinA⟩ := hin
  obtain ⟨-, hpairA, hpairB⟩ := List.pairwise_append.mp hpair
  have hafter : ∀ g ∈ after, f.compatible g = true := (List.pairwise_cons.mp hpairA).1
  have hbefore : ∀ g ∈ before, g.compatible f = true := fun g hg => hpairB g hg f (List.mem_cons_self ..)
  rw [RSpec.apply, heq, List.foldl_append, List.foldl_cons]
  by_cases hwr : f.written = true
  · rw [codeBit_written hwr]
    refine getLsbD_foldl_written hinA (fun g hg hgi => (FSpec.compatible_shared (hafter g hg) hi hgi).2) ?_
    rw [getLsbD_apply hinF, if_pos hi, codeBit_written hwr]
  · have hA : ∀ g ∈ after, g.fld.has i = false := fun g hg =>
      Bool.eq_false_iff.mpr fun hgi => hwr (FSpec.compatible_shared (hafter g hg) hi hgi).1
    have hB : ∀ g ∈ before, g.fld.has i = false := fun g hg =>
      Bool.eq_false_iff.mpr fun hgi => hwr (FSpec.compatible_shared (hbefore g hg) hgi hi).2
    rw [getLsbD_foldl_untouched hinA hA, getLsbD_apply hinF, if_pos hi, getLsbD_foldl_untouched hinB hB]

/-! ### The register map -/

/-- Every register that a table lists is tidy. -/
theorem blockRegs_tidy (b : Nat) : ∀ r ∈ blockRegs b, r.tidy = true := by
  have hall : ∀ b : Fin 20, (blockRegs b.val).all RSpec.tidy = true := by decide +kernel
  by_cases hb : b < 20
  · exact List.all_eq_true.mp (hall ⟨b, hb⟩)
  · have hnil : blockRegs b = [] := by
      unfold blockRegs
      split <;> first | omega | rfl
    simp [hnil]

theorem mem_of_findReg {rs : List RSpec} {a : Nat} {r : RSpec} (h : findReg rs a = some r) : r ∈ rs := by
  induction rs with
  | nil => cases h
  | cons x rs ih =>
    rw [findReg] at h
    split at h
    · exact (Option.some.inj h) ▸ List.mem_cons_self ..
    · exact List.mem_cons_of_mem _ (ih h)

theorem regAt_tidy {a : Nat} {r : RSpec} (h : regAt a = some r) : r.tidy = true := by
  unfold regAt at h
  split at h
  · cases h
  · split at h
    · exact (Option.some.inj h) ▸ (by decide)
    · exact blockRegs_tidy _ r (mem_of_findReg h)

/-! ### A write of a register from outside -/

theorem getLsbD_newValue {a : Nat} {r : RSpec} (h : regAt a = some r) (w : BitVec 64) (s : State) (i : Nat) :
    (newValue a w s).getLsbD i =
      ((r.apply (s.reg a) w).getLsbD i || ((s.roseMask a).getLsbD i && (s.reg a).getLsbD i)) := by
  simp only [newValue, h, BitVec.getLsbD_or, BitVec.getLsbD_and]

/-- The new value of a field whose bits hardware did not set in this cycle. -/
theorem newValue_field {a : Nat} {r : RSpec} (h : regAt a = some r) {w : BitVec 64} {s : State} (hrose : s.roseMask a = 0)
    {f : FSpec} (hf : f ∈ r.fields) :
    (newValue a w s).extractLsb' f.fld.lo f.fld.width =
      f.acc.leaves (w.extractLsb' f.fld.lo f.fld.width) ((s.reg a).extractLsb' f.fld.lo f.fld.width) := by
  apply BitVec.eq_of_getLsbD_eq
  intro i hi
  have hhas : f.fld.has (f.fld.lo + i) = true := by simp [Fld.has, hi]
  rw [getLsbD_leaves _ _ _ hi, BitVec.getLsbD_extractLsb', getLsbD_newValue h, getLsbD_apply_field (regAt_tidy h) hf hhas, hrose]
  simp [hi]

/-- The write that carries a whole word, with its provenance. -/
def writeWord (id : Ident) (a : Nat) (x : Word) : Txn := { kind := .write, addr := BitVec.ofNat 48 a, id := id, data := x }

section
variable {id : Ident} {a : Nat} {x : Word} {s t : State} {e : Reason} (hm : regionOf a = .mmio)
include hm

theorem writeWord_region : regionOf (writeWord id a x).addr.toNat = .mmio := by
  rw [writeWord, Laws.mmio_addr hm, hm]

/-- A write to the MMIO region is one transaction of the fabric. -/
theorem registerWrite_fabric : exec (.registerWrite id (BitVec.ofNat 48 a) x) s =
    .next { (fabric (writeWord id a x) s).2 with resp := (fabric (writeWord id a x) s).1 } := by
  have hne : regionOf (writeWord id a x).addr.toNat ≠ .twin := by rw [writeWord_region hm]; decide
  simp only [exec, execRegisterWrite]
  change Host.Outcome.next (outside (writeWord id a x) s) = _
  rw [outside, if_neg hne]

/-- One that a check refuses is recorded. -/
theorem registerWrite_refused (he : accessCheck (writeWord id a x) s = some e) :
    exec (.registerWrite id (BitVec.ofNat 48 a) x) s = .next { logRefusal (writeWord id a x) e s with resp := .err e } := by
  have hport : (writeWord id a x).portOk = true := rfl
  rw [registerWrite_fabric hm]
  simp only [fabric, he, refuse, hport, Bool.not_true, Bool.false_and, Bool.false_eq_true, if_false]

theorem perform_writeWord : perform (writeWord id a x) s = mmioWrite (writeWord id a x) s := by
  have hkind : (writeWord id a x).kind = .write := rfl
  simp only [perform, writeWord_region hm, hkind]

variable (hc : accessCheck (writeWord id a x) s = none)
include hc

/-- One that the target refuses is recorded too. -/
theorem registerWrite_err (hres : mmioWrite (writeWord id a x) s = (.err e, t)) :
    exec (.registerWrite id (BitVec.ofNat 48 a) x) s = .next { logRefusal (writeWord id a x) e t with resp := .err e } := by
  rw [registerWrite_fabric hm]
  simp only [fabric, hc, perform_writeWord hm, hres]

theorem registerWrite_done (hres : mmioWrite (writeWord id a x) s = (.done, t)) :
    exec (.registerWrite id (BitVec.ofNat 48 a) x) s = .next { t with resp := .done } := by
  rw [registerWrite_fabric hm]
  simp only [fabric, hc, perform_writeWord hm, hres]

end

theorem plainReg_mmio {a : Nat} {s : State} (h : plainReg a s = true) : regionOf a = .mmio := by
  simp only [plainReg, Bool.and_eq_true, decide_eq_true_eq] at h
  obtain ⟨⟨⟨⟨⟨⟨hm, -⟩, -⟩, -⟩, -⟩, -⟩, -⟩ := h
  exact hm

/-- No register lies at the address: the write is refused with TARGET. -/
theorem mmioWrite_unlisted {id : Ident} {a : Nat} {x : Word} {s : State} (hp : plainReg a s = true) (hr : regAt a = none) :
    mmioWrite (writeWord id a x) s = (.err rTARGET, s) := by
  have ha := Laws.mmio_addr (plainReg_mmio hp)
  simp only [plainReg, Bool.and_eq_true, decide_eq_true_eq, Bool.not_eq_true'] at hp
  obtain ⟨⟨⟨⟨⟨⟨-, hwide⟩, hlive⟩, hpermit⟩, -⟩, -⟩, -⟩ := hp
  simp only [mmioWrite, writeWord, ha, hwide, hlive, hpermit, hr, Bool.false_eq_true, if_false]

/-- A register without a rule of its own is written by the access codes and the block's rule. -/
theorem mmioWrite_plain {id : Ident} {a : Nat} {x : Word} {s : State} {r : RSpec} (hp : plainReg a s = true)
    (hr : regAt a = some r) : mmioWrite (writeWord id a x) s = regWrite r (writeWord id a x) s := by
  have ha := Laws.mmio_addr (plainReg_mmio hp)
  simp only [plainReg, Bool.and_eq_true, decide_eq_true_eq, Bool.not_eq_true'] at hp
  obtain ⟨⟨⟨⟨⟨⟨-, hwide⟩, hlive⟩, hpermit⟩, hown⟩, hsem⟩, hmap⟩ := hp
  simp only [mmioWrite, writeWord, ha, hwide, hlive, hpermit, hown, hsem, hmap, hr, Bool.false_eq_true, if_false]

/-- A register write is refused as a whole where R6, R7 or, outside the LOAD block, the block's own rule refuses it. -/
theorem regWrite_refused {id : Ident} {a : Nat} {x : Word} {s : State} {r : RSpec} (hm : regionOf a = .mmio)
    (hr : regAt a = some r) (hblk : blockOf a ≠ 14)
    (h : r.refuses (s.reg a) (wv x) = true ∨ blkRefuses (writeWord id a x) (wv x) (newValue a (wv x) s) s = true) :
    regWrite r (writeWord id a x) s = (.err rTARGET, s) := by
  have ha := Laws.mmio_addr hm
  simp only [newValue, hr] at h
  simp only [regWrite]
  change (if r.refuses (s.reg (BitVec.ofNat 48 a).toNat) (wv x) = true then _ else _) = _
  rw [ha]
  by_cases h7 : r.refuses (s.reg a) (wv x) = true
  · rw [if_pos h7]
  · rw [if_neg h7]
    have hb := h.resolve_left h7
    simp only [writeWord] at hb
    simp only [writeWord, ha, hb, hblk, if_true, if_false]

theorem regWrite_accepted {id : Ident} {a : Nat} {x : Word} {s : State} {r : RSpec} (hm : regionOf a = .mmio)
    (hr : regAt a = some r) (h7 : r.refuses (s.reg a) (wv x) = false)
    (hb : blkRefuses (writeWord id a x) (wv x) (newValue a (wv x) s) s = false) :
    regWrite r (writeWord id a x) s =
      (.done, blkActs (writeWord id a x) (s.reg a) (wv x) (s.setReg a (newValue a (wv x) s))) := by
  have ha := Laws.mmio_addr hm
  simp only [newValue, hr] at hb ⊢
  simp only [writeWord] at hb ⊢
  simp only [regWrite, ha, h7, hb, Bool.false_eq_true, if_false]

section
variable {t u : Txn} (ha : t.addr = u.addr) (hid : t.id = u.id)
include hid

theorem cmdOrigin_congr : cmdOrigin t = cmdOrigin u := by
  unfold cmdOrigin
  rw [hid]

theorem mayRearm_congr (c : Nat) (s : State) : mayRearm c t s = mayRearm c u s := by
  unfold mayRearm
  rw [hid]

include ha

theorem loadRefuses_congr (w nv : BitVec 64) (s : State) : loadRefuses t w nv s = loadRefuses u w nv s := by
  unfold loadRefuses
  rw [ha, cmdOrigin_congr hid]

theorem loadActs_congr (old w : BitVec 64) (s : State) : loadActs t old w s = loadActs u old w s := by
  unfold loadActs
  simp -zeta only [ha, cmdOrigin_congr hid, mayRearm_congr hid]

/-- A block's own rule looks at a write's address and identity and at the value it is given, not at its data word. -/
theorem blkRefuses_congr (w nv : BitVec 64) (s : State) : blkRefuses t w nv s = blkRefuses u w nv s := by
  unfold blkRefuses
  rw [ha, loadRefuses_congr ha hid]

/-- So do the acts of a block. -/
theorem blkActs_congr (old w : BitVec 64) (s : State) : blkActs t old w s = blkActs u old w s := by
  unfold blkActs
  simp -zeta only [ha, hid, loadActs_congr ha hid]

end

/-- The checks of a transaction look at all of it but its data words. -/
theorem accessCheck_data (t : Txn) (x : Word) (s : State) : accessCheck { t with data := x } s = accessCheck t s := by
  unfold accessCheck
  rfl

/-- An accepted write, whatever provenance its word has: no check and no act of a block looks at it. -/
theorem registerWrite_accepted {id : Ident} {a : Nat} {x : Word} {s : State} (h : Accepted id a (wv x) s) :
    exec (.registerWrite id (BitVec.ofNat 48 a) x) s =
      .next (wrote a (wv x) (blkActs (writeOf id a (wv x)) (s.reg a) (wv x)) s) := by
  obtain ⟨hp, hc, ⟨r, hr, h7⟩, hb⟩ := h
  have hm := plainReg_mmio hp
  have hb' : blkRefuses (writeWord id a x) (wv x) (newValue a (wv x) s) s = false :=
    (blkRefuses_congr (t := writeWord id a x) (u := writeOf id a (wv x)) rfl rfl _ _ s).trans hb
  have hres := (mmioWrite_plain (id := id) hp hr).trans (regWrite_accepted hm hr h7 hb')
  have hc' : accessCheck (writeWord id a x) s = none := (accessCheck_data (writeOf id a (wv x)) x s).trans hc
  have hacts := blkActs_congr (t := writeWord id a x) (u := writeOf id a (wv x)) rfl rfl (s.reg a) (wv x)
    (s.setReg a (newValue a (wv x) s))
  rw [hacts] at hres
  exact registerWrite_done hm hc' hres

/-- A write that R6, R7 or a block's own rule refuses changes only what R483 records. -/
theorem registerWrite_refusedAtTarget {id : Ident} {a : Nat} {w : BitVec 64} {s : State} (hp : plainReg a s = true)
    (hc : accessCheck (writeOf id a w) s = none) (hblk : blockOf a ≠ 14)
    (h : regAt a = none ∨ ∃ r, regAt a = some r ∧
      (r.refuses (s.reg a) w = true ∨ blkRefuses (writeOf id a w) w (newValue a w s) s = true)) :
    exec (.registerWrite id (BitVec.ofNat 48 a) (immw w)) s =
      .next { logRefusal (writeOf id a w) rTARGET s with resp := .err rTARGET } := by
  have hm := plainReg_mmio hp
  have hres : mmioWrite (writeWord id a (immw w)) s = (.err rTARGET, s) := by
    rcases h with hnone | ⟨r, hr, hrefuse⟩
    · exact mmioWrite_unlisted hp hnone
    · rw [mmioWrite_plain hp hr]
      exact regWrite_refused hm hr hblk (by rwa [Laws.wv_immw])
  exact registerWrite_err hm hc hres

end Sys2Proof.Machine

namespace Sys2Proof.Proofs
open Sys2Proof Machine Claim

/-- Settles O32. -/
theorem registerWritesFollowAccessCodes : Obligations.RegisterWritesFollowAccessCodes := by
  unfold Obligations.RegisterWritesFollowAccessCodes
  refine ⟨fun id a x s h => registerWrite_accepted h, fun a r w s hr hrose f hf => ?_, fun a r w s i hr hm hi => ?_,
    fun id a w s hp hc hblk hrefuse => ?_, fun id a w s e hm he => registerWrite_refused hm he⟩
  · rw [newValue_field hr hrose hf]
    cases f.acc <;> rfl
  · rw [getLsbD_newValue hr, hm, hi]; simp
  · exact registerWrite_refusedAtTarget hp hc hblk hrefuse
end Sys2Proof.Proofs
end

section
namespace Sys2Proof.Machine
open Sys2Proof

/-!
### The canonical form, kept by every function of the model (R6, R19, R443)

The register file and the memory change at three places only: a word put (`State.setReg`, `State.wrMem`) and a part of a map
kept (`spKeep`: the fills and the resets). Each other function puts its result together of record updates that leave both
alone, of branches, loops and the functions before it. So one lemma for each function says that it keeps the form, proved
from the lemmas of the functions it calls; the lemma of a function is named after it.
-/

theorem canonical_iff {s : State} : s.canonical = true ↔ spWf resetReg s.regs = true ∧ spWf memDefault s.mem = true := by
  rw [State.canonical, State.memWf, Bool.and_eq_true]

/-- The outcome of a command, where it is a next state, is in the canonical form. -/
def staysCanonical : Host.Outcome State Fault Refusal → Bool
  | .next t => t.canonical
  | _ => true

/-- What an instruction leaves of a cataloguer's state is in the canonical form. -/
def cuCanonical : CuOut → Bool
  | .stall t | .next _ t => t.canonical
  | _ => true

section
variable {s : State} {p : Prop} [Decidable p]

/-- A record update that leaves the registers and the memory alone. -/
theorem canonical_mk {pending caps resp fresh closed linkUp time faults arch stk bridge power load chans cores pairs handover
    carrels adc relays pinLast pinExt pinSeen trgLate cat coll cans lins sw wings tokens mirror mirrorAt vault twin rose roseAt}
    (h : s.canonical) : (State.mk pending s.regs caps s.mem resp fresh closed linkUp time faults arch stk bridge power load chans
      cores pairs handover carrels adc relays pinLast pinExt pinSeen trgLate cat coll cans lins sw wings tokens mirror mirrorAt
      vault twin rose roseAt).canonical := h

/-- A branch keeps the form when both of its sides do. -/
theorem canonical_ite {a b : State} (ha : a.canonical) (hb : b.canonical) : (if p then a else b).canonical := by
  split <;> assumption

theorem canonical_ite_snd {α : Type} {a b : α × State} (ha : a.2.canonical) (hb : b.2.canonical) :
    (if p then a else b).2.canonical := by
  split <;> assumption

theorem canonical_ite_fst {α : Type} {a b : State × α} (ha : a.1.canonical) (hb : b.1.canonical) :
    (if p then a else b).1.canonical := by
  split <;> assumption

theorem canonical_ite_option {a b : Option State} (ha : a.all State.canonical) (hb : b.all State.canonical) :
    (if p then a else b).all State.canonical := by
  split <;> assumption

theorem canonical_ite_outcome {a b : Host.Outcome State Fault Refusal} (ha : staysCanonical a) (hb : staysCanonical b) :
    staysCanonical (if p then a else b) := by
  split <;> assumption

/-- A loop keeps the form when each of its rounds does. -/
theorem canonical_foldl {α : Type} {f : State → α → State} {l : List α} (hf : ∀ t x, t.canonical → (f t x).canonical)
    (h : s.canonical) : (l.foldl f s).canonical := by
  induction l generalizing s with
  | nil => exact h
  | cons x l ih => exact ih (hf s x h)

theorem canonical_foldl_snd {α β : Type} {f : β × State → α → β × State} {l : List α} {x : β × State}
    (hf : ∀ t y, t.2.canonical → (f t y).2.canonical) (h : x.2.canonical) : (l.foldl f x).2.canonical := by
  induction l generalizing x with
  | nil => exact h
  | cons y l ih => exact ih (hf x y h)

/-- The state that a function hands back beside its result, as a `match` names it. -/
theorem canonical_of_snd {α : Type} {x : α × State} {a : α} {t : State} (he : x = (a, t)) (hx : x.2.canonical) :
    t.canonical := by
  rwa [he] at hx

theorem canonical_of_fst {α : Type} {x : State × α} {a : α} {t : State} (he : x = (t, a)) (hx : x.1.canonical) :
    t.canonical := by
  rwa [he] at hx

theorem canonical_of_sndsndsnd {α β γ : Type} {x : α × β × γ × State} {a : α} {b : β} {c : γ} {t : State}
    (he : x = (a, b, c, t)) (hx : x.2.2.2.canonical) : t.canonical := by
  rwa [he] at hx

theorem canonical_of_sndsnd {α β : Type} {x : α × β × State} {a : α} {b : β} {t : State} (he : x = (a, b, t))
    (hx : x.2.2.canonical) : t.canonical := by
  rwa [he] at hx

theorem canonical_of_option {x : Option State} {t : State} (he : x = some t) (hx : x.all State.canonical) : t.canonical := by
  rwa [he] at hx

end

section
variable {s : State} (hs : s.canonical)
include hs

theorem canonical_keepRegs {keep} : ({ s with regs := spKeep keep s.regs } : State).canonical := by
  obtain ⟨hregs, hmem⟩ := canonical_iff.mp hs
  exact canonical_iff.mpr ⟨spWf_spKeep _ _ _ hregs, hmem⟩

theorem canonical_keepMem {keep} : ({ s with mem := spKeep keep s.mem } : State).canonical := by
  obtain ⟨hregs, hmem⟩ := canonical_iff.mp hs
  exact canonical_iff.mpr ⟨hregs, spWf_spKeep _ _ _ hmem⟩

/-! ### Ops: the named operations over registers, memory, events, notices, the archive and the fault classes -/

theorem setReg_canonical {a v} : (s.setReg a v).canonical := by
  obtain ⟨hregs, hmem⟩ := canonical_iff.mp hs
  exact canonical_iff.mpr ⟨spWf_spPut _ _ _ _ hregs, hmem⟩

theorem set_canonical {a f n} : (State.set s a f n).canonical := by
  unfold State.set
  exact setReg_canonical hs

theorem setBit_canonical {a f b} : (State.setBit s a f b).canonical := by
  unfold State.setBit
  exact set_canonical hs

theorem noteRose_canonical {a m} : (State.noteRose s a m).canonical := by
  unfold State.noteRose
  exact canonical_mk hs

theorem flagBits_canonical {a m} : (State.flagBits s a m).canonical := by
  unfold State.flagBits
  exact noteRose_canonical (setReg_canonical hs)

theorem flag_canonical {a f} : (State.flag s a f).canonical := by
  unfold State.flag
  exact flagBits_canonical hs

theorem addSat_canonical {a f n} : (State.addSat s a f n).canonical := by
  unfold State.addSat
  exact set_canonical hs

theorem addWrap_canonical {a f n} : (State.addWrap s a f n).canonical := by
  unfold State.addWrap
  exact set_canonical hs

theorem drawFree_canonical {w} : (State.drawFree s w).2.canonical := by
  unfold State.drawFree
  exact canonical_mk hs

theorem setCore_canonical {c x} : (State.setCore s c x).canonical := by
  unfold State.setCore
  exact canonical_mk hs

theorem setPair_canonical {p x} : (State.setPair s p x).canonical := by
  unfold State.setPair
  exact canonical_mk hs

theorem setCarrel_canonical {c x} : (State.setCarrel s c x).canonical := by
  unfold State.setCarrel
  exact canonical_mk hs

theorem setChan_canonical {c x} : (State.setChan s c x).canonical := by
  unfold State.setChan
  exact canonical_mk hs

theorem setEcc_canonical {a e} : (State.setEcc s a e).canonical := by
  unfold State.setEcc
  exact canonical_mk hs

theorem wrMem_canonical {a w} : (s.wrMem a w).canonical := by
  obtain ⟨hregs, hmem⟩ := canonical_iff.mp hs
  exact canonical_iff.mpr ⟨hregs, spWf_spPut _ _ _ _ hmem⟩

theorem dozeWake_canonical {c src} : (dozeWake c src s).canonical := by
  unfold dozeWake
  exact canonical_ite (canonical_mk (setBit_canonical (set_canonical hs))) hs

theorem setLreg_canonical {c r w} : (State.setLreg s c r w).canonical := by
  unfold State.setLreg
  exact setCore_canonical hs

theorem commitTo_canonical {c npc} : (commitTo c npc s).canonical := by
  unfold commitTo
  exact setPair_canonical (canonical_ite (setReg_canonical (setCarrel_canonical (setCore_canonical hs)))
    (setCarrel_canonical (setCore_canonical hs)))

theorem agreeNote_canonical {c kind} : (agreeNote c kind s).canonical := by
  unfold agreeNote
  exact setPair_canonical hs

theorem popNotice_canonical {c a b} {t : State} (ht : popNotice c s = some (a, b, t)) : t.canonical := by
  unfold popNotice at ht
  dsimp only at ht
  split at ht
  · cases ht
  · cases ht
    exact setCarrel_canonical hs

theorem waiteWrite_canonical {c rd h p} : (waiteWrite c rd h p s).canonical := by
  unfold waiteWrite
  exact agreeNote_canonical (commitTo_canonical (setCore_canonical hs))

theorem waiteReturn_canonical {c} : (waiteReturn c s).canonical := by
  unfold waiteReturn
  split
  · exact hs
  · split
    · rename_i heq
      exact waiteWrite_canonical (popNotice_canonical hs heq)
    · exact hs

theorem deliver_canonical {c e late} : (deliver c e late s).canonical := by
  unfold deliver
  extract_lets _ _ _ s1
  have h1 : s1.canonical := canonical_ite (addSat_canonical hs) hs
  exact canonical_ite (setCarrel_canonical h1)
    (canonical_ite (setCarrel_canonical h1) (waiteReturn_canonical (dozeWake_canonical (setCarrel_canonical h1))))

theorem lateWork_canonical {c} : (lateWork c s).canonical := by
  unfold lateWork
  exact canonical_ite (addSat_canonical hs) hs

theorem notify_canonical {e c} : (notify e c s).canonical := by
  unfold notify
  exact canonical_ite (lateWork_canonical hs) (canonical_ite (deliver_canonical hs) (setCarrel_canonical hs))

theorem notifyAll_canonical {e cs} : (notifyAll e cs s).canonical := by
  unfold notifyAll
  exact canonical_foldl (fun _ _ ht => notify_canonical ht) hs

theorem raiseOwner_canonical {src payload a} : (raiseOwner src payload a s).canonical := by
  unfold raiseOwner
  exact canonical_ite (lateWork_canonical hs) (notifyAll_canonical hs)

theorem archive_canonical {e cls detail} : (archive e cls detail s).canonical := by
  unfold archive
  exact canonical_ite hs (canonical_ite
    (canonical_ite (notify_canonical (canonical_mk (addSat_canonical hs))) (canonical_mk (addSat_canonical hs)))
    (canonical_mk hs))

theorem closeTile_canonical {t} : (closeTile t s).canonical := by
  unfold closeTile
  exact canonical_ite hs (canonical_mk hs)

theorem openTile_canonical {t} : (openTile t s).canonical := by
  unfold openTile
  exact canonical_mk hs

theorem raiseTo_canonical {src payload cs} : (raiseTo src payload cs s).canonical := by
  unfold raiseTo
  exact canonical_ite hs (notifyAll_canonical hs)

theorem raiseFree_canonical {src cs} : (raiseFree src cs s).canonical := by
  unfold raiseFree
  split
  rename_i heq
  exact raiseTo_canonical (canonical_of_snd heq (drawFree_canonical hs))

theorem raiseLib_canonical {src v} : (raiseLib src v s).canonical := by
  unfold raiseLib
  exact raiseTo_canonical hs

theorem seen_canonical {cls} : (seen cls s).canonical := by
  unfold seen
  split
  · exact flag_canonical hs
  · exact flag_canonical hs
  · exact flag_canonical hs
  · exact hs

theorem relayTwin_canonical {k src payload} : (relayTwin k src payload s).canonical := by
  unfold relayTwin
  exact canonical_ite (canonical_mk hs) hs

theorem faultAt_canonical {stamp cls src payload detail also} :
    (faultAt stamp cls src payload detail also s).canonical := by
  unfold faultAt
  extract_lets _ s1
  have h1 : s1.canonical := archive_canonical (seen_canonical hs)
  exact canonical_ite (relayTwin_canonical (canonical_mk h1)) (notifyAll_canonical h1)

theorem fault_canonical {cls src payload detail also} : (fault cls src payload detail also s).canonical := by
  unfold fault
  exact faultAt_canonical hs

theorem countCe_canonical {r uncorr} : (countCe r uncorr s).canonical := by
  unfold countCe
  split
  · exact addSat_canonical hs
  · exact addSat_canonical hs
  · exact hs

theorem reportCorrected_canonical {a bit scrub} : (reportCorrected a bit scrub s).canonical := by
  unfold reportCorrected
  exact canonical_ite (raiseTo_canonical (seen_canonical (canonical_mk (countCe_canonical hs))))
    (fault_canonical (canonical_mk (countCe_canonical hs)))

theorem withdrawPage_canonical {a} : (withdrawPage a s).canonical := by
  unfold withdrawPage
  extract_lets
  split
  · exact setReg_canonical hs
  · exact setReg_canonical hs
  · exact hs

theorem reportUncorrectable_canonical {a scrub} : (reportUncorrectable a scrub s).canonical := by
  unfold reportUncorrectable
  extract_lets r s1
  have h1 : s1.canonical := countCe_canonical hs
  clear_value r
  split
  · exact fault_canonical (canonical_ite (withdrawPage_canonical h1) h1)
  · exact fault_canonical (canonical_ite (withdrawPage_canonical h1) h1)
  · exact fault_canonical h1
  · exact closeTile_canonical (fault_canonical h1)

theorem readArray_canonical {a who} : (readArray a who s).2.canonical := by
  unfold readArray
  extract_lets
  split
  · exact hs
  · exact canonical_mk (reportCorrected_canonical hs)
  · split
    · exact hs
    · exact hs
    · exact hs
    · exact reportUncorrectable_canonical hs

/-! ### TwinMap: the ownership map of the twins and the mirror's send queue -/

theorem setMapEntry_canonical {k n v} : (setMapEntry k n v s).canonical := by
  unfold setMapEntry
  exact canonical_ite hs (set_canonical hs)

theorem mirrorDrain_canonical : (mirrorDrain s).canonical := by
  unfold mirrorDrain
  exact set_canonical (addWrap_canonical (canonical_mk hs))

theorem mirrorPut_canonical {x} : (mirrorPut x s).canonical := by
  unfold mirrorPut
  extract_lets s
  have hs' : s.canonical := mirrorDrain_canonical hs
  exact canonical_ite (set_canonical (canonical_mk hs'))
    (canonical_ite (raiseLib_canonical (addSat_canonical hs')) (addSat_canonical hs'))

theorem demandOffer_canonical {c} : (demandOffer c s).canonical := by
  unfold demandOffer
  exact canonical_ite (mirrorPut_canonical hs) hs

/-! ### Perm: permits and ownership -/

theorem logRefusal_canonical {t r} : (logRefusal t r s).canonical := by
  unfold logRefusal
  extract_lets _ _ s2
  have h2 : s2.canonical := setReg_canonical (setReg_canonical (setReg_canonical (addSat_canonical hs)))
  exact canonical_ite hs (canonical_ite (addSat_canonical hs) (canonical_ite (raiseLib_canonical (canonical_mk h2)) h2))

/-! ### CanOps: the CAN and LIN controllers' buffers -/

theorem setCan_canonical {n x} : (State.setCan s n x).canonical := by
  unfold State.setCan
  exact canonical_mk hs

theorem setLin_canonical {m x} : (State.setLin s m x).canonical := by
  unfold State.setLin
  exact canonical_mk hs

theorem bump_canonical {a} : (State.bump s a).canonical := by
  unfold State.bump
  exact canonical_ite hs (setReg_canonical hs)

theorem setWing_canonical {w x} : (State.setWing s w x).canonical := by
  unfold State.setWing
  exact canonical_mk hs

theorem queueWake_canonical {e} : (queueWake e s).canonical := by
  unfold queueWake
  exact canonical_foldl (fun _ _ ht => canonical_ite (setWing_canonical ht) ht) hs

theorem wingRequest_canonical {w pay} : (wingRequest w pay s).canonical := by
  unfold wingRequest
  exact queueWake_canonical (raiseTo_canonical hs)

theorem countIsolated_canonical {seg} : (countIsolated seg s).canonical := by
  unfold countIsolated
  exact canonical_ite (addSat_canonical hs) (raiseLib_canonical (addSat_canonical hs))

theorem isolate_canonical {seg k} : (isolate seg k s).2.canonical := by
  unfold isolate
  refine canonical_ite_snd (countIsolated_canonical hs) ?_
  split
  · exact hs
  · refine canonical_ite_snd hs ?_
    split
    · extract_lets _ s1
      have h1 : s1.canonical := wingRequest_canonical hs
      clear_value s1
      split
      · exact h1
      · exact h1
    · exact countIsolated_canonical hs

theorem canEvent_canonical {n k pay dest} : (canEvent n k pay dest s).canonical := by
  unfold canEvent
  exact raiseTo_canonical hs

theorem canCount_canonical {n j} : (canCount n j s).canonical := by
  unfold canCount
  exact bump_canonical hs

theorem putOctets_canonical {per fuel xs a} : (putOctets per fuel xs a s).canonical := by
  induction fuel generalizing xs a s with
  | zero => exact hs
  | succ fuel ih => cases xs with
    | nil => exact hs
    | cons x xs => exact ih (wrMem_canonical hs)

theorem mbWriteData_canonical {n b f} : (mbWriteData n b f s).canonical := by
  unfold mbWriteData
  exact putOctets_canonical (canonical_ite (wrMem_canonical hs) hs)

theorem poolScan_canonical {l} : (poolScan l s).2.canonical := by
  induction l generalizing s with
  | nil => exact hs
  | cons a l ih =>
    unfold poolScan
    split
    · rename_i heq
      exact ih (canonical_of_snd heq (readArray_canonical hs))
    · rename_i heq
      exact canonical_of_snd heq (readArray_canonical hs)

theorem clearReq_canonical {n b} : (clearReq n b s).canonical := by
  unfold clearReq
  exact setCan_canonical (set_canonical hs)

theorem failReq_canonical {n b} : (failReq n b s).canonical := by
  unfold failReq
  exact flag_canonical (clearReq_canonical hs)

theorem checkReq_canonical {n b} : (checkReq n b s).canonical := by
  unfold checkReq
  exact canonical_ite (canCount_canonical (failReq_canonical hs)) hs

theorem txRequest_canonical {n b} : (txRequest n b s).canonical := by
  unfold txRequest
  exact canonical_ite hs (checkReq_canonical (setCan_canonical (set_canonical hs)))

theorem reqAgain_canonical {n b} {s0 : State} : (reqAgain n b s0 s).canonical := by
  unfold reqAgain
  exact canonical_ite (txRequest_canonical hs) hs

theorem abortReq_canonical {n b} : (abortReq n b s).canonical := by
  unfold abortReq
  extract_lets s1
  have h1 : s1.canonical := clearReq_canonical hs
  split
  · exact canonical_ite (setCan_canonical h1) h1
  · exact h1

theorem copyWrite_canonical {n b xs} : (copyWrite n b xs s).canonical := by
  unfold copyWrite
  extract_lets
  split
  exact canonical_ite (canCount_canonical (putOctets_canonical hs)) (txRequest_canonical (putOctets_canonical hs))

theorem canCopy_canonical {n b xs} : (canCopy n b xs s).canonical := by
  unfold canCopy
  extract_lets
  split
  · rename_i heq
    exact canonical_of_snd heq (isolate_canonical hs)
  · rename_i heq
    have ht := canonical_of_snd heq (isolate_canonical hs)
    exact canonical_ite (canEvent_canonical (canCount_canonical ht))
      (canonical_ite (setCan_canonical ht) (copyWrite_canonical ht))

theorem deferredCopy_canonical {n b} : (deferredCopy n b s).canonical := by
  unfold deferredCopy
  extract_lets
  split
  · exact hs
  · refine canonical_ite hs ?_
    split
    exact txRequest_canonical (putOctets_canonical (setCan_canonical hs))

theorem mbDisable_canonical {n b} : (mbDisable n b s).canonical := by
  unfold mbDisable
  exact canonical_ite (abortReq_canonical hs) hs

theorem canActs_canonical {a old w} : (canActs a old w s).canonical := by
  unfold canActs
  split
  extract_lets _ s1 _ _ _ s1'
  have h1 : s1.canonical := canonical_ite (setCan_canonical hs) hs
  have h1' : s1'.canonical := canonical_ite (txRequest_canonical (set_canonical hs))
    (canonical_ite (noteRose_canonical hs) hs)
  exact canonical_ite (canonical_ite hs (canonical_foldl (fun _ _ ht => checkReq_canonical ht) hs))
    (canonical_ite (canonical_ite (setCan_canonical (set_canonical h1)) h1)
    (canonical_ite (canonical_ite (canonical_foldl (fun _ _ ht => setReg_canonical ht) hs) hs)
    (canonical_ite (canonical_ite (canonical_ite (mbDisable_canonical hs) hs)
    (canonical_ite (canonical_ite (abortReq_canonical h1') h1') hs)) hs)))

theorem poolWrite_canonical {a w} : (poolWrite a w s).canonical := by
  unfold poolWrite
  extract_lets
  split
  extract_lets
  split
  · exact canCount_canonical (wrMem_canonical hs)
  · exact wrMem_canonical hs

theorem linEvent_canonical {m k pay} : (linEvent m k pay s).canonical := by
  unfold linEvent
  exact raiseTo_canonical hs

theorem linCount_canonical {m j} : (linCount m j s).canonical := by
  unfold linCount
  exact bump_canonical hs

theorem linPut_canonical {m i xs} : (linPut m i xs s).canonical := by
  unfold linPut
  exact flag_canonical (setReg_canonical hs)

theorem linCopy_canonical {m i xs} : (linCopy m i xs s).canonical := by
  unfold linCopy
  extract_lets
  split
  · rename_i heq
    exact canonical_of_snd heq (isolate_canonical hs)
  · rename_i heq
    have ht := canonical_of_snd heq (isolate_canonical hs)
    exact canonical_ite (linPut_canonical ht) ht

theorem linActs_canonical {a old w} : (linActs a old w s).canonical := by
  unfold linActs
  extract_lets
  split
  extract_lets _ s1
  have h1 : s1.canonical := canonical_ite (setLin_canonical (set_canonical hs)) hs
  exact canonical_ite (canonical_ite (setLin_canonical h1) h1)
    (canonical_ite (canonical_ite (canonical_foldl (fun _ _ ht => setReg_canonical ht) hs) hs)
    (canonical_ite (canonical_ite (set_canonical hs) hs) hs))

/-! ### Time: time, ordering and triggers -/

theorem nightEdge_canonical : (nightEdge s).canonical := by
  unfold nightEdge
  extract_lets
  split
  exact addWrap_canonical (canonical_mk hs)

theorem tick_canonical : (tick s).canonical := by
  unfold tick
  exact canonical_ite (nightEdge_canonical hs) (canonical_ite (canonical_mk hs) (canonical_mk hs))

theorem almStep_canonical {w} : (almStep w s).canonical := by
  unfold almStep
  extract_lets
  split
  · exact canonical_mk hs
  · exact hs

theorem noteSync_canonical {d} : (noteSync d s).canonical := by
  unfold noteSync
  exact canonical_ite (canonical_mk hs) (canonical_mk hs)

theorem endPulse_canonical {n} : (endPulse n s).canonical := by
  unfold endPulse
  exact canonical_mk hs

theorem startPulse_canonical {n pin till} : (startPulse n pin till s).canonical := by
  unfold startPulse
  exact canonical_mk (endPulse_canonical hs)

theorem trgOwnerAbsent_canonical {n} : (trgOwnerAbsent n s).canonical := by
  unfold trgOwnerAbsent
  exact endPulse_canonical (set_canonical hs)

theorem setCmp_canonical {n v} : (setCmp n v s).canonical := by
  unfold setCmp
  exact canonical_ite (set_canonical (setReg_canonical hs)) (setReg_canonical hs)

theorem adcStart_canonical {g stamp} : (adcStart g stamp s).canonical := by
  unfold adcStart
  exact canonical_mk (set_canonical hs)

theorem trgFire_canonical {n late} : (trgFire n late s).canonical := by
  unfold trgFire
  extract_lets _ _ _ s1 s2 s3 _ s4 s5 _ s6
  have h1 : s1.canonical := setReg_canonical (flag_canonical (addWrap_canonical hs))
  have h2 : s2.canonical := canonical_ite (flag_canonical h1) h1
  have h3 : s3.canonical := canonical_ite (startPulse_canonical h2) h2
  have h4 : s4.canonical := canonical_ite (canonical_ite (canonical_ite h3 (flag_canonical h3)) (adcStart_canonical h3))
    h3
  have h5 : s5.canonical := canonical_ite (set_canonical h4) h4
  have h6 : s6.canonical := canonical_ite (raiseTo_canonical h5) h5
  refine canonical_ite ?_ (set_canonical h6)
  split
  exact addSat_canonical (setCmp_canonical h6)

theorem timeActs_canonical {a old w} : (timeActs a old w s).canonical := by
  unfold timeActs
  exact canonical_ite (almStep_canonical hs)
    (canonical_ite (canonical_ite (set_canonical hs) hs)
    (canonical_ite (canonical_ite (endPulse_canonical hs) (canonical_ite (canonical_mk hs) hs)) hs))

/-! ### Load: protected load channels -/

theorem powerDeliver_canonical {e} : (powerDeliver e s).canonical := by
  unfold powerDeliver
  exact notifyAll_canonical (archive_canonical hs)

theorem powerRaise_canonical {src payload} : (powerRaise src payload s).canonical := by
  unfold powerRaise
  exact canonical_ite (canonical_ite (canonical_mk hs) (addSat_canonical hs))
    (canonical_ite hs (powerDeliver_canonical hs))

theorem powerFault_canonical {also} : (powerFault also s).canonical := by
  unfold powerFault
  split
  rename_i heq
  split
  rename_i heq'
  have hu := canonical_of_snd heq' (drawFree_canonical (canonical_of_snd heq (drawFree_canonical hs)))
  exact canonical_ite (canonical_ite (canonical_mk hu) (addSat_canonical hu)) (faultAt_canonical hu)

theorem deliverHeld_canonical : (deliverHeld s).canonical := by
  unfold deliverHeld
  exact canonical_foldl (fun _ _ ht => canonical_ite (faultAt_canonical ht) (powerDeliver_canonical ht))
    (canonical_mk hs)

theorem chanEvent_canonical {c kind cur} : (chanEvent c kind cur s).canonical := by
  unfold chanEvent
  exact powerRaise_canonical hs

theorem setCond_canonical {c b} : (setCond c b s).canonical := by
  unfold setCond
  exact canonical_ite hs (canonical_ite (setChan_canonical hs) (setChan_canonical hs))

theorem turnOn_canonical {c mode} : (turnOn c mode s).canonical := by
  unfold turnOn
  exact demandOffer_canonical (set_canonical
    (set_canonical (set_canonical (set_canonical
    (canonical_ite (addSat_canonical (addSat_canonical (setChan_canonical hs)))
    (addSat_canonical (setChan_canonical hs)))))))

theorem turnOff_canonical {c} : (turnOff c s).canonical := by
  unfold turnOff
  exact demandOffer_canonical (set_canonical (setChan_canonical (setCond_canonical hs)))

theorem chanEval_canonical {c} : (chanEval c s).canonical := by
  unfold chanEval
  extract_lets _ _ _ _ s1 s2 s3
  have h1 : s1.canonical := set_canonical (set_canonical (set_canonical hs))
  have h2 : s2.canonical := canonical_ite (canonical_ite h1 (flag_canonical h1)) h1
  have h3 : s3.canonical := canonical_ite (set_canonical h2) h2
  exact canonical_ite (canonical_ite (turnOff_canonical h3) h3)
    (canonical_ite (canonical_ite (setChan_canonical (setCond_canonical h3)) (turnOn_canonical h3)) h3)

theorem pulseOnEdge_canonical {c} : (pulseOnEdge c s).canonical := by
  unfold pulseOnEdge
  exact canonical_ite hs (setChan_canonical (canonical_ite (setCond_canonical hs) (turnOn_canonical hs)))

theorem pulseOnTimeEnd_canonical {c} : (pulseOnTimeEnd c s).canonical := by
  unfold pulseOnTimeEnd
  exact canonical_ite (setCond_canonical hs) hs

theorem setDemand_canonical {c mode duty dsrc} : (setDemand c mode duty dsrc s).canonical := by
  unfold setDemand
  exact chanEval_canonical (setChan_canonical hs)

theorem demandSafe_canonical {c dsrc} : (demandSafe c dsrc s).canonical := by
  unfold demandSafe
  exact setDemand_canonical hs

theorem demandOff_canonical {c} : (demandOff c s).canonical := by
  unfold demandOff
  exact setDemand_canonical hs

theorem markAbsent_canonical : (markAbsent s).canonical := by
  unfold markAbsent
  exact setBit_canonical hs

theorem acceptCommand_canonical {c mode duty origin} : (acceptCommand c mode duty origin s).canonical := by
  unfold acceptCommand
  extract_lets _ s1
  have h1 : s1.canonical := set_canonical (set_canonical (set_canonical hs))
  exact markAbsent_canonical (setDemand_canonical
    (canonical_ite (demandOffer_canonical (setChan_canonical h1)) (setChan_canonical h1)))

theorem refuseCommand_canonical {c} : (refuseCommand c s).canonical := by
  unfold refuseCommand
  exact canonical_ite (chanEvent_canonical (addSat_canonical hs)) (addSat_canonical hs)

theorem slipCommand_canonical {x} : (slipCommand x s).canonical := by
  unfold slipCommand
  exact canonical_ite hs (canonical_ite (refuseCommand_canonical hs)
    (canonical_ite (acceptCommand_canonical hs) (acceptCommand_canonical hs)))

theorem reflexStep_canonical : (reflexStep s).canonical := by
  unfold reflexStep
  extract_lets
  split
  · exact hs
  · exact slipCommand_canonical (canonical_mk hs)

theorem forceSafe_canonical : (forceSafe s).canonical := by
  unfold forceSafe
  exact canonical_foldl (fun _ _ ht => demandSafe_canonical ht) hs

theorem leaseStartChan_canonical {c} : (leaseStartChan c s).canonical := by
  unfold leaseStartChan
  extract_lets _ _ s1
  have h1 : s1.canonical := setChan_canonical hs
  refine canonical_ite hs (canonical_ite h1 ?_)
  split
  · exact chanEval_canonical (setChan_canonical h1)
  · exact setDemand_canonical h1
  · exact setDemand_canonical h1

theorem leaseStart_canonical : (leaseStart s).canonical := by
  unfold leaseStart
  exact markAbsent_canonical (canonical_foldl (fun _ _ ht => leaseStartChan_canonical ht) hs)

theorem leaseExpire_canonical {c} : (leaseExpire c s).canonical := by
  unfold leaseExpire
  extract_lets
  split
  · exact canonical_ite (chanEvent_canonical (demandSafe_canonical (setChan_canonical hs))) hs
  · exact hs

theorem resendAll_canonical : (resendAll s).canonical := by
  unfold resendAll
  exact canonical_foldl (fun _ _ ht => canonical_ite ht
    (canonical_ite (refuseCommand_canonical ht) (acceptCommand_canonical ht))) hs

theorem chanOwnerAbsent_canonical {c} : (chanOwnerAbsent c s).canonical := by
  unfold chanOwnerAbsent
  exact canonical_ite (demandSafe_canonical hs) hs

theorem protectiveTrip_canonical {c kind flag cur} : (protectiveTrip c kind flag cur s).canonical := by
  unfold protectiveTrip
  extract_lets _ _ _ s1 _ _ _ _ s3
  have h1 : s1.canonical := addSat_canonical (set_canonical (flag_canonical hs))
  have h3 : s3.canonical := canonical_ite (set_canonical (setChan_canonical h1)) (set_canonical (setChan_canonical h1))
  exact chanEval_canonical (canonical_ite (chanEvent_canonical (chanEvent_canonical h3)) (chanEvent_canonical h3))

theorem setINow_canonical {c cur} : (setINow c cur s).canonical := by
  unfold setINow
  exact set_canonical hs

theorem shortTrip_canonical {c cur} : (shortTrip c cur s).canonical := by
  unfold shortTrip
  exact canonical_ite (protectiveTrip_canonical (setINow_canonical hs)) (setINow_canonical hs)

theorem desatTrip_canonical {c vds cur} : (desatTrip c vds cur s).canonical := by
  unfold desatTrip
  exact canonical_ite (protectiveTrip_canonical (setINow_canonical hs)) (setINow_canonical hs)

theorem overcurrentTrip_canonical {c cur} : (overcurrentTrip c cur s).canonical := by
  unfold overcurrentTrip
  exact canonical_ite (protectiveTrip_canonical (setINow_canonical hs)) (setINow_canonical hs)

theorem setWire_canonical {c w} : (setWire c w s).canonical := by
  unfold setWire
  exact set_canonical (setChan_canonical hs)

theorem wireUpdate_canonical {c q mean vout} : (wireUpdate c q mean vout s).canonical := by
  unfold wireUpdate
  extract_lets _ _ _ _ _ _ _ s2 s3 s4 s5
  have h2 : s2.canonical := set_canonical (set_canonical (setWire_canonical (setChan_canonical hs)))
  have h3 : s3.canonical := canonical_ite (set_canonical h2) h2
  have h4 : s4.canonical := canonical_ite (set_canonical h3) h3
  have h5 : s5.canonical := canonical_ite (set_canonical h4) h4
  exact canonical_ite hs (canonical_ite (protectiveTrip_canonical (setChan_canonical h5))
    (chanEval_canonical (setChan_canonical h5)))

theorem restartDue_canonical {c} : (restartDue c s).canonical := by
  unfold restartDue
  exact canonical_ite (canonical_ite hs (chanEval_canonical (set_canonical hs))) hs

theorem streakClean_canonical {c} : (streakClean c s).canonical := by
  unfold streakClean
  exact canonical_ite (set_canonical (setChan_canonical hs)) hs

theorem rearm_canonical {c} : (rearm c s).canonical := by
  unfold rearm
  exact chanEval_canonical (setChan_canonical (set_canonical (set_canonical (set_canonical hs))))

theorem setTemp_canonical {c t} : (setTemp c t s).canonical := by
  unfold setTemp
  exact set_canonical hs

theorem thermSet_canonical {c t} : (thermSet c t s).canonical := by
  unfold thermSet
  exact canonical_ite (chanEval_canonical (chanEvent_canonical (flag_canonical (set_canonical (setTemp_canonical hs)))))
    (setTemp_canonical hs)

theorem thermRelease_canonical {c t} : (thermRelease c t s).canonical := by
  unfold thermRelease
  exact canonical_ite (chanEval_canonical (chanEvent_canonical (set_canonical (setTemp_canonical hs))))
    (setTemp_canonical hs)

theorem clampEnd_canonical {c e} : (clampEnd c e s).canonical := by
  unfold clampEnd
  extract_lets _ _ s1
  have h1 : s1.canonical := set_canonical (setChan_canonical hs)
  exact canonical_ite (chanEval_canonical (chanEvent_canonical (flag_canonical (set_canonical h1)))) h1

theorem clampLockRelease_canonical {c} : (clampLockRelease c s).canonical := by
  unfold clampLockRelease
  exact canonical_ite (chanEval_canonical (chanEvent_canonical (set_canonical hs))) hs

theorem openLoadOn_canonical {c mean} : (openLoadOn c mean s).canonical := by
  unfold openLoadOn
  exact canonical_ite (chanEvent_canonical (set_canonical (set_canonical hs))) (set_canonical hs)

theorem openLoadOff_canonical {c v} : (openLoadOff c v s).canonical := by
  unfold openLoadOff
  exact canonical_ite (chanEvent_canonical (set_canonical (set_canonical hs))) (set_canonical hs)

theorem extDriven_canonical {c v} : (extDriven c v s).canonical := by
  unfold extDriven
  exact canonical_ite (chanEvent_canonical (set_canonical (set_canonical hs))) (set_canonical hs)

theorem shed_canonical {sum} : (shed sum s).canonical := by
  unfold shed
  extract_lets s1
  have h1 : s1.canonical := set_canonical hs
  refine canonical_ite ?_ h1
  split
  · exact chanEval_canonical (chanEvent_canonical (flag_canonical (setChan_canonical (canonical_mk h1))))
  · exact h1

theorem reverseBlock_canonical {c cur} : (reverseBlock c cur s).canonical := by
  unfold reverseBlock
  exact canonical_ite (chanEval_canonical (set_canonical (setINow_canonical hs))) (setINow_canonical hs)

theorem reverseRecover_canonical {c} : (reverseRecover c s).canonical := by
  unfold reverseRecover
  exact canonical_ite (chanEval_canonical (set_canonical hs)) hs

theorem setSupply_canonical {k mv} : (setSupply k mv s).canonical := by
  unfold setSupply
  split
  · exact set_canonical hs
  · exact set_canonical hs
  · exact set_canonical hs
  · exact set_canonical hs
  · exact hs

theorem evalAll_canonical : (evalAll s).canonical := by
  unfold evalAll
  exact canonical_foldl (fun _ _ ht => chanEval_canonical ht) hs

theorem supplyEntry_canonical {k mv} : (supplyEntry k mv s).canonical := by
  unfold supplyEntry
  exact canonical_ite (evalAll_canonical (powerRaise_canonical (set_canonical (setSupply_canonical hs))))
    (setSupply_canonical hs)

theorem supplyExit_canonical {k mv} : (supplyExit k mv s).canonical := by
  unfold supplyExit
  exact canonical_ite (evalAll_canonical (powerRaise_canonical (set_canonical (setSupply_canonical hs))))
    (setSupply_canonical hs)

theorem dieTempWarn_canonical {t} : (dieTempWarn t s).canonical := by
  unfold dieTempWarn
  extract_lets
  refine canonical_ite ?_ (set_canonical hs)
  split
  rename_i heq
  exact powerRaise_canonical (canonical_of_snd heq (drawFree_canonical (set_canonical hs)))

theorem channelsOff_canonical : (channelsOff s).canonical := by
  unfold channelsOff
  exact canonical_foldl (fun _ _ ht => demandOff_canonical (turnOff_canonical (setChan_canonical ht))) (canonical_mk hs)

theorem tileFaultOff_canonical {t} : (tileFaultOff t s).canonical := by
  unfold tileFaultOff
  exact canonical_foldl (fun _ _ ht => demandOff_canonical (flag_canonical ht)) hs

theorem loadRefusedActs_canonical {t w} : (loadRefusedActs t w s).canonical := by
  unfold loadRefusedActs
  exact canonical_ite (refuseCommand_canonical hs) hs

theorem loadActs_canonical {t old w} : (loadActs t old w s).canonical := by
  unfold loadActs
  extract_lets +onlyGivenNames a o
  split
  · extract_lets +onlyGivenNames c
    split
    · extract_lets +onlyGivenNames amb s1
      have h1 : s1.canonical := canonical_ite (setWire_canonical hs) hs
      exact canonical_ite (canonical_ite (demandSafe_canonical h1) (demandOff_canonical h1)) (chanEval_canonical h1)
    · exact acceptCommand_canonical hs
    · exact chanEval_canonical hs
    · exact canonical_ite (rearm_canonical hs) hs
    · exact canonical_ite (setReg_canonical hs) hs
    · exact hs
  · exact hs

/-! ### CoreOps: the execution cores -/

theorem setPairState_canonical {p n} : (setPairState p n s).canonical := by
  unfold setPairState
  exact set_canonical hs

theorem setDesk_canonical {c d} : (setDesk c d s).canonical := by
  unfold setDesk
  exact setCarrel_canonical hs

theorem setMode_canonical {c m} : (setMode c m s).canonical := by
  unfold setMode
  exact canonical_ite (setCore_canonical hs) (setDesk_canonical (setCore_canonical hs))

theorem enterLib_canonical {c cw addr} : (enterLib c cw addr s).canonical := by
  unfold enterLib
  exact setCore_canonical hs

theorem enterSup_canonical {c cw addr} : (enterSup c cw addr s).canonical := by
  unfold enterSup
  exact setMode_canonical (setCore_canonical (setDesk_canonical hs))

theorem faultNoSrc_canonical {cls payload} : (faultNoSrc cls payload s).canonical := by
  unfold faultNoSrc
  split
  rename_i heq
  exact fault_canonical (canonical_of_snd heq (drawFree_canonical hs))

theorem splitStop_canonical {c cause} : (splitStop c cause s).canonical := by
  unfold splitStop
  exact raiseLib_canonical (raiseLib_canonical (set_canonical (setCarrel_canonical (setCore_canonical hs))))

theorem trapLib_canonical {c cause reason code orig addr} : (trapLib c cause reason code orig addr s).canonical := by
  unfold trapLib
  exact canonical_ite (splitStop_canonical hs) (canonical_ite (faultNoSrc_canonical hs) (enterLib_canonical hs))

theorem takeTrap_canonical {c cause reason code addr} : (takeTrap c cause reason code addr s).canonical := by
  unfold takeTrap
  exact canonical_ite (trapLib_canonical hs) (canonical_ite (trapLib_canonical hs) (enterSup_canonical hs))

theorem noticeTrap_canonical {c} : (noticeTrap c s).canonical := by
  unfold noticeTrap
  exact agreeNote_canonical (enterSup_canonical hs)

theorem deskRead_canonical {c n} : (deskRead c n s).2.canonical := by
  unfold deskRead
  extract_lets
  split
  · exact hs
  · exact hs
  · exact hs
  · exact hs
  · exact hs
  · exact hs
  · exact hs
  · exact hs
  · exact hs
  · exact hs
  · exact hs
  · exact hs
  · exact hs
  · exact hs
  · exact agreeNote_canonical hs
  · exact agreeNote_canonical (setCore_canonical hs)
  · exact agreeNote_canonical hs
  · split
    rename_i heq
    exact setDesk_canonical (canonical_of_snd heq (drawFree_canonical hs))
  · exact hs
  · exact hs
  · exact hs
  · exact hs
  · exact hs
  · exact hs
  · exact hs
  · exact hs
  · exact hs
  · exact hs

theorem flushTlb_canonical {c all} : (flushTlb c all s).canonical := by
  unfold flushTlb
  exact canonical_foldl (fun _ _ ht => setCore_canonical ht) hs

theorem deskWrite_canonical {c n v} : (deskWrite c n v s).canonical := by
  unfold deskWrite
  extract_lets
  split
  · exact setDesk_canonical hs
  · exact setDesk_canonical hs
  · exact setDesk_canonical hs
  · exact setDesk_canonical hs
  · exact setDesk_canonical hs
  · exact setDesk_canonical hs
  · exact setDesk_canonical hs
  · exact setDesk_canonical hs
  · exact setDesk_canonical hs
  · exact setDesk_canonical hs
  · exact setCore_canonical hs
  · exact setCore_canonical hs
  · exact setCore_canonical hs
  · exact setCore_canonical hs
  · exact setCore_canonical hs
  · exact setCore_canonical hs
  · exact flushTlb_canonical hs
  · exact hs

theorem eventRelease_canonical {c} : (eventRelease c s).canonical := by
  unfold eventRelease
  extract_lets
  split
  · exact hs
  · exact canonical_ite hs (deliver_canonical (setCarrel_canonical hs))

theorem waiteDeadline_canonical {c} : (waiteDeadline c s).canonical := by
  unfold waiteDeadline
  extract_lets
  split
  · exact canonical_ite (agreeNote_canonical (waiteWrite_canonical hs)) hs
  · exact hs

theorem execNoticeTrap_canonical {c} : staysCanonical (execNoticeTrap c s) := by
  unfold execNoticeTrap
  exact canonical_ite (noticeTrap_canonical hs) hs

/-! ### Exec: execution pairs -/

theorem setCarState_canonical {c n} : (setCarState c n s).canonical := by
  unfold setCarState
  exact set_canonical hs

theorem stopCarrel_canonical {c} : (stopCarrel c s).canonical := by
  unfold stopCarrel
  exact canonical_ite hs (raiseLib_canonical (set_canonical (set_canonical (set_canonical (setCarState_canonical hs)))))

theorem dropContexts_canonical {p} : (dropContexts p s).canonical := by
  unfold dropContexts
  exact canonical_foldl (fun _ _ ht => setCore_canonical (canonical_ite (set_canonical ht) ht)) hs

theorem pairStop_canonical {p kind comp ledger slice} : (pairStop p kind comp ledger slice s).canonical := by
  unfold pairStop
  extract_lets _ _ _ s1
  have h1 : s1.canonical := closeTile_canonical (setReg_canonical (setReg_canonical (setPairState_canonical hs)))
  exact canonical_ite (canonical_mk (dropContexts_canonical h1))
    (canonical_foldl (fun _ _ ht => stopCarrel_canonical ht) (dropContexts_canonical h1))

theorem pairFault_canonical {p k comp ledger slice} : (pairFault p k comp ledger slice s).canonical := by
  unfold pairFault
  exact canonical_ite (archive_canonical hs)
    (canonical_ite hs (pairStop_canonical (relayTwin_canonical (fault_canonical hs))))

theorem pairTileFault_canonical {p} : (pairTileFault p s).canonical := by
  unfold pairTileFault
  split
  rename_i heq
  split
  rename_i heq'
  have hu := canonical_of_snd heq' (drawFree_canonical (canonical_of_snd heq (drawFree_canonical hs)))
  exact canonical_ite (archive_canonical hu) (pairStop_canonical (fault_canonical hu))

theorem execDigestRequest_canonical {p} : staysCanonical (execDigestRequest p s) := by
  unfold execDigestRequest
  exact canonical_ite (agreeNote_canonical (setPair_canonical hs)) hs

theorem execDigestCompare_canonical {p chk} : staysCanonical (execDigestCompare p chk s) := by
  unfold execDigestCompare
  extract_lets
  split
  · exact hs
  · extract_lets s1
    have h1 : s1.canonical := addSat_canonical (setReg_canonical (setPair_canonical hs))
    exact canonical_ite h1 (pairFault_canonical h1)

theorem handOver_canonical {p} : (handOver p s).canonical := by
  unfold handOver
  exact canonical_mk (setCore_canonical
    (set_canonical (setPairState_canonical
    (set_canonical (set_canonical (set_canonical
    (canonical_foldl (fun _ _ ht => canonical_ite (stopCarrel_canonical ht) (set_canonical ht)) hs)))))))

theorem execReserveHandover_canonical : staysCanonical (execReserveHandover s) := by
  unfold execReserveHandover
  split
  · exact hs
  · exact canonical_ite hs (handOver_canonical hs)

theorem debugEnter_canonical {p} : (debugEnter p s).canonical := by
  unfold debugEnter
  extract_lets
  split
  rename_i heq
  exact relayTwin_canonical (notify_canonical
    (archive_canonical (set_canonical
    (set_canonical (setPairState_canonical (canonical_of_snd heq (drawFree_canonical hs)))))))

theorem execDebugEntry_canonical {p arm} : staysCanonical (execDebugEntry p arm s) := by
  unfold execDebugEntry
  extract_lets
  split
  · exact setPair_canonical hs
  · exact canonical_ite (debugEnter_canonical hs) hs

theorem pairStart_canonical {p} : (pairStart p s).canonical := by
  unfold pairStart
  exact setCore_canonical (setCore_canonical (set_canonical (setPairState_canonical hs)))

theorem pairRelease_canonical {p} : (pairRelease p s).canonical := by
  unfold pairRelease
  exact canonical_ite hs (canonical_ite (pairStart_canonical hs) (setPairState_canonical hs))

theorem pairReset_canonical {p} : (pairReset p s).canonical := by
  unfold pairReset
  exact openTile_canonical (setPairState_canonical
    (setReg_canonical (setReg_canonical
    (setReg_canonical (setPair_canonical (setCore_canonical (setCore_canonical (dropContexts_canonical hs))))))))

theorem exbActs_canonical {a old w} : (exbActs a old w s).canonical := by
  unfold exbActs
  extract_lets _ _ _ _ _ s1 _ _ _ s2
  have h1 : s1.canonical := canonical_ite (set_canonical (canonical_ite (setPairState_canonical hs) hs)) hs
  have h2 : s2.canonical := canonical_ite (pairReset_canonical (setBit_canonical hs)) (setBit_canonical hs)
  exact canonical_ite (canonical_ite (setCore_canonical (setPairState_canonical h1)) h1)
    (canonical_ite (setReg_canonical hs) (canonical_ite (canonical_ite (pairRelease_canonical h2) h2) hs))

/-! ### CarrelTab: the carrel table -/

theorem carrelStart_canonical {c} : (carrelStart c s).canonical := by
  unfold carrelStart
  exact raiseLib_canonical (canonical_foldl (fun _ _ ht => canonical_ite (set_canonical ht) ht)
    (setCarState_canonical (setCarrel_canonical hs)))

theorem markUsed_canonical : (markUsed s).canonical := by
  unfold markUsed
  exact set_canonical hs

theorem execTimetableAdopt_canonical {p k} : staysCanonical (execTimetableAdopt p k s) := by
  unfold execTimetableAdopt
  extract_lets
  split
  exact canonical_ite (set_canonical (setReg_canonical (set_canonical (set_canonical (set_canonical hs))))) hs

theorem deskPut_canonical {c lib k w} : (deskPut c lib k w s).all State.canonical := by
  unfold deskPut
  exact canonical_ite_option rfl (set_canonical (wrMem_canonical hs))

theorem deskRing_canonical {c lib} : (deskRing c lib s).all State.canonical := by
  unfold deskRing
  extract_lets _ _ _ s1
  have h1 : s1.canonical := canonical_ite (set_canonical hs) hs
  exact canonical_ite_option rfl (raiseTo_canonical
    (canonical_ite (set_canonical (set_canonical (set_canonical h1))) h1))

theorem deskClear_canonical {c} : (deskClear c s).canonical := by
  unfold deskClear
  exact setReg_canonical (canonical_foldl (fun _ _ ht => wrMem_canonical (wrMem_canonical ht)) hs)

theorem sessionsStop_canonical {upl} : (sessionsStop upl s).canonical := by
  unfold sessionsStop
  exact canonical_foldl (fun _ _ ht => raiseLib_canonical ht) hs

theorem clearHalted_canonical {p} : (clearHalted p s).canonical := by
  unfold clearHalted
  exact canonical_foldl (fun _ _ ht => canonical_ite (setCarrel_canonical ht) ht) hs

theorem carrelActs_canonical {a old w} : (carrelActs a old w s).canonical := by
  unfold carrelActs
  extract_lets +onlyGivenNames o
  split
  · exact canonical_ite (setReg_canonical (setReg_canonical hs)) hs
  · split
    · extract_lets +onlyGivenNames p k
      split
      · extract_lets +onlyGivenNames s1 x was en
        have h1 : s1.canonical := clearHalted_canonical hs
        exact canonical_ite (setCore_canonical h1) (canonical_ite (setCore_canonical h1) h1)
      · exact canonical_ite (clearHalted_canonical (set_canonical hs)) hs
      · exact hs
    · split
      · extract_lets +onlyGivenNames c
        split
        · extract_lets +onlyGivenNames was v
          exact markUsed_canonical (canonical_ite (set_canonical (setCarState_canonical hs))
            (canonical_ite (setCarState_canonical hs) hs))
        · exact canonical_ite (carrelStart_canonical hs) hs
        · exact canonical_ite (raiseLib_canonical hs) hs
        · exact hs
      · exact hs

/-! ### Copies: copies of switch frames and the copy records of the catalogue port -/

theorem setPort_canonical {p x} : (State.setPort s p x).canonical := by
  unfold State.setPort
  exact canonical_mk hs

theorem ethCount_canonical {p j} : (ethCount p j s).canonical := by
  unfold ethCount
  exact bump_canonical hs

theorem recDone_canonical {c} : (recDone c s).canonical := by
  unfold recDone
  split
  · exact hs
  · exact canonical_ite (setReg_canonical (set_canonical (set_canonical hs))) (set_canonical hs)

theorem putCopy_canonical {c} : (putCopy c s).canonical := by
  unfold putCopy
  exact canonical_mk hs

theorem endCopy_canonical {c} : (endCopy c s).canonical := by
  unfold endCopy
  exact recDone_canonical (canonical_mk hs)

theorem dropCopy_canonical {c j} : (dropCopy c j s).canonical := by
  unfold dropCopy
  extract_lets s1
  have h1 : s1.canonical := endCopy_canonical (ethCount_canonical hs)
  exact canonical_ite (ethCount_canonical h1) h1

theorem copiesFail_canonical {p} : (copiesFail p s).canonical := by
  unfold copiesFail
  exact canonical_mk (canonical_foldl (fun _ _ ht => canonical_ite (putCopy_canonical ht) (dropCopy_canonical ht)) hs)

theorem copiesPass_canonical {p} : (copiesPass p s).canonical := by
  unfold copiesPass
  exact canonical_mk (canonical_foldl (fun _ _ ht => canonical_ite (setReg_canonical ht) ht) hs)

/-! ### Catalogue: the signal catalogue -/

theorem engRead_canonical {a} : (engRead a s).2.canonical := by
  unfold engRead
  split
  · rename_i heq
    exact canonical_of_snd heq (readArray_canonical hs)
  · rename_i heq
    exact drawFree_canonical (canonical_of_snd heq (readArray_canonical hs))

theorem catRead_canonical {sm confirmed} : (catRead sm confirmed s).2.canonical := by
  unfold catRead
  split
  rename_i heq
  split
  rename_i heq'
  split
  rename_i heq''
  exact canonical_of_snd heq'' (engRead_canonical
    (canonical_of_snd heq' (engRead_canonical (canonical_of_snd heq (engRead_canonical hs)))))

theorem setRx_canonical {p x} : (State.setRx s p x).canonical := by
  unfold State.setRx
  exact canonical_mk hs

theorem setCu_canonical {n x} : (State.setCu s n x).canonical := by
  unfold State.setCu
  exact setBit_canonical (set_canonical (canonical_mk hs))

theorem catErr_canonical {f src} : (catErr f src s).canonical := by
  unfold catErr
  exact raiseFree_canonical (addSat_canonical hs)

theorem setItems_canonical {l} : (setItems l s).canonical := by
  unfold setItems
  exact canonical_ite (set_canonical (set_canonical (canonical_mk hs))) (set_canonical (canonical_mk hs))

theorem takeItem_canonical {x} : (takeItem x s).canonical := by
  unfold takeItem
  exact setItems_canonical hs

theorem ledgerFull_canonical : (ledgerFull s).canonical := by
  unfold ledgerFull
  exact canonical_ite (addSat_canonical hs) (raiseFree_canonical (canonical_mk (addSat_canonical hs)))

theorem mirrorOffer_canonical {sm w timing stamp} : (mirrorOffer sm w timing stamp s).canonical := by
  unfold mirrorOffer
  exact canonical_ite (mirrorPut_canonical hs) hs

theorem accession_canonical {sm w stamp} : (accession sm w stamp s).canonical := by
  unfold accession
  extract_lets
  split
  rename_i heq
  exact mirrorOffer_canonical (wrMem_canonical
    (wrMem_canonical (wrMem_canonical (canonical_of_snd heq (engRead_canonical hs)))))

theorem cuNotice_canonical {n cause fpc} : (cuNotice n cause fpc s).canonical := by
  unfold cuNotice
  exact raiseTo_canonical hs

theorem cuLost_canonical {n} : (cuLost n s).canonical := by
  unfold cuLost
  exact cuNotice_canonical (setCu_canonical (addSat_canonical hs))

theorem cuTrigger_canonical {n x} : (cuTrigger n x s).canonical := by
  unfold cuTrigger
  exact canonical_ite hs (canonical_ite (setCu_canonical hs)
    (canonical_ite (cuLost_canonical (setCu_canonical hs)) (cuLost_canonical hs)))

theorem tmplRead_canonical {n} : (tmplRead n s).2.canonical := by
  unfold tmplRead
  split
  rename_i heq
  split
  rename_i heq'
  exact canonical_of_snd heq' (engRead_canonical (canonical_of_snd heq (engRead_canonical hs)))

theorem setSlipBit_canonical {b v} : (setSlipBit b v s).canonical := by
  unfold setSlipBit
  exact wrMem_canonical hs

theorem setBodyOctet_canonical {ptr j x} : (setBodyOctet ptr j x s).canonical := by
  unfold setBodyOctet
  exact wrMem_canonical hs

theorem supersede_canonical {bits} : (supersede bits s).canonical := by
  unfold supersede
  exact canonical_mk hs

theorem tmplSend_canonical {n t} : (tmplSend n t s).canonical := by
  unfold tmplSend
  split
  rename_i heq
  have ht := canonical_of_snd heq (by
    refine canonical_ite_snd ?_ hs
    split
    rename_i heq
    exact canonical_of_snd heq (drawFree_canonical hs))
  exact canonical_ite (canonical_mk ht) ht

theorem slipInvalid_canonical {w o} : (slipInvalid w o s).canonical := by
  unfold slipInvalid
  exact setReg_canonical (catErr_canonical hs)

theorem noteActed_canonical {h o} : (noteActed h o s).canonical := by
  unfold noteActed
  extract_lets
  split
  · exact hs
  · exact setRx_canonical hs
  · exact canonical_mk hs
  · exact canonical_mk hs

theorem queueWalk_canonical {sm w mask mode acted stamp home} :
    (queueWalk sm w mask mode acted stamp home s).canonical := by
  unfold queueWalk
  split
  rename_i heq
  have ht := canonical_of_snd heq (engRead_canonical hs)
  exact canonical_ite ht (canonical_mk ht)

theorem slipFrame_canonical {w x t prov} : (slipFrame w x t prov s).canonical := by
  unfold slipFrame
  extract_lets _ _ _ _ _ _ _ _ s2
  have h2 : s2.canonical := canonical_foldl (fun _ _ ht => setSlipBit_canonical ht) (supersede_canonical hs)
  exact canonical_ite (takeItem_canonical h2) h2

theorem slipLoad_canonical {w x} : (slipLoad w x s).canonical := by
  unfold slipLoad
  extract_lets
  split
  exact canonical_ite (set_canonical (canonical_mk hs)) (canonical_mk hs)

theorem slipEntry_canonical {w o sm} : (slipEntry w o sm s).canonical := by
  unfold slipEntry
  exact canonical_ite (queueWalk_canonical (accession_canonical (setItems_canonical hs)))
    (canonical_ite (ledgerFull_canonical hs)
    (queueWalk_canonical (noteActed_canonical
    (wrMem_canonical (canonical_ite (canonical_mk hs) (takeItem_canonical hs))))))

theorem slipDo_canonical {w o x} : (slipDo w o x s).canonical := by
  unfold slipDo
  extract_lets
  refine canonical_ite (slipInvalid_canonical hs) ?_
  split
  · split
    rename_i heq
    have ht := canonical_of_snd heq (tmplRead_canonical hs)
    extract_lets _ s2'
    have h2' : s2'.canonical := noteActed_canonical (slipFrame_canonical ht)
    exact canonical_ite (slipInvalid_canonical ht)
      (canonical_ite (canonical_ite ht
      (canonical_ite (tmplSend_canonical (slipFrame_canonical ht)) (slipFrame_canonical ht)))
      (canonical_ite (canonical_ite (ledgerFull_canonical ht) (canonical_ite (tmplSend_canonical h2') h2')) ht))
  · exact canonical_ite (slipLoad_canonical hs) hs
  · exact canonical_ite (notify_canonical hs) hs
  · exact canonical_ite (canonical_ite hs (cuTrigger_canonical hs))
      (canonical_ite hs (canonical_ite (ledgerFull_canonical hs) (noteActed_canonical (cuTrigger_canonical hs))))
  · split
    rename_i heq'
    have ht := canonical_of_snd heq' (engRead_canonical hs)
    exact canonical_ite (slipInvalid_canonical ht)
      (canonical_ite (canonical_ite ht (slipEntry_canonical ht)) (canonical_ite ht (slipEntry_canonical ht)))

theorem slipLoop_canonical {w fuel o} : (slipLoop w fuel o s).canonical := by
  induction fuel generalizing o s with
  | zero => exact slipInvalid_canonical hs
  | succ fuel ih =>
    have hread := slipDo_canonical (w := w) (o := o) (x := (engRead (slipA o) s).1)
      (engRead_canonical (a := slipA o) hs)
    unfold slipLoop
    exact canonical_ite (slipInvalid_canonical hs) (canonical_ite hread (ih hread))

theorem runWalk_canonical {w} : (runWalk w s).canonical := by
  unfold runWalk
  exact slipLoop_canonical hs

theorem runWalks_canonical {fuel} : (runWalks fuel s).canonical := by
  induction fuel generalizing s with
  | zero => exact hs
  | succ fuel ih =>
    unfold runWalks
    split
    · exact hs
    · exact ih (runWalk_canonical (canonical_mk hs))

theorem catWrite_canonical {sm w} : (catWrite sm w s).canonical := by
  unfold catWrite
  exact queueWalk_canonical (accession_canonical hs)

theorem checkWord_canonical {p i x frame} : (checkWord p i x frame s).canonical := by
  unfold checkWord
  extract_lets
  split
  rename_i heq
  extract_lets
  split
  rename_i heq'
  have hu := canonical_of_snd heq' (engRead_canonical (canonical_of_snd heq (engRead_canonical hs)))
  extract_lets
  split
  rename_i heq''
  have hv := canonical_of_snd heq'' (by
    refine canonical_ite_snd ?_ (canonical_ite_snd hu (canonical_ite hu (wrMem_canonical hu)))
    split
    rename_i heq''
    exact canonical_of_snd heq'' (drawFree_canonical hu))
  exact canonical_foldl (fun _ _ hw => canonical_ite (wrMem_canonical hw) hw) (setRx_canonical hv)

theorem e2eAccess_canonical {c} : (e2eAccess c s).canonical := by
  unfold e2eAccess
  exact canonical_ite hs (wrMem_canonical hs)

theorem e2eEgress_canonical {t} : (e2eEgress t s).all State.canonical := by
  unfold e2eEgress
  extract_lets
  refine canonical_ite_option hs ?_
  split
  rename_i heq
  extract_lets
  split
  rename_i heq'
  exact canonical_ite_option rfl (canonical_foldl (fun _ _ hv => setBodyOctet_canonical hv)
    (setBodyOctet_canonical (wrMem_canonical
    (canonical_of_snd heq' (engRead_canonical (canonical_of_snd heq (engRead_canonical hs)))))))

theorem sendTemplate_canonical {n} : (sendTemplate n s).canonical := by
  unfold sendTemplate
  split
  rename_i heq
  have ht := canonical_of_snd heq (tmplRead_canonical hs)
  refine canonical_ite ht ?_
  split
  · exact catErr_canonical ht
  · rename_i heq'
    have hu := canonical_of_option heq' (e2eEgress_canonical ht)
    extract_lets
    split
    · exact canonical_ite (ethCount_canonical hu) (canonical_mk hu)
    · exact canCopy_canonical hu
    · exact canonical_ite (linCopy_canonical hu) hu

theorem execTemplateSend_canonical {n} : staysCanonical (execTemplateSend n s) := by
  unfold execTemplateSend
  extract_lets
  split
  · exact hs
  · exact canonical_ite hs (sendTemplate_canonical (canonical_mk hs))

theorem execTemplatePeriodExpiry_canonical {n} : staysCanonical (execTemplatePeriodExpiry n s) := by
  unfold execTemplatePeriodExpiry
  split
  rename_i heq
  exact canonical_ite (sendTemplate_canonical (canonical_of_snd heq (tmplRead_canonical hs))) hs

theorem republish_canonical {p x received} : (republish p x received s).canonical := by
  unfold republish
  exact setReg_canonical hs

theorem closeRx_canonical {p a} : (closeRx p a s).canonical := by
  unfold closeRx
  exact setReg_canonical (setRx_canonical hs)

theorem undoItem_canonical {x} : (undoItem x s).canonical := by
  unfold undoItem
  split
  · exact wrMem_canonical hs
  · exact canonical_foldl (fun _ _ ht => setSlipBit_canonical ht) hs
  · exact hs

theorem sendErratum_canonical {x} : (sendErratum x s).canonical := by
  unfold sendErratum
  split
  · split
    rename_i heq'
    have ht := canonical_of_snd heq' (by
      split
      · exact hs
      · split
        rename_i heq'
        exact canonical_of_snd heq' (drawFree_canonical hs))
    exact cuTrigger_canonical (canonical_ite (addSat_canonical ht) ht)
  · exact hs

theorem ctxFail_canonical {p a} : (ctxFail p a s).canonical := by
  unfold ctxFail
  exact canonical_ite hs (canonical_foldl (fun _ _ ht => sendErratum_canonical ht)
    (setItems_canonical (canonical_mk
    (canonical_foldl (fun _ _ ht => canonical_ite (setCu_canonical ht) ht)
    (copiesFail_canonical (canonical_foldl (fun _ _ ht => undoItem_canonical ht)
    (closeRx_canonical (canonical_ite hs (addSat_canonical hs)))))))))

theorem clearContext_canonical {p} : (clearContext p s).canonical := by
  unfold clearContext
  extract_lets _ _ _ _ s3
  have h3 : s3.canonical := by
    unfold s3
    refine canonical_foldl (fun _ _ ht => ?_)
      (canonical_foldl (fun _ _ ht => canonical_ite (setCu_canonical ht) ht) (setItems_canonical hs))
    split
    · split
      rename_i heq'
      have hu := canonical_of_snd heq' (engRead_canonical ht)
      exact canonical_ite (queueWalk_canonical (accession_canonical hu)) hu
    · exact ht
  exact canonical_foldl (fun _ _ ht => canonical_mk ht) (canonical_mk h3)

theorem ctxPass_canonical {p} : (ctxPass p s).canonical := by
  unfold ctxPass
  exact canonical_ite hs (canonical_ite (ctxFail_canonical hs)
    (runWalks_canonical (clearContext_canonical
    (copiesPass_canonical (runWalks_canonical
    (canonical_foldl (fun _ _ ht => queueWalk_canonical ht)
    (canonical_foldl (fun _ _ ht => accession_canonical ht)
    (canonical_foldl (fun _ _ ht => e2eAccess_canonical ht) (closeRx_canonical hs)))))))))

theorem lateVerdict_canonical {p} : (lateVerdict p s).canonical := by
  unfold lateVerdict
  extract_lets
  split
  · exact hs
  · exact setRx_canonical hs
  · exact catErr_canonical (setRx_canonical hs)

theorem execPassVerdict_canonical {p} : staysCanonical (execPassVerdict p s) := by
  unfold execPassVerdict
  exact canonical_ite (ctxPass_canonical hs) (lateVerdict_canonical hs)

theorem execFailVerdict_canonical {p} : staysCanonical (execFailVerdict p s) := by
  unfold execFailVerdict
  exact canonical_ite (ctxFail_canonical hs) (lateVerdict_canonical hs)

theorem execDueTimeExpiry_canonical {p} : staysCanonical (execDueTimeExpiry p s) := by
  unfold execDueTimeExpiry
  exact canonical_ite (ctxFail_canonical hs) hs

theorem execReceptionContextOpen_canonical {p left} : staysCanonical (execReceptionContextOpen p left s) := by
  unfold execReceptionContextOpen
  extract_lets
  split
  · exact hs
  · refine canonical_ite hs ?_
    split
    rename_i heq'
    have ht := canonical_of_snd heq' (engRead_canonical hs)
    exact canonical_ite ht (canonical_ite (addSat_canonical ht) (republish_canonical (setRx_canonical ht)))

theorem intakeRoom_canonical {t} : (intakeRoom t s).2.canonical := by
  unfold intakeRoom
  extract_lets
  split
  exact canonical_ite_snd (canonical_mk hs) hs

theorem intake_canonical {p sm w chk noprov} : (intake p sm w chk noprov s).canonical := by
  unfold intake
  extract_lets
  split
  rename_i heq
  have ht := canonical_of_snd heq (intakeRoom_canonical hs)
  exact canonical_ite (catErr_canonical (setRx_canonical ht))
    (canonical_ite (setRx_canonical ht)
    (canonical_ite (ledgerFull_canonical (setRx_canonical ht))
    (runWalks_canonical (queueWalk_canonical
    (wrMem_canonical (setRx_canonical (canonical_ite ht (takeItem_canonical ht))))))))

theorem signalWord_canonical {p i x frame} : (signalWord p i x frame s).canonical := by
  unfold signalWord
  extract_lets
  split
  rename_i heq
  have ht := canonical_of_snd heq (engRead_canonical hs)
  exact canonical_ite (addSat_canonical ht) (intake_canonical ht)

theorem execFieldUnpack_canonical {p i frame left} : staysCanonical (execFieldUnpack p i frame left s) := by
  unfold execFieldUnpack
  extract_lets
  refine canonical_ite hs (canonical_ite (ctxFail_canonical hs) (canonical_ite (republish_canonical hs) ?_))
  split
  rename_i heq
  have ht := canonical_of_snd heq (engRead_canonical (republish_canonical hs))
  exact canonical_ite (canonical_ite (checkWord_canonical ht) ht) (signalWord_canonical ht)

theorem execTimeoutAction_canonical {sm} : staysCanonical (execTimeoutAction sm s) := by
  unfold execTimeoutAction
  extract_lets
  split
  rename_i heq
  extract_lets
  split
  rename_i heq'
  extract_lets
  refine canonical_ite hs ?_
  split
  rename_i heq''
  have hv := canonical_of_snd heq''
    (engRead_canonical (canonical_of_snd heq' (engRead_canonical (canonical_of_snd heq (engRead_canonical hs)))))
  extract_lets
  split
  rename_i heq'''
  extract_lets _ s5 s6 _ s8
  have h5 : s5.canonical := wrMem_canonical
    (wrMem_canonical (canonical_of_snd heq''' (canonical_ite_snd (engRead_canonical hv) hv)))
  have h6 : s6.canonical := canonical_ite h5 (wrMem_canonical h5)
  have h8 : s8.canonical := canonical_ite (mirrorOffer_canonical h6)
    (runWalks_canonical (queueWalk_canonical (mirrorOffer_canonical h6)))
  exact canonical_ite (raiseLib_canonical h8) h8

theorem tileContexts_canonical {t} : (tileContexts t s).canonical := by
  unfold tileContexts
  exact canonical_foldl (fun _ _ ht => canonical_ite (ctxFail_canonical ht) ht) hs

theorem cuStart_canonical {n} : (cuStart n s).canonical := by
  unfold cuStart
  exact setCu_canonical hs

theorem cuStop_canonical {n} : (cuStop n s).canonical := by
  unfold cuStop
  exact setCu_canonical hs

theorem cuFault_canonical {n cause} : (cuFault n cause s).canonical := by
  unfold cuFault
  exact cuNotice_canonical (set_canonical (set_canonical (flag_canonical (cuStop_canonical (set_canonical hs)))))

theorem cuStall_canonical {n} : (cuStall n s).canonical := by
  unfold cuStall
  exact canonical_ite hs (ledgerFull_canonical (setCu_canonical hs))

theorem execTriggerDelivery_canonical {n} : staysCanonical (execTriggerDelivery n s) := by
  unfold execTriggerDelivery
  extract_lets
  refine canonical_ite hs ?_
  split
  · exact canonical_ite (cuStall_canonical hs)
      (canonical_ite (takeItem_canonical (setCu_canonical hs)) (setCu_canonical hs))
  · exact hs

theorem execLedgerStallEnd_canonical {n} : staysCanonical (execLedgerStallEnd n s) := by
  unfold execLedgerStallEnd
  exact canonical_ite (setCu_canonical hs) hs

theorem runItem_canonical {n mask} : (runItem n mask s).canonical := by
  unfold runItem
  exact canonical_ite (takeItem_canonical (setCu_canonical hs)) (setItems_canonical (setCu_canonical hs))

theorem catActs_canonical {a w} : (catActs a w s).canonical := by
  unfold catActs
  exact canonical_ite (canonical_ite
    (canonical_mk (set_canonical (setReg_canonical (setReg_canonical (set_canonical (set_canonical hs)))))) hs) hs

theorem catgActs_canonical {a old w} : (catgActs a old w s).canonical := by
  unfold catgActs
  exact canonical_ite (canonical_ite (cuStart_canonical hs) (canonical_ite (cuStop_canonical hs) hs)) hs

theorem setColl_canonical {u x} : (State.setColl s u x).canonical := by
  unfold State.setColl
  exact canonical_mk hs

theorem collActs_canonical {a w} : (collActs a w s).canonical := by
  unfold collActs
  exact canonical_ite (canonical_ite (canonical_ite (setColl_canonical hs) hs)
    (canonical_ite (setColl_canonical (set_canonical (canonical_ite hs (setReg_canonical hs)))) hs)) hs

/-! ### CanEvents: what happens on the CAN and LIN buses -/

theorem canErrSet_canonical {n tec rec_} : (canErrSet n tec rec_ s).canonical := by
  unfold canErrSet
  extract_lets _ _ _ _ _ s1
  have h1 : s1.canonical := set_canonical (set_canonical (set_canonical hs))
  exact canonical_ite h1 (canonical_ite
    (canCount_canonical (ctxFail_canonical (setCan_canonical (canEvent_canonical h1)))) (canEvent_canonical h1))

theorem noackClear_canonical {n} : (noackClear n s).canonical := by
  unfold noackClear
  exact setCan_canonical (set_canonical hs)

theorem execCanErrorDetected_canonical {n kind tx strong} :
    staysCanonical (execCanErrorDetected n kind tx strong s) := by
  unfold execCanErrorDetected
  extract_lets _ _ s1 _ _ _ _ s3
  have h1 : s1.canonical := set_canonical hs
  have h3 : s3.canonical := canonical_ite (canCount_canonical h1) (canErrSet_canonical (canCount_canonical h1))
  exact canonical_ite hs (canonical_ite hs
    (canonical_ite (canonical_ite hs (canEvent_canonical (setCan_canonical hs)))
    (canonical_ite (canonical_ite (canonical_ite (canEvent_canonical (setCan_canonical (set_canonical h3)))
    (set_canonical h3)) h3) (ctxFail_canonical (canErrSet_canonical (canCount_canonical h1))))))

theorem execBusOffRecoveryDone_canonical {n} : staysCanonical (execBusOffRecoveryDone n s) := by
  unfold execBusOffRecoveryDone
  exact canonical_ite (canEvent_canonical (setCan_canonical (set_canonical (set_canonical (set_canonical hs))))) hs

theorem execCanFrameMatch_canonical {n id ago} : staysCanonical (execCanFrameMatch n id ago s) := by
  unfold execCanFrameMatch
  exact canonical_ite (setCan_canonical hs) hs

theorem canStore_canonical {n b f sof} : (canStore n b f sof s).canonical := by
  unfold canStore
  extract_lets _ _ s1
  have h1 : s1.canonical := addWrap_canonical (flag_canonical hs)
  exact set_canonical (set_canonical
    (mbWriteData_canonical (setReg_canonical
    (canonical_ite (canEvent_canonical (canCount_canonical (flag_canonical h1))) h1))))

theorem mbNotify_canonical {n b tx} : (mbNotify n b tx s).canonical := by
  unfold mbNotify
  exact canonical_ite (canEvent_canonical hs) hs

theorem execCanFrameEnd_canonical {n ok data rlen af} : staysCanonical (execCanFrameEnd n ok data rlen af s) := by
  unfold execCanFrameEnd
  extract_lets _ s0
  have h0 : s0.canonical := setCan_canonical hs
  refine canonical_ite hs (canonical_ite (ctxFail_canonical h0) ?_)
  split
  rename_i heq
  have ht := canonical_of_snd heq (by
    refine canonical_ite_snd h0 (canonical_ite_snd h0 ?_)
    split
    rename_i heq
    exact canonical_of_snd heq (drawFree_canonical h0))
  extract_lets s2
  have h2 : s2.canonical := canCount_canonical (noackClear_canonical (canErrSet_canonical ht))
  split
  · exact h2
  · extract_lets _ s3
    have h3 : s3.canonical := canonical_ite (canStore_canonical h2) h2
    exact canonical_ite h2 (canonical_ite (canCount_canonical (canonical_mk (mbNotify_canonical h3)))
      (mbNotify_canonical h3))

theorem execCanTxAttemptStart_canonical {n} : staysCanonical (execCanTxAttemptStart n s) := by
  unfold execCanTxAttemptStart
  extract_lets
  refine canonical_ite hs ?_
  split
  · exact hs
  · extract_lets
    split
    · rename_i heq'
      exact setCan_canonical (canonical_of_snd heq' (poolScan_canonical hs))
    · rename_i heq'
      exact canonical_foldl (fun _ _ hu => ctxFail_canonical hu)
        (canCount_canonical (reqAgain_canonical (failReq_canonical (canonical_of_snd heq' (poolScan_canonical hs)))))

theorem execCanTxAttemptEnd_canonical {n ok} : staysCanonical (execCanTxAttemptEnd n ok s) := by
  unfold execCanTxAttemptEnd
  extract_lets _ s0 _ s1
  have h0 : s0.canonical := setCan_canonical hs
  have h1 : s1.canonical := canCount_canonical (noackClear_canonical (canErrSet_canonical h0))
  split
  · exact hs
  · exact canonical_ite (canonical_ite (set_canonical (setCan_canonical h1))
      (mbNotify_canonical (reqAgain_canonical (set_canonical (flag_canonical (clearReq_canonical h1))))))
      (canonical_ite h0 (canonical_ite (flag_canonical h0)
      (canonical_ite (reqAgain_canonical (failReq_canonical h0)) h0)))

theorem execCanEscalation_canonical {n b} : staysCanonical (execCanEscalation n b s) := by
  unfold execCanEscalation
  extract_lets
  split
  · exact hs
  · exact canonical_ite hs (canEvent_canonical (canCount_canonical (flag_canonical (setCan_canonical hs))))

theorem canTunnel_canonical {n f} : (canTunnel n f s).canonical := by
  unfold canTunnel
  extract_lets
  split
  · rename_i heq
    exact canonical_of_snd heq (isolate_canonical hs)
  · rename_i heq
    have ht := canonical_of_snd heq (isolate_canonical hs)
    exact canonical_ite (canEvent_canonical (canCount_canonical ht)) (set_canonical (setCan_canonical ht))

theorem linTunnel_canonical {m i xs} : (linTunnel m i xs s).canonical := by
  unfold linTunnel
  split
  · rename_i heq
    exact canonical_of_snd heq (isolate_canonical hs)
  · rename_i heq
    have ht := canonical_of_snd heq (isolate_canonical hs)
    exact canonical_ite (linPut_canonical ht) (linEvent_canonical (linCount_canonical ht))

theorem linError_canonical {m i lec tx} : (linError m i lec tx s).canonical := by
  unfold linError
  exact linEvent_canonical (linCount_canonical (set_canonical hs))

theorem execLinSlotStart_canonical {m} : staysCanonical (execLinSlotStart m s) := by
  unfold execLinSlotStart
  extract_lets
  refine canonical_ite hs (canonical_ite
    (canonical_ite hs (linEvent_canonical (linCount_canonical (setLin_canonical hs)))) ?_)
  split
  rename_i heq
  have ht := canonical_of_snd heq (by
    refine canonical_ite_snd hs (canonical_ite_snd hs (canonical_ite_snd ?_ hs))
    split
    rename_i heq
    exact canonical_of_snd heq (drawFree_canonical hs))
  exact setLin_canonical (set_canonical ht)

theorem execLinBreakReceived_canonical {m i ago rate} : staysCanonical (execLinBreakReceived m i ago rate s) := by
  unfold execLinBreakReceived
  extract_lets _ _ _ s1
  have h1 : s1.canonical := canonical_ite (set_canonical hs) hs
  exact canonical_ite hs (canonical_ite (linError_canonical (setLin_canonical h1)) (setLin_canonical h1))

theorem linEncap_canonical {m i xs brk} : (linEncap m i xs brk s).canonical := by
  unfold linEncap
  exact canonical_ite (canonical_mk hs) hs

theorem frNotify_canonical {m i tx} : (frNotify m i tx s).canonical := by
  unfold frNotify
  exact canonical_ite (linEvent_canonical hs) hs

theorem execLinResponseEnd_canonical {m err data} : staysCanonical (execLinResponseEnd m err data s) := by
  unfold execLinResponseEnd
  extract_lets _ s0
  have h0 : s0.canonical := setLin_canonical hs
  split
  · exact hs
  · extract_lets _ _ _ s2 _ _ u
    have h2 : s2.canonical := canonical_ite (linEvent_canonical (linError_canonical h0)) (linError_canonical h0)
    have hu : u.canonical := addWrap_canonical (flag_canonical (linCount_canonical h0))
    exact canonical_ite (canonical_ite h2 (ctxFail_canonical h2))
      (canonical_ite (linEncap_canonical (frNotify_canonical (linCount_canonical (set_canonical h0))))
      (linEncap_canonical (frNotify_canonical
      (canonical_ite (set_canonical (setReg_canonical (canonical_ite (flag_canonical hu) hu)))
      (linCount_canonical h0)))))

theorem execLinResponseTimeout_canonical {m} : staysCanonical (execLinResponseTimeout m s) := by
  unfold execLinResponseTimeout
  extract_lets
  split
  · exact hs
  · exact canonical_ite (ctxFail_canonical (linError_canonical (setLin_canonical hs))) hs

theorem execLinIdleTimeout_canonical {m} : staysCanonical (execLinIdleTimeout m s) := by
  unfold execLinIdleTimeout
  exact canonical_ite (raiseFree_canonical (setLin_canonical hs)) hs

/-! ### VaultKeys: the strongroom's slots -/

theorem setAttr_canonical {kid v} : (setAttr kid v s).canonical := by
  unfold setAttr
  exact set_canonical (setReg_canonical hs)

theorem setSlot_canonical {kid f n} : (setSlot kid f n s).canonical := by
  unfold setSlot
  exact setAttr_canonical hs

theorem setSlotKey_canonical {kid k} : (setSlotKey kid k s).canonical := by
  unfold setSlotKey
  exact canonical_mk hs

theorem orphanFrom_canonical {fuel kids} : (orphanFrom fuel kids s).canonical := by
  induction fuel generalizing kids s with
  | zero => exact hs
  | succ fuel ih =>
    unfold orphanFrom
    exact canonical_ite hs (ih (canonical_foldl (fun _ _ hu => setSlot_canonical hu) hs))

theorem orphanChildren_canonical {kid} : (orphanChildren kid s).canonical := by
  unfold orphanChildren
  exact orphanFrom_canonical hs

theorem eraseSlot_canonical {kid} : (eraseSlot kid s).canonical := by
  unfold eraseSlot
  exact orphanChildren_canonical (setSlotKey_canonical (setAttr_canonical hs))

theorem retireSlot_canonical {kid} : (retireSlot kid s).canonical := by
  unfold retireSlot
  exact orphanChildren_canonical (setSlot_canonical hs)

theorem eraseDerived_canonical : (eraseDerived s).canonical := by
  unfold eraseDerived
  exact canonical_foldl (fun _ _ ht => setSlotKey_canonical (setAttr_canonical ht)) hs

/-! ### Switch: the circulation switch and the Ethernet ports -/

theorem ethEvent_canonical {p k} : (ethEvent p k s).canonical := by
  unfold ethEvent
  exact raiseFree_canonical hs

theorem setPortState_canonical {p st} : (setPortState p st s).canonical := by
  unfold setPortState
  exact raiseLib_canonical (set_canonical hs)

theorem execGateListChange_canonical {p} : staysCanonical (execGateListChange p s) := by
  unfold execGateListChange
  exact canonical_ite (ethEvent_canonical
    (setPort_canonical (setPort_canonical
    (set_canonical (set_canonical (canonical_foldl (fun _ _ ht => setReg_canonical ht) hs)))))) hs

theorem gateChange_canonical {p} : (gateChange p s).canonical := by
  unfold gateChange
  extract_lets _ _ _ _ _ s1
  have h1 : s1.canonical := set_canonical (setPort_canonical hs)
  exact canonical_ite (ethEvent_canonical h1) h1

theorem formCells_canonical {fuel num fin bad} : (formCells fuel num fin bad s).canonical := by
  induction fuel generalizing s with
  | zero => exact hs
  | succ fuel ih =>
    unfold formCells
    split
    · exact hs
    · exact canonical_ite hs (canonical_ite
        (canonical_ite (ethCount_canonical (putCopy_canonical hs)) (ih (putCopy_canonical hs)))
        (canonical_ite (putCopy_canonical hs) hs))

theorem newNum_canonical : (newNum s).2.canonical := by
  unfold newNum
  exact canonical_mk hs

theorem passIsolation_canonical {vid da l} : (passIsolation vid da l s).2.canonical := by
  induction l generalizing s with
  | nil => exact hs
  | cons q l ih =>
    unfold passIsolation
    dsimp only
    exact ih (canonical_ite_snd (isolate_canonical hs) hs)

theorem formCopies_canonical {p cl ds x rec_ proto} : (formCopies p cl ds x rec_ proto s).canonical := by
  unfold formCopies
  split
  rename_i heq
  refine canonical_foldl (fun _ _ hu => ?_) (canonical_of_snd heq (newNum_canonical hs))
  split
  rename_i heq'
  exact canonical_mk (canonical_of_snd heq' (newNum_canonical hu))

theorem directCopies_canonical {p tc ds x proto} : (directCopies p tc ds x proto s).canonical := by
  unfold directCopies
  split
  rename_i heq
  refine canonical_foldl (fun _ _ hu => ?_) (canonical_of_snd heq (newNum_canonical hs))
  split
  rename_i heq'
  exact canonical_mk (canonical_of_snd heq' (newNum_canonical hu))

theorem localCopy_canonical {p x tc proto} : (localCopy p x tc proto s).canonical := by
  unfold localCopy
  extract_lets
  refine canonical_ite hs (canonical_ite hs ?_)
  split
  rename_i heq
  split
  rename_i heq'
  exact canonical_mk (canonical_of_snd heq' (newNum_canonical (canonical_of_snd heq (newNum_canonical hs))))

theorem formAll_canonical {p fin bad} : (formAll p fin bad s).canonical := by
  unfold formAll
  exact canonical_foldl (fun _ _ ht => formCells_canonical ht) hs

theorem closeOpen_canonical {p} : (closeOpen p s).canonical := by
  unfold closeOpen
  exact formAll_canonical hs

theorem msCount_canonical {u j} : (msCount u j s).canonical := by
  unfold msCount
  exact bump_canonical hs

theorem msReceive_canonical {u x} : (msReceive u x s).2.canonical := by
  unfold msReceive
  extract_lets
  refine canonical_ite_snd hs ?_
  split
  · exact canonical_ite_snd (msCount_canonical hs) hs
  · exact canonical_ite_snd (msCount_canonical hs)
      (canonical_ite_snd (msCount_canonical hs)
      (canonical_ite_snd (canonical_ite_snd (msCount_canonical hs) (canonical_ite_snd (msCount_canonical hs) hs))
      (msCount_canonical (setReg_canonical hs))))

theorem msThreshold_canonical {u} : (msThreshold u s).canonical := by
  unfold msThreshold
  exact canonical_ite (ethEvent_canonical hs) (raiseLib_canonical hs)

theorem msTransmit_canonical {u} : (msTransmit u s).canonical := by
  unfold msTransmit
  exact canonical_ite hs (canonical_ite (msThreshold_canonical (msCount_canonical (setReg_canonical hs)))
    (msCount_canonical (setReg_canonical hs)))

theorem classifyFirst_canonical {p x whole} : (classifyFirst p x whole s).1.canonical := by
  unfold classifyFirst
  extract_lets
  refine canonical_ite_fst (ethCount_canonical hs)
    (canonical_ite_fst (ethCount_canonical hs) (canonical_ite_fst (localCopy_canonical hs) ?_))
  split
  rename_i heq
  exact formCopies_canonical (canonical_of_snd heq (passIsolation_canonical hs))

theorem rxCount_canonical {p n} : (rxCount p n s).canonical := by
  unfold rxCount
  exact setReg_canonical (ethCount_canonical hs)

theorem wireIn_canonical {p x fin bad sec} : (wireIn p x fin bad sec s).canonical := by
  unfold wireIn
  extract_lets
  refine canonical_ite hs ?_
  split
  rename_i heq
  have ht := canonical_of_fst heq (by
    split
    · split
      rename_i heq
      exact canonical_of_fst heq (classifyFirst_canonical hs)
    · exact canonical_mk hs)
  extract_lets
  split
  rename_i heq'
  extract_lets _ _ _ s4
  have h4 : s4.canonical := formAll_canonical
    (setPort_canonical (canonical_of_snd heq' (canonical_ite_snd (msReceive_canonical ht) ht)))
  exact canonical_ite (canonical_ite (ctxFail_canonical (ethCount_canonical (rxCount_canonical h4)))
    (rxCount_canonical h4)) h4

theorem catSend_canonical {x rec_} : (catSend x rec_ s).canonical := by
  unfold catSend
  extract_lets
  refine canonical_ite (ethCount_canonical (rxCount_canonical hs)) ?_
  split
  rename_i heq
  have ht := canonical_of_snd heq (passIsolation_canonical (rxCount_canonical hs))
  extract_lets s2
  have h2 : s2.canonical := by
    unfold s2
    split
    · exact ht
    · exact set_canonical (set_canonical (setReg_canonical ht))
  exact canonical_ite ht (formAll_canonical (formCopies_canonical h2))

theorem catpIn_canonical : (catpIn s).canonical := by
  unfold catpIn
  extract_lets
  split
  · exact hs
  · extract_lets pop
    have hpop : pop.canonical := canonical_mk hs
    refine canonical_ite hs (canonical_ite (catSend_canonical hpop) (canonical_ite hs ?_))
    split
    · exact canonical_ite (ethCount_canonical hpop) (catSend_canonical hpop)
    · exact canonical_ite (raiseFree_canonical (canonical_mk (canonical_mk hs))) (canonical_mk hs)

theorem execCopyRecordWaitEnd_canonical : staysCanonical (execCopyRecordWaitEnd s) := by
  unfold execCopyRecordWaitEnd
  extract_lets
  split
  · exact canonical_ite (canonical_ite (ethCount_canonical (canonical_mk hs)) (catSend_canonical (canonical_mk hs))) hs
  · exact hs

theorem internalIn_canonical {p} : (internalIn p s).canonical := by
  unfold internalIn
  extract_lets
  refine canonical_ite hs (canonical_ite (catpIn_canonical hs) ?_)
  split
  · split
    · exact hs
    · extract_lets s0
      have h0 : s0.canonical := rxCount_canonical (canonical_mk hs)
      refine canonical_ite (ethCount_canonical h0) ?_
      split
      rename_i heq'
      exact formAll_canonical (formCopies_canonical (canonical_of_snd heq' (passIsolation_canonical h0)))
  · refine canonical_ite ?_ hs
    split
    · exact hs
    · extract_lets
      split
      rename_i heq'
      exact formAll_canonical (directCopies_canonical
        (canonical_of_snd heq' (passIsolation_canonical (rxCount_canonical (canonical_mk hs)))))

theorem execSyncRelay_canonical {d x ago} : staysCanonical (execSyncRelay d x ago s) := by
  unfold execSyncRelay
  extract_lets _ _ _ _ _ _ s1
  have h1 : s1.canonical := formAll_canonical (localCopy_canonical (noteSync_canonical hs))
  refine canonical_ite hs (canonical_ite ?_ h1)
  split
  rename_i heq
  extract_lets s3
  have h3 : s3.canonical := by
    unfold s3
    refine canonical_foldl (fun _ _ hu => ?_) (canonical_of_snd heq (newNum_canonical h1))
    split
    rename_i heq'
    exact canonical_mk (canonical_of_snd heq' (newNum_canonical hu))
  exact formAll_canonical h3

theorem execCellAdmission_canonical {i} : staysCanonical (execCellAdmission i s) := by
  unfold execCellAdmission
  extract_lets
  refine canonical_ite hs ?_
  split
  · exact hs
  · exact setPort_canonical (canonical_mk (putCopy_canonical hs))

theorem tailDrop_canonical {c} : (tailDrop c s).canonical := by
  unfold tailDrop
  extract_lets _ s2
  have h2 : s2.canonical := endCopy_canonical
    (canonical_ite (ethCount_canonical (bump_canonical hs)) (bump_canonical hs))
  exact canonical_ite (ethEvent_canonical (setPort_canonical h2)) h2

theorem fabricFault_canonical : (fabricFault s).canonical := by
  unfold fabricFault
  split
  rename_i heq
  have ht := canonical_of_snd heq (drawFree_canonical hs)
  exact canonical_ite (archive_canonical ht)
    (canonical_foldl (fun _ _ hu => ctxFail_canonical hu) (closeTile_canonical (fault_canonical ht)))

theorem execCellRelease_canonical {o i} : staysCanonical (execCellRelease o i s) := by
  unfold execCellRelease
  extract_lets
  split
  · exact hs
  · split
    · exact hs
    · exact canonical_ite hs (canonical_ite (canonical_ite hs (fabricFault_canonical hs))
        (canonical_ite (dropCopy_canonical hs)
        (canonical_ite (canonical_ite (tailDrop_canonical hs)
        (canonical_ite (raiseFree_canonical (canonical_mk (putCopy_canonical hs)))
        (canonical_mk (putCopy_canonical hs))))
        (canonical_ite (canonical_ite (putCopy_canonical hs) (tailDrop_canonical hs))
        (canonical_ite (raiseFree_canonical (canonical_mk (putCopy_canonical hs)))
        (canonical_mk (putCopy_canonical hs)))))))

theorem startCopy_canonical {c} : (startCopy c s).canonical := by
  unfold startCopy
  exact canonical_ite (dropCopy_canonical hs) (putCopy_canonical (canonical_ite (msTransmit_canonical hs) hs))

theorem finishCopy_canonical {c} : (finishCopy c s).2.canonical := by
  unfold finishCopy
  extract_lets _ _ s1
  have h1 : s1.canonical := canonical_ite (ethCount_canonical hs) hs
  exact endCopy_canonical (canonical_ite (ethCount_canonical (canonical_ite (ethCount_canonical h1) h1))
    (setReg_canonical (ethCount_canonical h1)))

theorem execAgingPromotion_canonical {o tc} : staysCanonical (execAgingPromotion o tc s) := by
  unfold execAgingPromotion
  extract_lets
  refine canonical_ite hs ?_
  split
  · exact hs
  · exact putCopy_canonical (bump_canonical hs)

theorem flushPort_canonical {p} : (flushPort p s).canonical := by
  unfold flushPort
  exact ethEvent_canonical (setPortState_canonical (canonical_foldl (fun _ _ ht => dropCopy_canonical ht) hs))

theorem portLeaves_canonical {p lost} : (portLeaves p lost s).canonical := by
  unfold portLeaves
  extract_lets s1 _ _ _ _ s3
  have h1 : s1.canonical := by
    unfold s1
    split
    · exact hs
    · exact canonical_ite (dropCopy_canonical hs) (putCopy_canonical hs)
  have h3 : s3.canonical := setPortState_canonical
    (setPort_canonical (ctxFail_canonical (setPort_canonical (closeOpen_canonical h1))))
  exact canonical_ite (flushPort_canonical h3) h3

theorem portReturns_canonical {p} : (portReturns p s).canonical := by
  unfold portReturns
  exact canonical_ite (setPortState_canonical hs) hs

theorem execEthLinkLoss_canonical {p} : staysCanonical (execEthLinkLoss p s) := by
  unfold execEthLinkLoss
  extract_lets _ s2
  have h2 : s2.canonical := canonical_ite (portLeaves_canonical (set_canonical hs)) (set_canonical hs)
  exact canonical_ite (sessionsStop_canonical h2) h2

theorem execEthLinkUp_canonical {p speed} : staysCanonical (execEthLinkUp p speed s) := by
  unfold execEthLinkUp
  exact portReturns_canonical (set_canonical (set_canonical hs))

theorem execGraceExpiry_canonical {p} : staysCanonical (execGraceExpiry p s) := by
  unfold execGraceExpiry
  exact canonical_ite (flushPort_canonical hs) hs

theorem execPlcaBeacon_canonical {p} : staysCanonical (execPlcaBeacon p s) := by
  unfold execPlcaBeacon
  exact setPort_canonical (ethCount_canonical (set_canonical hs))

theorem execPlcaBeaconTimeout_canonical {p} : staysCanonical (execPlcaBeaconTimeout p s) := by
  unfold execPlcaBeaconTimeout
  exact canonical_ite (ethEvent_canonical (set_canonical hs)) hs

theorem setEnc_canonical {e x} : (State.setEnc s e x).canonical := by
  unfold State.setEnc
  exact canonical_mk hs

theorem encSend_canonical {e} : (encSend e s).canonical := by
  unfold encSend
  extract_lets
  split
  rename_i heq
  exact canonical_mk (setEnc_canonical (addSat_canonical (canonical_of_snd heq (drawFree_canonical hs))))

theorem execEncapMessage_canonical : staysCanonical (execEncapMessage s) := by
  unfold execEncapMessage
  extract_lets
  split
  · exact hs
  · extract_lets _ _ s1
    have h1 : s1.canonical := setEnc_canonical (addSat_canonical (canonical_mk hs))
    exact canonical_ite (canonical_mk hs) (canonical_ite (encSend_canonical h1) h1)

theorem execEncapGatherExpiry_canonical {e} : staysCanonical (execEncapGatherExpiry e s) := by
  unfold execEncapGatherExpiry
  exact canonical_ite hs (canonical_ite (encSend_canonical hs) hs)

theorem execDecapMessage_canonical {stream ty bus id data} :
    staysCanonical (execDecapMessage stream ty bus id data s) := by
  unfold execDecapMessage
  extract_lets d
  clear_value d
  refine canonical_ite hs ?_
  split
  · exact raiseFree_canonical hs
  · exact canonical_ite (raiseFree_canonical (addSat_canonical hs))
      (canonical_ite (canTunnel_canonical hs) (linTunnel_canonical hs))

theorem execMdioFrameDone_canonical {n rdata} : staysCanonical (execMdioFrameDone n rdata s) := by
  unfold execMdioFrameDone
  exact canonical_ite (canonical_ite (set_canonical (set_canonical hs)) (set_canonical hs)) hs

theorem circActs_canonical {a w} : (circActs a w s).canonical := by
  unfold circActs
  exact canonical_ite (canonical_ite (canonical_mk hs) (canonical_ite (setReg_canonical (setReg_canonical hs)) hs)) hs

theorem ethActs_canonical {a old w} : (ethActs a old w s).canonical := by
  unfold ethActs
  extract_lets _ _ _ _ s2
  have h2 : s2.canonical := canonical_foldl (fun _ _ ht => setReg_canonical (setReg_canonical ht))
    (canonical_foldl (fun _ _ ht => setReg_canonical ht) hs)
  exact canonical_ite (canonical_ite
    (canonical_ite (canonical_ite (portLeaves_canonical hs) hs) (canonical_ite (portReturns_canonical hs) hs))
    (canonical_ite (set_canonical hs)
    (canonical_ite (canonical_ite (canonical_ite (canonical_mk (setPort_canonical h2)) (setPort_canonical h2)) hs)
    (canonical_ite (canonical_ite (gateChange_canonical hs) hs) hs))))
    (canonical_ite (canonical_ite (set_canonical hs) hs) hs)

theorem macsecActs_canonical {a w} : (macsecActs a w s).canonical := by
  unfold macsecActs
  exact canonical_ite (canonical_foldl (fun _ _ ht => setReg_canonical ht) hs) hs

/-! ### NetSleep: network sleep -/

theorem setWingState_canonical {w st} : (setWingState w st s).canonical := by
  unfold setWingState
  exact raiseTo_canonical (canonical_ite (set_canonical hs) (setReg_canonical (set_canonical hs)))

theorem noteUp_canonical {w} : (noteUp w s).canonical := by
  unfold noteUp
  exact canonical_foldl (fun _ _ ht => setBit_canonical ht) hs

theorem enterAwake_canonical {w fresh} : (enterAwake w fresh s).canonical := by
  unfold enterAwake
  exact setWingState_canonical (setWing_canonical hs)

theorem sendToken_canonical {w g code next consent lockup} : (sendToken w g code next consent lockup s).canonical := by
  unfold sendToken
  exact canonical_mk hs

theorem sendAborts_canonical {w} : (sendAborts w s).canonical := by
  unfold sendAborts
  exact canonical_foldl (fun _ _ ht => canonical_ite ht (sendToken_canonical ht)) hs

theorem enterLockup_canonical {w overruled} : (enterLockup w overruled s).canonical := by
  unfold enterLockup
  exact setWingState_canonical (canonical_foldl (fun _ _ ht => sendToken_canonical ht)
    (setBit_canonical (setReg_canonical (setWing_canonical hs))))

theorem tryComplete_canonical {w} : (tryComplete w s).canonical := by
  unfold tryComplete
  exact canonical_ite (enterLockup_canonical (addSat_canonical hs)) hs

theorem enterClosing_canonical {w} : (enterClosing w s).canonical := by
  unfold enterClosing
  extract_lets _ _ s2
  have h2 : s2.canonical := by
    unfold s2
    refine canonical_foldl (fun _ _ ht => ?_) (setWingState_canonical (addWrap_canonical hs))
    extract_lets _ _ t1
    have ht1 : t1.canonical := set_canonical (set_canonical ht)
    exact canonical_ite ht1 (sendToken_canonical ht1)
  exact tryComplete_canonical (setWing_canonical h2)

theorem tryClosing_canonical {w} : (tryClosing w s).canonical := by
  unfold tryClosing
  exact canonical_ite (enterClosing_canonical hs) hs

theorem roundFail_canonical {w g reason node} : (roundFail w g reason node s).canonical := by
  unfold roundFail
  exact enterAwake_canonical (raiseTo_canonical
    (setWing_canonical (addSat_canonical (sendAborts_canonical (setWing_canonical hs)))))

theorem execTokenReceived_canonical {g node body} : staysCanonical (execTokenReceived g node body s) := by
  unfold execTokenReceived
  extract_lets _ _ _ _ s1
  have h1 : s1.canonical := set_canonical hs
  split
  · exact hs
  · exact canonical_ite hs (canonical_ite (addSat_canonical hs)
      (canonical_ite hs (canonical_ite (roundFail_canonical hs)
      (canonical_ite (canonical_ite (canonical_ite (tryComplete_canonical (setWing_canonical h1))
      (roundFail_canonical h1)) (setWing_canonical (set_canonical h1))) hs))))

theorem execHopTimeout_canonical {g} : staysCanonical (execHopTimeout g s) := by
  unfold execHopTimeout
  split
  · exact hs
  · split
    · exact hs
    · exact canonical_ite (roundFail_canonical hs) hs

theorem segSleep_canonical {g} : (segSleep g s).canonical := by
  unfold segSleep
  extract_lets s0
  have h0 : s0.canonical := set_canonical hs
  exact canonical_ite (canonical_foldl
    (fun _ _ ht => canonical_ite ht (canonical_ite (abortReq_canonical ht) (failReq_canonical ht))) h0)
    (canonical_ite (setLin_canonical h0) (canonical_ite (portLeaves_canonical h0) h0))

theorem execLockupInstant_canonical {w} : staysCanonical (execLockupInstant w s) := by
  unfold execLockupInstant
  exact canonical_ite hs (canonical_foldl (fun _ _ ht => segSleep_canonical ht)
    (setWingState_canonical (notifyAll_canonical hs)))

theorem segRelease_canonical {g} : (segRelease g s).canonical := by
  unfold segRelease
  exact canonical_ite hs (canonical_ite (setLin_canonical hs) (portReturns_canonical hs))

theorem enterWaking_canonical {w src} : (enterWaking w src s).canonical := by
  unfold enterWaking
  extract_lets _ _ s2
  have h2 : s2.canonical := canonical_foldl (fun _ _ ht => segRelease_canonical ht)
    (setWingState_canonical (setWing_canonical (set_canonical hs)))
  exact canonical_ite (canonical_mk (setBit_canonical (set_canonical h2))) h2

theorem segUp_canonical {g} : (segUp g s).canonical := by
  unfold segUp
  extract_lets
  split
  · exact hs
  · extract_lets s2
    have h2 : s2.canonical := canonical_ite (sendToken_canonical (set_canonical hs)) (set_canonical hs)
    exact canonical_ite (enterAwake_canonical h2) h2

theorem execSegmentUp_canonical {g} : staysCanonical (execSegmentUp g s) := by
  unfold execSegmentUp
  split
  · exact hs
  · exact canonical_ite (segUp_canonical hs) hs

theorem execLinWakeResume_canonical {m} : staysCanonical (execLinWakeResume m s) := by
  unfold execLinWakeResume
  extract_lets
  split
  · exact hs
  · exact canonical_ite hs (segUp_canonical (setLin_canonical (set_canonical hs)))

theorem execWakeTmoExpiry_canonical {w} : staysCanonical (execWakeTmoExpiry w s) := by
  unfold execWakeTmoExpiry
  exact canonical_ite (enterAwake_canonical (flagBits_canonical hs)) hs

theorem execWakeRequest_canonical {w} : staysCanonical (execWakeRequest w s) := by
  unfold execWakeRequest
  extract_lets
  split
  · exact hs
  · extract_lets s0 _ s1
    have h0 : s0.canonical := setWing_canonical hs
    have h1 : s1.canonical := set_canonical (sendAborts_canonical h0)
    refine canonical_ite hs ?_
    split
    · exact enterAwake_canonical (set_canonical (sendAborts_canonical h0))
    · exact canonical_ite hs (canonical_ite h0
        (canonical_ite (enterAwake_canonical h1) (enterAwake_canonical (addSat_canonical h1))))
    · exact enterWaking_canonical h0
    · exact h0

theorem execOverrule_canonical {w} : staysCanonical (execOverrule w s) := by
  unfold execOverrule
  extract_lets
  refine canonical_ite hs ?_
  split
  rename_i heq
  exact enterLockup_canonical (addSat_canonical
    (raiseTo_canonical (canonical_of_snd heq
    (drawFree_canonical (canonical_foldl (fun _ _ ht => archive_canonical (seen_canonical ht))
    (setWing_canonical (canonical_ite (sendAborts_canonical hs) hs)))))))

theorem wakeSource_canonical {src pay} : (wakeSource src pay s).canonical := by
  unfold wakeSource
  extract_lets _ _ s0
  have h0 : s0.canonical := canonical_ite (canonical_mk hs) hs
  exact canonical_ite (canonical_ite (canonical_mk h0) (addSat_canonical h0))
    (canonical_ite hs (queueWake_canonical (powerRaise_canonical hs)))

theorem wakeFree_canonical {src} : (wakeFree src s).canonical := by
  unfold wakeFree
  split
  rename_i heq
  exact wakeSource_canonical (canonical_of_snd heq (drawFree_canonical hs))

theorem execWakePinEdge_canonical {k rising lvl} : staysCanonical (execWakePinEdge k rising lvl s) := by
  unfold execWakePinEdge
  exact canonical_ite hs (canonical_ite (wakeFree_canonical hs)
    (canonical_ite (wakeFree_canonical (set_canonical hs)) (set_canonical hs)))

theorem execSelectiveWakeMatch_canonical {n id ide rtr dlc data} :
    staysCanonical (execSelectiveWakeMatch n id ide rtr dlc data s) := by
  unfold execSelectiveWakeMatch
  exact canonical_ite hs (canonical_ite (wakeSource_canonical (addSat_canonical (flag_canonical (set_canonical hs))))
    (set_canonical hs))

theorem execSwDecodeError_canonical {n} : staysCanonical (execSwDecodeError n s) := by
  unfold execSwDecodeError
  extract_lets
  refine canonical_ite hs (canonical_ite (addWrap_canonical hs) ?_)
  split
  rename_i heq
  exact wakeSource_canonical (flag_canonical (set_canonical (canonical_of_snd heq (drawFree_canonical hs))))

theorem execLinWakePulse_canonical {m} : staysCanonical (execLinWakePulse m s) := by
  unfold execLinWakePulse
  exact canonical_ite (wakeFree_canonical hs) hs

theorem execAonTimerExpiry_canonical : staysCanonical (execAonTimerExpiry s) := by
  unfold execAonTimerExpiry
  extract_lets
  split
  · exact canonical_ite (wakeFree_canonical (setReg_canonical (canonical_mk hs))) hs
  · exact hs

theorem wingDisable_canonical {w} : (wingDisable w s).canonical := by
  unfold wingDisable
  exact canonical_foldl (fun _ _ ht => canonical_ite ht
    (canonical_ite (setLin_canonical ht) (portReturns_canonical ht))) (setWingState_canonical (setWing_canonical hs))

theorem nmActs_canonical {a old w} : (nmActs a old w s).canonical := by
  unfold nmActs
  extract_lets +onlyGivenNames o
  split
  · split
    · extract_lets +onlyGivenNames s1 s2
      have h1 : s1.canonical := canonical_foldl (fun _ _ ht => set_canonical (set_canonical ht)) hs
      have h2 : s2.canonical := canonical_foldl (fun _ _ ht => setReg_canonical ht) h1
      exact canonical_foldl (fun _ _ ht => set_canonical ht) h2
    · exact hs
  · split
    · extract_lets +onlyGivenNames k
      split
      · exact canonical_ite (tryClosing_canonical (enterAwake_canonical (noteUp_canonical (setWing_canonical hs))))
          (canonical_ite (wingDisable_canonical hs) hs)
      · extract_lets +onlyGivenNames s1
        have h1 : s1.canonical := canonical_ite (tryClosing_canonical hs)
          (canonical_ite (enterAwake_canonical (sendAborts_canonical hs)) hs)
        exact canonical_ite (wingRequest_canonical h1) h1
      · exact hs
    · exact canonical_ite (canonical_foldl (fun _ _ ht => queueWake_canonical (powerDeliver_canonical ht))
        (canonical_mk hs)) hs

/-! ### TimeCmd: the events of the clocks, the almanac and the time triggers -/

theorem gtcFault_canonical : (gtcFault s).canonical := by
  unfold gtcFault
  split
  rename_i heq
  exact fault_canonical (canonical_of_snd heq (drawFree_canonical hs))

theorem execGtcCounterMismatch_canonical {flip} : staysCanonical (execGtcCounterMismatch flip s) := by
  unfold execGtcCounterMismatch
  exact canonical_ite (gtcFault_canonical (canonical_mk hs)) (canonical_mk hs)

theorem execPllLossOfLock_canonical {p} : staysCanonical (execPllLossOfLock p s) := by
  unfold execPllLossOfLock
  exact canonical_ite (gtcFault_canonical hs) hs

theorem execReferenceClockLoss_canonical : staysCanonical (execReferenceClockLoss s) := by
  unfold execReferenceClockLoss
  exact canonical_ite (gtcFault_canonical hs) hs

theorem execAlignmentWord_canonical {dev} : staysCanonical (execAlignmentWord dev s) := by
  unfold execAlignmentWord
  exact canonical_ite (canonical_ite (gtcFault_canonical (set_canonical hs)) (set_canonical hs)) hs

theorem execPwrCopyHoldEnd_canonical : staysCanonical (execPwrCopyHoldEnd s) := by
  unfold execPwrCopyHoldEnd
  exact canonical_ite (canonical_mk (set_canonical hs)) hs

theorem alignCopy_canonical : (alignCopy s).canonical := by
  unfold alignCopy
  exact canonical_ite (canonical_mk hs) (set_canonical hs)

theorem execNightCrystalFail_canonical : staysCanonical (execNightCrystalFail s) := by
  unfold execNightCrystalFail
  exact canonical_ite hs (canonical_ite (faultNoSrc_canonical (set_canonical hs)) (canonical_mk (set_canonical hs)))

theorem almAdvance_canonical {ns} : (almAdvance ns s).canonical := by
  unfold almAdvance
  extract_lets _ _ _ s1
  have h1 : s1.canonical := by
    unfold s1
    split
    · exact canonical_mk hs
    · exact hs
  exact flag_canonical h1

theorem coarseEnter_canonical : (coarseEnter s).canonical := by
  unfold coarseEnter
  exact canonical_ite hs (canonical_mk (set_canonical hs))

theorem execGtcReconcile_canonical : staysCanonical (execGtcReconcile s) := by
  unfold execGtcReconcile
  extract_lets
  split
  · exact canonical_ite (almAdvance_canonical (canonical_mk hs)) (canonical_mk hs)
  · exact hs

theorem execSyncLossTimeout_canonical : staysCanonical (execSyncLossTimeout s) := by
  unfold execSyncLossTimeout
  exact canonical_ite (flag_canonical hs) hs

theorem execPpsCapture_canonical {rising} : staysCanonical (execPpsCapture rising s) := by
  unfold execPpsCapture
  exact canonical_ite (raiseFree_canonical
    (canonical_mk (setReg_canonical (setReg_canonical (setReg_canonical (canonical_ite (flag_canonical hs) hs)))))) hs

theorem execTriggerFire_canonical {n} : staysCanonical (execTriggerFire n s) := by
  unfold execTriggerFire
  exact canonical_ite (trgFire_canonical (canonical_mk hs)) hs

theorem execPulseEnd_canonical {n} : staysCanonical (execPulseEnd n s) := by
  unfold execPulseEnd
  exact canonical_ite (endPulse_canonical hs) hs

/-! ### FaultCmd: faults, SAFE_N and the die-to-die link -/

theorem execSafeNFall_canonical : staysCanonical (execSafeNFall s) := by
  unfold execSafeNFall
  exact canonical_ite hs (canonical_mk hs)

theorem execSafeNRecognised_canonical : staysCanonical (execSafeNRecognised s) := by
  unfold execSafeNRecognised
  extract_lets _ s1
  have h1 : s1.canonical := relayTwin_canonical (powerRaise_canonical (canonical_mk hs))
  exact canonical_ite (canonical_ite (forceSafe_canonical h1) h1) hs

theorem execSafeNRise_canonical : staysCanonical (execSafeNRise s) := by
  unfold execSafeNRise
  exact canonical_ite (powerRaise_canonical (canonical_mk hs)) (canonical_mk hs)

theorem faultActs_canonical {a old} : (faultActs a old s).canonical := by
  unfold faultActs
  exact canonical_ite (forceSafe_canonical hs) hs

theorem linkLost_canonical : (linkLost s).canonical := by
  unfold linkLost
  exact canonical_ite hs (canonical_ite (canonical_mk hs) (leaseStart_canonical (canonical_mk hs)))

theorem execD2dLinkDown_canonical : staysCanonical (execD2dLinkDown s) := by
  unfold execD2dLinkDown
  extract_lets
  refine canonical_ite hs (canonical_ite (linkLost_canonical hs) ?_)
  split
  rename_i heq
  exact fault_canonical (canonical_of_snd heq (drawFree_canonical (linkLost_canonical hs)))

theorem execD2dLinkUp_canonical : staysCanonical (execD2dLinkUp s) := by
  unfold execD2dLinkUp
  exact canonical_ite hs (canonical_ite (canonical_mk hs)
    (deliverHeld_canonical (resendAll_canonical (alignCopy_canonical (canonical_mk hs)))))

theorem tileFault_canonical {t u} : (tileFault t u s).canonical := by
  unfold tileFault
  extract_lets
  split
  · split
    rename_i heq
    exact archive_canonical (canonical_of_snd heq (drawFree_canonical hs))
  · split
    · exact pairTileFault_canonical hs
    · refine canonical_ite (tileFaultOff_canonical (closeTile_canonical (powerFault_canonical hs))) ?_
      split
      rename_i heq'
      split
      rename_i heq''
      exact canonical_foldl (fun _ _ hv => ctxFail_canonical hv)
        (closeTile_canonical (fault_canonical
        (canonical_of_snd heq'' (drawFree_canonical (canonical_of_snd heq' (drawFree_canonical hs))))))

theorem execParityMismatch_canonical {t u} : staysCanonical (execParityMismatch t u s) := by
  unfold execParityMismatch
  exact canonical_ite hs (tileFault_canonical hs)

/-! ### StkCmd: stacks, fill, scrub, archive and xSPI -/

theorem fillRange_canonical {lo n} : (fillRange lo n s).canonical := by
  unfold fillRange
  extract_lets keep
  exact canonical_mk (canonical_keepMem (keep := keep) hs)

theorem fillPages_canonical {ps} : (fillPages ps s).canonical := by
  unfold fillPages
  exact canonical_foldl (fun _ _ ht => canonical_ite ht (fillRange_canonical ht)) hs

theorem markFill_canonical : (markFill s).canonical := by
  unfold markFill
  exact setBit_canonical hs

theorem execFillComplete_canonical {failing} : staysCanonical (execFillComplete failing s) := by
  unfold execFillComplete
  split
  · exact hs
  · extract_lets _ _ _ _ s2 _ t
    have h2 : s2.canonical := markFill_canonical (canonical_mk (fillPages_canonical hs))
    have ht : t.canonical := set_canonical (set_canonical h2)
    exact raiseLib_canonical (canonical_ite (canonical_ite (set_canonical ht) (flag_canonical ht)) h2)

theorem execBankFillDone_canonical {b} : staysCanonical (execBankFillDone b s) := by
  unfold execBankFillDone
  exact canonical_ite (markFill_canonical (fillPages_canonical (canonical_mk hs))) hs

theorem execCorrectionWrite_canonical {a} : staysCanonical (execCorrectionWrite a s) := by
  unfold execCorrectionWrite
  extract_lets
  refine canonical_ite ?_ hs
  split
  · exact wrMem_canonical hs
  · exact canonical_mk hs

theorem archDamaged_canonical {i} : (archDamaged i s).canonical := by
  unfold archDamaged
  exact canonical_ite (raiseLib_canonical (canonical_mk (addSat_canonical hs))) (canonical_mk (addSat_canonical hs))

theorem execScrubRead_canonical {a flips last} : staysCanonical (execScrubRead a flips last s) := by
  unfold execScrubRead
  extract_lets _ s0
  have h0 : s0.canonical := canonical_ite (addWrap_canonical hs) hs
  refine canonical_ite hs ?_
  split
  · split
    · exact h0
    · exact faultNoSrc_canonical h0
    · exact archDamaged_canonical h0
  · refine canonical_ite h0 ?_
    split
    rename_i heq
    have ht := canonical_of_snd heq (readArray_canonical (setEcc_canonical h0))
    exact canonical_ite (canonical_foldl (fun _ _ hu => ctxFail_canonical hu) ht) ht

theorem archWrite_canonical {e} : (archWrite e s).canonical := by
  unfold archWrite
  exact canonical_mk (set_canonical (canonical_ite (addSat_canonical hs) (set_canonical hs)))

theorem execArchiveEntryWrite_canonical : staysCanonical (execArchiveEntryWrite s) := by
  unfold execArchiveEntryWrite
  extract_lets
  split
  · exact hs
  · extract_lets _ _ _ s2
    have h2 : s2.canonical := archWrite_canonical (addWrap_canonical (canonical_mk hs))
    exact canonical_ite hs (canonical_ite (addSat_canonical h2) h2)

theorem archActs_canonical {a w} : (archActs a w s).canonical := by
  unfold archActs
  extract_lets _ _ s1
  have h1 : s1.canonical := canonical_ite (canonical_mk (setReg_canonical (set_canonical hs))) hs
  exact canonical_ite (canonical_ite (canonical_mk h1) h1) (canonical_ite (archive_canonical hs) hs)

theorem stkActs_canonical {a old w} : (stkActs a old w s).canonical := by
  unfold stkActs
  exact canonical_ite (canonical_ite (markFill_canonical (canonical_mk hs)) hs)
    (canonical_ite (markFill_canonical (canonical_mk hs))
    (canonical_ite (canonical_ite (setReg_canonical (canonical_foldl (fun _ _ ht => setReg_canonical ht) hs)) hs)
    (canonical_ite (canonical_ite (canonical_mk (set_canonical hs)) hs)
    (canonical_ite (canonical_ite (canonical_mk (set_canonical hs)) hs) hs))))

theorem execXspiCommandDone_canonical {ok data chg} : staysCanonical (execXspiCommandDone ok data chg s) := by
  unfold execXspiCommandDone
  extract_lets _ _ _ s1
  have h1 : s1.canonical := canonical_mk (set_canonical hs)
  exact canonical_ite hs (raiseFree_canonical
    (canonical_ite (flag_canonical h1)
    (canonical_ite (canonical_mk h1) (canonical_foldl (fun _ _ ht => set_canonical ht) (canonical_mk h1)))))

/-! ### Bridge: the twin bridge's outbound side -/

theorem finishWait_canonical {c r} : (finishWait c r s).canonical := by
  unfold finishWait
  extract_lets _ s1
  have h1 : s1.canonical := setCore_canonical hs
  split
  · split
    · exact takeTrap_canonical h1
    · exact takeTrap_canonical h1
    · exact commitTo_canonical (setLreg_canonical h1)
    · exact commitTo_canonical h1
  · exact hs

theorem outDone_canonical {o r} : (outDone o r s).canonical := by
  unfold outDone
  exact canonical_ite (canonical_mk hs) (canonical_ite hs (finishWait_canonical hs))

theorem bridgeAnswer_canonical {r} : (bridgeAnswer r s).canonical := by
  unfold bridgeAnswer
  extract_lets
  split
  · exact hs
  · exact outDone_canonical (set_canonical (set_canonical (canonical_mk hs)))

theorem queueFail_canonical {l} : (queueFail l s).canonical := by
  induction l generalizing s with
  | nil => exact hs
  | cons o l ih => exact ih (outDone_canonical (canonical_mk hs))

theorem bridgeFail_canonical : (bridgeFail s).canonical := by
  unfold bridgeFail
  exact canonical_mk (queueFail_canonical (bridgeAnswer_canonical hs))

/-! ### IocCmd: general-purpose balls and analogue inputs -/

theorem seeBank_canonical {b} : (seeBank b s).canonical := by
  unfold seeBank
  exact canonical_mk hs

theorem execGpioEdge_canonical {b ext} : staysCanonical (execGpioEdge b ext s) := by
  unfold execGpioEdge
  extract_lets _ _ _ _ _ _ s1
  have h1 : s1.canonical := flagBits_canonical (seeBank_canonical (canonical_mk hs))
  exact canonical_ite (seeBank_canonical (canonical_mk hs)) (canonical_ite h1 (notifyAll_canonical h1))

theorem execAdcGroupComplete_canonical {g codes} : staysCanonical (execAdcGroupComplete g codes s) := by
  unfold execAdcGroupComplete
  extract_lets
  split
  · exact hs
  · extract_lets s2
    have h2 : s2.canonical := set_canonical (setReg_canonical (canonical_foldl (fun _ _ ht => wrMem_canonical ht) hs))
    exact canonical_ite hs (canonical_ite (raiseTo_canonical (canonical_mk h2)) (canonical_mk h2))

theorem iocActs_canonical {a w} : (iocActs a w s).canonical := by
  unfold iocActs
  extract_lets
  refine canonical_ite ?_ (canonical_ite (adcStart_canonical hs) hs)
  split
  · exact set_canonical hs
  · exact set_canonical hs
  · exact hs

/-! ### VaultOps: the strongroom's command queues and its tamper reaction -/

theorem setVjob_canonical {q j} : (setVjob q j s).canonical := by
  unfold setVjob
  exact canonical_mk hs

theorem vStart_canonical {q lib} : (vStart q lib s).canonical := by
  unfold vStart
  extract_lets claim s1
  have h1 : s1.canonical := by
    clear_value claim
    unfold s1
    split
    · exact setSlot_canonical hs
    · exact hs
  exact canonical_mk (setVjob_canonical (set_canonical h1))

theorem vStop_canonical {q code} : (vStop q code s).canonical := by
  unfold vStop
  exact canonical_ite (setVjob_canonical hs) hs

theorem vFinish_canonical {q code reason kid len} : (vFinish q code reason kid len s).canonical := by
  unfold vFinish
  extract_lets _ s1
  have h1 : s1.canonical := by
    unfold s1
    split
    · exact canonical_ite (setSlot_canonical hs) hs
    · exact hs
  exact raiseOwner_canonical (setVjob_canonical (noteRose_canonical (setReg_canonical h1)))

theorem randomOctets_canonical {n} : (randomOctets n s).2.canonical := hs

theorem execEntropyHealthFailure_canonical {kind} : staysCanonical (execEntropyHealthFailure kind s) := by
  unfold execEntropyHealthFailure
  extract_lets _ s2
  have h2 : s2.canonical := canonical_ite (addSat_canonical (set_canonical hs)) (set_canonical hs)
  exact canonical_ite hs (raiseLib_canonical (canonical_ite (addSat_canonical h2) h2))

theorem execDrbgReseed_canonical : staysCanonical (execDrbgReseed s) := by
  unfold execDrbgReseed
  exact canonical_ite hs (canonical_ite
    (canonical_mk (canonical_ite (addWrap_canonical (set_canonical hs)) (set_canonical hs)))
    (canonical_ite (raiseLib_canonical (set_canonical hs)) hs))

theorem execSlotProgrammingDone_canonical {k} : staysCanonical (execSlotProgrammingDone k s) := by
  unfold execSlotProgrammingDone
  extract_lets
  split
  · exact setSlot_canonical (canonical_mk hs)
  · exact hs

theorem execOrphanErase_canonical {kid} : staysCanonical (execOrphanErase kid s) := by
  unfold execOrphanErase
  exact canonical_ite (raiseTo_canonical (eraseSlot_canonical hs)) hs

theorem burnSlot_canonical {k} : (burnSlot k s).canonical := by
  unfold burnSlot
  exact setSlotKey_canonical hs

theorem zeroiseRun_canonical : (zeroiseRun s).canonical := by
  unfold zeroiseRun
  refine canonical_foldl (fun _ _ ht => ?_) hs
  extract_lets t1
  have ht1 : t1.canonical := canonical_ite (retireSlot_canonical ht) ht
  exact canonical_ite (burnSlot_canonical ht1) ht1

theorem execZeroiseComplete_canonical : staysCanonical (execZeroiseComplete s) := by
  unfold execZeroiseComplete
  exact canonical_ite (raiseLib_canonical (canonical_mk (set_canonical (zeroiseRun_canonical hs)))) hs

theorem tamper_canonical {i} : (tamper i s).canonical := by
  unfold tamper
  extract_lets _ _ _ s1 _ s3 s4
  have h1 : s1.canonical := canonical_ite (set_canonical hs) hs
  have h3 : s3.canonical := canonical_ite (powerRaise_canonical (set_canonical h1))
    (relayTwin_canonical (powerDeliver_canonical (set_canonical h1)))
  have h4 : s4.canonical := canonical_foldl (fun _ _ ht => canonical_ite (vStop_canonical ht) ht) h3
  exact canonical_ite h3 (canonical_ite (eraseDerived_canonical h4)
    (canonical_mk (set_canonical (eraseDerived_canonical h4))))

theorem vaultActs_canonical {a w lib} : (vaultActs a w lib s).canonical := by
  unfold vaultActs
  extract_lets _ _ s1
  have h1 : s1.canonical := canonical_ite (vStart_canonical hs) hs
  exact canonical_ite (canonical_ite (vStop_canonical h1) h1) hs

/-! ### CarrelReset: carrel reset -/

theorem semRelease_canonical {side c} : (semRelease side c s).canonical := by
  unfold semRelease
  exact canonical_foldl (fun _ _ ht => canonical_ite (setReg_canonical ht) ht) hs

theorem resourceAbsent_canonical {a} : (resourceAbsent a s).canonical := by
  unfold resourceAbsent
  extract_lets +onlyGivenNames o
  split
  · exact trgOwnerAbsent_canonical hs
  · extract_lets +onlyGivenNames n k
    refine canonical_ite (canonical_foldl (fun t j ht => ?_) hs) hs
    exact canonical_ite ht (canonical_ite (abortReq_canonical ht) (clearReq_canonical ht))
  · exact chanOwnerAbsent_canonical hs
  · exact hs

theorem ownersAbsent_canonical {c} : (ownersAbsent c s).canonical := by
  unfold ownersAbsent
  exact canonical_foldl (fun _ _ ht => canonical_ite (resourceAbsent_canonical (set_canonical ht)) ht) hs

theorem leaveCore_canonical {c} : (leaveCore c s).canonical := by
  unfold leaveCore
  exact canonical_foldl (fun _ _ ht => canonical_ite (agreeNote_canonical (setCore_canonical (setCore_canonical ht)))
    (setCore_canonical ht)) hs

theorem carrelReset_canonical {c} : (carrelReset c s).canonical := by
  unfold carrelReset
  exact canonical_ite hs (setCarrel_canonical
    (set_canonical (leaveCore_canonical
    (semRelease_canonical (ownersAbsent_canonical (addWrap_canonical (setCarState_canonical hs)))))))

theorem abortWork_canonical {c} : (abortWork c s).canonical := by
  unfold abortWork
  exact canonical_foldl (fun _ _ ht => canonical_ite (setColl_canonical ht) ht)
    (canonical_foldl (fun _ _ ht => canonical_ite (vStop_canonical ht) ht) hs)

theorem eraseOwned_canonical {c} : (eraseOwned c s).canonical := by
  unfold eraseOwned
  exact canonical_foldl (fun _ _ ht => eraseSlot_canonical ht) hs

theorem quiesceEnd_canonical {c} : (quiesceEnd c s).canonical := by
  unfold quiesceEnd
  exact canonical_ite hs (raiseLib_canonical
    (set_canonical (set_canonical (setCarState_canonical
    (flushTlb_canonical (deskClear_canonical (setCarrel_canonical (eraseOwned_canonical (abortWork_canonical hs)))))))))

/-! ### TwinOps: the twins -/

theorem setTwinState_canonical {n} : (setTwinState n s).canonical := by
  unfold setTwinState
  exact set_canonical hs

theorem enterPaired_canonical : (enterPaired s).canonical := by
  unfold enterPaired
  exact canonical_foldl (fun _ _ ht => demandOffer_canonical ht)
    (canonical_mk (canonical_foldl (fun _ _ ht => setReg_canonical ht) (setTwinState_canonical hs)))

theorem tryPair_canonical : (tryPair s).canonical := by
  unfold tryPair
  exact canonical_ite (enterPaired_canonical hs) hs

theorem unpair_canonical : (unpair s).canonical := by
  unfold unpair
  exact canonical_ite hs (setTwinState_canonical hs)

theorem wingEnable_canonical {w} : (wingEnable w s).canonical := by
  unfold wingEnable
  exact nmActs_canonical (setReg_canonical hs)

theorem wingClear_canonical {w} : (wingClear w s).canonical := by
  unfold wingClear
  exact nmActs_canonical (setReg_canonical hs)

theorem takeAction_canonical {k n} : (takeAction k n s).2.canonical := by
  unfold takeAction
  extract_lets
  split
  · exact canonical_ite_snd hs (canonical_ite_snd (acceptCommand_canonical hs) (refuseCommand_canonical hs))
  · exact canonical_ite_snd hs (wingEnable_canonical hs)
  · exact canonical_ite_snd (carrelStart_canonical hs) hs

theorem takeover_canonical {cause} : (takeover cause s).canonical := by
  unfold takeover
  extract_lets _ _ _ _ s1
  have h1 : s1.canonical := by
    unfold s1
    refine canonical_foldl (fun _ _ ht => ?_) (setReg_canonical (setReg_canonical hs))
    extract_lets
    refine canonical_ite ?_ ht
    split
    rename_i heq
    have hu := canonical_of_snd heq (takeAction_canonical (setMapEntry_canonical ht))
    split
    · exact addSat_canonical hu
    · exact addSat_canonical hu
  exact raiseLib_canonical (setTwinState_canonical h1)

theorem releaseResource_canonical {k n} : (releaseResource k n s).canonical := by
  unfold releaseResource
  split
  · exact canonical_ite hs (acceptCommand_canonical hs)
  · exact wingClear_canonical hs
  · exact canonical_ite hs (carrelReset_canonical hs)

theorem yield_canonical : (yield_ s).canonical := by
  unfold yield_
  exact raiseLib_canonical (setTwinState_canonical
    (canonical_foldl (fun _ _ ht => canonical_ite (releaseResource_canonical (setMapEntry_canonical ht)) ht)
    (setReg_canonical (setReg_canonical hs))))

theorem twinLost_canonical {take} : (twinLost take s).canonical := by
  unfold twinLost
  extract_lets s1
  have h1 : s1.canonical := raiseLib_canonical hs
  exact canonical_ite (takeover_canonical h1)
    (canonical_ite (takeover_canonical h1) (canonical_mk (setTwinState_canonical h1)))

theorem twinLinkLost_canonical : (twinLinkLost s).canonical := by
  unfold twinLinkLost
  extract_lets _ s1 _ s2 _ _ s4
  have h1 : s1.canonical := raiseLib_canonical (set_canonical hs)
  have h2 : s2.canonical := canonical_ite (raiseLib_canonical (canonical_foldl (fun _ _ ht => setReg_canonical ht) h1))
    h1
  have h4 : s4.canonical := bridgeFail_canonical
    (canonical_mk (canonical_ite (raiseLib_canonical (set_canonical h2)) h2))
  split
  · exact setTwinState_canonical h4
  · exact twinLost_canonical h4
  · exact h4

theorem execLaneDown_canonical {lane} : staysCanonical (execLaneDown lane s) := by
  unfold execLaneDown
  exact canonical_ite hs (canonical_ite (twinLinkLost_canonical (set_canonical hs))
    (raiseLib_canonical (set_canonical hs)))

theorem execLaneUp_canonical {lane} : staysCanonical (execLaneUp lane s) := by
  unfold execLaneUp
  exact canonical_ite hs (raiseLib_canonical (set_canonical hs))

theorem execTwinLinkDown_canonical : staysCanonical (execTwinLinkDown s) := by
  unfold execTwinLinkDown
  exact canonical_ite (twinLinkLost_canonical hs) hs

theorem reconcileEntry_canonical {k n} : (reconcileEntry k n s).canonical := by
  unfold reconcileEntry
  exact canonical_ite hs (canonical_ite hs
    (canonical_ite (raiseLib_canonical (releaseResource_canonical (setMapEntry_canonical hs)))
    (setMapEntry_canonical hs)))

theorem execTwinLinkUp_canonical {lanes peer} : staysCanonical (execTwinLinkUp lanes peer s) := by
  unfold execTwinLinkUp
  extract_lets _ _ _ _ _ s3
  have h3 : s3.canonical := canonical_foldl (fun _ _ ht => reconcileEntry_canonical ht)
    (raiseLib_canonical (canonical_mk (set_canonical (set_canonical hs))))
  exact canonical_ite hs (canonical_ite (setTwinState_canonical h3) h3)

theorem execHeartbeatWord_canonical {lane side pairEn} : staysCanonical (execHeartbeatWord lane side pairEn s) := by
  unfold execHeartbeatWord
  extract_lets _ _ s1
  have h1 : s1.canonical := canonical_mk hs
  exact canonical_ite hs (canonical_ite
    (canonical_ite (unpair_canonical h1) (raiseLib_canonical (set_canonical (unpair_canonical h1))))
    (canonical_ite h1 (canonical_ite (canonical_ite (enterPaired_canonical h1) h1)
    (canonical_ite (unpair_canonical h1) (tryPair_canonical h1)))))

theorem execTimeWord_canonical {ofs rate} : staysCanonical (execTimeWord ofs rate s) := by
  unfold execTimeWord
  extract_lets _ s1
  have h1 : s1.canonical := set_canonical (setReg_canonical hs)
  exact canonical_ite hs (canonical_mk (canonical_ite (set_canonical h1) h1))

theorem execTwAliveToggle_canonical : staysCanonical (execTwAliveToggle s) := by
  unfold execTwAliveToggle
  exact canonical_ite (canonical_mk hs) hs

theorem execSidebandLost_canonical : staysCanonical (execSidebandLost s) := by
  unfold execSidebandLost
  extract_lets s1
  have h1 : s1.canonical := raiseLib_canonical (set_canonical hs)
  refine canonical_ite hs ?_
  split
  · exact setTwinState_canonical h1
  · exact twinLost_canonical h1
  · exact h1

theorem execSidebandRecovered_canonical : staysCanonical (execSidebandRecovered s) := by
  unfold execSidebandRecovered
  extract_lets s1
  have h1 : s1.canonical := raiseLib_canonical (set_canonical hs)
  exact canonical_ite hs (canonical_ite (setTwinState_canonical h1) (tryPair_canonical h1))

theorem execTwTakeInRecognised_canonical : staysCanonical (execTwTakeInRecognised s) := by
  unfold execTwTakeInRecognised
  exact canonical_ite hs (canonical_ite (twinLost_canonical (raiseLib_canonical hs)) (raiseLib_canonical hs))

theorem execWitnessWindowEnd_canonical {above} : staysCanonical (execWitnessWindowEnd above s) := by
  unfold execWitnessWindowEnd
  extract_lets _ _ _ _ _ s1
  have h1 : s1.canonical := set_canonical (setReg_canonical hs)
  exact canonical_ite hs (canonical_ite (takeover_canonical (raiseLib_canonical h1))
    (yield_canonical (raiseLib_canonical h1)))

theorem mapApply_canonical {a w} : (mapApply a w s).canonical := by
  refine canonical_foldl (fun t i ht => ?_) hs
  split
  exact setMapEntry_canonical ht

theorem execMirrorRecordApply_canonical {shelf seq tofired word last} :
    staysCanonical (execMirrorRecordApply shelf seq tofired word last s) := by
  unfold execMirrorRecordApply
  extract_lets
  refine canonical_ite hs ?_
  split
  rename_i heq
  have ht := canonical_of_snd heq (engRead_canonical hs)
  refine canonical_ite (canonical_mk ht) (canonical_ite (canonical_mk ht) ?_)
  split
  rename_i heq'
  exact canonical_mk (addWrap_canonical
    (wrMem_canonical (wrMem_canonical (wrMem_canonical (canonical_of_snd heq' (engRead_canonical ht))))))

theorem execDemandRecord_canonical {c w} : staysCanonical (execDemandRecord c w s) := by
  unfold execDemandRecord
  exact canonical_ite hs (addWrap_canonical (setReg_canonical hs))

theorem execTwinRelayEvent_canonical {k src payload stamp} :
    staysCanonical (execTwinRelayEvent k src payload stamp s) := by
  unfold execTwinRelayEvent
  exact canonical_ite hs (notify_canonical (canonical_ite (set_canonical hs) hs))

theorem execDepartReceived_canonical : staysCanonical (execDepartReceived s) := by
  unfold execDepartReceived
  exact canonical_ite (canonical_mk (relayTwin_canonical (raiseLib_canonical (setTwinState_canonical hs)))) hs

theorem twinActs_canonical {a old w} : (twinActs a old w s).canonical := by
  unfold twinActs
  extract_lets s1
  have h1 : s1.canonical := canonical_ite (unpair_canonical hs) (tryPair_canonical hs)
  exact canonical_ite (canonical_ite (canonical_mk h1) h1)
    (canonical_ite (canonical_ite (set_canonical (setReg_canonical (mirrorDrain_canonical hs))) hs) hs)

theorem twinStatRead_canonical : (twinStatRead s).2.canonical := hs

/-! ### Reset: what a reset leaves of the state -/

theorem keepField_canonical {old a f} : (keepField old a f s).canonical := set_canonical hs

theorem keepField_foldl_canonical {α : Type} {old : State} {a : α → Nat} {f : α → Fld} {l : List α} :
    (l.foldl (fun t x => keepField old (a x) (f x) t) s).canonical :=
  canonical_foldl (fun _ _ ht => keepField_canonical ht) hs

theorem resetRegs_canonical {k} : (resetRegs k s).canonical := by
  unfold resetRegs
  extract_lets s1 s2 s3 s4 s5 s6
  have h1 : s1.canonical := canonical_keepRegs hs
  have h4 : s4.canonical := keepField_canonical (keepField_foldl_canonical (keepField_canonical h1))
  have h5 : s5.canonical := canonical_ite h4 (keepField_canonical h4)
  have h6 : s6.canonical := canonical_foldl (fun _ _ ht => keepField_foldl_canonical ht) h5
  exact canonical_ite h1 (canonical_ite h5 (canonical_foldl (fun _ _ ht => keepField_foldl_canonical ht) h6))

theorem resetChans_canonical {k} : (resetChans k s).canonical := by
  unfold resetChans
  extract_lets
  split
  · exact canonical_mk hs
  · exact canonical_mk hs
  · exact canonical_mk hs

theorem tidyChans_canonical : (tidyChans s).canonical := by
  unfold tidyChans
  exact canonical_mk hs

theorem resetArch_canonical {k} : (resetArch k s).canonical := by
  unfold resetArch
  extract_lets
  split
  · exact canonical_mk hs
  · exact canonical_mk hs
  · exact canonical_mk hs

theorem resetStk_canonical : (resetStk s).canonical := by
  unfold resetStk
  exact canonical_mk hs

theorem resetVault_canonical : (resetVault s).canonical := by
  unfold resetVault
  exact canonical_mk (zeroiseRun_canonical hs)

theorem resetClaims_canonical : (resetClaims s).canonical := by
  unfold resetClaims
  refine canonical_foldl (fun _ _ ht => ?_) hs
  split
  · exact canonical_ite ht (setSlot_canonical ht)
  · exact ht

theorem resetMem_canonical : (resetMem s).canonical := canonical_keepMem hs

theorem resetTime_canonical {k} : (resetTime k s).canonical := by
  unfold resetTime
  extract_lets
  split
  · exact canonical_mk hs
  · exact canonical_mk hs

theorem resetDie_canonical {k} : (resetDie k s).canonical := by
  unfold resetDie
  exact canonical_mk (resetTime_canonical
    (resetMem_canonical (resetStk_canonical
    (resetArch_canonical (tidyChans_canonical
    (resetChans_canonical (resetRegs_canonical (resetVault_canonical (resetClaims_canonical hs)))))))))

theorem rangeReset_canonical {lo n} : (rangeReset lo n s).canonical := canonical_keepRegs hs

theorem rangeClear_canonical {lo n} : (rangeClear lo n s).canonical := canonical_keepMem hs

theorem canReset_canonical {n} : (canReset n s).canonical := by
  unfold canReset
  exact rangeReset_canonical (setCan_canonical (ctxFail_canonical hs))

theorem linReset_canonical {m} : (linReset m s).canonical := by
  unfold linReset
  exact rangeReset_canonical (setLin_canonical (ctxFail_canonical hs))

theorem portReset_canonical {p} : (portReset p s).canonical := by
  unfold portReset
  extract_lets s1
  have h1 : s1.canonical := canonical_ite (portLeaves_canonical hs) hs
  exact rangeReset_canonical (setPort_canonical (canonical_ite (flushPort_canonical h1) h1))

theorem cuReset_canonical {n} : (cuReset n s).canonical := by
  unfold cuReset
  exact rangeReset_canonical (setCu_canonical (cuStop_canonical hs))

theorem collReset_canonical {u} : (collReset u s).canonical := by
  unfold collReset
  exact rangeReset_canonical (setColl_canonical hs)

theorem vaultReset_canonical : (vaultReset s).canonical := by
  unfold vaultReset
  exact canonical_mk (setReg_canonical (rangeReset_canonical (eraseDerived_canonical (resetClaims_canonical hs))))

theorem carrelTableReset_canonical : (carrelTableReset s).canonical := by
  unfold carrelTableReset
  exact rangeClear_canonical (rangeReset_canonical (canonical_foldl (fun _ _ ht => setCarrel_canonical ht) hs))

theorem switchReset_canonical : (switchReset s).canonical := by
  unfold switchReset
  exact rangeReset_canonical (canonical_mk
    (canonical_foldl (fun _ _ ht => portReset_canonical ht) (canonical_foldl (fun _ _ ht => ctxFail_canonical ht) hs)))

theorem nmReset_canonical : (nmReset s).canonical := by
  unfold nmReset
  exact canonical_mk (rangeReset_canonical
    (canonical_foldl (fun _ _ ht => setReg_canonical (rangeReset_canonical ht)) (rangeReset_canonical hs)))

theorem timeReset_canonical : (timeReset s).canonical := by
  unfold timeReset
  exact canonical_mk (setReg_canonical (setReg_canonical (rangeReset_canonical hs)))

theorem fillReset_canonical : (fillReset s).canonical := by
  unfold fillReset
  exact canonical_mk (rangeReset_canonical (set_canonical (rangeReset_canonical hs)))

theorem pairTileReset_canonical {p} : (pairTileReset p s).canonical := by
  unfold pairTileReset
  exact set_canonical (rangeReset_canonical (pairReset_canonical hs))

theorem unitReset_canonical {t u} : (unitReset t u s).canonical := by
  unfold unitReset
  extract_lets
  split
  · exact pairTileReset_canonical hs
  · exact hs
  · exact hs
  · exact hs
  · exact hs
  · exact tileContexts_canonical hs
  · exact cuReset_canonical hs
  · exact collReset_canonical hs
  · exact switchReset_canonical hs
  · exact rangeReset_canonical hs
  · exact portReset_canonical hs
  · exact portReset_canonical hs
  · exact portReset_canonical hs
  · exact canReset_canonical hs
  · exact linReset_canonical hs
  · exact nmReset_canonical hs
  · exact setReg_canonical hs
  · exact canonical_mk (rangeReset_canonical hs)
  · exact fillReset_canonical hs
  · exact canonical_mk (setReg_canonical (rangeReset_canonical hs))
  · exact timeReset_canonical hs
  · exact canonical_mk (rangeClear_canonical (rangeReset_canonical hs))
  · exact carrelTableReset_canonical hs
  · exact vaultReset_canonical hs
  · exact canonical_mk (keepField_canonical (keepField_canonical (rangeReset_canonical hs)))
  · exact canonical_mk hs
  · exact canonical_foldl (fun _ _ ht => demandOff_canonical ht) (canonical_mk hs)
  · exact canonical_foldl (fun _ _ ht => demandOff_canonical ht) (canonical_mk hs)
  · exact canonical_foldl (fun _ _ ht => demandOff_canonical ht) (canonical_mk hs)
  · exact canonical_foldl (fun _ _ ht => demandOff_canonical ht) (canonical_mk hs)

theorem tileReset_canonical {t} : (tileReset t s).canonical := by
  unfold tileReset
  exact openTile_canonical (canonical_foldl (fun _ _ ht => unitReset_canonical ht) hs)

theorem execTileReset_canonical {t} : staysCanonical (execTileReset t s) := by
  unfold execTileReset
  exact canonical_ite hs (tileReset_canonical hs)

theorem execUnitReset_canonical {t u} : staysCanonical (execUnitReset t u s) := by
  unfold execUnitReset
  exact canonical_ite hs (unitReset_canonical hs)

/-! ### Boot: the boot core's work -/

theorem fillMemory_canonical : (fillMemory s).canonical := by
  unfold fillMemory
  exact set_canonical (canonical_mk (canonical_keepMem hs))

theorem copyRetained_canonical : (copyRetained s).canonical := by
  unfold copyRetained
  exact canonical_mk (set_canonical (set_canonical (set_canonical hs)))

theorem mramRead_canonical {base i} : (mramRead base i s).2.canonical := readArray_canonical hs

theorem flashRead_canonical {i} : (flashRead i s).2.canonical := hs

theorem listRead_canonical {ws i} : (listRead ws i s).2.canonical := hs

theorem readMany_canonical {rd l} (hrd : ∀ i t, t.canonical → (rd i t).2.canonical) :
    (readMany rd l s).2.canonical := by
  induction l generalizing s with
  | nil => exact hs
  | cons i l ih =>
    unfold readMany
    split
    · rename_i heq
      exact canonical_of_snd heq (hrd i s hs)
    · rename_i heq
      have ht := ih (canonical_of_snd heq (hrd i s hs))
      split
      · rename_i heq
        exact canonical_of_snd heq ht
      · rename_i heq
        exact canonical_of_snd heq ht

theorem readRec_canonical {c} : (readRec c s).2.canonical := by
  have hread := readMany_canonical (rd := mramRead (recBase c)) (l := List.range 8) hs fun _ _ ht => mramRead_canonical
    ht
  unfold readRec
  split <;> (rename_i heq; exact canonical_of_snd heq hread)

theorem newerRec_canonical : (newerRec s).2.canonical := by
  unfold newerRec
  split
  rename_i heq
  split
  rename_i heq'
  exact canonical_of_snd heq' (readRec_canonical (canonical_of_snd heq (readRec_canonical hs)))

theorem writeRec_canonical {r cur} : (writeRec r cur s).2.canonical := by
  unfold writeRec
  exact canonical_foldl (fun _ _ ht => wrMem_canonical ht) hs

theorem copyImage_canonical {load ws} : (copyImage load ws s).canonical := by
  unfold copyImage
  exact canonical_ite hs (canonical_foldl (fun _ _ ht => canonical_ite (wrMem_canonical ht) ht) hs)

theorem verifyImage_canonical {rd} (hrd : ∀ i t, t.canonical → (rd i t).2.canonical) :
    (verifyImage rd s).2.canonical := by
  unfold verifyImage
  split
  · rename_i heq
    exact canonical_of_snd heq (readMany_canonical hs hrd)
  · rename_i heq
    have ht := canonical_of_snd heq (readMany_canonical hs hrd)
    extract_lets +onlyGivenNames v len svn load sigOff
    split
    · exact ht
    · split
      · rename_i heq
        exact canonical_of_snd heq (readMany_canonical ht hrd)
      · rename_i heq
        have h2 := canonical_of_snd heq (readMany_canonical ht hrd)
        exact canonical_ite_snd (copyImage_canonical h2) (copyImage_canonical h2)

theorem setMeas_canonical {m xs} : (setMeas m xs s).canonical := by
  unfold setMeas
  exact canonical_foldl (fun _ _ ht => setReg_canonical ht) hs

theorem bootImage_canonical {src trial x} : (bootImage src trial x s).canonical := by
  unfold bootImage
  exact canonical_mk (setBit_canonical (setBit_canonical (setBit_canonical (setMeas_canonical hs))))

theorem bootHalt_canonical : (bootHalt s).canonical := by
  unfold bootHalt
  exact canonical_mk hs

theorem recoveryPath_canonical : (recoveryPath s).canonical := by
  unfold recoveryPath
  split
  · exact bootHalt_canonical hs
  · exact canonical_mk hs
  · have hv := verifyImage_canonical (rd := flashRead) hs fun _ _ ht => flashRead_canonical ht
    split
    · rename_i heq
      exact bootImage_canonical (canonical_of_snd heq hv)
    · rename_i heq
      exact bootHalt_canonical (canonical_of_snd heq hv)

theorem verifySlot_canonical {base} : (verifyImage (mramRead base) s).2.canonical :=
  verifyImage_canonical hs fun _ _ ht => mramRead_canonical ht

theorem bootChoose_canonical : (bootChoose s).canonical := by
  unfold bootChoose
  split
  rename_i heq
  have h1 := canonical_of_snd heq (newerRec_canonical hs)
  extract_lets +onlyGivenNames trial
  split
  rename_i heq
  have h2 := canonical_of_snd heq
    (canonical_ite_snd (writeRec_canonical h1) (canonical_ite_snd (writeRec_canonical h1) h1))
  extract_lets +onlyGivenNames cand
  split
  · rename_i heq
    exact bootImage_canonical (canonical_of_snd heq (verifySlot_canonical h2))
  · rename_i heq
    have h3 := canonical_of_snd heq (verifySlot_canonical h2)
    extract_lets +onlyGivenNames bad
    split
    rename_i heq
    have h4 := canonical_of_snd heq (writeRec_canonical h3)
    refine canonical_ite (recoveryPath_canonical h4) ?_
    split
    · rename_i heq
      exact bootImage_canonical (canonical_of_snd heq (verifySlot_canonical h4))
    · rename_i heq
      exact recoveryPath_canonical (canonical_of_snd heq (verifySlot_canonical h4))

theorem fuseLoad_canonical {vote bad} : (fuseLoad vote bad s).canonical := by
  unfold fuseLoad
  exact canonical_mk (canonical_foldl (fun _ _ ht => setSlot_canonical ht) hs)

theorem zeroiseFinish_canonical : (zeroiseFinish s).canonical := by
  unfold zeroiseFinish
  exact canonical_ite hs (raiseLib_canonical
    (set_canonical (set_canonical (canonical_foldl (fun _ _ ht => burnSlot_canonical ht) hs))))

theorem bootKey_canonical {k ty rights len stmt} : (bootKey k ty rights len stmt s).canonical := by
  unfold bootKey
  extract_lets
  refine canonical_ite hs ?_
  split
  rename_i heq
  exact setSlotKey_canonical (setAttr_canonical (canonical_of_snd heq (randomOctets_canonical hs)))

theorem bootKeys_canonical : (bootKeys s).canonical := by
  unfold bootKeys
  exact canonical_ite hs (bootKey_canonical (bootKey_canonical (bootKey_canonical (set_canonical hs))))

theorem reportLoad_canonical : (reportLoad s).canonical := by
  unfold reportLoad
  extract_lets s1
  have h1 : s1.canonical := canonical_ite (faultNoSrc_canonical hs) hs
  exact canonical_mk (canonical_foldl (fun _ _ ht => fault_canonical ht)
    (canonical_ite (faultNoSrc_canonical (canonical_mk h1)) h1))

theorem vaultStart_canonical : (vaultStart s).canonical := by
  unfold vaultStart
  split
  rename_i heq
  extract_lets _ _ _ _ _ s5
  have h5 : s5.canonical := zeroiseFinish_canonical
    (bootKeys_canonical (canonical_mk
    (setMeas_canonical (canonical_foldl (fun _ _ hu => setMeas_canonical hu)
    (set_canonical (setReg_canonical (canonical_of_snd heq (drawFree_canonical hs))))))))
  exact canonical_ite (raiseLib_canonical h5) h5

theorem execFillDone_canonical : staysCanonical (execFillDone s) := by
  unfold execFillDone
  exact canonical_ite (bootChoose_canonical
    (vaultStart_canonical (reportLoad_canonical (copyRetained_canonical (fillMemory_canonical hs))))) hs

theorem execDebugImageWritten_canonical {img} : staysCanonical (execDebugImageWritten img s) := by
  unfold execDebugImageWritten
  refine canonical_ite ?_ hs
  have hv := verifyImage_canonical (rd := listRead img) hs fun _ _ ht => listRead_canonical ht
  split
  · rename_i heq
    exact bootImage_canonical (canonical_of_snd heq hv)
  · rename_i heq
    exact bootHalt_canonical (canonical_of_snd heq hv)

/-! ### PowerOps: clocks, power states, the PMIC handshake, the resets of the dies and start-up -/

theorem setCause_canonical {kind trigger} {old : State} : (setCause kind trigger old s).canonical := by
  unfold setCause
  exact setReg_canonical hs

theorem holdCompute_canonical : (holdCompute s).canonical := by
  unfold holdCompute
  exact canonical_mk hs

theorem computeReset_canonical {trigger} : (computeReset trigger s).canonical := by
  unfold computeReset
  extract_lets _ s2
  have h2 : s2.canonical := setCause_canonical
    (holdCompute_canonical (coarseEnter_canonical (resetDie_canonical (canonical_ite hs (leaseStart_canonical hs)))))
  exact canonical_ite hs (canonical_ite (set_canonical h2) h2)

theorem warmReset_canonical {trigger} : (warmReset trigger s).canonical := by
  unfold warmReset
  exact canonical_ite (canonical_ite (canonical_mk hs) hs)
    (setCause_canonical (canonical_mk (holdCompute_canonical (coarseEnter_canonical (resetDie_canonical hs)))))

theorem powerOnReset_canonical {trigger held} : (powerOnReset trigger held s).canonical := by
  unfold powerOnReset
  exact canonical_mk (setCause_canonical (holdCompute_canonical (resetDie_canonical hs)))

theorem beginStart_canonical {cfg side vote bad} : (beginStart cfg side vote bad s).canonical := by
  unfold beginStart
  exact fuseLoad_canonical (setBit_canonical (set_canonical (canonical_mk hs)))

theorem tryRelease_canonical {cfg side vote bad} : (tryRelease cfg side vote bad s).canonical := by
  unfold tryRelease
  exact canonical_ite (beginStart_canonical hs) hs

theorem execPgoodRise_canonical {cfg side vote bad} : staysCanonical (execPgoodRise cfg side vote bad s) := by
  unfold execPgoodRise
  exact canonical_ite hs (tryRelease_canonical (canonical_mk hs))

theorem releasePower_canonical : (releasePower s).canonical := by
  unfold releasePower
  exact canonical_mk (channelsOff_canonical (canonical_mk hs))

theorem execResetHoldExpiry_canonical {cfg side vote bad} :
    staysCanonical (execResetHoldExpiry cfg side vote bad s) := by
  unfold execResetHoldExpiry
  exact tryRelease_canonical (canonical_ite (releasePower_canonical hs) hs)

theorem execPgoodFall_canonical : staysCanonical (execPgoodFall s) := by
  unfold execPgoodFall
  exact canonical_ite hs (canonical_mk
    (computeReset_canonical (canonical_foldl (fun _ _ ht => setSlot_canonical ht) (canonical_mk hs))))

theorem execPgoodTimeout_canonical : staysCanonical (execPgoodTimeout s) := by
  unfold execPgoodTimeout
  exact canonical_ite hs (canonical_ite
    (canonical_ite hs (canonical_ite (canonical_mk (addSat_canonical hs))
    (canonical_mk (coarseEnter_canonical (addSat_canonical hs))))) (canonical_ite (canonical_mk hs) hs))

theorem execCrystalQualified_canonical : staysCanonical (execCrystalQualified s) := by
  unfold execCrystalQualified
  exact canonical_ite (canonical_mk hs) hs

theorem execCrystalRetry_canonical : staysCanonical (execCrystalRetry s) := by
  unfold execCrystalRetry
  exact canonical_ite (canonical_mk hs) hs

theorem injMark_canonical {p ok} : (injMark p ok s).canonical := by
  unfold injMark
  exact canonical_ite (set_canonical (set_canonical hs)) (set_canonical (set_canonical hs))

theorem injFail_canonical {p} : (injFail p s).canonical := by
  unfold injFail
  split
  rename_i heq
  exact archive_canonical (setPairState_canonical (injMark_canonical (canonical_of_snd heq (drawFree_canonical hs))))

theorem execInjectionTestDone_canonical {p pass} : staysCanonical (execInjectionTestDone p pass s) := by
  unfold execInjectionTestDone
  exact canonical_ite (canonical_ite (injMark_canonical hs)
    (canonical_ite (bootHalt_canonical hs) (injFail_canonical hs)))
    (canonical_ite (canonical_ite (pairStart_canonical (injMark_canonical hs)) (injFail_canonical hs)) hs)

theorem execLibrarianRelease_canonical : staysCanonical (execLibrarianRelease s) := by
  unfold execLibrarianRelease
  extract_lets _ s2
  have h2 : s2.canonical := set_canonical (setCore_canonical (set_canonical (setPairState_canonical hs)))
  exact canonical_ite (canonical_foldl (fun _ _ ht => powerDeliver_canonical ht)
    (canonical_ite (deliverHeld_canonical (canonical_mk (set_canonical h2))) (canonical_mk (set_canonical h2)))) hs

theorem execComputeDieReset_canonical : staysCanonical (execComputeDieReset s) := by
  unfold execComputeDieReset
  exact canonical_ite (computeReset_canonical hs) hs

theorem execWarmReset_canonical : staysCanonical (execWarmReset s) := by
  unfold execWarmReset
  exact canonical_ite hs (canonical_mk (warmReset_canonical hs))

theorem aonReturn_canonical : (aonReturn s).canonical := by
  unfold aonReturn
  extract_lets _ s1
  have h1 : s1.canonical := set_canonical (setReg_canonical hs)
  exact canonical_ite (set_canonical h1) h1

theorem execPowerOnReset_canonical {pin} : staysCanonical (execPowerOnReset pin s) := by
  unfold execPowerOnReset
  exact canonical_ite (canonical_ite hs (canonical_mk (powerOnReset_canonical hs)))
    (canonical_ite hs (canonical_mk (aonReturn_canonical (powerOnReset_canonical hs))))

theorem execResetPinRise_canonical {por} : staysCanonical (execResetPinRise por s) := by
  unfold execResetPinRise
  exact canonical_ite (canonical_mk hs) hs

theorem enterOff_canonical : (enterOff s).canonical := by
  unfold enterOff
  exact canonical_ite hs (canonical_mk
    (holdCompute_canonical (coarseEnter_canonical
    (resetDie_canonical (canonical_foldl (fun _ _ ht => setSlot_canonical ht) (canonical_mk hs))))))

theorem execPowerLoss_canonical {aon} : staysCanonical (execPowerLoss aon s) := by
  unfold execPowerLoss
  exact canonical_mk (enterOff_canonical hs)

theorem startWarm_canonical : (startWarm s).canonical := by
  unfold startWarm
  exact setCause_canonical (canonical_mk (holdCompute_canonical (resetDie_canonical (canonical_mk hs))))

theorem execVbat12Return_canonical : staysCanonical (execVbat12Return s) := by
  unfold execVbat12Return
  exact canonical_ite (canonical_ite (startWarm_canonical (canonical_mk hs)) (canonical_mk hs)) hs

theorem execReverseBatteryEnd_canonical {recorded} : staysCanonical (execReverseBatteryEnd recorded s) := by
  unfold execReverseBatteryEnd
  extract_lets
  refine canonical_ite ?_ (aonReturn_canonical (powerOnReset_canonical (enterOff_canonical hs)))
  split
  rename_i heq
  exact powerRaise_canonical (canonical_of_snd heq (drawFree_canonical (startWarm_canonical (enterOff_canonical hs))))

theorem execDozeEntered_canonical : staysCanonical (execDozeEntered s) := by
  unfold execDozeEntered
  exact canonical_ite (canonical_mk hs) hs

theorem execDozeExit_canonical : staysCanonical (execDozeExit s) := by
  unfold execDozeExit
  exact canonical_ite (canonical_mk
    (set_canonical (canonical_foldl
    (fun _ _ ht => canonical_ite (canonical_foldl (fun _ _ hu => setCore_canonical hu) (setPairState_canonical ht)) ht)
    hs))) hs

theorem portDown_canonical {p} : (portDown p s).canonical := by
  unfold portDown
  extract_lets s1
  have h1 : s1.canonical := canonical_ite (portLeaves_canonical hs) hs
  exact canonical_ite (flushPort_canonical h1) h1

theorem parkBegin_canonical : (parkBegin s).canonical := by
  unfold parkBegin
  extract_lets s1
  have h1 : s1.canonical := canonical_foldl (fun _ _ ht => portDown_canonical ht) hs
  exact canonical_ite hs (canonical_mk (set_canonical (canonical_ite (canonical_mk h1) h1)))

theorem execParkGtcHandoff_canonical : staysCanonical (execParkGtcHandoff s) := by
  unfold execParkGtcHandoff
  exact canonical_ite hs (canonical_mk
    (set_canonical (resetDie_canonical (eraseDerived_canonical (channelsOff_canonical (coarseEnter_canonical hs))))))

theorem execParkExit_canonical : staysCanonical (execParkExit s) := by
  unfold execParkExit
  extract_lets
  split
  · exact hs
  · exact canonical_ite hs (setCause_canonical
      (canonical_mk (holdCompute_canonical (set_canonical (set_canonical (set_canonical hs))))))

theorem execTamperRecognised_canonical {i} : staysCanonical (execTamperRecognised i s) := by
  unfold execTamperRecognised
  exact canonical_ite hs (canonical_ite (canonical_mk (tamper_canonical hs)) (tamper_canonical hs))

theorem sysActs_canonical {a old w} : (sysActs a old w s).canonical := by
  unfold sysActs
  extract_lets
  refine canonical_ite ?_ (canonical_ite (setReg_canonical hs)
    (canonical_ite (canonical_mk hs)
    (canonical_ite (canonical_ite (warmReset_canonical hs) (canonical_ite (computeReset_canonical hs) hs))
    (faultActs_canonical hs))))
  split
  · exact canonical_ite hs (canonical_mk (set_canonical hs))
  · exact parkBegin_canonical hs
  · exact hs

/-! ### Mmio: reads and writes of the MMIO blocks -/

theorem semAcquire_canonical {k side carrel} : (semAcquire k side carrel s).2.canonical := by
  unfold semAcquire
  exact canonical_ite_snd hs (setReg_canonical hs)

theorem semForward_canonical {carrel} : (semForward carrel s).2.canonical := by
  unfold semForward
  extract_lets
  split
  rename_i heq
  have ht := canonical_of_snd heq (drawFree_canonical hs)
  exact canonical_ite_snd ht ht

theorem semRead_canonical {k id} : (semRead k id s).2.canonical := by
  unfold semRead
  split
  · split
    rename_i heq
    exact canonical_of_snd heq (semAcquire_canonical hs)
  · refine canonical_ite_snd hs ?_
    split
    rename_i heq
    exact canonical_of_snd heq (semForward_canonical hs)

theorem semFree_canonical {k side carrel lib} : (semFree k side carrel lib s).all State.canonical := by
  unfold semFree
  exact canonical_ite_option hs (canonical_ite_option (setReg_canonical hs) rfl)

theorem semWrite_canonical {k id w} : (semWrite k id w s).2.canonical := by
  unfold semWrite
  refine canonical_ite_snd hs ?_
  split
  · split
    · rename_i heq
      exact canonical_of_option heq (semFree_canonical hs)
    · exact hs
  · refine canonical_ite_snd hs ?_
    split
    rename_i heq
    exact canonical_of_snd heq (drawFree_canonical hs)

theorem mmioRead_canonical {t} : (mmioRead t s).2.canonical := by
  unfold mmioRead
  extract_lets _ s0
  have h0 : s0.canonical := canonical_ite (mirrorDrain_canonical hs) hs
  refine canonical_ite_snd (semRead_canonical hs) ?_
  split
  · split
    · rename_i heq
      exact canonical_of_snd heq (readArray_canonical hs)
    · rename_i heq
      exact canonical_of_snd heq (readArray_canonical hs)
  · split
    rename_i heq
    have ht := canonical_of_snd heq (by
      refine canonical_ite_snd ?_ h0
      split
      rename_i heq
      exact canonical_of_snd heq (twinStatRead_canonical h0))
    extract_lets s2
    have h2 : s2.canonical := canonical_foldl (fun _ _ hu => canonical_mk hu) ht
    exact canonical_ite (canonical_mk h2) h2

theorem brLogClr_canonical : (brLogClr s).canonical := by
  unfold brLogClr
  exact set_canonical (setReg_canonical
    (setReg_canonical (canonical_foldl (fun _ _ ht => setReg_canonical (setReg_canonical ht)) hs)))

theorem permLogClr_canonical : (permLogClr s).canonical := by
  unfold permLogClr
  exact canonical_mk (set_canonical hs)

theorem blkActs_canonical {t old w} : (blkActs t old w s).canonical := by
  unfold blkActs
  extract_lets +onlyGivenNames a
  split
  · exact sysActs_canonical hs
  · exact timeActs_canonical hs
  · exact archActs_canonical hs
  · exact stkActs_canonical hs
  · exact canonical_ite (permLogClr_canonical hs) hs
  · exact catActs_canonical hs
  · exact catgActs_canonical hs
  · exact collActs_canonical hs
  · exact circActs_canonical hs
  · exact ethActs_canonical hs
  · extract_lets +onlyGivenNames u ok s1
    have h1 : s1.canonical := macsecActs_canonical hs
    exact canonical_ite (sessionsStop_canonical h1) h1
  · exact canActs_canonical hs
  · exact linActs_canonical hs
  · exact nmActs_canonical hs
  · exact loadActs_canonical hs
  · exact exbActs_canonical hs
  · extract_lets +onlyGivenNames s1 o
    have h1 : s1.canonical := carrelActs_canonical hs
    exact canonical_ite (carrelReset_canonical h1) h1
  · exact vaultActs_canonical hs
  · exact canonical_ite (brLogClr_canonical hs) (twinActs_canonical hs)
  · exact iocActs_canonical hs
  · exact hs

theorem mapWrite_canonical {a w answer} : (mapWrite a w answer s).2.canonical := by
  unfold mapWrite
  split
  · exact hs
  · dsimp only
    exact mapApply_canonical hs

theorem regWrite_canonical {r t} : (regWrite r t s).2.canonical := by
  unfold regWrite
  exact canonical_ite_snd hs (canonical_ite_snd (canonical_ite (loadRefusedActs_canonical hs) hs)
    (blkActs_canonical (setReg_canonical hs)))

theorem wideWrite_canonical {t} : (wideWrite t s).2.canonical := by
  unfold wideWrite
  extract_lets
  split
  · exact poolWrite_canonical hs
  · exact canonical_ite_snd (wrMem_canonical hs) hs
  · exact hs

theorem mmioWrite_canonical {t} : (mmioWrite t s).2.canonical := by
  unfold mmioWrite
  extract_lets
  refine canonical_ite_snd (wideWrite_canonical hs)
    (canonical_ite_snd hs (canonical_ite_snd (canonical_ite_snd hs (setReg_canonical hs)) ?_))
  split
  · exact hs
  · refine canonical_ite_snd (canonical_ite_snd hs (setReg_canonical hs))
      (canonical_ite_snd (canonical_ite_snd hs (semWrite_canonical hs))
      (canonical_ite_snd (canonical_ite_snd ?_ (mapWrite_canonical hs)) (regWrite_canonical hs)))
    split
    rename_i heq'
    exact mapWrite_canonical (canonical_of_snd heq' (drawFree_canonical hs))

/-! ### Fabric: the word fabric -/

theorem arrayRead_canonical {a} : (arrayRead a s).2.canonical := by
  unfold arrayRead
  split
  · rename_i heq
    exact canonical_of_snd heq (readArray_canonical hs)
  · rename_i heq
    exact canonical_of_snd heq (readArray_canonical hs)

theorem arrayCas_canonical {a expect new} : (arrayCas a expect new s).2.canonical := by
  unfold arrayCas
  split
  · rename_i heq
    have ht := canonical_of_snd heq (readArray_canonical hs)
    exact canonical_ite (wrMem_canonical ht) ht
  · rename_i heq
    exact canonical_of_snd heq (readArray_canonical hs)

theorem cellRead_canonical {a lib} : (cellRead a lib s).2.canonical := by
  unfold cellRead
  refine canonical_ite_snd hs (canonical_ite_snd (arrayRead_canonical hs) ?_)
  split
  rename_i heq
  exact canonical_of_snd heq (drawFree_canonical hs)

theorem twinFar_canonical {t} : (twinFar t s).2.canonical := by
  unfold twinFar
  refine canonical_ite_snd hs ?_
  split
  rename_i heq
  have ht := canonical_of_snd heq (drawFree_canonical hs)
  split
  · split
    rename_i heq'
    exact canonical_of_snd heq' (drawFree_canonical ht)
  · refine canonical_ite_snd ht ?_
    split
    rename_i heq'
    exact canonical_of_snd heq' (drawFree_canonical ht)

theorem perform_canonical {t} : (perform t s).2.canonical := by
  unfold perform
  extract_lets
  split
  · split
    · exact wrMem_canonical hs
    · exact arrayCas_canonical hs
    · exact arrayRead_canonical hs
  · split
    · exact canonical_ite_snd (wrMem_canonical hs) hs
    · exact hs
    · exact arrayRead_canonical hs
  · split
    · exact canonical_ite_snd (wrMem_canonical hs) hs
    · exact hs
    · exact arrayRead_canonical hs
  · split
    · exact hs
    · exact hs
    · exact cellRead_canonical hs
  · split
    · exact hs
    · exact hs
    · exact hs
  · split
    · exact canonical_ite_snd hs (wrMem_canonical hs)
    · exact hs
    · exact arrayRead_canonical hs
  · split
    · exact hs
    · exact hs
    · exact canonical_ite_snd hs hs
  · split
    · exact mmioWrite_canonical hs
    · exact hs
    · exact mmioRead_canonical hs
  · exact twinFar_canonical hs
  · exact hs

theorem refuse_canonical {t r} : (refuse t r s).2.canonical := by
  unfold refuse
  exact canonical_ite (faultNoSrc_canonical hs) (logRefusal_canonical hs)

theorem fabric_canonical {t} : (fabric t s).2.canonical := by
  unfold fabric
  split
  · exact refuse_canonical hs
  · split
    · rename_i heq
      exact logRefusal_canonical (canonical_of_snd heq (perform_canonical hs))
    · exact perform_canonical hs

theorem twinIssue_canonical {t core} : (twinIssue t core s).2.canonical := by
  unfold twinIssue
  extract_lets
  split
  · exact refuse_canonical hs
  · exact canonical_ite_snd (logRefusal_canonical hs) (canonical_mk hs)

theorem outside_canonical {t} : (outside t s).canonical := by
  unfold outside
  split
  · split
    · rename_i heq
      exact canonical_mk (canonical_of_snd heq (twinIssue_canonical hs))
    · rename_i heq
      exact canonical_of_snd heq (twinIssue_canonical hs)
  · split
    rename_i heq
    exact canonical_mk (canonical_of_snd heq (fabric_canonical hs))

theorem execTransactionTimeout_canonical {t} : staysCanonical (execTransactionTimeout t s) := by
  unfold execTransactionTimeout
  extract_lets
  refine canonical_ite hs ?_
  split
  rename_i heq
  have ht := canonical_of_snd heq (drawFree_canonical hs)
  extract_lets s1
  have h1 : s1.canonical := fault_canonical (canonical_mk ht)
  split
  · exact h1
  · exact canonical_ite (canonical_mk ht)
      (canonical_foldl (fun _ _ hu => ctxFail_canonical hu) (closeTile_canonical h1))

theorem regWriteTxn_canonical {id a w} : staysCanonical (regWriteTxn id a w s) := by
  unfold regWriteTxn
  exact outside_canonical hs

theorem inboundPerform_canonical {t} : (inboundPerform t s).canonical := by
  unfold inboundPerform
  extract_lets
  split
  rename_i heq
  exact canonical_mk (canonical_of_snd heq (fabric_canonical hs))

theorem inboundResume_canonical : (inboundResume s).canonical := by
  unfold inboundResume
  extract_lets
  split
  · exact hs
  · exact inboundPerform_canonical (canonical_mk hs)

theorem bridgeIssue_canonical : (bridgeIssue s).canonical := by
  unfold bridgeIssue
  extract_lets
  split
  · exact canonical_mk (set_canonical hs)
  · exact hs

theorem execTwinOutboundIssue_canonical {ans} : staysCanonical (execTwinOutboundIssue ans s) := by
  unfold execTwinOutboundIssue
  extract_lets
  refine canonical_ite hs ?_
  split
  · exact bridgeIssue_canonical (inboundResume_canonical (bridgeAnswer_canonical hs))
  · exact bridgeIssue_canonical hs

theorem execTwinInboundArrival_canonical {t} : staysCanonical (execTwinInboundArrival t s) := by
  unfold execTwinInboundArrival
  exact canonical_ite hs (canonical_ite (canonical_mk hs)
    (canonical_ite (canonical_ite (canonical_mk hs) (canonical_mk hs)) (inboundPerform_canonical hs)))

theorem execCrossingResponse_canonical : staysCanonical (execCrossingResponse s) := by
  unfold execCrossingResponse
  extract_lets
  split
  · exact hs
  · exact canonical_ite hs (canonical_ite
      (inboundResume_canonical (bridgeAnswer_canonical (raiseLib_canonical (addSat_canonical (addSat_canonical hs)))))
      (inboundResume_canonical (canonical_mk (set_canonical (addSat_canonical hs)))))

theorem execBridgeRetry_canonical : staysCanonical (execBridgeRetry s) := by
  unfold execBridgeRetry
  extract_lets
  split
  · exact hs
  · exact canonical_ite hs (canonical_mk hs)

theorem execBridgeAttemptTimeout_canonical : staysCanonical (execBridgeAttemptTimeout s) := by
  unfold execBridgeAttemptTimeout
  split
  · exact hs
  · exact canonical_ite hs (inboundResume_canonical (bridgeAnswer_canonical (addSat_canonical hs)))

theorem execMirrorRefusalReport_canonical {addr reason} : staysCanonical (execMirrorRefusalReport addr reason s) := by
  unfold execMirrorRefusalReport
  exact canonical_ite hs (canonical_ite (addSat_canonical hs)
    (raiseLib_canonical (addSat_canonical (addWrap_canonical (setReg_canonical (setReg_canonical hs))))))

theorem execSemaphoreAcquire_canonical {k fromTwin id} : staysCanonical (execSemaphoreAcquire k fromTwin id s) := by
  unfold execSemaphoreAcquire
  refine canonical_ite (canonical_ite ?_ hs) (outside_canonical hs)
  split
  rename_i heq
  exact canonical_mk (canonical_of_snd heq (semAcquire_canonical hs))

theorem execSemaphoreRelease_canonical {k fromTwin id} : staysCanonical (execSemaphoreRelease k fromTwin id s) := by
  unfold execSemaphoreRelease
  refine canonical_ite (canonical_ite ?_ hs) (outside_canonical hs)
  split
  · rename_i heq
    exact canonical_mk (canonical_of_option heq (semFree_canonical hs))
  · exact canonical_mk hs

theorem copyRun_canonical {l a} : (copyRun l a s).2.canonical := by
  induction l generalizing a s with
  | nil => exact hs
  | cons x l ih =>
    unfold copyRun
    split
    · rename_i heq
      exact canonical_of_snd heq (fabric_canonical hs)
    · rename_i heq
      exact ih (canonical_of_snd heq (fabric_canonical hs))

theorem execXspiCopyDone_canonical : staysCanonical (execXspiCopyDone s) := by
  unfold execXspiCopyDone
  extract_lets
  refine canonical_ite hs ?_
  split
  rename_i heq
  have ht := canonical_of_snd heq (copyRun_canonical hs)
  extract_lets _ _ _ s3
  have h3 : s3.canonical := by
    unfold s3
    split
    · exact canonical_mk (set_canonical ht)
    · extract_lets s3
      have h3 : s3.canonical := set_canonical (flag_canonical (canonical_mk (set_canonical ht)))
      exact canonical_ite (flag_canonical h3) h3
  exact raiseFree_canonical h3

/-! ### CoreMem: how a core reaches memory -/

theorem walk_canonical {c va fuel base level} : (walk c va fuel base level s).2.canonical := by
  induction fuel generalizing base level s with
  | zero => exact hs
  | succ fuel ih =>
    unfold walk
    dsimp only
    split
    · rename_i heq
      have ht := canonical_of_snd heq (fabric_canonical hs)
      exact canonical_ite_snd ht (canonical_ite_snd ht (canonical_ite_snd ht (ih ht)))
    · rename_i heq
      exact canonical_of_snd heq (fabric_canonical hs)

theorem translate_canonical {c va k} : (translate c va k s).2.canonical := by
  unfold translate
  extract_lets
  refine canonical_ite_snd hs (canonical_ite_snd hs ?_)
  split
  · exact hs
  · split
    · rename_i heq
      exact canonical_of_snd heq (walk_canonical hs)
    · rename_i heq
      exact setCore_canonical (canonical_of_snd heq (walk_canonical hs))

theorem reach_canonical {c va k} : (reach c va k s).2.canonical := by
  unfold reach
  extract_lets
  refine canonical_ite_snd (canonical_ite_snd hs hs) ?_
  split
  · rename_i heq
    exact canonical_of_snd heq (translate_canonical hs)
  · rename_i heq
    exact canonical_of_snd heq (translate_canonical hs)
  · rename_i heq
    exact canonical_of_snd heq (translate_canonical hs)

theorem coreFetch_canonical {c} : (coreFetch c s).2.canonical := by
  unfold coreFetch
  extract_lets
  split
  · rename_i heq
    exact takeTrap_canonical (canonical_of_snd heq (reach_canonical hs))
  · rename_i heq
    have ht := canonical_of_snd heq (reach_canonical hs)
    split
    · rename_i heq'
      exact takeTrap_canonical (canonical_of_snd heq' (fabric_canonical ht))
    · rename_i heq'
      exact canonical_of_snd heq' (fabric_canonical ht)

theorem finishAt_canonical {c npc} : (finishAt c npc s).canonical := by
  unfold finishAt
  exact canonical_ite hs (commitTo_canonical hs)

theorem finishNext_canonical {c} : (finishNext c s).canonical := by
  unfold finishNext
  exact finishAt_canonical hs

theorem coreAccess_canonical {c k ea rd data expect} : (coreAccess c k ea rd data expect s).canonical := by
  unfold coreAccess
  extract_lets
  split
  · rename_i heq
    exact takeTrap_canonical (canonical_of_snd heq (reach_canonical hs))
  · rename_i heq
    have ht := canonical_of_snd heq (reach_canonical hs)
    extract_lets
    split
    · split
      · rename_i heq'
        exact takeTrap_canonical (canonical_of_snd heq' (twinIssue_canonical ht))
      · rename_i heq'
        exact setCore_canonical (canonical_of_snd heq' (twinIssue_canonical ht))
    · split
      · rename_i heq'
        exact takeTrap_canonical (canonical_of_snd heq' (fabric_canonical ht))
      · rename_i heq'
        exact finishNext_canonical (setLreg_canonical (canonical_of_snd heq' (fabric_canonical ht)))
      · rename_i heq'
        exact finishNext_canonical (canonical_of_snd heq' (fabric_canonical ht))

/-! ### Run: the execution of one Yilfixa-72 instruction, on an execution core or on a cataloguer -/

theorem illegal_canonical {c i} : (illegal c i s).canonical := by
  unfold illegal
  exact takeTrap_canonical hs

theorem privilege_canonical {c i} : (privilege c i s).canonical := by
  unfold privilege
  exact takeTrap_canonical hs

theorem onCore_canonical {c i body} (hbody : ∀ t, t.canonical → (body t).canonical) :
    (onCore c i body s).canonical := by
  unfold onCore
  split
  · exact hs
  · split
    · exact noticeTrap_canonical hs
    · split
      · rename_i heq
        exact canonical_of_snd heq (coreFetch_canonical hs)
      · rename_i heq
        have ht := canonical_of_snd heq (coreFetch_canonical hs)
        exact canonical_ite (illegal_canonical ht) (hbody _ ht)

theorem cuFinish_canonical {n count o} (ho : cuCanonical o) : (cuFinish n count o s).canonical := by
  cases o with
  | fault cause => exact cuFault_canonical hs
  | stall t => exact cuStall_canonical ho
  | wait rd => exact addWrap_canonical (setCu_canonical hs)
  | next npc t => exact canonical_ite (cuFault_canonical hs) (setCu_canonical ho)

theorem onCu_canonical {n i body} (hbody : ∀ t, t.canonical → cuCanonical (body t)) : (onCu n i body s).canonical := by
  unfold onCu
  dsimp only
  split
  · exact hs
  · split
    · exact cuFault_canonical hs
    · split
      · rename_i heq
        exact cuFault_canonical (canonical_of_snd heq (readArray_canonical hs))
      · rename_i heq
        have ht := canonical_of_snd heq (readArray_canonical hs)
        exact canonical_ite (cuFault_canonical ht)
          (canonical_ite (cuFault_canonical ht) (canonical_ite (cuFault_canonical ht)
          (cuFinish_canonical ht (hbody _ ht))))

theorem runInsn_canonical {x i core cu} (hcore : ∀ c t, t.canonical → (core c t).canonical)
    (hcu : ∀ n t, t.canonical → cuCanonical (cu n t)) : staysCanonical (runInsn x i core cu s) := by
  cases x with
  | core c => exact onCore_canonical hs fun t ht => hcore c.val t ht
  | cu n => exact onCu_canonical hs fun t ht => hcu n.val t ht

theorem cuPut_canonical {n rd w} : cuCanonical (cuPut n rd w s) := setCu_canonical hs

theorem corePut_canonical {c rd w} : (corePut c rd w s).canonical := by
  unfold corePut
  exact finishNext_canonical (setLreg_canonical hs)

theorem runPure_canonical {x i rd f} : staysCanonical (runPure x i rd f s) :=
  runInsn_canonical hs (fun _ _ ht => corePut_canonical ht) (fun _ _ ht => cuPut_canonical ht)

theorem runJump_canonical {x i rd f} : staysCanonical (runJump x i rd f s) := by
  unfold runJump
  refine runInsn_canonical hs (fun c t ht => ?_) fun n t ht => ?_
  · extract_lets pc t1
    have h1 : t1.canonical := by
      cases rd with
      | none => exact ht
      | some r => exact setLreg_canonical ht
    clear_value t1 pc
    split
    · exact illegal_canonical ht
    · exact finishAt_canonical h1
  · extract_lets k
    clear_value k
    split
    · rfl
    · split
      · split
        · rfl
        · exact setCu_canonical ht
      · exact ht

/-! ### IsaCtl: branches, calls, BRK and the undefined encodings -/

theorem branch_canonical {x fn ra rb disp cond} : staysCanonical (branch x fn ra rb disp cond s) := by
  unfold branch
  exact runJump_canonical hs

theorem brkDo_canonical {c i imm} : (brkDo c i imm s).canonical := by
  unfold brkDo
  exact canonical_ite (canonical_ite (debugEnter_canonical hs) (takeTrap_canonical hs))
    (canonical_ite (takeTrap_canonical hs) (canonical_ite (privilege_canonical hs) (takeTrap_canonical hs)))

/-- An instruction that no cataloguer has. -/
theorem runInsn_core_canonical {x i core} {cause : Nat} (hcore : ∀ c t, t.canonical → (core c t).canonical) :
    staysCanonical (runInsn x i core (fun _ _ => .fault cause) s) :=
  runInsn_canonical hs hcore fun _ _ _ => rfl

theorem execBrk_canonical {x rd imm} : staysCanonical (execBrk x rd imm s) := by
  unfold execBrk
  exact runInsn_core_canonical hs fun _ _ ht => brkDo_canonical ht

theorem execUndefinedOp_canonical {x w} : staysCanonical (execUndefinedOp x w s) :=
  canonical_ite_outcome (runInsn_core_canonical hs fun _ _ ht => ht) hs

/-! ### IsaFloat: the floating-point instructions -/

theorem fpOn_canonical {c rd p f} : (fpOn c rd p f s).canonical := by
  unfold fpOn
  extract_lets
  split
  exact corePut_canonical (setDesk_canonical hs)

theorem fp2_canonical {x fn rd ra rb f} : staysCanonical (fp2 x fn rd ra rb f s) :=
  runInsn_core_canonical hs fun _ _ ht => fpOn_canonical ht

theorem fp1_canonical {x fn rd ra rb f} : staysCanonical (fp1 x fn rd ra rb f s) :=
  runInsn_core_canonical hs fun _ _ ht => fpOn_canonical ht

theorem fp3_canonical {x variant rd ra rb rc f} : staysCanonical (fp3 x variant rd ra rb rc f s) :=
  runInsn_core_canonical hs fun _ _ ht => fpOn_canonical ht

/-! ### IsaInt: the integer, bit-field, octet and provenance instructions -/

theorem aluMerge_canonical {x fn rd ra rb f} : staysCanonical (aluMerge x fn rd ra rb f s) := by
  unfold aluMerge
  exact runPure_canonical hs

theorem aluShift_canonical {x fn rd ra rb f} : staysCanonical (aluShift x fn rd ra rb f s) := by
  unfold aluShift
  exact runPure_canonical hs

theorem mulDiv_canonical {x fn rd ra rb f} : staysCanonical (mulDiv x fn rd ra rb f s) := by
  unfold mulDiv
  exact runPure_canonical hs

theorem aluImm_canonical {x op rd ra imm f} : staysCanonical (aluImm x op rd ra imm f s) := by
  unfold aluImm
  exact runPure_canonical hs

theorem aluShiftImm_canonical {x kind rd ra hi amt f} : staysCanonical (aluShiftImm x kind rd ra hi amt f s) := by
  unfold aluShiftImm
  exact runPure_canonical hs

theorem execPchk_canonical {x rd ra imm} : staysCanonical (execPchk x rd ra imm s) := by
  refine runInsn_canonical hs (fun c t ht => canonical_ite (finishNext_canonical ht) (takeTrap_canonical ht)) fun n t
    ht => ?_
  split
  · exact ht
  · rfl

/-! ### IsaMem: the memory, catalogue and event instructions -/

theorem execLdw_canonical {x rd ra imm} : staysCanonical (execLdw x rd ra imm s) :=
  runInsn_core_canonical hs fun _ _ ht => coreAccess_canonical ht

theorem execStw_canonical {x rd ra imm} : staysCanonical (execStw x rd ra imm s) :=
  runInsn_core_canonical hs fun _ _ ht => coreAccess_canonical ht

theorem execCasw_canonical {x rd ra rb fn} : staysCanonical (execCasw x rd ra rb fn s) :=
  runInsn_core_canonical hs fun _ _ ht => coreAccess_canonical ht

theorem catTrap_canonical {c sm} : (catTrap c sm s).canonical := by
  unfold catTrap
  exact takeTrap_canonical hs

theorem cuNoteMask_canonical {n sm w} : (cuNoteMask n sm w s).all State.canonical := by
  unfold cuNoteMask
  exact canonical_ite_option hs (canonical_ite_option rfl (runItem_canonical hs))

theorem execCatr_canonical {x rd ra imm} : staysCanonical (execCatr x rd ra imm s) := by
  refine runInsn_canonical hs (fun c t ht => ?_) fun n t ht => ?_
  · exact canonical_ite (corePut_canonical (catRead_canonical ht)) (catTrap_canonical ht)
  · extract_lets sm
    split
    · exact cuPut_canonical (catRead_canonical ht)
    · rfl

theorem execCatrp_canonical {x rd ra imm} : staysCanonical (execCatrp x rd ra imm s) := by
  refine runInsn_canonical hs (fun c t ht => ?_) fun n t ht => ?_
  · exact canonical_ite (corePut_canonical (catRead_canonical ht)) (catTrap_canonical ht)
  · extract_lets sm
    have hread := catRead_canonical (sm := sm) (confirmed := false) ht
    split
    · split
      rename_i heq
      have hword := canonical_of_snd heq hread
      split
      · rename_i hnote
        exact cuPut_canonical (canonical_of_option hnote (cuNoteMask_canonical hword))
      · exact hword
    · rfl

theorem execCatw_canonical {x rd ra imm} : staysCanonical (execCatw x rd ra imm s) := by
  refine runInsn_canonical hs (fun c t ht => ?_) fun n t ht => ?_
  · exact canonical_ite (takeTrap_canonical ht)
      (canonical_ite (finishNext_canonical (catWrite_canonical ht)) (catTrap_canonical ht))
  · extract_lets sm d k
    split
    · rfl
    · split
      · exact catWrite_canonical ht
      · rfl

theorem emitDo_canonical {n imm a} : cuCanonical (emitDo n imm a s) := by
  unfold emitDo
  extract_lets +onlyGivenNames k npc o
  split
  · rfl
  · split
    rename_i heq
    have ht := canonical_of_snd heq (engRead_canonical hs)
    split
    · rfl
    · split
      · exact ht
      · extract_lets w ptr
        split
        · exact runWalks_canonical (canonical_mk ht)
        · split
          · exact ht
          · exact runWalks_canonical (canonical_mk ht)

theorem execEmit_canonical {x rd ra imm} : staysCanonical (execEmit x rd ra imm s) :=
  runInsn_canonical hs (fun _ _ ht => ht) fun _ _ ht => emitDo_canonical ht

theorem waiteDo_canonical {c rd deadline} : (waiteDo c rd deadline s).canonical := by
  unfold waiteDo
  split
  · rename_i heq
    exact waiteWrite_canonical (popNotice_canonical hs heq)
  · exact waiteDeadline_canonical (setCore_canonical hs)

theorem execWaite_canonical {x rd ra rb fn} : staysCanonical (execWaite x rd ra rb fn s) := by
  unfold execWaite
  extract_lets
  exact runInsn_canonical hs (fun _ _ ht => waiteDo_canonical ht) fun _ _ _ => rfl

/-! ### Switching: context areas and carrel switching -/

theorem ctxWrite_canonical {x k} : (ctxWrite x k s).canonical := by
  unfold ctxWrite
  exact canonical_foldl (fun _ _ ht => fabric_canonical ht) hs

theorem ctxRead_canonical {x c} : (ctxRead x c s).2.canonical := by
  unfold ctxRead
  extract_lets
  refine canonical_foldl_snd (fun _ _ ht => ?_) hs
  split
  · rename_i heq
    exact canonical_of_snd heq (fabric_canonical ht)
  · rename_i heq
    split
    rename_i heq'
    exact canonical_of_snd heq' (drawFree_canonical (canonical_of_snd heq (fabric_canonical ht)))

theorem ctxLoad_canonical {x c} : (ctxLoad x c s).2.canonical := by
  unfold ctxLoad
  split
  rename_i heq
  have ht := canonical_of_snd heq (ctxRead_canonical hs)
  split
  rename_i heq
  exact canonical_of_snd heq (drawFree_canonical ht)

theorem ctxFresh_canonical {c} : (ctxFresh c s).2.canonical := by
  unfold ctxFresh
  split
  rename_i heq
  refine canonical_of_snd heq (canonical_foldl_snd (fun t _ ht => ?_) hs)
  exact drawFree_canonical (w := 72) ht

theorem commitCtx_canonical {x} : (commitCtx x s).canonical := by
  unfold commitCtx
  extract_lets
  split
  · exact hs
  · exact set_canonical (ctxWrite_canonical (setCore_canonical hs))

theorem switchOut_canonical {x pc mode} : (switchOut x pc mode s).canonical := by
  unfold switchOut
  exact canonical_ite hs (set_canonical (setCore_canonical (commitCtx_canonical hs)))

theorem switchIn_canonical {x c} : (switchIn x c s).canonical := by
  unfold switchIn
  split
  rename_i heq
  have ht := canonical_of_snd heq (by
    split
    · exact canonical_ite_snd hs (canonical_ite_snd (ctxFresh_canonical hs)
        (ctxLoad_canonical (commitCtx_canonical hs)))
    · exact canonical_ite_snd (ctxFresh_canonical hs) (ctxLoad_canonical (commitCtx_canonical hs)))
  exact set_canonical (setCore_canonical (setCarrel_canonical ht))

theorem pairSleep_canonical {p} : (pairSleep p s).canonical := by
  unfold pairSleep
  exact canonical_ite (setPairState_canonical hs) hs

theorem windowSwitch_canonical {p k} : (windowSwitch p k s).canonical := by
  unfold windowSwitch
  extract_lets _ _ _ _ s0
  have h0 : s0.canonical := setCore_canonical hs
  refine canonical_ite hs (canonical_ite
    (pairSleep_canonical (commitCtx_canonical (agreeNote_canonical (switchOut_canonical h0))))
    (canonical_ite (agreeNote_canonical (switchOut_canonical h0)) ?_))
  split
  extract_lets s1 _ _ _ s2
  have h1 : s1.canonical := set_canonical h0
  have h2 : s2.canonical := by
    unfold s2
    refine canonical_ite (setCore_canonical h1) ?_
    split
    · exact switchIn_canonical (agreeNote_canonical (switchOut_canonical h1))
    · exact setCore_canonical (agreeNote_canonical (switchOut_canonical h1))
  exact setCore_canonical h2

theorem timetableSwitch_canonical {p k} : (timetableSwitch p k s).canonical := by
  unfold timetableSwitch
  exact canonical_ite hs (canonical_ite (canonical_ite hs (addSat_canonical (setCore_canonical hs)))
    (windowSwitch_canonical hs))

theorem heldSwitchTake_canonical {x} : (heldSwitchTake x s).canonical := by
  unfold heldSwitchTake
  exact canonical_ite (windowSwitch_canonical hs) hs

theorem execContextPrefetch_canonical {p k} : staysCanonical (execContextPrefetch p k s) := by
  unfold execContextPrefetch
  extract_lets
  refine canonical_ite hs ?_
  split
  · exact hs
  · refine canonical_ite hs ?_
    split
    rename_i heq'
    exact setCore_canonical (canonical_of_snd heq' (ctxLoad_canonical (commitCtx_canonical hs)))

theorem execCheckpointCommit_canonical {x} : staysCanonical (execCheckpointCommit x s) := by
  unfold execCheckpointCommit
  exact canonical_ite hs (commitCtx_canonical hs)

theorem idleFor_canonical {x c} : (idleFor x c s).canonical := by
  unfold idleFor
  exact raiseLib_canonical (set_canonical (setCore_canonical hs))

theorem lkReturn_canonical {x} : (lkReturn x s).canonical := by
  unfold lkReturn
  exact setCore_canonical hs

theorem csw_canonical {x c} : (csw x c s).canonical := by
  unfold csw
  extract_lets _ _ s2
  have h2 : s2.canonical := lkReturn_canonical (switchOut_canonical (commitTo_canonical hs))
  exact canonical_ite (takeTrap_canonical hs)
    (canonical_ite (idleFor_canonical h2) (heldSwitchTake_canonical (switchIn_canonical (setCore_canonical h2))))

theorem rettLib_canonical {x} : (rettLib x s).canonical := by
  unfold rettLib
  extract_lets _ _ _ s1
  have h1 : s1.canonical := lkReturn_canonical (commitTo_canonical hs)
  exact canonical_ite (heldSwitchTake_canonical (idleFor_canonical (setMode_canonical h1)))
    (heldSwitchTake_canonical (setMode_canonical h1))

theorem rettSup_canonical {x} : (rettSup x s).canonical := by
  unfold rettSup
  exact setMode_canonical (setDesk_canonical (commitTo_canonical hs))

/-! ### IsaSys: the SYS group -/

theorem runSys_canonical {x i core} (hcore : ∀ c t, t.canonical → (core c t).canonical) :
    staysCanonical (runSys x i core s) :=
  runInsn_core_canonical hs hcore

theorem execDrd_canonical {x rd ra rb hi} : staysCanonical (execDrd x rd ra rb hi s) := by
  refine runSys_canonical hs fun c t ht => ?_
  split
  · exact takeTrap_canonical ht
  · exact privilege_canonical ht
  · exact finishNext_canonical (setLreg_canonical (deskRead_canonical ht))

theorem dwr_canonical {c n i v} : (dwr c n i v s).canonical := by
  unfold dwr
  split
  · exact takeTrap_canonical hs
  · exact privilege_canonical hs
  · exact takeTrap_canonical hs
  · exact canonical_ite (takeTrap_canonical hs) (finishNext_canonical (deskWrite_canonical hs))

theorem execDwr_canonical {x rd ra rb hi} : staysCanonical (execDwr x rd ra rb hi s) :=
  runSys_canonical hs fun _ _ ht => dwr_canonical ht

theorem execTlbFlush_canonical {x ra} : staysCanonical (execTlbFlush x ra s) :=
  runSys_canonical hs fun _ _ ht => dwr_canonical ht

theorem mbxError_canonical {c b} : (mbxError c b s).canonical := by
  unfold mbxError
  exact takeTrap_canonical hs

theorem execMbxPut_canonical {x rd ra rb hi} : staysCanonical (execMbxPut x rd ra rb hi s) := by
  refine runSys_canonical hs fun c t ht => ?_
  split
  refine canonical_ite (privilege_canonical ht) ?_
  split
  · rename_i heq
    exact finishNext_canonical (canonical_of_option heq (deskPut_canonical ht))
  · exact mbxError_canonical ht

theorem execMbxGet_canonical {x rd ra rb hi} : staysCanonical (execMbxGet x rd ra rb hi s) := by
  refine runSys_canonical hs fun c t ht => ?_
  split
  refine canonical_ite (privilege_canonical ht) ?_
  split
  · exact finishNext_canonical (setLreg_canonical ht)
  · exact mbxError_canonical ht

theorem execMbxRing_canonical {x rd ra rb hi} : staysCanonical (execMbxRing x rd ra rb hi s) := by
  refine runSys_canonical hs fun c t ht => ?_
  split
  refine canonical_ite (privilege_canonical ht) ?_
  split
  · rename_i heq
    exact finishNext_canonical (canonical_of_option heq (deskRing_canonical ht))
  · exact mbxError_canonical ht

theorem execCsw_canonical {x rd ra rb hi} : staysCanonical (execCsw x rd ra rb hi s) :=
  runSys_canonical hs fun _ _ ht => canonical_ite (privilege_canonical ht) (csw_canonical ht)

theorem execFence_canonical {x rd ra rb hi} : staysCanonical (execFence x rd ra rb hi s) :=
  runSys_canonical hs fun _ _ ht => finishNext_canonical ht

theorem execSync_canonical {x rd ra rb hi} : staysCanonical (execSync x rd ra rb hi s) :=
  runSys_canonical hs fun _ _ ht => finishNext_canonical ht

theorem execRett_canonical {x rd ra rb hi} : staysCanonical (execRett x rd ra rb hi s) :=
  runSys_canonical hs fun _ _ ht => canonical_ite (privilege_canonical ht)
    (canonical_ite (rettLib_canonical ht) (rettSup_canonical ht))

/-! ### RegCmds: the rows of the table that are writes of one register -/

theorem execCatalogueMemoryWrite_canonical {id a w} : staysCanonical (execCatalogueMemoryWrite id a w s) := by
  unfold execCatalogueMemoryWrite
  split
  · exact outside_canonical hs
  · exact outside_canonical hs
  · exact hs

theorem execMapWrite_canonical {id a w answer} : staysCanonical (execMapWrite id a w answer s) := by
  unfold execMapWrite
  extract_lets
  refine canonical_ite hs ?_
  split
  · split
    rename_i heq'
    exact canonical_mk (canonical_of_snd heq' (refuse_canonical hs))
  · split
    · rename_i heq
      exact canonical_mk (logRefusal_canonical (canonical_of_snd heq (canonical_ite_snd hs (mapWrite_canonical hs))))
    · rename_i heq
      exact canonical_mk (canonical_of_snd heq (canonical_ite_snd hs (mapWrite_canonical hs)))

theorem reflexServe_canonical : (reflexServe s).canonical := by
  unfold reflexServe
  split
  · exact hs
  · exact canonical_ite (raiseFree_canonical (reflexStep_canonical (flag_canonical hs))) (reflexStep_canonical hs)

theorem execChannelCommand_canonical {src} : staysCanonical (execChannelCommand src s) := by
  unfold execChannelCommand
  split
  · exact reflexServe_canonical hs
  · exact regWriteTxn_canonical hs

/-! ### SwitchCmd: frames in and out of the circulation switch -/

theorem engineWord_canonical {master owner a} : (engineWord master owner a s).2.canonical := by
  unfold engineWord
  split
  · rename_i heq
    exact canonical_of_snd heq (fabric_canonical hs)
  · rename_i heq
    exact drawFree_canonical (canonical_of_snd heq (fabric_canonical hs))

theorem enginePut_canonical {master owner a w} : (enginePut master owner a w s).canonical := by
  unfold enginePut
  exact fabric_canonical hs

theorem engineOctets_canonical {master owner lay8 n a} : (engineOctets master owner lay8 n a s).2.canonical := by
  induction n generalizing a s with
  | zero => exact hs
  | succ n ih =>
    unfold engineOctets
    dsimp only
    exact ih (engineWord_canonical hs)

theorem engineFill_canonical {master owner lay8 n xs a} : (engineFill master owner lay8 n xs a s).canonical := by
  induction n generalizing xs a s with
  | zero => exact hs
  | succ n ih =>
    unfold engineFill
    dsimp only
    exact ih (enginePut_canonical (canonical_ite_snd (drawFree_canonical hs) hs))

theorem ringComplete_canonical {r w0} : (ringComplete r w0 s).canonical := by
  unfold ringComplete
  extract_lets _ _ s1
  have h1 : s1.canonical := set_canonical (enginePut_canonical hs)
  exact canonical_ite (raiseOwner_canonical h1) h1

theorem ringReceive_canonical {r c bad} : (ringReceive r c bad s).canonical := by
  unfold ringReceive
  extract_lets
  refine canonical_ite (addSat_canonical hs) ?_
  split
  rename_i heq
  exact ringComplete_canonical (enginePut_canonical
    (enginePut_canonical (enginePut_canonical (engineFill_canonical (canonical_of_snd heq (engineWord_canonical hs))))))

theorem ringSend_canonical {r} : (ringSend r s).canonical := by
  unfold ringSend
  extract_lets
  refine canonical_ite hs ?_
  split
  rename_i heq
  extract_lets
  split
  rename_i heq'
  extract_lets
  split
  rename_i heq''
  extract_lets _ s3 _ _ _ _ _ s4
  have h3 : s3.canonical := rxCount_canonical
    (canonical_of_snd heq'' (engineOctets_canonical
    (canonical_of_snd heq' (engineWord_canonical (canonical_of_snd heq (engineWord_canonical hs))))))
  have h4 : s4.canonical := by
    unfold s4
    split
    · split
      rename_i heq'''
      exact directCopies_canonical (canonical_of_snd heq''' (passIsolation_canonical h3))
    · refine canonical_ite (ethCount_canonical h3) (canonical_ite (localCopy_canonical h3) ?_)
      split
      rename_i heq'''
      exact formCopies_canonical (canonical_of_snd heq''' (passIsolation_canonical h3))
  exact ringComplete_canonical (formAll_canonical h4)

theorem execFrameClassification_canonical {p src} : staysCanonical (execFrameClassification p src s) := by
  unfold execFrameClassification
  refine canonical_ite hs ?_
  split
  · exact wireIn_canonical hs
  · exact canonical_ite (ringSend_canonical hs) hs
  · exact internalIn_canonical hs

theorem beginCopy_canonical {c} : (beginCopy c s).canonical := by
  unfold beginCopy
  extract_lets s1
  have h1 : s1.canonical := startCopy_canonical hs
  split
  · exact h1
  · extract_lets
    refine canonical_ite h1 ?_
    split
    rename_i heq'
    exact raiseOwner_canonical (canonical_of_snd heq'
      (drawFree_canonical (enginePut_canonical (enginePut_canonical h1))))

theorem execFrameTransmitStart_canonical {o} : staysCanonical (execFrameTransmitStart o s) := by
  unfold execFrameTransmitStart
  split
  · exact hs
  · exact beginCopy_canonical hs

theorem execDepCopyStart_canonical {o} : staysCanonical (execDepCopyStart o s) := by
  unfold execDepCopyStart
  split
  · exact hs
  · exact canonical_ite (beginCopy_canonical hs) hs

theorem execFrameTransmitEnd_canonical {o} : staysCanonical (execFrameTransmitEnd o s) := by
  unfold execFrameTransmitEnd
  split
  · exact hs
  · split
    rename_i heq'
    have ht := canonical_of_snd heq' (finishCopy_canonical hs)
    extract_lets
    refine canonical_ite ?_ (canonical_ite (canonical_mk ht) ht)
    split
    · exact ringReceive_canonical ht
    · exact ht

theorem scanWords_canonical {u owner p lay8 n r a len oct} :
    (scanWords u owner p lay8 n r a len oct s).2.2.2.2.2.canonical := by
  induction n generalizing r a len oct s with
  | zero => exact hs
  | succ n ih =>
    unfold scanWords
    split
    · exact hs
    · split
      · rename_i heq
        have ht := canonical_of_snd heq (fabric_canonical hs)
        extract_lets +onlyGivenNames from_ xs o
        by_cases ho : 9 ≤ o
        · rw [if_pos ho]
          exact ih ht
        · rw [if_neg ho]
          exact ih ht
      · rename_i heq
        exact canonical_of_snd heq (fabric_canonical hs)
      · rename_i heq
        exact canonical_of_snd heq (fabric_canonical hs)

theorem collEnd_canonical {u f} (hf : ∀ t, t.canonical → (f t).canonical) : (collEnd u f s).canonical :=
  raiseOwner_canonical (setColl_canonical (drawFree_canonical (w := 64) (hf _ (set_canonical hs))))

theorem execCollationDone_canonical {u stream} : staysCanonical (execCollationDone u stream s) := by
  unfold execCollationDone
  extract_lets +onlyGivenNames v ctl st k p run
  refine canonical_ite hs ?_
  split
  · extract_lets +onlyGivenNames lay8 len time total
    split
    rename_i heq
    have h1 := congrArg (fun x => x.2.2.2.2.2.canonical) heq
    have h1 := h1.symm.trans (scanWords_canonical hs)
    refine canonical_ite hs ?_
    extract_lets +onlyGivenNames s2
    have h2 : s2.canonical := set_canonical (set_canonical (set_canonical (setReg_canonical h1)))
    split
    · exact collEnd_canonical h2 fun _ ht => set_canonical (flag_canonical ht)
    · exact canonical_ite (collEnd_canonical h2 fun _ ht => flag_canonical (setReg_canonical ht))
        (setColl_canonical (set_canonical h2))
  · extract_lets +onlyGivenNames tail body r x s1 wrong
    have h1 : s1.canonical := setReg_canonical (setReg_canonical hs)
    exact canonical_ite (setColl_canonical (set_canonical hs)) (collEnd_canonical h1 fun _ ht => flag_canonical ht)

/-! ### RemoteCmd: remote carrels -/

theorem sessionFrame_canonical {c payload} : (sessionFrame c payload s).2.canonical := drawFree_canonical (w := 64) hs

theorem sessionSend_canonical {c payload} : (sessionSend c payload s).canonical := by
  unfold sessionSend
  extract_lets
  split
  rename_i heq
  exact canonical_mk (canonical_of_snd heq (sessionFrame_canonical hs))

theorem execRemoteFrameReceive_canonical : staysCanonical (execRemoteFrameReceive s) := by
  unfold execRemoteFrameReceive
  extract_lets
  split
  · exact hs
  · extract_lets s0
    have h0 : s0.canonical := canonical_mk hs
    split
    · exact addSat_canonical h0
    · split
      · exact canonical_ite (addSat_canonical h0) (setCarrel_canonical h0)
      · exact addSat_canonical h0

theorem requestBus_canonical {t : Txn} : (match fabric t s with
    | (.word v, s1) => ((.inl (some v), s1) : Sum (Option Word) Reason × State)
    | (.err e, s1) => (.inr e, s1)
    | (_, s1) => (.inl none, s1)).2.canonical := by
  split
  all_goals
    rename_i heq
    exact canonical_of_snd heq (fabric_canonical hs)

theorem requestTarget_canonical {x : Option State} (hx : x.all State.canonical) : (match x with
    | some t => ((.inl none, t) : Sum (Option Word) Reason × State)
    | none => (.inr rTARGET, s)).2.canonical := by
  cases x with
  | some t => exact hx
  | none => exact hs

theorem requestWord_canonical {c q i} : (requestWord c q i s).2.canonical := by
  unfold requestWord
  extract_lets
  split
  · exact requestBus_canonical hs
  · exact requestBus_canonical hs
  · exact requestTarget_canonical hs (deskPut_canonical hs)
  · split
    · exact hs
    · exact hs
  · exact requestTarget_canonical hs (deskRing_canonical hs)
  · refine canonical_ite_snd ?_ hs
    split
    rename_i heq
    exact canonical_of_snd heq (catRead_canonical hs)
  · exact canonical_ite_snd (catWrite_canonical hs) hs

theorem requestWords_canonical {c q n i acc} : (requestWords c q n i acc s).2.2.2.canonical := by
  induction n generalizing i acc s with
  | zero => exact hs
  | succ n ih =>
    unfold requestWords
    split
    · rename_i heq
      exact ih (canonical_of_snd heq (requestWord_canonical hs))
    · rename_i heq
      exact ih (canonical_of_snd heq (requestWord_canonical hs))
    · rename_i heq
      exact canonical_of_snd heq (requestWord_canonical hs)

theorem respond_canonical {c q status done ws} : (respond c q status done ws s).canonical := by
  unfold respond
  exact sessionSend_canonical (addSat_canonical hs)

theorem execRemoteRequestServe_canonical {c} : staysCanonical (execRemoteRequestServe c s) := by
  unfold execRemoteRequestServe
  extract_lets
  split
  · exact hs
  · extract_lets s0
    have h0 : s0.canonical := setCarrel_canonical hs
    refine canonical_ite hs (canonical_ite (respond_canonical h0)
      (canonical_ite (respond_canonical (addSat_canonical h0)) (canonical_ite (respond_canonical h0) ?_)))
    split
    rename_i heq'
    have ht := canonical_of_sndsndsnd heq' (requestWords_canonical h0)
    extract_lets
    split
    · exact respond_canonical ht
    · exact respond_canonical ht

theorem takeNotices_canonical {n c} : (takeNotices n c s).2.canonical := by
  induction n generalizing s with
  | zero => exact hs
  | succ n ih =>
    unfold takeNotices
    split
    · exact hs
    · rename_i heq
      exact ih (popNotice_canonical hs heq)

theorem execRemoteNoticeGatherExpiry_canonical {c} : staysCanonical (execRemoteNoticeGatherExpiry c s) := by
  unfold execRemoteNoticeGatherExpiry
  extract_lets
  split
  · exact hs
  · refine canonical_ite hs ?_
    split
    rename_i heq'
    exact setCarrel_canonical (sessionSend_canonical (canonical_of_snd heq' (takeNotices_canonical hs)))

/-! ### VaultCmd: the strongroom's operations -/

theorem vReadWords_canonical {owner lay8 n a} : (vReadWords owner lay8 n a s).2.canonical := by
  induction n generalizing a s with
  | zero => exact hs
  | succ n ih =>
    unfold vReadWords
    split
    · rename_i heq
      have ht := ih (a := a + 1) (canonical_of_snd heq (fabric_canonical hs))
      split
      · rename_i heq
        exact canonical_of_snd heq ht
      · exact ht
    · rename_i heq
      exact canonical_of_snd heq (fabric_canonical hs)
    · rename_i heq
      exact canonical_of_snd heq (fabric_canonical hs)

theorem vRead_canonical {q} : (vRead q s).2.canonical := by
  unfold vRead
  dsimp only
  split
  · rename_i heq
    exact canonical_of_snd heq (vReadWords_canonical hs)
  · exact vReadWords_canonical hs

theorem vWriteWords_canonical {owner l a n} : (vWriteWords owner l a n s).2.2.canonical := by
  induction l generalizing a n s with
  | nil => exact hs
  | cons w l ih =>
    unfold vWriteWords
    split
    · rename_i heq
      exact canonical_of_snd heq (fabric_canonical hs)
    · rename_i heq
      exact ih (canonical_of_snd heq (fabric_canonical hs))

theorem vWrite_canonical {q xs} : (vWrite q xs s).canonical := by
  unfold vWrite
  extract_lets
  split
  rename_i heq
  have ht := canonical_of_sndsnd heq (vWriteWords_canonical hs)
  extract_lets
  split
  · exact setVjob_canonical ht
  · exact setVjob_canonical ht

theorem vZero_canonical {q} : (vZero q s).canonical := by
  unfold vZero
  exact vWriteWords_canonical hs

theorem ecdsa_canonical {c d m fuel} : (ecdsa c d m fuel s).2.canonical := by
  induction fuel generalizing s with
  | zero => exact randomOctets_canonical (n := 2 * c.len) hs
  | succ fuel ih =>
    have h1 := randomOctets_canonical (n := c.len) hs
    unfold ecdsa
    split
    rename_i heq
    have ht := canonical_of_snd heq h1
    split
    · exact ht
    · exact ih ht

theorem signBy_canonical {alg k m} : (signBy alg k m s).2.canonical := by
  unfold signBy
  split
  · exact ecdsa_canonical hs
  · exact ecdsa_canonical hs
  · exact hs
  · split
    rename_i heq'
    exact canonical_of_snd heq' (randomOctets_canonical hs)

theorem statement_canonical {body} : (statement body s).2.canonical := by
  unfold statement
  split
  rename_i heq
  have ht := canonical_of_snd heq (signBy_canonical hs)
  split
  rename_i heq
  exact canonical_of_snd heq (signBy_canonical ht)

theorem madeKey_canonical {ty salt secret} : (madeKey ty salt secret s).2.canonical := by
  unfold madeKey
  split
  rename_i heq
  exact canonical_of_snd heq (canonical_ite_snd (drawFree_canonical hs) hs)

theorem vCompute_canonical {q x} : (vCompute q x s).2.canonical := by
  unfold vCompute
  extract_lets op
  clear_value op
  split
  · exact hs
  · exact hs
  · exact hs
  · exact hs
  · exact hs
  · split
    rename_i heq
    exact canonical_of_snd heq (signBy_canonical hs)
  · exact hs
  · split
    · exact hs
    · exact madeKey_canonical hs
  · refine canonical_ite_snd hs ?_
    split
    rename_i heq
    split
    split
    rename_i heq''
    exact canonical_of_snd heq'' (madeKey_canonical (canonical_of_snd heq (randomOctets_canonical hs)))
  · exact madeKey_canonical hs
  · exact hs
  · split
    rename_i heq
    exact madeKey_canonical (canonical_of_snd heq (randomOctets_canonical hs))
  · exact canonical_ite_snd (madeKey_canonical hs) hs
  · split
    rename_i heq
    exact canonical_of_snd heq (drawFree_canonical hs)
  · exact hs
  · split
    rename_i heq
    exact canonical_of_snd heq (randomOctets_canonical hs)
  · split
    rename_i heq
    exact canonical_of_snd heq (statement_canonical hs)
  · split
    rename_i heq
    exact canonical_of_snd heq (statement_canonical hs)
  · exact hs
  · exact hs

theorem vProgram_canonical {q} : (vProgram q s).canonical := by
  unfold vProgram
  extract_lets
  split
  · exact canonical_mk (setSlotKey_canonical (setAttr_canonical hs))
  · exact hs

theorem vBegin_canonical {q x} : (vBegin q x s).canonical := by
  unfold vBegin
  extract_lets
  split
  · rename_i heq
    exact setVjob_canonical (canonical_of_snd heq (vRead_canonical (setVjob_canonical hs)))
  · rename_i heq
    split
    rename_i heq'
    have hu := canonical_of_snd heq'
      (vCompute_canonical (canonical_of_snd heq (vRead_canonical (setVjob_canonical hs))))
    extract_lets _ _ _ s4
    have h4 : s4.canonical := canonical_ite (setVjob_canonical hu) (vWrite_canonical (setVjob_canonical hu))
    exact canonical_ite (setVjob_canonical h4) (vProgram_canonical h4)

theorem pickCode_canonical {cs} : (pickCode cs s).2.canonical := by
  unfold pickCode
  split
  · exact hs
  · split
    rename_i heq'
    exact canonical_of_snd heq' (drawFree_canonical hs)

theorem vRow_canonical {q op} : staysCanonical (vRow q op s) := by
  unfold vRow
  extract_lets
  refine canonical_ite hs ?_
  split
  · exact hs
  · extract_lets
    refine canonical_ite hs (canonical_ite (vBegin_canonical hs) ?_)
    split
    rename_i heq'
    exact vFinish_canonical (canonical_of_snd heq' (pickCode_canonical hs))

theorem vMake_canonical {q kid} {t : State} (ht : vMake q s = .inr (kid, t)) : t.canonical := by
  have hmake : ∀ {k k' : Nat} {x : VKey} {w : BitVec 64},
      (.inr (k, setSlotKey k (some x) (setAttr k w s)) : Sum Nat (Nat × State)) = .inr (k', t) → t.canonical := by
    rintro _ _ _ _ ⟨⟩
    exact setSlotKey_canonical (setAttr_canonical hs)
  unfold vMake at ht
  dsimp only at ht
  split at ht
  · cases ht; exact hs
  · cases ht; exact hs
  · split at ht
    · split at ht
      · cases ht
      · exact hmake ht
    · split at ht
      · exact hmake ht
      · cases ht

theorem vEffect_canonical {q} : (vEffect q s).canonical := by
  unfold vEffect
  extract_lets
  split
  · exact canonical_ite hs (retireSlot_canonical hs)
  · exact eraseSlot_canonical hs
  · exact setMeas_canonical hs
  · exact set_canonical hs
  · exact raiseLib_canonical (set_canonical (set_canonical hs))
  · exact set_canonical hs
  · exact hs

theorem vChallenge_canonical {q} : (vChallenge q s).canonical := by
  unfold vChallenge
  extract_lets
  refine canonical_ite ?_ hs
  split
  rename_i heq
  exact setReg_canonical (canonical_of_snd heq (drawFree_canonical hs))

theorem vFail_canonical {q code} : (vFail q code s).canonical := by
  unfold vFail
  exact vFinish_canonical (vZero_canonical hs)

theorem vEnd_canonical {q} : (vEnd q s).canonical := by
  have hwrite {p : Prop} [Decidable p] {xs} : (if p then vWrite q xs s else s).canonical := canonical_ite
    (vWrite_canonical hs) hs
  unfold vEnd
  dsimp only
  split
  · exact vFail_canonical hwrite
  · split
    · exact vFail_canonical hwrite
    · rename_i heq
      exact vFinish_canonical (vEffect_canonical (vMake_canonical hwrite heq))

theorem execVaultCommandDone_canonical {q} : staysCanonical (execVaultCommandDone q s) := by
  unfold execVaultCommandDone
  extract_lets
  refine canonical_ite hs ?_
  split
  · split
    · exact vFinish_canonical hs
    · exact canonical_ite (vFinish_canonical hs) hs
  · split
    · exact vFail_canonical (vChallenge_canonical hs)
    · exact canonical_ite hs (vEnd_canonical (vChallenge_canonical hs))

/-! ### Dispatch: one arm for each command -/

/-- Every command keeps the form, by its meaning's lemma. -/
theorem exec_canonical {i} : staysCanonical (exec i s) := by
  unfold exec
  cases i with
  | registerWrite => exact outside_canonical hs
  | sysFaultCtlWrite => exact regWriteTxn_canonical hs
  | safeNFall => exact execSafeNFall_canonical hs
  | safeNRecognised => exact execSafeNRecognised_canonical hs
  | safeNRise => exact execSafeNRise_canonical hs
  | d2dLinkDown => exact execD2dLinkDown_canonical hs
  | d2dLinkUp => exact execD2dLinkUp_canonical hs
  | parityMismatch => exact execParityMismatch_canonical hs
  | tileReset => exact execTileReset_canonical hs
  | unitReset => exact execUnitReset_canonical hs
  | transactionCheck => exact outside_canonical hs
  | transactionTimeout => exact execTransactionTimeout_canonical hs
  | gtcCounterMismatch => exact execGtcCounterMismatch_canonical hs
  | pllLossOfLock => exact execPllLossOfLock_canonical hs
  | referenceClockLoss => exact execReferenceClockLoss_canonical hs
  | alignmentWord => exact execAlignmentWord_canonical hs
  | pwrCopyHoldEnd => exact execPwrCopyHoldEnd_canonical hs
  | nightCrystalFail => exact execNightCrystalFail_canonical hs
  | gtcReconcile => exact execGtcReconcile_canonical hs
  | eventRelease => exact eventRelease_canonical hs
  | waiteDeadline => exact waiteDeadline_canonical hs
  | noticeTrap => exact execNoticeTrap_canonical hs
  | almanacStep => exact regWriteTxn_canonical hs
  | syncLossTimeout => exact execSyncLossTimeout_canonical hs
  | syncRelay => exact execSyncRelay_canonical hs
  | ppsCapture => exact execPpsCapture_canonical hs
  | triggerCtlWrite => exact regWriteTxn_canonical hs
  | triggerFire => exact execTriggerFire_canonical hs
  | pulseEnd => exact execPulseEnd_canonical hs
  | timeLateClr => exact regWriteTxn_canonical hs
  | add => exact aluMerge_canonical hs
  | sub => exact aluMerge_canonical hs
  | and => exact aluMerge_canonical hs
  | or => exact aluMerge_canonical hs
  | xor => exact aluMerge_canonical hs
  | andn => exact aluMerge_canonical hs
  | shl => exact aluShift_canonical hs
  | shr => exact aluShift_canonical hs
  | sar => exact aluShift_canonical hs
  | rot => exact aluShift_canonical hs
  | min => exact aluMerge_canonical hs
  | max => exact aluMerge_canonical hs
  | minu => exact aluMerge_canonical hs
  | maxu => exact aluMerge_canonical hs
  | cmpeq => exact aluMerge_canonical hs
  | cmpne => exact aluMerge_canonical hs
  | cmplt => exact aluMerge_canonical hs
  | cmpltu => exact aluMerge_canonical hs
  | cmple => exact aluMerge_canonical hs
  | cmpleu => exact aluMerge_canonical hs
  | mul => exact mulDiv_canonical hs
  | mulh => exact mulDiv_canonical hs
  | mulhu => exact mulDiv_canonical hs
  | div => exact mulDiv_canonical hs
  | divu => exact mulDiv_canonical hs
  | rem => exact mulDiv_canonical hs
  | remu => exact mulDiv_canonical hs
  | fadd => exact fp2_canonical hs
  | fsub => exact fp2_canonical hs
  | fmul => exact fp2_canonical hs
  | fdiv => exact fp2_canonical hs
  | fsqrt => exact fp1_canonical hs
  | fmin => exact fp2_canonical hs
  | fmax => exact fp2_canonical hs
  | fcmpeq => exact fp2_canonical hs
  | fcmplt => exact fp2_canonical hs
  | fcmple => exact fp2_canonical hs
  | fneg => exact fp1_canonical hs
  | fabs => exact fp1_canonical hs
  | fcvtdl => exact fp1_canonical hs
  | fcvtdlu => exact fp1_canonical hs
  | fcvtld => exact fp1_canonical hs
  | fcvtlud => exact fp1_canonical hs
  | fma => exact fp3_canonical hs
  | fms => exact fp3_canonical hs
  | fnma => exact fp3_canonical hs
  | xbf => exact runPure_canonical hs
  | xbfs => exact runPure_canonical hs
  | ibf => exact runPure_canonical hs
  | xoct => exact runPure_canonical hs
  | ioct => exact runPure_canonical hs
  | pget => exact runPure_canonical hs
  | pset => exact runPure_canonical hs
  | pmrg => exact runPure_canonical hs
  | addi => exact aluImm_canonical hs
  | andi => exact aluImm_canonical hs
  | ori => exact aluImm_canonical hs
  | xori => exact aluImm_canonical hs
  | shli => exact aluShiftImm_canonical hs
  | shri => exact aluShiftImm_canonical hs
  | sari => exact aluShiftImm_canonical hs
  | roti => exact aluShiftImm_canonical hs
  | cmpeqi => exact aluImm_canonical hs
  | cmplti => exact aluImm_canonical hs
  | pseti => exact runPure_canonical hs
  | pchk => exact execPchk_canonical hs
  | ptst => exact runPure_canonical hs
  | ldw => exact execLdw_canonical hs
  | stw => exact execStw_canonical hs
  | casw => exact execCasw_canonical hs
  | catr => exact execCatr_canonical hs
  | catrp => exact execCatrp_canonical hs
  | catw => exact execCatw_canonical hs
  | catwSlipWalk => exact runWalks_canonical hs
  | emit => exact execEmit_canonical hs
  | waite => exact execWaite_canonical hs
  | beq => exact branch_canonical hs
  | bne => exact branch_canonical hs
  | blt => exact branch_canonical hs
  | bge => exact branch_canonical hs
  | bltu => exact branch_canonical hs
  | bgeu => exact branch_canonical hs
  | call => exact runJump_canonical hs
  | callr => exact runJump_canonical hs
  | li => exact runPure_canonical hs
  | lsh => exact runPure_canonical hs
  | brk => exact execBrk_canonical hs
  | drd => exact execDrd_canonical hs
  | dwr => exact execDwr_canonical hs
  | tlbFlush => exact execTlbFlush_canonical hs
  | mbxPut => exact execMbxPut_canonical hs
  | mbxGet => exact execMbxGet_canonical hs
  | mbxRing => exact execMbxRing_canonical hs
  | csw => exact execCsw_canonical hs
  | fence => exact execFence_canonical hs
  | sync => exact execSync_canonical hs
  | rett => exact execRett_canonical hs
  | catalogueMemoryWrite => exact execCatalogueMemoryWrite_canonical hs
  | receptionContextOpen => exact execReceptionContextOpen_canonical hs
  | fieldUnpack => exact execFieldUnpack_canonical hs
  | dueTimeExpiry => exact execDueTimeExpiry_canonical hs
  | passVerdict => exact execPassVerdict_canonical hs
  | failVerdict => exact execFailVerdict_canonical hs
  | ledgerStallEnd => exact execLedgerStallEnd_canonical hs
  | triggerDelivery => exact execTriggerDelivery_canonical hs
  | templateSend => exact execTemplateSend_canonical hs
  | templatePeriodExpiry => exact execTemplatePeriodExpiry_canonical hs
  | timeoutAction => exact execTimeoutAction_canonical hs
  | cataloguerStart => exact regWriteTxn_canonical hs
  | cataloguerStop => exact regWriteTxn_canonical hs
  | catCntClr => exact regWriteTxn_canonical hs
  | collationStart => exact regWriteTxn_canonical hs
  | collationStop => exact regWriteTxn_canonical hs
  | collationDone => exact execCollationDone_canonical hs
  | frameClassification => exact execFrameClassification_canonical hs
  | cellAdmission => exact execCellAdmission_canonical hs
  | cellRelease => exact execCellRelease_canonical hs
  | frameTransmitStart => exact execFrameTransmitStart_canonical hs
  | depCopyStart => exact execDepCopyStart_canonical hs
  | frameTransmitEnd => exact execFrameTransmitEnd_canonical hs
  | agingPromotion => exact execAgingPromotion_canonical hs
  | gateChangeRequest => exact regWriteTxn_canonical hs
  | gateListChange => exact execGateListChange_canonical hs
  | gateEntryAdvance => exact setPort_canonical hs
  | ethLinkLoss => exact execEthLinkLoss_canonical hs
  | ethLinkUp => exact execEthLinkUp_canonical hs
  | portEnable => exact regWriteTxn_canonical hs
  | portDisable => exact regWriteTxn_canonical hs
  | graceExpiry => exact execGraceExpiry_canonical hs
  | fdbWrite => exact regWriteTxn_canonical hs
  | fdbRead => exact regWriteTxn_canonical hs
  | plcaBeacon => exact execPlcaBeacon_canonical hs
  | plcaBeaconTimeout => exact execPlcaBeaconTimeout_canonical hs
  | encapMessage => exact execEncapMessage_canonical hs
  | encapGatherExpiry => exact execEncapGatherExpiry_canonical hs
  | decapMessage => exact execDecapMessage_canonical hs
  | ringTailWrite => exact regWriteTxn_canonical hs
  | mdioStart => exact regWriteTxn_canonical hs
  | mdioFrameDone => exact execMdioFrameDone_canonical hs
  | ethCntclr => exact regWriteTxn_canonical hs
  | macsecCntclr => exact regWriteTxn_canonical hs
  | copyRecordWaitEnd => exact execCopyRecordWaitEnd_canonical hs
  | canCtlWrite => exact regWriteTxn_canonical hs
  | canDisable => exact regWriteTxn_canonical hs
  | canFrameMatch => exact execCanFrameMatch_canonical hs
  | canFrameEnd => exact execCanFrameEnd_canonical hs
  | canErrorDetected => exact execCanErrorDetected_canonical hs
  | busOffRecoveryDone => exact execBusOffRecoveryDone_canonical hs
  | busOffRestart => exact regWriteTxn_canonical hs
  | noackResume => exact regWriteTxn_canonical hs
  | txRequest => exact regWriteTxn_canonical hs
  | canTxAttemptStart => exact execCanTxAttemptStart_canonical hs
  | canTxAttemptEnd => exact execCanTxAttemptEnd_canonical hs
  | canDeferredCopy => exact deferredCopy_canonical hs
  | canAbort => exact regWriteTxn_canonical hs
  | canEscalation => exact execCanEscalation_canonical hs
  | mbDisable => exact regWriteTxn_canonical hs
  | canCntclr => exact regWriteTxn_canonical hs
  | linScheduleRun => exact regWriteTxn_canonical hs
  | linSwitch => exact regWriteTxn_canonical hs
  | linSlotStart => exact execLinSlotStart_canonical hs
  | linBreakReceived => exact execLinBreakReceived_canonical hs
  | linResponseEnd => exact execLinResponseEnd_canonical hs
  | linResponseTimeout => exact execLinResponseTimeout_canonical hs
  | linIdleTimeout => exact execLinIdleTimeout_canonical hs
  | linCntclr => exact regWriteTxn_canonical hs
  | wingEnable => exact regWriteTxn_canonical hs
  | wingDisable => exact regWriteTxn_canonical hs
  | wingReady => exact regWriteTxn_canonical hs
  | minAwakeExpiry => exact tryClosing_canonical hs
  | tokenReceived => exact execTokenReceived_canonical hs
  | hopTimeout => exact execHopTimeout_canonical hs
  | retryExpiry => exact tryClosing_canonical hs
  | lockupInstant => exact execLockupInstant_canonical hs
  | wakeRequest => exact execWakeRequest_canonical hs
  | wingWakeWrite => exact regWriteTxn_canonical hs
  | segmentUp => exact execSegmentUp_canonical hs
  | wakeTmoExpiry => exact execWakeTmoExpiry_canonical hs
  | linWakeResume => exact execLinWakeResume_canonical hs
  | overrule => exact execOverrule_canonical hs
  | selectiveWakeMatch => exact execSelectiveWakeMatch_canonical hs
  | swDecodeError => exact execSwDecodeError_canonical hs
  | linWakePulse => exact execLinWakePulse_canonical hs
  | wakePinEdge => exact execWakePinEdge_canonical hs
  | aonTimerExpiry => exact execAonTimerExpiry_canonical hs
  | nmCntclr => exact regWriteTxn_canonical hs
  | channelCommand => exact execChannelCommand_canonical hs
  | shortCircuitTrip => exact shortTrip_canonical hs
  | desatTrip => exact desatTrip_canonical hs
  | overcurrentTrip => exact overcurrentTrip_canonical hs
  | wireModelUpdate => exact wireUpdate_canonical hs
  | restartDue => exact restartDue_canonical hs
  | streakClean => exact streakClean_canonical hs
  | rearm => exact regWriteTxn_canonical hs
  | thermalLatchSet => exact thermSet_canonical hs
  | thermalLatchRelease => exact thermRelease_canonical hs
  | clampEnd => exact clampEnd_canonical hs
  | clampLockRelease => exact clampLockRelease_canonical hs
  | openLoadOn => exact openLoadOn_canonical hs
  | openLoadOff => exact openLoadOff_canonical hs
  | extDrivenDetect => exact extDriven_canonical hs
  | shed => exact shed_canonical hs
  | reverseCurrentBlock => exact reverseBlock_canonical hs
  | reverseCurrentRecover => exact reverseRecover_canonical hs
  | supplyConditionEntry => exact supplyEntry_canonical hs
  | supplyConditionExit => exact supplyExit_canonical hs
  | reverseBatteryEnd => exact execReverseBatteryEnd_canonical hs
  | leaseExpiry => exact leaseExpire_canonical hs
  | dieTempWarn => exact dieTempWarn_canonical hs
  | loadCntclr => exact regWriteTxn_canonical hs
  | coreMismatch => exact pairFault_canonical hs
  | checkerFault => exact pairFault_canonical hs
  | digestRequest => exact execDigestRequest_canonical hs
  | digestCompare => exact execDigestCompare_canonical hs
  | reserveHandover => exact execReserveHandover_canonical hs
  | reserveDesignate => exact regWriteTxn_canonical hs
  | pairRelease => exact regWriteTxn_canonical hs
  | injectionTestDone => exact execInjectionTestDone_canonical hs
  | pairReset => exact regWriteTxn_canonical hs
  | debugEntry => exact execDebugEntry_canonical hs
  | coreMultWrite => exact regWriteTxn_canonical hs
  | correctionWrite => exact execCorrectionWrite_canonical hs
  | scrubRead => exact execScrubRead_canonical hs
  | rangeFillStart => exact regWriteTxn_canonical hs
  | pageTestStart => exact regWriteTxn_canonical hs
  | fillComplete => exact execFillComplete_canonical hs
  | bankRestore => exact regWriteTxn_canonical hs
  | bankFillDone => exact execBankFillDone_canonical hs
  | stkCeclr => exact regWriteTxn_canonical hs
  | archiveEntryWrite => exact execArchiveEntryWrite_canonical hs
  | archPut => exact regWriteTxn_canonical hs
  | archClr => exact regWriteTxn_canonical hs
  | archRetClr => exact regWriteTxn_canonical hs
  | xspiCommand => exact regWriteTxn_canonical hs
  | xspiCommandDone => exact execXspiCommandDone_canonical hs
  | xspiCopy => exact regWriteTxn_canonical hs
  | xspiCopyDone => exact execXspiCopyDone_canonical hs
  | permitWrite => exact regWriteTxn_canonical hs
  | ownershipWrite => exact regWriteTxn_canonical hs
  | permLogClr => exact regWriteTxn_canonical hs
  | twinOutboundIssue => exact execTwinOutboundIssue_canonical hs
  | twinInboundArrival => exact execTwinInboundArrival_canonical hs
  | crossingResponse => exact execCrossingResponse_canonical hs
  | bridgeRetry => exact execBridgeRetry_canonical hs
  | bridgeAttemptTimeout => exact execBridgeAttemptTimeout_canonical hs
  | mirrorRefusalReport => exact execMirrorRefusalReport_canonical hs
  | semaphoreAcquire => exact execSemaphoreAcquire_canonical hs
  | semaphoreRelease => exact execSemaphoreRelease_canonical hs
  | twinBrLogclr => exact regWriteTxn_canonical hs
  | carrelConfigure => exact regWriteTxn_canonical hs
  | carrelStart => exact regWriteTxn_canonical hs
  | carrelReset => exact regWriteTxn_canonical hs
  | carrelQuiesceEnd => exact quiesceEnd_canonical hs
  | timetableEnable => exact regWriteTxn_canonical hs
  | timetableChange => exact regWriteTxn_canonical hs
  | timetableAdopt => exact execTimetableAdopt_canonical hs
  | contextPrefetch => exact execContextPrefetch_canonical hs
  | timetableSwitch => exact timetableSwitch_canonical hs
  | checkpointCommit => exact execCheckpointCommit_canonical hs
  | sessionEnable => exact regWriteTxn_canonical hs
  | remoteFrameReceive => exact execRemoteFrameReceive_canonical hs
  | remoteRequestServe => exact execRemoteRequestServe_canonical hs
  | remoteNoticeGatherExpiry => exact execRemoteNoticeGatherExpiry_canonical hs
  | carrelRcCntclr => exact regWriteTxn_canonical hs
  | encrypt => exact vRow_canonical hs
  | decrypt => exact vRow_canonical hs
  | mac => exact vRow_canonical hs
  | macVerify => exact vRow_canonical hs
  | hash => exact vRow_canonical hs
  | sign => exact vRow_canonical hs
  | verify => exact vRow_canonical hs
  | agree => exact vRow_canonical hs
  | encap => exact vRow_canonical hs
  | decap => exact vRow_canonical hs
  | kdf => exact vRow_canonical hs
  | generate => exact vRow_canonical hs
  | unwrap => exact vRow_canonical hs
  | wrap => exact vRow_canonical hs
  | pubkey => exact vRow_canonical hs
  | retire => exact vRow_canonical hs
  | erase => exact vRow_canonical hs
  | random => exact vRow_canonical hs
  | bookplate => exact vRow_canonical hs
  | holdcert => exact vRow_canonical hs
  | measure => exact vRow_canonical hs
  | svnAdvance => exact vRow_canonical hs
  | tamperClear => exact vRow_canonical hs
  | revokeRoot => exact vRow_canonical hs
  | vaultAbort => exact regWriteTxn_canonical hs
  | vaultCommandDone => exact execVaultCommandDone_canonical hs
  | slotProgrammingDone => exact execSlotProgrammingDone_canonical hs
  | orphanErase => exact execOrphanErase_canonical hs
  | entropyHealthFailure => exact execEntropyHealthFailure_canonical hs
  | entropyRecovery => exact set_canonical hs
  | drbgReseed => exact execDrbgReseed_canonical hs
  | tamperRecognised => exact execTamperRecognised_canonical hs
  | zeroiseComplete => exact execZeroiseComplete_canonical hs
  | heartbeatWord => exact execHeartbeatWord_canonical hs
  | timeWord => exact execTimeWord_canonical hs
  | laneDown => exact execLaneDown_canonical hs
  | twinLinkDown => exact execTwinLinkDown_canonical hs
  | twinLinkUp => exact execTwinLinkUp_canonical hs
  | twAliveToggle => exact execTwAliveToggle_canonical hs
  | sidebandLost => exact execSidebandLost_canonical hs
  | sidebandRecovered => exact execSidebandRecovered_canonical hs
  | twTakeInRecognised => exact execTwTakeInRecognised_canonical hs
  | witnessWindowEnd => exact execWitnessWindowEnd_canonical hs
  | mapWrite => exact execMapWrite_canonical hs
  | mirrorRecordApply => exact execMirrorRecordApply_canonical hs
  | demandRecord => exact execDemandRecord_canonical hs
  | twinRelayEvent => exact execTwinRelayEvent_canonical hs
  | departReceived => exact execDepartReceived_canonical hs
  | peerWake => exact regWriteTxn_canonical hs
  | twinCntclr => exact regWriteTxn_canonical hs
  | dozeRequest => exact regWriteTxn_canonical hs
  | dozeEntered => exact execDozeEntered_canonical hs
  | dozeExit => exact execDozeExit_canonical hs
  | parkRequest => exact regWriteTxn_canonical hs
  | parkGtcHandoff => exact execParkGtcHandoff_canonical hs
  | parkExit => exact execParkExit_canonical hs
  | pgoodRise => exact execPgoodRise_canonical hs
  | crystalQualified => exact execCrystalQualified_canonical hs
  | crystalRetry => exact execCrystalRetry_canonical hs
  | fillDone => exact execFillDone_canonical hs
  | librarianRelease => exact execLibrarianRelease_canonical hs
  | pgoodTimeout => exact execPgoodTimeout_canonical hs
  | pgoodFall => exact execPgoodFall_canonical hs
  | powerOnReset => exact execPowerOnReset_canonical hs
  | warmReset => exact execWarmReset_canonical hs
  | computeDieReset => exact execComputeDieReset_canonical hs
  | powerLoss => exact execPowerLoss_canonical hs
  | vbat12Return => exact execVbat12Return_canonical hs
  | gpioEdge => exact execGpioEdge_canonical hs
  | gpioSet => exact regWriteTxn_canonical hs
  | gpioClr => exact regWriteTxn_canonical hs
  | adcStart => exact regWriteTxn_canonical hs
  | adcGroupComplete => exact execAdcGroupComplete_canonical hs
  | undefinedOp => exact execUndefinedOp_canonical hs
  | pulseOnEdge => exact pulseOnEdge_canonical hs
  | pulseOnTimeEnd => exact pulseOnTimeEnd_canonical hs
  | laneUp => exact execLaneUp_canonical hs
  | resetPinRise => exact execResetPinRise_canonical hs
  | resetHoldExpiry => exact execResetHoldExpiry_canonical hs
  | debugImageWritten => exact execDebugImageWritten_canonical hs

/-! ### Step: one step of the block -/

/-- One step, on a command or on an empty queue, keeps the form. -/
theorem step_canonical : staysCanonical (step s) := by
  unfold step
  split
  · exact tick_canonical hs
  · exact exec_canonical (canonical_mk hs)

end

end Sys2Proof.Machine
end

section
namespace Sys2Proof.Proofs
open Sys2Proof Machine

/-- Settles O3: the queue's rest leaves the two maps alone, and each command and the tick keep their form (`step_canonical`). -/
theorem everyStepKeepsTheCanonicalForm : Obligations.EveryStepKeepsTheCanonicalForm := by
  intro s t hs hstep
  have hnext := step_canonical hs
  rwa [hstep] at hnext

end Sys2Proof.Proofs
end

section
namespace Sys2Proof.Machine
open Sys2Proof

/-! ### Fields of a register, read after a write (R6) -/

/-- Does the field lie inside a 64-bit register? -/
def Fld.fits (f : Fld) : Bool := decide (f.lo + f.width ≤ 64)

/-- Do two fields share no bit? -/
def Fld.apart (f g : Fld) : Bool := decide (f.lo + f.width ≤ g.lo) || decide (g.lo + g.width ≤ f.lo)

theorem Fld.fits_iff {f : Fld} : f.fits = true ↔ f.lo + f.width ≤ 64 := decide_eq_true_iff

theorem Fld.has_add {f : Fld} {i : Nat} (hi : i < f.width) : f.has (f.lo + i) = true := by
  simp [Fld.has, hi]

theorem Fld.apart_has {f g : Fld} {i : Nat} (h : f.apart g = true) (hi : i < g.width) : f.has (g.lo + i) = false := by
  simp only [Fld.apart, Bool.or_eq_true, decide_eq_true_eq] at h
  simp only [Fld.has, Bool.and_eq_false_iff, decide_eq_false_iff_not]
  omega

theorem getLsbD_fput {f : Fld} (h : f.fits = true) (v : BitVec 64) (n i : Nat) :
    (fput v f n).getLsbD i = if f.has i = true then n.testBit (i - f.lo) else v.getLsbD i := by
  have hf := Fld.fits_iff.mp h
  simp only [fput, BitVec.getLsbD_or, BitVec.getLsbD_and, BitVec.getLsbD_not, getLsbD_fmask hf, BitVec.getLsbD_shiftLeft,
    BitVec.getLsbD_ofNat]
  by_cases hi : f.has i = true
  · have hi' := hi
    simp only [Fld.has, Bool.and_eq_true, decide_eq_true_eq] at hi'
    have hlt : i < 64 := by omega
    have hlo : ¬ i < f.lo := by omega
    have hsub : i - f.lo < 64 := by omega
    simp [hi, hlt, hlo, hsub]
  · simp only [hi]
    grind

theorem fget_congr {f : Fld} {v w : BitVec 64} (h : ∀ i, i < f.width → v.getLsbD (f.lo + i) = w.getLsbD (f.lo + i)) :
    fget v f = fget w f := by
  unfold fget
  congr 1
  apply BitVec.eq_of_getLsbD_eq
  intro i hi
  simp [h i hi]

theorem fget_fput_same {f : Fld} (h : f.fits = true) (v : BitVec 64) (n : Nat) : fget (fput v f n) f = n % 2 ^ f.width := by
  have hval : (fput v f n).extractLsb' f.lo f.width = BitVec.ofNat f.width n := by
    apply BitVec.eq_of_getLsbD_eq
    intro i hi
    rw [BitVec.getLsbD_extractLsb', getLsbD_fput h, BitVec.getLsbD_ofNat]
    simp [Fld.has_add hi, hi]
  rw [fget, hval, BitVec.toNat_ofNat]

theorem fget_fput_apart {f g : Fld} (h : f.fits = true) (ha : f.apart g = true) (v : BitVec 64) (n : Nat) :
    fget (fput v f n) g = fget v g :=
  fget_congr fun i hi => by simp [getLsbD_fput h, Fld.apart_has ha hi]

theorem fget_or_fmask_same {f : Fld} (h : f.fits = true) (v : BitVec 64) : fget (v ||| fmask f) f = 2 ^ f.width - 1 := by
  have hval : (v ||| fmask f).extractLsb' f.lo f.width = BitVec.allOnes f.width := by
    apply BitVec.eq_of_getLsbD_eq
    intro i hi
    simp [getLsbD_fmask (Fld.fits_iff.mp h), Fld.has_add hi, hi]
  rw [fget, hval, BitVec.toNat_allOnes]

theorem fget_or_fmask_apart {f g : Fld} (h : f.fits = true) (ha : f.apart g = true) (v : BitVec 64) :
    fget (v ||| fmask f) g = fget v g :=
  fget_congr fun i hi => by simp [getLsbD_fmask (Fld.fits_iff.mp h), Fld.apart_has ha hi]

section
variable {s : State} {a b : Nat} {f g : Fld} {n : Nat}

theorem get_set_same (h : f.fits = true) : (s.set a f n).get a f = n % 2 ^ f.width := by
  rw [State.set, get_setReg_same, fget_fput_same h]

/-- A field that hardware clears reads 0. -/
theorem bit_set_zero (h : f.fits = true) : (s.set a f 0).bit a f = false := by
  simp [State.bit, get_set_same h]

theorem get_set_apart (h : f.fits = true) (ha : f.apart g = true) : (s.set a f n).get a g = s.get a g := by
  rw [State.set, get_setReg_same, fget_fput_apart h ha, State.get]

theorem reg_set_other (h : b ≠ a) : (s.set a f n).reg b = s.reg b := reg_setReg_other s _ h

theorem get_set_other (h : b ≠ a) : (s.set a f n).get b g = s.get b g := get_setReg_other s _ g h

theorem reg_flag_other (h : b ≠ a) : (s.flag a f).reg b = s.reg b := reg_setReg_other s _ h

theorem get_flag_same (h : f.fits = true) : (s.flag a f).get a f = 2 ^ f.width - 1 := by
  rw [State.flag, State.flagBits, noteRose_get, get_setReg_same, fget_or_fmask_same h]

theorem get_flag_apart (h : f.fits = true) (ha : f.apart g = true) : (s.flag a f).get a g = s.get a g := by
  rw [State.flag, State.flagBits, noteRose_get, get_setReg_same, fget_or_fmask_apart h ha, State.get]

/-- A one-bit field that hardware sets reads 1. -/
theorem bit_flag_same (h : f.fits = true) (hw : f.width = 1) : (s.flag a f).bit a f = true := by
  simp [State.bit, get_flag_same h, hw]

end

section
variable {s t : State} {a : Nat} {f : Fld}

theorem get_of_reg (h : t.reg a = s.reg a) : t.get a f = s.get a f := by rw [State.get, h, State.get]

theorem bit_of_get_one (h : s.get a f = 1) : s.bit a f = true := decide_eq_true h

theorem bit_of_get (h : t.get a f = s.get a f) : t.bit a f = s.bit a f := by rw [State.bit, h, State.bit]

theorem bit_of_reg (h : t.reg a = s.reg a) : t.bit a f = s.bit a f := bit_of_get (get_of_reg h)

end

/-! ### What giving notices leaves as it was (R136 to R143) -/

/-- The registers that giving a notice may change: the wake source of DOZE, the count of late releases, and words of the
EXEC and CARREL blocks. -/
def noticeReg (a : Nat) : Bool := decide (a = R.SYS_PWR_STAT) || decide (a = R.TIME_LATE_CNT) || decide (0xF00F0000 ≤ a)

/-- What giving notices leaves as it was: memory, the waiting commands, the clocks, the slots due late, and the registers of
the other blocks. -/
structure NoticeFrame (s t : State) : Prop where
  mem : t.mem = s.mem
  pending : t.pending = s.pending
  time : t.time = s.time
  trgLate : t.trgLate = s.trgLate
  reg : ∀ a, noticeReg a = false → t.reg a = s.reg a

namespace NoticeFrame

theorem refl (s : State) : NoticeFrame s s := ⟨rfl, rfl, rfl, rfl, fun _ _ => rfl⟩

theorem trans {s t u : State} (h : NoticeFrame s t) (k : NoticeFrame t u) : NoticeFrame s u where
  mem := k.mem.trans h.mem
  pending := k.pending.trans h.pending
  time := k.time.trans h.time
  trgLate := k.trgLate.trans h.trgLate
  reg a ha := (k.reg a ha).trans (h.reg a ha)

section
variable {s t u : State} (h : NoticeFrame s t)
include h

theorem setCore (c : Nat) (x : Core) : NoticeFrame s (t.setCore c x) := ⟨h.mem, h.pending, h.time, h.trgLate, h.reg⟩

theorem setPair (p : Nat) (x : PairSt) : NoticeFrame s (t.setPair p x) := ⟨h.mem, h.pending, h.time, h.trgLate, h.reg⟩

theorem setCarrel (c : Nat) (x : CarrelSt) : NoticeFrame s (t.setCarrel c x) := ⟨h.mem, h.pending, h.time, h.trgLate, h.reg⟩

theorem setReg {a : Nat} (ha : noticeReg a = true) (v : BitVec 64) : NoticeFrame s (t.setReg a v) where
  mem := h.mem
  pending := h.pending
  time := h.time
  trgLate := h.trgLate
  reg b hb := (reg_setReg_other t v (by rintro rfl; simp [ha] at hb)).trans (h.reg b hb)

theorem ite {p : Prop} [Decidable p] (k : NoticeFrame s u) : NoticeFrame s (if p then t else u) := by
  split <;> assumption

theorem foldl {α : Type} {f : State → α → State} (hf : ∀ v x, NoticeFrame v (f v x)) (l : List α) :
    NoticeFrame s (l.foldl f t) := by
  induction l generalizing t with
  | nil => exact h
  | cons x l ih => exact ih (h.trans (hf t x))

end

end NoticeFrame

theorem noticeReg_of_le {a : Nat} (h : 0xF00F0000 ≤ a) : noticeReg a = true := by simp [noticeReg, h]

theorem noticeReg_commits (p : Nat) : noticeReg (R.EXEC_Pp_COMMITS p) = true :=
  noticeReg_of_le (by unfold R.EXEC_Pp_COMMITS; omega)

theorem noticeReg_carrelStat (c : Nat) : noticeReg (R.CARREL_Cc_STAT c) = true :=
  noticeReg_of_le (by unfold R.CARREL_Cc_STAT; omega)

section
variable (s : State)

theorem commitTo_noticeFrame (c : Nat) (npc : BitVec 49) : NoticeFrame s (commitTo c npc s) := by
  have hdone := ((NoticeFrame.refl s).setCore c { s.core c with pc := npc }).setCarrel
  unfold commitTo
  exact .setPair (.ite (.setReg (hdone _ _) (noticeReg_commits _) _) (hdone _ _)) _ _

theorem waiteWrite_noticeFrame (c : Nat) (rd : BitVec 6) (h p : Word) : NoticeFrame s (waiteWrite c rd h p s) := by
  unfold waiteWrite agreeNote
  exact .setPair (.trans (.setCore (.refl s) ..) (commitTo_noticeFrame ..)) ..

theorem popNotice_noticeFrame {c : Nat} {s t : State} {h p : Word} (hpop : popNotice c s = some (h, p, t)) : NoticeFrame s t := by
  simp only [popNotice] at hpop
  split at hpop
  · cases hpop
  · cases hpop
    exact .setCarrel (.refl s) ..

theorem waiteReturn_noticeFrame (c : Nat) : NoticeFrame s (waiteReturn c s) := by
  unfold waiteReturn
  split
  · exact .refl s
  · split
    · next hpop => exact (popNotice_noticeFrame hpop).trans (waiteWrite_noticeFrame ..)
    · exact .refl s

theorem dozeWake_noticeFrame (c src : Nat) : NoticeFrame s (dozeWake c src s) := by
  have hwake : NoticeFrame s ((s.set R.SYS_PWR_STAT F.SYS_PWR_STAT_WAKE_SRC src).setBit R.SYS_PWR_STAT F.SYS_PWR_STAT_WAKE_PARK false) :=
    ((NoticeFrame.refl s).setReg (by decide) _).setReg (by decide) _
  simp only [dozeWake]
  split
  · exact ⟨hwake.mem, hwake.pending, hwake.time, hwake.trgLate, hwake.reg⟩
  · exact .refl s

theorem deliver_noticeFrame (c : Nat) (e : Event) (late : Bool) : NoticeFrame s (deliver c e late s) := by
  have hlate : NoticeFrame s (if late then s.addSat R.TIME_LATE_CNT F.TIME_LATE_CNT_COUNT 1 else s) :=
    .ite ((NoticeFrame.refl s).setReg (by decide) _) (.refl s)
  unfold deliver
  exact .ite (hlate.setCarrel ..) (.ite (hlate.setCarrel ..)
    (.trans (hlate.setCarrel ..) (.trans (dozeWake_noticeFrame ..) (waiteReturn_noticeFrame ..))))

theorem lateWork_noticeFrame (c : Nat) : NoticeFrame s (lateWork c s) := by
  unfold lateWork
  exact .ite (.setReg (.refl s) (noticeReg_carrelStat c) _) (.refl s)

theorem notify_noticeFrame (e : Event) (c : Nat) : NoticeFrame s (notify e c s) := by
  unfold notify
  exact .ite (lateWork_noticeFrame ..) (.ite (deliver_noticeFrame ..) (.setCarrel (.refl s) ..))

theorem raiseTo_noticeFrame (src : Nat) (payload : Word) (cs : List Nat) : NoticeFrame s (raiseTo src payload cs s) := by
  unfold raiseTo notifyAll
  exact .ite (.refl s) (.foldl (.refl s) (fun t c => notify_noticeFrame t _ c) _)

theorem raiseFree_noticeFrame (src : Nat) (cs : List Nat) : NoticeFrame s (raiseFree src cs s) := by
  have hdraw : NoticeFrame s (s.drawFree 64).2 := ⟨rfl, rfl, rfl, rfl, fun _ _ => rfl⟩
  exact hdraw.trans (raiseTo_noticeFrame _ src _ cs)

end

end Sys2Proof.Machine
end

section
namespace Sys2Proof.Machine
open Sys2Proof

/-! ### Delivery of an event, its release and the end of a pulse (R65 to R68, R82, R136, R142) -/

section
variable {c : Nat} {s : State}

/-- A delivered notice reaches no core where none waits in WAITE for the carrel (R140). -/
theorem waiteReturn_of_none_waiting (h : ∀ k, k < 16 → (s.core k).d1.toNat = c → (s.core k).wait = none) :
    waiteReturn c s = s := by
  unfold waiteReturn
  split
  · rfl
  · next k hk =>
    have hmem := List.mem_range.mp (List.mem_of_find?_eq_some hk)
    have hwaits := List.find?_some hk
    simp only [Bool.and_eq_true, decide_eq_true_eq] at hwaits
    obtain ⟨⟨hd, -⟩, hw⟩ := hwaits
    rw [h k hmem hd] at hw
    cases hw

theorem dozeWake_carrels (src : Nat) : (dozeWake c src s).carrels = s.carrels := by
  simp only [dozeWake]
  split <;> rfl

theorem dozeWake_cores (src : Nat) : (dozeWake c src s).cores = s.cores := by
  simp only [dozeWake]
  split <;> rfl

theorem dozeWake_core (src k : Nat) : (dozeWake c src s).core k = s.core k := by
  rw [State.core, dozeWake_cores, State.core]

variable {e : Event}

/-- The carrel's stream after an event that its mask keeps out (R136). -/
theorem deliver_notEnabled (h : noticeEnabled c e.src s = false) :
    deliver c e false s = s.setCarrel c { s.carrel c with nq := { (s.carrel c).nq with last := max (s.carrel c).nq.last e.stamp } } := by
  simp [deliver, h]

/-- The carrel's stream after an event that meets a full queue (R142). -/
theorem deliver_full (h : noticeEnabled c e.src s = true) (hfull : noticeDepth c s ≤ (s.carrel c).nq.queue.length) :
    deliver c e false s = s.setCarrel c { s.carrel c with
      nq := { (s.carrel c).nq with last := max (s.carrel c).nq.last e.stamp, lost := true }
      dk := { (s.carrel c).dk with nlost :=
        if (s.carrel c).dk.nlost = BitVec.allOnes 32 then (s.carrel c).dk.nlost else (s.carrel c).dk.nlost + 1 } } := by
  simp [deliver, h, hfull]

/-- The carrels after an event that finds room, where no core waits for the carrel (R136, R138). -/
theorem deliver_room (hwait : ∀ k, k < 16 → (s.core k).d1.toNat = c → (s.core k).wait = none)
    (h : noticeEnabled c e.src s = true) (hroom : (s.carrel c).nq.queue.length < noticeDepth c s) :
    ∃ gather, (deliver c e false s).carrels = (s.setCarrel c { s.carrel c with
      nq := { (s.carrel c).nq with
        last := max (s.carrel c).nq.last e.stamp
        queue := (s.carrel c).nq.queue ++ [{ src := e.src, late := false, stamp := e.stamp, payload := e.payload }] }
      gather := gather }).carrels := by
  have hfull : ¬ noticeDepth c s ≤ (s.carrel c).nq.queue.length := by omega
  simp only [deliver, h, hfull, Bool.not_true, Bool.false_eq_true, if_false]
  rw [waiteReturn_of_none_waiting (fun k hk => by rw [dozeWake_core]; exact hwait k hk), dozeWake_carrels]
  exact ⟨_, rfl⟩

/-- A delivery to a carrel for which no core waits leaves the other carrels as they were. -/
theorem deliver_carrel_other (hwait : ∀ k, k < 16 → (s.core k).d1.toNat = c → (s.core k).wait = none) {m : Nat} (hm : m ≠ c) :
    (deliver c e false s).carrel m = s.carrel m := by
  by_cases hen : noticeEnabled c e.src s = true
  · by_cases hroom : (s.carrel c).nq.queue.length < noticeDepth c s
    · obtain ⟨gather, hg⟩ := deliver_room hwait hen hroom
      rw [State.carrel, hg]
      exact carrel_setCarrel_other s _ hm
    · rw [deliver_full hen (by omega), carrel_setCarrel_other s _ hm]
  · rw [deliver_notEnabled (by simpa using hen), carrel_setCarrel_other s _ hm]

/-- DK_NLOST counts and stops at its maximum (R142). -/
theorem toNat_countStop (x : BitVec 32) :
    (if x = BitVec.allOnes 32 then x else x + 1).toNat = min (x.toNat + 1) (2 ^ 32 - 1) := by
  have hlt := x.isLt
  split
  · next h => subst h; decide
  · next h =>
    have hne : x.toNat ≠ 2 ^ 32 - 1 := fun heq => h (BitVec.eq_of_toNat_eq (by simp [heq]))
    rw [BitVec.toNat_add]
    change (x.toNat + 1) % 2 ^ 32 = _
    omega

end

section
variable {n : Nat} {s : State}

theorem mem_endPulse {x : Nat × Nat} : x ∈ (endPulse n s).time.pulses ↔ x ∈ s.time.pulses ∧ x.1 ≠ n := by
  simp [endPulse]

/-- The first event of a stream before its time (R66). -/
theorem eventRelease_early {c : Nat} {e : Event} {es : List Event} (h : (s.carrel c).nq.wait = e :: es)
    (hnow : s.now < e.stamp + streamHold c s) : eventRelease c s = s := by
  simp [eventRelease, h, hnow]

/-- The first event of a stream at its time (R66). -/
theorem eventRelease_due {c : Nat} {e : Event} {es : List Event} (h : (s.carrel c).nq.wait = e :: es)
    (hnow : e.stamp + streamHold c s ≤ s.now) :
    eventRelease c s = deliver c e false (s.setCarrel c { s.carrel c with nq := { (s.carrel c).nq with wait := es } }) := by
  have hlate : ¬ s.now < e.stamp + streamHold c s := by omega
  simp [eventRelease, h, hlate]

end

/-- The cause word of the NOTICE trap: cause 0x20, asynchronous (R105, R143). -/
theorem trapCause_notice : trapCause 0x20 0 true 0 0 = 0x820 := by decide

end Sys2Proof.Machine

namespace Sys2Proof.Proofs
open Sys2Proof Machine Claim

/-- Settles O31: the stream after each of the three deliveries; what giving notices leaves alone is `deliver_noticeFrame`. -/
theorem deliveryFillsTheQueue : Obligations.DeliveryFillsTheQueue := by
  intro c e s hwait
  refine ⟨fun h => ?_, fun h hroom => ?_, fun h hfull => ?_, fun m hm => deliver_carrel_other hwait hm,
    (deliver_noticeFrame s c e false).mem, (deliver_noticeFrame s c e false).pending⟩
  · rw [deliver_notEnabled h, carrel_setCarrel_same]
    exact ⟨rfl, rfl⟩
  · obtain ⟨gather, hg⟩ := deliver_room hwait h hroom
    rw [State.carrel, hg]
    change ((s.setCarrel c _).carrel c).nq.queue = _ ∧ ((s.setCarrel c _).carrel c).dk = _
    rw [carrel_setCarrel_same]
    exact ⟨rfl, rfl⟩
  · rw [deliver_full h hfull, carrel_setCarrel_same]
    exact ⟨rfl, rfl, toNat_countStop _⟩

/-- Settles O30: the release by its two times, the pulse by membership in the list of pulses, the trap by its cause word. -/
theorem releasesPulsesAndNoticeTraps : Obligations.ReleasesPulsesAndNoticeTraps := by
  refine ⟨fun c s e es hfirst => ⟨fun hnow => ?_, fun hnow => ?_⟩, fun n s => ⟨fun hdue => ?_, fun hnone => ?_⟩,
    fun c s hlive => ⟨fun hdue => ?_, fun hnot => ?_⟩⟩
  · exact congrArg Host.Outcome.next (eventRelease_early hfirst hnow)
  · exact congrArg Host.Outcome.next (eventRelease_due hfirst hnow)
  · have hany : s.time.pulses.any (fun e => decide (e.1 = n.val) && decide (e.2 ≤ s.now)) = true := by
      simpa [List.any_eq_true] using hdue
    refine ⟨endPulse n.val s, ?_, fun x hx => (mem_endPulse.mp hx).2, fun x hx hne => mem_endPulse.mpr ⟨hx, hne⟩, rfl, rfl⟩
    simp only [exec, execPulseEnd, hany, if_true]
  · have hany : s.time.pulses.any (fun e => decide (e.1 = n.val) && decide (e.2 ≤ s.now)) = false := by
      simpa [List.any_eq_false] using hnone
    simp only [exec, execPulseEnd, hany, Bool.false_eq_true, if_false]
  · simp only [exec, execNoticeTrap, hlive, hdue, Bool.and_self, if_true, noticeTrap, trapCause_notice]
  · simp only [exec, execNoticeTrap, hnot, Bool.and_false, Bool.false_eq_true, if_false]

end Sys2Proof.Proofs
end

section
namespace Sys2Proof.Machine
open Sys2Proof

/-! ### Clock faults and the copies of the GTC (R55, R60, R74) -/

/-- A clock fault is a device-class fault with source 0xC40 and a free payload (R55, R69). -/
theorem gtcFault_eq (s : State) :
    gtcFault s = fault 3 0xC40 (Config.freeValue 64 s.fresh) 0 [] { s with fresh := s.fresh + 1 } := rfl

section
variable (s : State) (ns : Nat)

theorem almAdvance_holdover : (almAdvance ns s).bit R.TIME_ALM_CTL F.TIME_ALM_CTL_HOLDOVER = true :=
  bit_flag_same (by decide) rfl

/-- The almanac's move after PARK leaves the counts of the GTC and the step of start-up as they were. -/
theorem almAdvance_keeps :
    (almAdvance ns s).time.gtc = s.time.gtc ∧ (almAdvance ns s).time.gtcDup = s.time.gtcDup ∧
      (almAdvance ns s).time.pwrGtc = s.time.pwrGtc ∧ (almAdvance ns s).time.coarseRun = s.time.coarseRun ∧
      (almAdvance ns s).power.boot = s.power.boot := by
  simp only [almAdvance, State.flag, State.flagBits, noteRose_time, setReg_time, noteRose_power, setReg_power]
  split <;> exact ⟨rfl, rfl, rfl, rfl, rfl⟩

end

/-- Flipping some bits of a word changes it. -/
theorem xor_ne_left {w : Nat} {x y : BitVec w} (h : y ≠ 0) : x ^^^ y ≠ x := fun heq => h <|
  calc y = x ^^^ (x ^^^ y) := by rw [← BitVec.xor_assoc, BitVec.xor_self, BitVec.zero_xor]
    _ = x ^^^ x := congrArg (x ^^^ ·) heq
    _ = 0 := BitVec.xor_self

/-- The state that GTC_RECONCILE leaves before the almanac moves (R60). -/
def reconciled (s : State) : State :=
  { s with
    time := { s.time with gtc := s.time.coarse, gtcDup := s.time.coarse, pwrGtc := s.time.coarse, coarseRun := false, nightPhase := 0 }
    power := { s.power with boot := .filling } }

theorem exec_gtcReconcile {s : State} (h : s.power.boot = .waitReconcile) :
    exec .gtcReconcile s = .next (if s.time.coarseRun then almAdvance (s.time.coarse.toNat - s.time.parkGtc.toNat) (reconciled s)
      else reconciled s) := by
  simp only [exec, execGtcReconcile, h]
  rfl

end Sys2Proof.Machine

namespace Sys2Proof.Proofs
open Sys2Proof Machine Claim

/-- Settles O28: each command by its own branch, a clock's loss by `gtcFault_eq`, the reconciliation by `almAdvance_keeps`. -/
theorem clockFaultsAndCopies : Obligations.ClockFaultsAndCopies := by
  refine ⟨fun s => ⟨fun flip hflip hrun hdup => ?_, fun p hrun hp => ?_, fun hrun hdoze => ?_, fun hrun => ?_, fun hrun => ?_⟩,
    fun s => ⟨fun dev hrun hlink hheld hnow => ⟨fun hlo hhi => ?_, fun hfar => ?_⟩, fun hheld hnow => ?_,
      fun hsrc => ⟨fun hfill hrun => ?_, fun hnot => ?_⟩, fun hboot => ?_, fun hlost => ?_⟩⟩
  · have hne : s.time.gtc ^^^ flip ≠ s.time.gtc := xor_ne_left hflip
    simp only [exec, execGtcCounterMismatch, hrun, hdup, hne, ne_eq, not_false_eq_true, and_self, if_true, gtcFault_eq]
  · have huse : pllInUse p.val s = true := by
      have hp' : p.val ≠ 0 ∨ s.power.pstate ≠ .doze := hp.imp_left fun h h0 => h (Fin.ext h0)
      simpa [pllInUse, hrun] using hp'
    simp only [exec, execPllLossOfLock, huse, if_true, gtcFault_eq]
  · have huse : pllInUse (0 : Fin 3).val s = false := by simp [pllInUse, hdoze]
    simp only [exec, execPllLossOfLock, huse, Bool.false_eq_true, if_false]
  · simp only [exec, execReferenceClockLoss, hrun, if_true, gtcFault_eq]
  · simp only [exec, execReferenceClockLoss, hrun, Bool.false_eq_true, if_false]
  · have hnear : ¬ (dev.toInt < -8 ∨ 8 < dev.toInt) := by omega
    simp only [exec, execAlignmentWord, hrun, hlink, hheld, hnow, hnear, and_self, if_true, if_false]
  · simp only [exec, execAlignmentWord, hrun, hlink, hheld, hnow, hfar, and_self, if_true, gtcFault_eq]
    rfl
  · simp only [exec, execPwrCopyHoldEnd, hheld, hnow, and_self, if_true]
    exact ⟨_, rfl, bit_set_zero (by decide), rfl⟩
  · simp only [exec, execNightCrystalFail, hsrc, hfill, hrun, Bool.and_self, Bool.false_eq_true, if_true, if_false]
  · have hoff : (s.bit R.STK_STAT F.STK_STAT_FILLED && pllsRun s) = false := Bool.and_eq_false_iff.mpr hnot
    simp only [exec, execNightCrystalFail, hsrc, hoff, Bool.false_eq_true, if_false]
  · rw [exec_gtcReconcile hboot]
    by_cases hpark : s.time.coarseRun = true
    · rw [if_pos hpark]
      obtain ⟨hgtc, hdup, hpwr, hcoarse, hstep⟩ := almAdvance_keeps (reconciled s) (s.time.coarse.toNat - s.time.parkGtc.toNat)
      exact ⟨_, rfl, hgtc, hdup, hpwr, hcoarse, hstep, fun _ => almAdvance_holdover _ _⟩
    · rw [if_neg hpark]
      exact ⟨_, rfl, rfl, rfl, rfl, rfl, rfl, fun h => absurd h hpark⟩
  · simp only [exec, execSyncLossTimeout, hlost, if_true]
    exact ⟨_, rfl, bit_flag_same (by decide) rfl, rfl⟩

end Sys2Proof.Proofs
end

section
namespace Sys2Proof.Machine
open Sys2Proof

/-! ### The capture of a PPS edge (R78, R80) -/

/-- The state after the captured registers are written, before the event. -/
def ppsCaptured (s : State) : State :=
  let s1 := if s.time.ppsUnread then s.flag R.TIME_PPS_CTL F.TIME_PPS_CTL_OVR else s
  let s2 := ((s1.setReg R.TIME_PPS_CAP_NS (s.time.almNs.setWidth 64)).setReg R.TIME_PPS_CAP_SEC (s.time.almSec.setWidth 64)).setReg
    R.TIME_PPS_CAP_GTC s.time.gtc
  { s2 with time := { s2.time with ppsUnread := true } }

theorem exec_ppsCapture {rising : Bool} {s : State} (hrun : gtcRuns s = true) (hen : s.bit R.TIME_PPS_CTL F.TIME_PPS_CTL_CAP_EN = true)
    (hedge : s.bit R.TIME_PPS_CTL F.TIME_PPS_CTL_EDGE = !rising) :
    exec (.ppsCapture rising) s = .next (raiseFree 0xC42 [0] (ppsCaptured s)) := by
  have hne : (!rising) ≠ rising := by cases rising <;> decide
  simp only [exec, execPpsCapture, hrun, hen, hedge, hne, ne_eq, not_false_eq_true, and_self, if_true]
  rfl

section
variable (s : State)

theorem ppsCaptured_ns : (ppsCaptured s).reg R.TIME_PPS_CAP_NS = s.time.almNs.setWidth 64 := by
  change (State.setReg (State.setReg (State.setReg _ _ _) _ _) _ _).reg _ = _
  rw [reg_setReg_other _ _ (by decide), reg_setReg_other _ _ (by decide), reg_setReg_same]

theorem ppsCaptured_sec : (ppsCaptured s).reg R.TIME_PPS_CAP_SEC = s.time.almSec.setWidth 64 := by
  change (State.setReg (State.setReg (State.setReg _ _ _) _ _) _ _).reg _ = _
  rw [reg_setReg_other _ _ (by decide), reg_setReg_same]

theorem ppsCaptured_gtc : (ppsCaptured s).reg R.TIME_PPS_CAP_GTC = s.time.gtc := reg_setReg_same _ _ _

theorem ppsCaptured_ovr (h : s.time.ppsUnread = true) : (ppsCaptured s).bit R.TIME_PPS_CTL F.TIME_PPS_CTL_OVR = true := by
  have hflag : (s.flag R.TIME_PPS_CTL F.TIME_PPS_CTL_OVR).bit R.TIME_PPS_CTL F.TIME_PPS_CTL_OVR = true :=
    bit_flag_same (by decide) rfl
  refine (bit_of_reg ?_).trans hflag
  simp only [ppsCaptured, h, if_true]
  change (State.setReg (State.setReg (State.setReg _ _ _) _ _) _ _).reg _ = _
  rw [reg_setReg_other _ _ (by decide), reg_setReg_other _ _ (by decide), reg_setReg_other _ _ (by decide)]

theorem ppsCaptured_mem : (ppsCaptured s).mem = s.mem := by
  simp only [ppsCaptured]
  split <;> rfl

theorem ppsCaptured_pending : (ppsCaptured s).pending = s.pending := by
  simp only [ppsCaptured]
  split <;> rfl

end

/-! ### The firing of a trigger slot (R81 to R83, R85) -/

section
variable (n : Nat) (s : State)

/-- The firing is counted and stamped, and marked late where it is. -/
def trgCounted (late : Bool) : State :=
  let st := R.TIME_TRGn_STAT n
  let s1 := ((s.addWrap st F.TIME_TRGn_STAT_FIRE_CNT 1).flag st F.TIME_TRGn_STAT_FIRED).setReg (R.TIME_TRGn_LAST n) s.time.gtc
  if late then s1.flag st F.TIME_TRGn_STAT_LATE else s1

/-- ACT_PULSE of slot n as `s` sets it, at a state `t`. -/
def trgPulse (t : State) : State :=
  if s.bit (R.TIME_TRGn_CTL n) F.TIME_TRGn_CTL_ACT_PULSE then
    startPulse n (s.get (R.TIME_TRGn_CTL n) F.TIME_TRGn_CTL_PIN) (s.now + s.get (R.TIME_TRGn_WID n) F.TIME_TRGn_WID_WID) t
  else t

/-- ACT_ADC. -/
def trgAdc (t : State) : State :=
  let g := s.get (R.TIME_TRGn_CTL n) F.TIME_TRGn_CTL_ADC_GROUP
  if s.bit (R.TIME_TRGn_CTL n) F.TIME_TRGn_CTL_ACT_ADC then
    if t.bit (R.IOC_ADCg_CFG g) F.IOC_ADCg_CFG_BUSY then
      (if t.adc.any (fun e => decide (e.1 = g) && decide (e.2 = s.now)) then t
       else t.flag (R.TIME_TRGn_STAT n) F.TIME_TRGn_STAT_ADC_OVR)
    else adcStart g s.now t
  else t

/-- ACT_SAMPLE. -/
def trgSample (t : State) : State :=
  if s.bit (R.TIME_TRGn_CTL n) F.TIME_TRGn_CTL_ACT_SAMPLE then t.set (R.TIME_TRGn_SAMP n) F.TIME_TRGn_SAMP_LEVELS (gpioLevels s) else t

/-- ACT_CYCLE. -/
def trgCycle (t : State) : State :=
  if s.bit (R.TIME_TRGn_CTL n) F.TIME_TRGn_CTL_ACT_CYCLE then
    raiseTo (0xC00 + n) (immw (BitVec.ofNat 64 (n + t.get (R.TIME_TRGn_STAT n) F.TIME_TRGn_STAT_FIRE_CNT * 2 ^ 32)))
      (ownDest (R.TIME_TRGn_OWN n) t) t
  else t

/-- The slot after its actions, before its next compare value. -/
def trgActed (late : Bool) : State := trgCycle n s (trgSample n s (trgAdc n s (trgPulse n s (trgCounted n s late))))

theorem trgFire_eq (late : Bool) : trgFire n late s =
    if s.bit (R.TIME_TRGn_CTL n) F.TIME_TRGn_CTL_PERIODIC then
      (setCmp n (trgNext (trgCmp n s) (max 1 (s.get (R.TIME_TRGn_PER n) F.TIME_TRGn_PER_PER)) (trgBase n s)).1 (trgActed n s late)).addSat
        (R.TIME_TRGn_STAT n) F.TIME_TRGn_STAT_SKIP_CNT
        (trgNext (trgCmp n s) (max 1 (s.get (R.TIME_TRGn_PER n) F.TIME_TRGn_PER_PER)) (trgBase n s)).2
    else (trgActed n s late).set (R.TIME_TRGn_CTL n) F.TIME_TRGn_CTL_EN 0 := rfl

end

/-- What a firing of slot n leaves, after it is counted, as the count made it. -/
structure TrgKeeps (n : Nat) (s t : State) : Prop where
  mem : t.mem = s.mem
  pending : t.pending = s.pending
  trgLate : t.trgLate = s.trgLate
  last : t.reg (R.TIME_TRGn_LAST n) = s.reg (R.TIME_TRGn_LAST n)
  base : t.get (R.TIME_TRGn_CTL n) F.TIME_TRGn_CTL_BASE = s.get (R.TIME_TRGn_CTL n) F.TIME_TRGn_CTL_BASE
  count : t.get (R.TIME_TRGn_STAT n) F.TIME_TRGn_STAT_FIRE_CNT = s.get (R.TIME_TRGn_STAT n) F.TIME_TRGn_STAT_FIRE_CNT
  fired : t.get (R.TIME_TRGn_STAT n) F.TIME_TRGn_STAT_FIRED = s.get (R.TIME_TRGn_STAT n) F.TIME_TRGn_STAT_FIRED
  markedLate : t.get (R.TIME_TRGn_STAT n) F.TIME_TRGn_STAT_LATE = s.get (R.TIME_TRGn_STAT n) F.TIME_TRGn_STAT_LATE

/-- The register is none of CTL, STAT and LAST of slot n. -/
def besideTrg (n a : Nat) : Prop := R.TIME_TRGn_CTL n ≠ a ∧ R.TIME_TRGn_STAT n ≠ a ∧ R.TIME_TRGn_LAST n ≠ a

namespace TrgKeeps
variable {n : Nat} {s t u : State}

theorem refl (s : State) : TrgKeeps n s s := ⟨rfl, rfl, rfl, rfl, rfl, rfl, rfl, rfl⟩

theorem trans (h : TrgKeeps n s t) (k : TrgKeeps n t u) : TrgKeeps n s u :=
  ⟨k.mem.trans h.mem, k.pending.trans h.pending, k.trgLate.trans h.trgLate, k.last.trans h.last, k.base.trans h.base,
    k.count.trans h.count, k.fired.trans h.fired, k.markedLate.trans h.markedLate⟩

/-- A change that leaves CTL, STAT and LAST of the slot alone. -/
theorem of_regs (hmem : t.mem = s.mem) (hpending : t.pending = s.pending) (hlate : t.trgLate = s.trgLate)
    (hregs : ∀ b, ¬ besideTrg n b → t.reg b = s.reg b) : TrgKeeps n s t := by
  have hctl := hregs (R.TIME_TRGn_CTL n) fun h => h.1 rfl
  have hstat := hregs (R.TIME_TRGn_STAT n) fun h => h.2.1 rfl
  exact ⟨hmem, hpending, hlate, hregs _ fun h => h.2.2 rfl, get_of_reg hctl, get_of_reg hstat, get_of_reg hstat, get_of_reg hstat⟩

theorem setReg {a : Nat} (ha : besideTrg n a) (v : BitVec 64) : TrgKeeps n s (s.setReg a v) :=
  of_regs rfl rfl rfl fun b hb => reg_setReg_other s v (by rintro rfl; exact hb ha)

theorem of_noticeFrame (h : NoticeFrame s t) (hn : n < 64) : TrgKeeps n s t := by
  refine of_regs h.mem h.pending h.trgLate fun b hb => h.reg b ?_
  have hrange : R.TIME_TRGn_CTL n ≤ b ∧ b ≤ R.TIME_TRGn_LAST n := by
    unfold besideTrg R.TIME_TRGn_CTL R.TIME_TRGn_STAT R.TIME_TRGn_LAST at *
    omega
  unfold R.TIME_TRGn_CTL R.TIME_TRGn_LAST at hrange
  unfold noticeReg R.SYS_PWR_STAT R.TIME_LATE_CNT
  simp only [Bool.or_eq_false_iff, decide_eq_false_iff_not]
  omega

/-- A field of STAT that the firing's count does not use. -/
theorem setStat {f : Fld} {k : Nat} (hf : f.fits = true) (hc : f.apart F.TIME_TRGn_STAT_FIRE_CNT = true)
    (hd : f.apart F.TIME_TRGn_STAT_FIRED = true) (hl : f.apart F.TIME_TRGn_STAT_LATE = true) :
    TrgKeeps n s (s.set (R.TIME_TRGn_STAT n) f k) where
  mem := rfl
  pending := rfl
  trgLate := rfl
  last := reg_set_other (by unfold R.TIME_TRGn_LAST R.TIME_TRGn_STAT; omega)
  base := get_set_other (by unfold R.TIME_TRGn_CTL R.TIME_TRGn_STAT; omega)
  count := get_set_apart hf hc
  fired := get_set_apart hf hd
  markedLate := get_set_apart hf hl

end TrgKeeps

section
variable {n : Nat} {s t : State}

theorem startPulse_keeps (pin till : Nat) : TrgKeeps n t (startPulse n pin till t) := ⟨rfl, rfl, rfl, rfl, rfl, rfl, rfl, rfl⟩

theorem trgPulse_keeps : TrgKeeps n t (trgPulse n s t) := by
  unfold trgPulse
  split
  · exact startPulse_keeps ..
  · exact .refl t

theorem flagOvr_keeps : TrgKeeps n t (t.flag (R.TIME_TRGn_STAT n) F.TIME_TRGn_STAT_ADC_OVR) where
  mem := rfl
  pending := rfl
  trgLate := rfl
  last := reg_flag_other (by unfold R.TIME_TRGn_LAST R.TIME_TRGn_STAT; omega)
  base := get_of_reg (reg_flag_other (by unfold R.TIME_TRGn_CTL R.TIME_TRGn_STAT; omega))
  count := get_flag_apart (by decide) (by decide)
  fired := get_flag_apart (by decide) (by decide)
  markedLate := get_flag_apart (by decide) (by decide)

theorem adcStart_keeps (g stamp : Nat) : TrgKeeps n t (adcStart g stamp t) := by
  have hbusy : TrgKeeps n t (t.set (R.IOC_ADCg_CFG g) F.IOC_ADCg_CFG_BUSY 1) :=
    .setReg (by unfold besideTrg R.TIME_TRGn_CTL R.TIME_TRGn_STAT R.TIME_TRGn_LAST R.IOC_ADCg_CFG; omega) _
  exact hbusy.trans ⟨rfl, rfl, rfl, rfl, rfl, rfl, rfl, rfl⟩

theorem trgAdc_keeps : TrgKeeps n t (trgAdc n s t) := by
  simp only [trgAdc]
  split
  · split
    · split
      · exact .refl t
      · exact flagOvr_keeps
    · exact adcStart_keeps ..
  · exact .refl t

theorem trgSample_keeps : TrgKeeps n t (trgSample n s t) := by
  unfold trgSample
  split
  · exact .setReg (by unfold besideTrg R.TIME_TRGn_CTL R.TIME_TRGn_STAT R.TIME_TRGn_LAST R.TIME_TRGn_SAMP; omega) _
  · exact .refl t

theorem trgCycle_keeps (hn : n < 64) : TrgKeeps n t (trgCycle n s t) := by
  unfold trgCycle
  split
  · exact .of_noticeFrame (raiseTo_noticeFrame ..) hn
  · exact .refl t

theorem trgActed_keeps (hn : n < 64) (late : Bool) : TrgKeeps n (trgCounted n s late) (trgActed n s late) :=
  trgPulse_keeps.trans (trgAdc_keeps.trans (trgSample_keeps.trans (trgCycle_keeps hn)))

theorem setCmp_keeps (v : Nat) : TrgKeeps n t (setCmp n v t) := by
  have hcmp (x : BitVec 64) : TrgKeeps n t (t.setReg (R.TIME_TRGn_CMP n) x) :=
    .setReg (by unfold besideTrg R.TIME_TRGn_CTL R.TIME_TRGn_STAT R.TIME_TRGn_LAST R.TIME_TRGn_CMP; omega) _
  unfold setCmp
  split
  · exact (hcmp _).trans
      (.setReg (by unfold besideTrg R.TIME_TRGn_CTL R.TIME_TRGn_STAT R.TIME_TRGn_LAST R.TIME_TRGn_CMP_SEC; omega) _)
  · exact hcmp _

theorem clearEn_keeps : TrgKeeps n t (t.set (R.TIME_TRGn_CTL n) F.TIME_TRGn_CTL_EN 0) where
  mem := rfl
  pending := rfl
  trgLate := rfl
  last := reg_set_other (by unfold R.TIME_TRGn_LAST R.TIME_TRGn_CTL; omega)
  base := get_set_apart (by decide) (by decide)
  count := get_set_other (by unfold R.TIME_TRGn_STAT R.TIME_TRGn_CTL; omega)
  fired := get_set_other (by unfold R.TIME_TRGn_STAT R.TIME_TRGn_CTL; omega)
  markedLate := get_set_other (by unfold R.TIME_TRGn_STAT R.TIME_TRGn_CTL; omega)

theorem trgFire_keeps (hn : n < 64) (late : Bool) : TrgKeeps n (trgCounted n s late) (trgFire n late s) := by
  rw [trgFire_eq]
  split
  · exact ((trgActed_keeps hn late).trans (setCmp_keeps _)).trans (.setStat (by decide) (by decide) (by decide) (by decide))
  · exact (trgActed_keeps hn late).trans clearEn_keeps

end

section
variable (n : Nat) (s : State) (late : Bool)

theorem trgCounted_mem : (trgCounted n s late).mem = s.mem := by
  simp only [trgCounted]
  split <;> rfl

theorem trgCounted_pending : (trgCounted n s late).pending = s.pending := by
  simp only [trgCounted]
  split <;> rfl

theorem trgCounted_trgLate : (trgCounted n s late).trgLate = s.trgLate := by
  simp only [trgCounted]
  split <;> rfl

/-- A late firing marks STAT alone. -/
theorem trgCounted_reg {a : Nat} (h : a ≠ R.TIME_TRGn_STAT n) : (trgCounted n s late).reg a = (trgCounted n s false).reg a := by
  cases late
  · rfl
  · exact reg_flag_other h

theorem trgCounted_stat {f : Fld} (h : F.TIME_TRGn_STAT_LATE.apart f = true) :
    (trgCounted n s late).get (R.TIME_TRGn_STAT n) f = (trgCounted n s false).get (R.TIME_TRGn_STAT n) f := by
  cases late
  · rfl
  · exact get_flag_apart (by decide) h

theorem trgCounted_last : (trgCounted n s late).reg (R.TIME_TRGn_LAST n) = s.time.gtc :=
  (trgCounted_reg n s late (by unfold R.TIME_TRGn_LAST R.TIME_TRGn_STAT; omega)).trans (reg_setReg_same _ _ _)

theorem trgCounted_base :
    (trgCounted n s late).get (R.TIME_TRGn_CTL n) F.TIME_TRGn_CTL_BASE = s.get (R.TIME_TRGn_CTL n) F.TIME_TRGn_CTL_BASE := by
  have hstat : R.TIME_TRGn_CTL n ≠ R.TIME_TRGn_STAT n := by unfold R.TIME_TRGn_CTL R.TIME_TRGn_STAT; omega
  have hlast : R.TIME_TRGn_CTL n ≠ R.TIME_TRGn_LAST n := by unfold R.TIME_TRGn_CTL R.TIME_TRGn_LAST; omega
  refine get_of_reg ((trgCounted_reg n s late hstat).trans ?_)
  exact (reg_setReg_other _ _ hlast).trans ((reg_flag_other hstat).trans (reg_set_other hstat))

/-- Writing LAST leaves STAT alone. -/
theorem trgCounted_stat_eq (f : Fld) : (trgCounted n s false).get (R.TIME_TRGn_STAT n) f =
    ((s.addWrap (R.TIME_TRGn_STAT n) F.TIME_TRGn_STAT_FIRE_CNT 1).flag (R.TIME_TRGn_STAT n) F.TIME_TRGn_STAT_FIRED).get
      (R.TIME_TRGn_STAT n) f :=
  get_setReg_other _ _ f (by unfold R.TIME_TRGn_STAT R.TIME_TRGn_LAST; omega)

theorem trgCounted_count : (trgCounted n s late).get (R.TIME_TRGn_STAT n) F.TIME_TRGn_STAT_FIRE_CNT =
    (s.get (R.TIME_TRGn_STAT n) F.TIME_TRGn_STAT_FIRE_CNT + 1) % 2 ^ 32 := by
  rw [trgCounted_stat n s late (by decide), trgCounted_stat_eq, get_flag_apart (by decide) (by decide), State.addWrap,
    get_set_same (by decide)]
  rfl

theorem trgCounted_fired : (trgCounted n s late).get (R.TIME_TRGn_STAT n) F.TIME_TRGn_STAT_FIRED = 1 := by
  rw [trgCounted_stat n s late (by decide), trgCounted_stat_eq, get_flag_same (by decide)]
  rfl

theorem trgCounted_markedLate : (trgCounted n s true).get (R.TIME_TRGn_STAT n) F.TIME_TRGn_STAT_LATE = 1 :=
  get_flag_same (by decide)

end

/-- The next compare value of a periodic slot whose base has reached the present one: whole periods on, the first past the
base, and so at most one period past it (R83). -/
theorem trgNext_first {cmp per base : Nat} (hper : 0 < per) (hdue : cmp ≤ base) :
    ∃ k, 0 < k ∧ (trgNext cmp per base).1 = cmp + k * per ∧ base < cmp + k * per ∧ cmp + k * per ≤ base + per ∧
      (k = 1 ∨ cmp + (k - 1) * per ≤ base) := by
  simp only [trgNext]
  split
  · next h => exact ⟨1, by omega, by simp, by omega, by omega, .inl rfl⟩
  · next h =>
    have hdiv := Nat.div_add_mod' (base - (cmp + per)) per
    have hmod := Nat.mod_lt (base - (cmp + per)) hper
    refine ⟨(base - (cmp + per)) / per + 1 + 1, Nat.succ_pos _, ?_, ?_, ?_, .inr ?_⟩ <;>
      simp only [Nat.add_mul, Nat.add_sub_cancel] <;> omega

section
variable {n : Nat} {s : State}

theorem trgDue_cmp (h : trgDue n s = true) : trgCmp n s ≤ trgBase n s := by
  simp only [trgDue, Bool.and_eq_true, decide_eq_true_eq] at h
  obtain ⟨⟨-, hreached⟩, -⟩ := h
  exact hreached

/-- A one-shot slot clears EN. -/
theorem trgFire_oneShot (late : Bool) (h : s.bit (R.TIME_TRGn_CTL n) F.TIME_TRGn_CTL_PERIODIC = false) :
    (trgFire n late s).bit (R.TIME_TRGn_CTL n) F.TIME_TRGn_CTL_EN = false := by
  rw [trgFire_eq, h]
  exact bit_set_zero (by decide)

/-- On the GTC the compare value of a periodic slot is the next one of R83. -/
theorem trgFire_cmp (hn : n < 64) (late : Bool) (hper : s.bit (R.TIME_TRGn_CTL n) F.TIME_TRGn_CTL_PERIODIC = true)
    (hbase : s.bit (R.TIME_TRGn_CTL n) F.TIME_TRGn_CTL_BASE = false) :
    (trgFire n late s).reg (R.TIME_TRGn_CMP n) = BitVec.ofNat 64
      (trgNext (trgCmp n s) (max 1 (s.get (R.TIME_TRGn_PER n) F.TIME_TRGn_PER_PER)) (trgBase n s)).1 := by
  have hacted : (trgActed n s late).bit (R.TIME_TRGn_CTL n) F.TIME_TRGn_CTL_BASE = false :=
    (bit_of_get ((trgActed_keeps hn late).base.trans (trgCounted_base n s late))).trans hbase
  rw [trgFire_eq, hper, if_pos rfl, State.addSat, reg_set_other (by unfold R.TIME_TRGn_CMP R.TIME_TRGn_STAT; omega), setCmp, hacted]
  exact reg_setReg_same _ _ _

/-- The same as an instant: whole periods on, the first past the base (R83). -/
theorem trgFire_period (hn : n < 64) (late : Bool) (hdue : trgCmp n s ≤ trgBase n s)
    (hperiodic : s.bit (R.TIME_TRGn_CTL n) F.TIME_TRGn_CTL_PERIODIC = true)
    (hbase : s.bit (R.TIME_TRGn_CTL n) F.TIME_TRGn_CTL_BASE = false) (hper : 0 < s.get (R.TIME_TRGn_PER n) F.TIME_TRGn_PER_PER)
    (hfits : trgBase n s + s.get (R.TIME_TRGn_PER n) F.TIME_TRGn_PER_PER < 2 ^ 64) :
    ∃ k, 0 < k ∧ ((trgFire n late s).reg (R.TIME_TRGn_CMP n)).toNat = trgCmp n s + k * s.get (R.TIME_TRGn_PER n) F.TIME_TRGn_PER_PER ∧
      trgBase n s < trgCmp n s + k * s.get (R.TIME_TRGn_PER n) F.TIME_TRGn_PER_PER ∧
      (k = 1 ∨ trgCmp n s + (k - 1) * s.get (R.TIME_TRGn_PER n) F.TIME_TRGn_PER_PER ≤ trgBase n s) := by
  obtain ⟨k, hk, hnext, hpast, hbound, hfirst⟩ := trgNext_first hper hdue
  refine ⟨k, hk, ?_, hpast, hfirst⟩
  rw [trgFire_cmp hn late hperiodic hbase, Nat.max_eq_right hper, hnext, BitVec.toNat_ofNat]
  exact Nat.mod_eq_of_lt (Nat.lt_of_le_of_lt hbound hfits)

variable (n s)

/-- A slot's late mark is taken with its firing (R85). -/
def trgTaken : State := { s with trgLate := s.trgLate.filter (fun x => x ≠ n) }

theorem trgTaken_trgLate : (trgTaken n s).trgLate.contains n = false := by simp [trgTaken]

end

theorem exec_triggerFire_due {n : Fin 64} {s : State} (h : trgDue n.val s = true) :
    exec (.triggerFire n) s = .next (trgFire n.val (s.trgLate.contains n.val) (trgTaken n.val s)) := by
  simp only [exec, execTriggerFire, h, if_true, trgTaken]

end Sys2Proof.Machine

namespace Sys2Proof.Proofs
open Sys2Proof Machine Claim

/-- The first clause of O29: the captured registers stand when the event is raised, and raising it leaves them. -/
theorem ppsCapture_captures {rising : Bool} {s : State} (hrun : gtcRuns s = true)
    (hen : s.bit R.TIME_PPS_CTL F.TIME_PPS_CTL_CAP_EN = true) (hedge : s.bit R.TIME_PPS_CTL F.TIME_PPS_CTL_EDGE = !rising) :
    ∃ t, exec (.ppsCapture rising) s = .next t ∧ t.reg R.TIME_PPS_CAP_NS = s.time.almNs.setWidth 64 ∧
      t.reg R.TIME_PPS_CAP_SEC = s.time.almSec.setWidth 64 ∧ t.reg R.TIME_PPS_CAP_GTC = s.time.gtc ∧ t.time.ppsUnread = true ∧
      (s.time.ppsUnread = true → t.bit R.TIME_PPS_CTL F.TIME_PPS_CTL_OVR = true) ∧ t.mem = s.mem ∧ t.pending = s.pending := by
  have hraise := raiseFree_noticeFrame (ppsCaptured s) 0xC42 [0]
  refine ⟨_, exec_ppsCapture hrun hen hedge, (hraise.reg _ (by decide)).trans (ppsCaptured_ns s),
    (hraise.reg _ (by decide)).trans (ppsCaptured_sec s), (hraise.reg _ (by decide)).trans (ppsCaptured_gtc s), ?_, fun h => ?_,
    hraise.mem.trans (ppsCaptured_mem s), hraise.pending.trans (ppsCaptured_pending s)⟩
  · rw [hraise.time]; rfl
  · exact (bit_of_reg (hraise.reg _ (by decide))).trans (ppsCaptured_ovr s h)

/-- Settles O29: what the firing counts stands through its actions (`trgFire_keeps`), and the next compare value is that of
`trgFire_period`. -/
theorem capturesAndTriggersFire : Obligations.CapturesAndTriggersFire := by
  refine ⟨fun rising s hrun hen hedge => ppsCapture_captures hrun hen hedge, fun n s => ⟨fun hnot => ?_, fun hdue => ?_⟩⟩
  · simp only [exec, execTriggerFire, hnot, Bool.false_eq_true, if_false]
  · obtain ⟨hmem, hpending, hlate, hlast, -, hcount, hfired, hmarked⟩ :=
      trgFire_keeps (s := trgTaken n.val s) n.isLt (s.trgLate.contains n.val)
    refine ⟨_, exec_triggerFire_due hdue, hlast.trans (trgCounted_last ..), hcount.trans (trgCounted_count ..),
      bit_of_get_one (hfired.trans (trgCounted_fired ..)), fun hwas => ?_, ?_, hmem.trans (trgCounted_mem ..),
      hpending.trans (trgCounted_pending ..), fun hone => trgFire_oneShot _ hone,
      fun hperiodic hbase hper hfits => trgFire_period (s := trgTaken n.val s) n.isLt _ (trgDue_cmp hdue) hperiodic hbase hper hfits⟩
    · rw [hwas] at hmarked ⊢
      exact bit_of_get_one (hmarked.trans (trgCounted_markedLate ..))
    · rw [hlate, trgCounted_trgLate, trgTaken_trgLate]

end Sys2Proof.Proofs
end

section
namespace Sys2Proof.Machine
open Sys2Proof

/-! ### A copy whose record lies outside the table of R275 -/

theorem exec_ethLinkLoss_up {p : Fin 12} {s : State} (hup : portState p.val s = 0) (hp : p.val < 10) :
    exec (.ethLinkLoss p) s = .next (portLeaves p.val true (s.set (R.ETH_Pp_STAT p.val) F.ETH_Pp_STAT_LINK 0)) := by
  have h : ¬ (p.val = 10 ∨ p.val = 11) := by omega
  simp only [exec, execEthLinkLoss, hup, h, if_true, if_false]

/-- Port 0 is UP at SPEED 2 with a copy on its wire that names copy record 0x7000: beyond the 256 of R275, its word
`R.CIRC_COPYc_STAT 0x7000` is that of `R.ETH_Pp_STAT 0`. -/
def strayRecordState : State :=
  { State.reset with
    regs := [(R.ETH_Pp_CTL 0, fput 0 F.ETH_Pp_CTL_GRACE 1), (R.ETH_Pp_STAT 0, fput 0 F.ETH_Pp_STAT_SPEED 2)]
    sw := { copies := [{ num := 0, frame := 0, inp := 0, out := 0, tc := 0, data := [], len := 0, closed := true, cells := [],
                         rec_ := some 0x7000, start := some 0 }] } }

/-- The abandoned copy counts its record down, and with it LINK of port 0 comes back to 1. -/
theorem strayRecord_raises_link :
    (portLeaves 0 true (strayRecordState.set (R.ETH_Pp_STAT 0) F.ETH_Pp_STAT_LINK 0)).get (R.ETH_Pp_STAT 0) F.ETH_Pp_STAT_LINK = 1 := by
  decide +kernel

end Sys2Proof.Machine

namespace Sys2Proof.Proofs
open Sys2Proof Machine Claim

/-- Refutes O45: the clause of link loss speaks of every state, also of one whose copy on the wire names a copy record beyond
the 256 of R275; the end of that copy rewrites port 0's STAT, and LINK reads 1 after the loss. The state is canonical, but
not one the commands lead to: they take records below 256 (`freeRecord`). -/
theorem not_portsGatesAndTunnelFollowTheirEvents : ¬ Obligations.PortsGatesAndTunnelFollowTheirEvents := by
  rintro ⟨-, -, hloss, -⟩
  have hup : portState (0 : Fin 12).val strayRecordState = 0 := by decide +kernel
  obtain ⟨t, hnext, hlink, -⟩ := hloss 0 strayRecordState hup
  rw [exec_ethLinkLoss_up hup (by decide)] at hnext
  cases hnext
  exact absurd (strayRecord_raises_link.symm.trans hlink) (by decide)

end Sys2Proof.Proofs
end

section
namespace Sys2Proof.Machine
open Sys2Proof Claim

/-! ### Ledger registers of a core and of a cataloguer (R35, R90) -/

section
variable (s : State) (c : Nat)

theorem lreg_zero : s.lreg c 0 = mkw 0 0xC0 := rfl

theorem lreg_setLreg_zero (q : Reg) (w : Word) : (s.setLreg c 0 w).lreg c q = s.lreg c q := by
  rw [State.lreg, State.setLreg, core_setCore_same]
  rfl

theorem Core.get_put_same {k : Core} {r : Reg} (h : r ≠ 0) (w : Word) : (k.put r w).get r = w := by
  simp only [Core.put, Core.get, h, if_false, spGet_spPut_same]

theorem Core.get_put_other {k : Core} {q r : Reg} (h : q ≠ r) (w : Word) : (k.put r w).get q = k.get q := by
  have hn : q.toNat ≠ r.toNat := fun heq => h (BitVec.eq_of_toNat_eq heq)
  unfold Core.put
  split
  · rfl
  · simp only [Core.get, spGet_spPut_other _ _ w hn]

theorem lreg_setLreg_same {r : Reg} (h : r ≠ 0) (w : Word) : (s.setLreg c r w).lreg c r = w := by
  rw [State.lreg, State.setLreg, core_setCore_same, Core.get_put_same h]

theorem lreg_setLreg_other {q r : Reg} (h : q ≠ r) (w : Word) : (s.setLreg c r w).lreg c q = s.lreg c q := by
  rw [State.lreg, State.setLreg, core_setCore_same, Core.get_put_other h, State.lreg]

/-- A write of a ledger register touches the register file alone. -/
theorem setLreg_core (r : Reg) (w : Word) : ∃ l, (s.setLreg c r w).core c = { s.core c with l := l } := by
  rw [State.setLreg, core_setCore_same]
  unfold Core.put
  split <;> exact ⟨_, rfl⟩

theorem setLreg_core_other {k : Nat} (h : k ≠ c) (r : Reg) (w : Word) : (s.setLreg c r w).core k = s.core k :=
  core_setCore_other s _ h

/-- Ledger registers are read from the register file alone. -/
theorem lreg_of_file {s t : State} {c : Nat} (h : (t.core c).l = (s.core c).l) (r : Reg) : t.lreg c r = s.lreg c r := by
  simp only [State.lreg, Core.get, h]

end

section
variable {k : Cu} {q r : Nat}

theorem Cu.get_zero : k.get 0 = mkw 0 0xC0 := rfl

theorem Cu.get_put_same (h : r ≠ 0) (w : Word) : (k.put r w).get r = w := by
  simp only [Cu.put, Cu.get, h, if_false, spGet_spPut_same]

theorem Cu.get_put_other (h : q ≠ r) (w : Word) : (k.put r w).get q = k.get q := by
  unfold Cu.put
  split
  · rfl
  · simp only [Cu.get, spGet_spPut_other _ _ w h]

end

/-! ### What a commit leaves (R98, R108, R402) -/

section
variable (c : Nat) (npc : BitVec 49) (s : State)

theorem commitTo_cores : (commitTo c npc s).cores = (s.setCore c { s.core c with pc := npc }).cores := by
  simp only [commitTo]
  split <;> rfl

@[simp] theorem commitTo_core_same : (commitTo c npc s).core c = { s.core c with pc := npc } := by
  rw [State.core, commitTo_cores]
  exact core_setCore_same s c _

theorem commitTo_core_other {k : Nat} (h : k ≠ c) : (commitTo c npc s).core k = s.core k := by
  rw [State.core, commitTo_cores]
  exact core_setCore_other s _ h

/-- The carrel in D1 of the core with one more instruction counted. -/
def countedCarrel : CarrelSt :=
  let q := s.carrel (s.core c).d1.toNat
  { q with dk := { q.dk with retired := q.dk.retired + 1 } }

theorem commitTo_carrels : (commitTo c npc s).carrels = (s.setCarrel (s.core c).d1.toNat (countedCarrel c s)).carrels := by
  simp only [commitTo]
  split <;> rfl

theorem commitTo_carrel_same : (commitTo c npc s).carrel (s.core c).d1.toNat = countedCarrel c s := by
  rw [State.carrel, commitTo_carrels]
  exact carrel_setCarrel_same s _ _

theorem commitTo_carrel_other {m : Nat} (h : m ≠ (s.core c).d1.toNat) : (commitTo c npc s).carrel m = s.carrel m := by
  rw [State.carrel, commitTo_carrels]
  exact carrel_setCarrel_other s _ h

/-- A commit leaves every carrel its notices and its floating-point status. -/
theorem commitTo_carrel_keeps (m : Nat) :
    ((commitTo c npc s).carrel m).nq = (s.carrel m).nq ∧ ((commitTo c npc s).carrel m).dk.fcsr = (s.carrel m).dk.fcsr := by
  by_cases h : m = (s.core c).d1.toNat
  · subst h
    rw [commitTo_carrel_same]
    exact ⟨rfl, rfl⟩
  · rw [commitTo_carrel_other c npc s h]
    exact ⟨rfl, rfl⟩

theorem commitTo_desk : deskOf c (commitTo c npc s) = { deskOf c s with retired := (deskOf c s).retired + 1 } := by
  simp only [deskOf, commitTo_core_same, commitTo_carrel_same, countedCarrel]

theorem commitTo_reg_commits : (commitTo c npc s).reg (R.EXEC_Pp_COMMITS (c / 2)) =
    s.reg (R.EXEC_Pp_COMMITS (c / 2)) + (if c % 2 = 0 then 1 else 0) := by
  simp only [commitTo]
  split
  · exact reg_setReg_same _ _ _
  · exact (BitVec.add_zero _).symm

theorem commitTo_reg_other {a : Nat} (h : a ≠ R.EXEC_Pp_COMMITS (c / 2)) : (commitTo c npc s).reg a = s.reg a := by
  simp only [commitTo]
  split
  · exact reg_setReg_other _ _ h
  · rfl

@[simp] theorem commitTo_cat : (commitTo c npc s).cat = s.cat := by
  simp only [commitTo]
  split <;> rfl

@[simp] theorem commitTo_mem : (commitTo c npc s).mem = s.mem := (commitTo_noticeFrame s c npc).mem

@[simp] theorem commitTo_pending : (commitTo c npc s).pending = s.pending := (commitTo_noticeFrame s c npc).pending

end

/-- The die runs, so the instruction commits and goes on in sequence. -/
theorem finishNext_goesOn {c : Nat} {s : State} (h : s.power.computeHeld = false) : finishNext c s = goesOn c s := by
  simp only [finishNext, finishAt, h, Bool.false_eq_true, if_false, goesOn]

/-! ### The mode and the desk registers of a core (R100, R105, R106) -/

section
variable (c : Nat) (d : Desk) (m : BitVec 2) (s : State)

@[simp] theorem deskOf_setDesk : deskOf c (setDesk c d s) = d := by
  change ((s.setCarrel _ _).carrel (s.core c).d1.toNat).dk = d
  rw [carrel_setCarrel_same]

theorem deskOf_setCore {x : Core} (h : x.d1 = (s.core c).d1) : deskOf c (s.setCore c x) = deskOf c s := by
  simp only [deskOf, core_setCore_same, h, setCore_carrel]

@[simp] theorem setDesk_core (k : Nat) : (setDesk c d s).core k = s.core k := rfl
@[simp] theorem setDesk_mem : (setDesk c d s).mem = s.mem := rfl

theorem setMode_cores : (setMode c m s).cores = (s.setCore c { s.core c with mode := m }).cores := by
  simp only [setMode]
  split <;> rfl

@[simp] theorem setMode_core_same : (setMode c m s).core c = { s.core c with mode := m } := by
  rw [State.core, setMode_cores]
  exact core_setCore_same s c _

theorem setMode_core_other {k : Nat} (h : k ≠ c) : (setMode c m s).core k = s.core k := by
  rw [State.core, setMode_cores]
  exact core_setCore_other s _ h

@[simp] theorem setMode_mem : (setMode c m s).mem = s.mem := by
  simp only [setMode]
  split <;> rfl

@[simp] theorem setMode_regs : (setMode c m s).regs = s.regs := by
  simp only [setMode]
  split <;> rfl

@[simp] theorem setMode_pending : (setMode c m s).pending = s.pending := by
  simp only [setMode]
  split <;> rfl

/-- The carrel's copy follows a change to a mode of its own. -/
theorem setMode_desk (h : m ≠ 0b11#2) : deskOf c (setMode c m s) = { deskOf c s with mode := m } := by
  simp only [setMode, h, false_and, if_false, deskOf_setDesk, deskOf_setCore]

@[simp] theorem setMode_tstat : (deskOf c (setMode c m s)).tstat = (deskOf c s).tstat := by
  simp only [setMode]
  split <;> simp only [deskOf_setDesk, deskOf_setCore]

end

/-! ### The status that a trap and a return leave (R132, R135) -/

theorem tsPMode_tsEnter (t : BitVec 4) (m : BitVec 2) : tsPMode (tsEnter t m) = m := by
  unfold tsPMode tsEnter
  exact BitVec.extractLsb'_append_eq_right

theorem tsPTE_tsEnter (t : BitVec 4) (m : BitVec 2) : tsPTE (tsEnter t m) = tsTE t := by
  revert t m; decide

theorem tsTE_tsEnter (t : BitVec 4) (m : BitVec 2) : tsTE (tsEnter t m) = false := by
  revert t m; decide

theorem tsTE_tsReturn (t : BitVec 4) : tsTE (tsReturn t) = tsPTE t := by
  revert t; decide

/-! ### Entry into a handler (R132) -/

section
variable (c : Nat) (cw : BitVec 44) (addr : BitVec 64) (s : State)

/-- The supervisor's desk registers after entry into its handler. -/
def trappedDesk : Desk :=
  { deskOf c s with
    mode := 0b01, tpc := (s.core c).pc, tcause := cw, taddr := addr
    tstat := tsEnter (deskOf c s).tstat (s.core c).mode }

@[simp] theorem enterSup_desk : deskOf c (enterSup c cw addr s) = trappedDesk c cw addr s := by
  rw [enterSup, setMode_desk c _ _ (by decide), deskOf_setCore, deskOf_setDesk]
  · rfl
  · rfl

@[simp] theorem enterSup_core_same :
    (enterSup c cw addr s).core c = { s.core c with pc := (deskOf c s).tvec, mode := 0b01 } := by
  rw [enterSup, setMode_core_same, core_setCore_same]
  rfl

theorem enterSup_core_other {k : Nat} (h : k ≠ c) : (enterSup c cw addr s).core k = s.core k := by
  rw [enterSup, setMode_core_other _ _ _ h, core_setCore_other _ _ h, setDesk_core]

@[simp] theorem enterSup_mem : (enterSup c cw addr s).mem = s.mem := setMode_mem ..
@[simp] theorem enterSup_regs : (enterSup c cw addr s).regs = s.regs := setMode_regs ..
@[simp] theorem enterSup_pending : (enterSup c cw addr s).pending = s.pending := setMode_pending ..

/-- The librarian's handler is entered by a change of the core alone. -/
@[simp] theorem enterLib_core_same : (enterLib c cw addr s).core c = { s.core c with
    lk := { (s.core c).lk with
      tpc := (s.core c).pc, tcause := cw, taddr := addr, tstat := tsEnter (s.core c).lk.tstat (s.core c).mode }
    mode := 0b11, pc := (s.core c).lk.tvec } := core_setCore_same s c _

theorem enterLib_core_other {k : Nat} (h : k ≠ c) : (enterLib c cw addr s).core k = s.core k := core_setCore_other s _ h

@[simp] theorem enterLib_desk : deskOf c (enterLib c cw addr s) = deskOf c s := deskOf_setCore c s rfl

end

end Sys2Proof.Machine

namespace Sys2Proof.Proofs
open Sys2Proof Machine Claim

/-- Settles O21: a commit by its laws, a ledger register by the read after a write of the register file. -/
theorem commitsAndLedgerRegisters : Obligations.CommitsAndLedgerRegisters := by
  refine ⟨fun c npc s => ⟨commitTo_core_same c.val npc s, ?_, commitTo_reg_commits c.val npc s,
      fun a h => commitTo_reg_other c.val npc s h, fun k h => commitTo_core_other c.val npc s h,
      fun m h => commitTo_carrel_other c.val npc s h, commitTo_mem .., commitTo_pending ..⟩,
    fun s c r q w => ⟨lreg_zero s c, lreg_setLreg_zero s c q w, fun h => lreg_setLreg_same s c h w,
      fun h => lreg_setLreg_other s c h w⟩,
    fun k r q w => ⟨Cu.get_zero, rfl, fun h => Cu.get_put_same h w, fun h => Cu.get_put_other h w⟩⟩
  rw [commitTo_carrel_same]
  rfl

/-- Settles O19: the core and its desk after entry into either handler; entry is a change of these alone. -/
theorem trapEntrySavesAndVectors : Obligations.TrapEntrySavesAndVectors := by
  refine ⟨?_, ?_⟩
  · intro c cw addr s t d
    have hcore := enterSup_core_same c.val cw addr s
    have hdesk := enterSup_desk c.val cw addr s
    refine ⟨?_, ?_, ?_, ?_, ?_, ?_, ?_, ?_, ?_, ?_, ?_, lreg_of_file ?_, fun k h => enterSup_core_other c.val cw addr s h,
      enterSup_mem .., enterSup_regs .., enterSup_pending ..⟩
    all_goals simp only [t, d, hcore, hdesk, trappedDesk, tsPMode_tsEnter, tsPTE_tsEnter, tsTE_tsEnter]
  · intro c cw addr s t k l
    have hcore := enterLib_core_same c.val cw addr s
    refine ⟨?_, ?_, ?_, ?_, ?_, ?_, ?_, ?_, ?_, ?_, enterLib_desk c.val cw addr s, lreg_of_file ?_,
      fun j h => enterLib_core_other c.val cw addr s h, rfl, rfl, rfl⟩
    all_goals simp only [t, k, l, hcore, tsPMode_tsEnter, tsPTE_tsEnter, tsTE_tsEnter]

end Sys2Proof.Proofs
end

section
namespace Sys2Proof.Machine
open Sys2Proof Claim

/-! ### The handler a trap reaches (R130, R133, R134, R422) -/

section
variable {c cause reason : Nat} {code : BitVec 24} {addr : BitVec 64} {s : State}

/-- The librarian's handler takes the trap. -/
theorem trapLib_enters {orig : Nat} (hs : pairSplit (c / 2) s = false) (hte : tsTE (s.core c).lk.tstat = true) :
    trapLib c cause reason code orig addr s = enterLib c (trapCause cause reason false code orig) addr s := by
  simp only [trapLib, hs, hte, Bool.not_true, Bool.false_eq_true, if_false]

theorem trapLib_device {orig : Nat} (hs : pairSplit (c / 2) s = false) (hte : tsTE (s.core c).lk.tstat = false) :
    trapLib c cause reason code orig addr s = faultNoSrc 3 0 s := by
  simp only [trapLib, hs, hte, Bool.not_false, Bool.false_eq_true, if_false, if_true]

theorem trapLib_split {orig : Nat} (hs : pairSplit (c / 2) s = true) :
    trapLib c cause reason code orig addr s = splitStop c cause s := by
  simp only [trapLib, hs, if_true]

theorem takeTrap_lib (h : (s.core c).mode = 0b11#2 ∨ cause = 0x07 ∨ cause = 0x0F) :
    takeTrap c cause reason code addr s = trapLib c cause reason code 0 addr s := by
  simp only [takeTrap, h, if_true]

theorem takeTrap_sup (h : ¬((s.core c).mode = 0b11#2 ∨ cause = 0x07 ∨ cause = 0x0F)) (hte : tsTE (deskOf c s).tstat = true)
    (hv : (deskOf c s).tvec ≠ 0) :
    takeTrap c cause reason code addr s = enterSup c (trapCause cause reason false code 0) addr s := by
  simp only [takeTrap, h, hte, hv, Bool.not_true, Bool.false_eq_true, or_self, if_false]

theorem takeTrap_double (h : ¬((s.core c).mode = 0b11#2 ∨ cause = 0x07 ∨ cause = 0x0F))
    (hclosed : tsTE (deskOf c s).tstat = false ∨ (deskOf c s).tvec = 0) :
    takeTrap c cause reason code addr s = trapLib c 0x10 0 0 cause addr s := by
  have hnot : (!tsTE (deskOf c s).tstat) = true ∨ (deskOf c s).tvec = 0 := by simpa using hclosed
  simp only [takeTrap, h, hnot, if_false, if_true]

end

/-! ### One instruction on a ready core and on a ready cataloguer -/

section
variable {i : Insn} {core : Nat → State → State} {cu : Nat → State → CuOut} {s t : State}

theorem runInsn_ready {c : Fin 16} (h : CoreReady c s t) (hb : i.bad = false) (hp : i.onPair = true) :
    runInsn (.core c) i core cu s = .next (core c.val t) := congrArg Host.Outcome.next (onCore_ready h hb hp)

theorem runInsn_illegal {c : Fin 16} (h : CoreReady c s t) (hb : (i.bad || !i.onPair) = true) :
    runInsn (.core c) i core cu s = .next (takeTrap c.val 0x03 0 0 (i.enc.setWidth 64) t) :=
  congrArg Host.Outcome.next (onCore_bad h hb)

variable {n : Fin 64}

theorem runInsn_cuBad (h : CuReady n s t) (hb : (i.bad || !i.onCu) = true) :
    runInsn (.cu n) i core cu s = .next (cuFault n.val 2 t) := congrArg Host.Outcome.next (onCu_bad h hb)

/-- A register field above L31 stops a ready cataloguer with cause 1 (R144, R227). -/
theorem runInsn_cuHigh (h : CuReady n s t) (hb : i.bad = false) (hc : i.onCu = true) (hh : i.high = true) :
    runInsn (.cu n) i core cu s = .next (cuFault n.val 1 t) := by
  obtain ⟨⟨hlive, hpc, ⟨w, hread⟩, hcu⟩, hlimit⟩ := h
  have hrun : ¬ (s.get (R.CATG_CUn_CTL n.val) F.CATG_CUn_CTL_RUN_LIMIT ≤ (s.cu n.val).count) := by omega
  have hseq : ¬ (8191 ≤ (s.cu n.val).pc) := by omega
  simp [runInsn, onCu, hlive, hread, hb, hc, hh, hrun, hseq]

/-- A run that has reached RUN_LIMIT stops with cause 5 before its next instruction, whatever that is (R145). -/
theorem runInsn_cuLimit (hlive : cuLive n.val s = true) (hw : i.waite = false)
    (hlimit : s.get (R.CATG_CUn_CTL n.val) F.CATG_CUn_CTL_RUN_LIMIT ≤ (s.cu n.val).count) :
    runInsn (.cu n) i core cu s = .next (cuFault n.val 5 s) := by
  simp [runInsn, onCu, hlive, hw, hlimit]

end

/-! ### Data accesses of a core (R118, R161, R162) -/

/-- The transaction of a core's data access. -/
def accessTxn (c pa : Nat) (k : TKind) (data expect : Word) (s : State) : Txn :=
  { kind := k, addr := BitVec.ofNat 48 pa, data := data, expect := expect
    id := coreId c (if k = .read then 0 else pCrit (wp data)) s }

section
variable {c pa : Nat} {k : TKind} {ea : Value} {rd : Reg} {data expect : Word} {s t u : State}

theorem coreAccess_untranslated {cause reason : Nat} (h : reach c ea.toNat k s = (.inl (cause, reason), t)) :
    coreAccess c k ea rd data expect s = takeTrap c cause reason 0 ea t := by
  simp only [coreAccess, h]

variable (h : reach c ea.toNat k s = (.inr pa, t)) (hp : regionOf pa ≠ .twin)
include h hp

theorem coreAccess_err {r : Reason} (hf : fabric (accessTxn c pa k data expect s) t = (.err r, u)) :
    coreAccess c k ea rd data expect s = takeTrap c (if k = .read then 0x0D else 0x0E) r.toNat 0 ea u := by
  simp only [accessTxn] at hf
  simp only [coreAccess, h, hp, if_false, hf]

theorem coreAccess_word {w : Word} (hf : fabric (accessTxn c pa k data expect s) t = (.word w, u))
    (hu : u.power.computeHeld = false) : coreAccess c k ea rd data expect s = goesOn c (u.setLreg c rd w) := by
  simp only [accessTxn] at hf
  simp only [coreAccess, h, hp, if_false, hf, finishNext_goesOn (s := u.setLreg c rd w) hu]

theorem coreAccess_done (hf : fabric (accessTxn c pa k data expect s) t = (.done, u))
    (hu : u.power.computeHeld = false) : coreAccess c k ea rd data expect s = goesOn c u := by
  simp only [accessTxn] at hf
  simp only [coreAccess, h, hp, if_false, hf, finishNext_goesOn hu]

end

/-! ### WAITE and its deadline (R138, R140) -/

section
variable {c : Nat} {rd : Reg} {dl : Nat} {s : State}

/-- The carrel's queue is not empty: WAITE takes its oldest notice. -/
theorem waiteDo_notice {x : Notice} {xs : List Notice} (h : (s.carrel (s.core c).d1.toNat).nq.queue = x :: xs) :
    waiteDo c rd dl s = waiteWrite c rd (noticeHeader x (s.carrel (s.core c).d1.toNat).nq.lost) x.payload
      (s.setCarrel (s.core c).d1.toNat { s.carrel (s.core c).d1.toNat with
        nq := { (s.carrel (s.core c).d1.toNat).nq with queue := xs, lost := false } }) := by
  simp only [waiteDo, popNotice, h]

/-- A deadline that the GTC has passed ends the wait with source 0xFFF. -/
theorem waiteDeadline_passed (h : (s.core c).wait = some (.waite rd dl)) (h0 : dl ≠ 0) (hlt : dl < s.now) :
    waiteDeadline c s = agreeNote c 2 (waiteWrite c rd (noticeHeader { src := 0xFFF, stamp := s.now } false) fillWord s) := by
  simp only [waiteDeadline, h, h0, hlt, ne_eq, not_false_eq_true, and_self, if_true]

/-- One that the GTC has not passed, and none, leaves the wait. -/
theorem waiteDeadline_ahead (h : (s.core c).wait = some (.waite rd dl)) (hdl : dl = 0 ∨ s.now ≤ dl) :
    waiteDeadline c s = s := by
  have hnot : ¬ (dl ≠ 0 ∧ dl < s.now) := by omega
  simp only [waiteDeadline, h, hnot, if_false]

theorem waiteDo_waits (h : (s.carrel (s.core c).d1.toNat).nq.queue = []) (hdl : dl = 0 ∨ s.now ≤ dl) :
    waiteDo c rd dl s = s.setCore c { s.core c with wait := some (.waite rd dl) } := by
  simp only [waiteDo, popNotice, h]
  exact waiteDeadline_ahead (congrArg Core.wait (core_setCore_same s c _)) hdl

end

/-- A cataloguer's WAITE, which RUN_LIMIT does not count, ends its run (R145, R221). -/
theorem onCu_waits {n : Fin 64} {s t : State} {i : Insn} {body : State → CuOut} {r : Nat} (h : CuFetches n s t)
    (hw : i.waite = true) (hb : i.bad = false) (hc : i.onCu = true) (hr : i.high = false) (hbody : body t = .wait r) :
    onCu n.val i body s = (t.setCu n.val { t.cu n.val with waitRd := some r, count := (t.cu n.val).count }).addWrap
      (R.CATG_CUn_RUNS n.val) F.CATG_CUn_RUNS_RUNS 1 := by
  obtain ⟨hlive, hpc, ⟨w, hread⟩, hcu⟩ := h
  have hseq : ¬ (8191 ≤ (s.cu n.val).pc) := by omega
  simp [onCu, hlive, hread, hw, hb, hc, hr, hseq, hbody, cuFinish, hcu]

/-! ### BRK and the undefined values of op (R95, R103) -/

/-- The two values of op that R95 leaves undefined for good are undefined whatever fn is. -/
theorem undefinedWord_of_op {w : BitVec 36} (h : w.extractLsb' 30 6 = 0x00 ∨ w.extractLsb' 30 6 = 0x3F) :
    undefinedWord w = true := by
  rcases h with h | h <;> simp [undefinedWord, h]

section
variable {c : Nat} {i : Insn} {imm : BitVec 24} {s : State}

/-- Does breakpoint entry into debug wait for a BRK with code 0 on the core? -/
def brkArmed (c : Nat) (s : State) : Bool :=
  (s.pair (c / 2)).bpArmed && decide (pairState (c / 2) s = 2) && !pairSplit (c / 2) s

theorem brkDo_breakpoint (h : brkArmed c s = false) : brkDo c i 0 s = takeTrap c 0x08 0 0 0 s := by
  unfold brkArmed at h
  simp only [brkDo, h, if_true, Bool.false_eq_true, if_false]

theorem brkDo_debug (h : brkArmed c s = true) : brkDo c i 0 s = debugEnter (c / 2) s := by
  unfold brkArmed at h
  simp only [brkDo, h, if_true]

theorem brkDo_service (h0 : imm ≠ 0) (h : imm.toNat < 0x800000) : brkDo c i imm s = takeTrap c 0x06 0 imm 0 s := by
  simp only [brkDo, h0, h, if_true, if_false]

theorem brkDo_high (h : 0x800000 ≤ imm.toNat) :
    brkDo c i imm s = if (s.core c).mode = 0b00#2 then privilege c i s else takeTrap c 0x07 0 imm 0 s := by
  have h0 : imm ≠ 0 := by rintro rfl; simp at h
  simp only [brkDo, h0, Nat.not_lt.mpr h, if_false]

end

end Sys2Proof.Machine

namespace Sys2Proof.Proofs
open Sys2Proof Machine Claim

/-- Settles O20: the trap's handler by its mode and cause, the librarian's by the split and TE. -/
theorem trapsReachTheirHandler : Obligations.TrapsReachTheirHandler := by
  intro c cause reason code addr s k d toLib cw trap open_
  have hlib : toLib = true ↔ (k.mode = 0b11#2 ∨ cause = 0x07 ∨ cause = 0x0F) := by simp [toLib, or_assoc]
  have hsup : toLib = false → ¬ (k.mode = 0b11#2 ∨ cause = 0x07 ∨ cause = 0x0F) := fun h => by
    rw [← hlib, h]; decide
  have hopen : open_ = true → pairSplit (c.val / 2) s = false ∧ tsTE k.lk.tstat = true := fun h => by
    simpa [open_, and_comm] using h
  refine ⟨fun h hte hv => takeTrap_sup (hsup h) hte hv, fun h hclosed ho => ?_, fun h ho => ?_, fun h hs hte => ?_,
    fun h hs => ?_⟩
  · exact (takeTrap_double (hsup h) hclosed).trans (trapLib_enters (hopen ho).1 (hopen ho).2)
  · exact (takeTrap_lib (hlib.mp h)).trans (trapLib_enters (hopen ho).1 (hopen ho).2)
  · exact (takeTrap_lib (hlib.mp h)).trans (trapLib_device hs hte)
  · exact (takeTrap_lib (hlib.mp h)).trans (trapLib_split hs)

/-- Settles O10: each instruction is one access of the core, which ends as its translation and the fabric's answer say. -/
theorem loadsStoresAndCompares : Obligations.LoadsStoresAndCompares := by
  intro rd ra rb imm c s t t1 pa h ea d b txn
  have hldw : exec (.ldw (.core c) rd ra imm) s = .next (coreAccess c.val .read ea rd 0 0 t) := by
    simp only [exec, execLdw]
    exact runInsn_ready h rfl rfl
  have hstw : exec (.stw (.core c) rd ra imm) s = .next (coreAccess c.val .write ea 0 d 0 t) := by
    simp only [exec, execStw]
    exact runInsn_ready h rfl rfl
  have hcasw : exec (.casw (.core c) rd ra rb 0) s =
      .next (coreAccess c.val .cas (wv (t.lreg c.val ra)) rd b (t.lreg c.val rd) t) := by
    simp only [exec, execCasw]
    exact runInsn_ready h rfl rfl
  rw [hldw, hstw, hcasw]
  refine ⟨fun hr hp => ⟨fun w u hf hu => ?_, fun r u hf => ?_⟩, fun hr hp => ⟨fun u hf hu => ?_, fun r u hf => ?_⟩,
    fun hr hp => ⟨fun w u hf hu => ?_, fun r u hf => ?_⟩, fun cause reason => ⟨fun hr => ?_, fun hr => ?_, fun hr => ?_⟩⟩
  · exact congrArg _ (coreAccess_word hr hp hf hu)
  · exact congrArg _ (coreAccess_err hr hp hf)
  · exact congrArg _ (coreAccess_done hr hp hf hu)
  · exact congrArg _ (coreAccess_err hr hp hf)
  · exact congrArg _ (coreAccess_word hr hp hf hu)
  · exact congrArg _ (coreAccess_err hr hp hf)
  · exact congrArg _ (coreAccess_untranslated hr)
  · exact congrArg _ (coreAccess_untranslated hr)
  · exact congrArg _ (coreAccess_untranslated hr)

/-- Settles O12: WAITE by the carrel's queue on a core, as the end of the run on a cataloguer. -/
theorem waiteTakesTheOldestNotice : Obligations.WaiteTakesTheOldestNotice := by
  refine ⟨?_, fun rd n s t h h0 heven hlow => ?_, fun c s rd dl hw h0 hlt => congrArg _ (waiteDeadline_passed hw h0 hlt)⟩
  · intro rd ra c s t h h0 heven q dl
    have hrd : rd ≠ 0#6 := h0
    have hexec : exec (.waite (.core c) rd ra 0 0) s = .next (waiteDo c.val rd dl t) := by
      simp only [exec, execWaite]
      exact runInsn_ready h (by simp [hrd, heven]) rfl
    rw [hexec]
    exact ⟨fun x xs hq => congrArg _ (waiteDo_notice hq), fun hq hdl => congrArg _ (waiteDo_waits hq hdl)⟩
  · have hrd : rd ≠ 0#6 := h0
    refine congrArg Host.Outcome.next (onCu_waits h rfl (by simp [hrd, heven]) rfl ?_ rfl)
    simpa [Insn.high] using hlow

/-- Settles O17: BRK by its code, an undefined op as a bad encoding. -/
theorem breaksAndUndefinedOps : Obligations.BreaksAndUndefinedOps := by
  refine ⟨?_, fun x w s t hop => ?_⟩
  · intro imm c s t h brk armed
    have hbrk : brk = .next (brkDo c.val { enc := encU 0x35 0 imm, regs := [0], bad := false, onCu := false } imm t) := by
      simp only [brk, exec, execBrk]
      exact runInsn_ready h rfl rfl
    rw [hbrk]
    refine ⟨?_, ?_, fun h0 hlow => congrArg _ (brkDo_service h0 hlow), fun hhigh hm => ?_, fun hhigh hm => ?_⟩
    · rintro rfl ha
      exact congrArg _ (brkDo_breakpoint ha)
    · rintro rfl ha
      exact congrArg _ (brkDo_debug ha)
    · exact congrArg _ ((brkDo_high hhigh).trans (if_neg hm))
    · exact congrArg _ ((brkDo_high hhigh).trans (if_pos hm))
  · have hexec : exec (.undefinedOp x w) s = runInsn x { enc := w, bad := true } (fun _ t => t) (fun _ _ => .fault 2) s :=
      if_pos (undefinedWord_of_op hop)
    rw [hexec]
    refine ⟨?_, ?_⟩
    · rintro c rfl h
      exact runInsn_illegal h rfl
    · rintro n rfl h
      exact runInsn_cuBad h rfl

end Sys2Proof.Proofs
end

section
namespace Sys2Proof.Machine
open Sys2Proof Claim

/-! ### Instructions whose whole effect is one ledger register (R90, R98, R146) -/

/-- An instruction of `runPure` writes its register and commits. -/
theorem runPure_ready {c : Fin 16} {s t : State} {i : Insn} {rd : Reg} {f : (Reg → Word) → Word} (h : CoreReady c s t)
    (hb : i.bad = false) (hp : i.onPair = true) :
    runPure (.core c) i rd f s = .next (goesOn c.val (t.setLreg c.val rd (f (fun r => t.lreg c.val r)))) := by
  rw [runPure, runInsn_ready h hb hp, corePut, finishNext_goesOn (by exact h.2.2.2)]

/-- On a ready core the command writes one ledger register and commits. -/
def WritesReg (c : Fin 16) (rd : Reg) (i : Instr) : Prop :=
  ∀ s t, CoreReady c s t → ∃ w, exec i s = .next (goesOn c.val (t.setLreg c.val rd w))

section
variable (c : Fin 16) (rd ra rb : Reg) (imm : BitVec 18) (amt : BitVec 6) (code : BitVec 24)

theorem aluRows_writeReg : ∀ i ∈ aluRows (.core c) rd ra rb, WritesReg c rd i := by
  simp only [aluRows, List.forall_mem_append, List.forall_mem_cons]
  refine ⟨⟨⟨?_, ?_, ?_, ?_, ?_, ?_, ?_, ?_, ?_, ?_, List.forall_mem_nil _⟩,
    ?_, ?_, ?_, ?_, ?_, ?_, ?_, ?_, ?_, ?_, List.forall_mem_nil _⟩, ?_, ?_, ?_, ?_, ?_, ?_, ?_, List.forall_mem_nil _⟩
  all_goals
    intro s t h
    simp only [exec, execAdd, execSub, execAnd, execOr, execXor, execAndn, execShl, execShr, execSar, execRot, execMin, execMax,
      execMinu, execMaxu, execCmpeq, execCmpne, execCmplt, execCmpltu, execCmple, execCmpleu, execMul, execMulh, execMulhu,
      execDiv, execDivu, execRem, execRemu, aluMerge, aluShift, mulDiv]
    exact ⟨_, runPure_ready h rfl rfl⟩

theorem immediateRows_writeReg : ∀ i ∈ immediateRows (.core c) rd ra imm amt code, WritesReg c rd i := by
  simp only [immediateRows, List.forall_mem_append, List.forall_mem_cons]
  refine ⟨⟨?_, ?_, ?_, ?_, ?_, ?_, List.forall_mem_nil _⟩, ?_, ?_, ?_, ?_, ?_, ?_, List.forall_mem_nil _⟩
  all_goals
    intro s t h
    simp only [exec, execAddi, execAndi, execOri, execXori, execCmpeqi, execCmplti, execShli, execShri, execSari, execRoti,
      execLi, execLsh, aluImm, aluShiftImm]
    exact ⟨_, runPure_ready h rfl rfl⟩

theorem provenanceRows_writeReg : ∀ i ∈ provenanceRows (.core c) rd ra rb, WritesReg c rd i := by
  simp only [provenanceRows, List.forall_mem_cons]
  refine ⟨?_, ?_, ?_, List.forall_mem_nil _⟩
  all_goals
    intro s t h
    simp only [exec, execPget, execPset, execPmrg]
    exact ⟨_, runPure_ready h rfl rfl⟩

end

/-! ### The return from a trap and the switch by the librarian (R135, R171) -/

section
variable {x c : Nat} {s : State}

theorem heldSwitchTake_none (h : (s.core x).heldSwitch = false) : heldSwitchTake x s = s := by
  simp only [heldSwitchTake, h, Bool.false_eq_true, false_and, if_false]

@[simp] theorem lkReturn_core : (lkReturn x s).core x =
    { s.core x with lk := { (s.core x).lk with tstat := tsReturn (s.core x).lk.tstat } } := core_setCore_same s x _

@[simp] theorem rettSup_core : (rettSup x s).core x =
    { s.core x with pc := (deskOf x s).tpc, mode := tsPMode (deskOf x s).tstat } := by
  simp only [rettSup, setMode_core_same, setDesk_core, commitTo_core_same, commitTo_desk]

@[simp] theorem rettSup_tstat : (deskOf x (rettSup x s)).tstat = tsReturn (deskOf x s).tstat := by
  simp only [rettSup, setMode_tstat, deskOf_setDesk, commitTo_desk]

@[simp] theorem rettSup_mem : (rettSup x s).mem = s.mem := by
  simp only [rettSup, setMode_mem, setDesk_mem, commitTo_mem]

/-- The librarian's return to a mode of carrel 0 or of an ACTIVE carrel. -/
def rettState (x : Nat) (s : State) : State :=
  setMode x (tsPMode (s.core x).lk.tstat) (lkReturn x (commitTo x (s.core x).lk.tpc s))

theorem rettState_core : (rettState x s).core x = { s.core x with
    pc := (s.core x).lk.tpc, lk := { (s.core x).lk with tstat := tsReturn (s.core x).lk.tstat }
    mode := tsPMode (s.core x).lk.tstat } := by
  simp only [rettState, setMode_core_same, lkReturn_core, commitTo_core_same]

theorem rettState_mem : (rettState x s).mem = s.mem := by
  simp only [rettState, setMode_mem, lkReturn, setCore_mem, commitTo_mem]

/-- No switch is held and the carrel is not one that idles the core (R501). -/
theorem rettLib_returns (hheld : (s.core x).heldSwitch = false)
    (hact : (s.core x).d1 = 0 ∨ carState (s.core x).d1.toNat s = 2) : rettLib x s = rettState x s := by
  have hbound : ¬ (tsPMode (s.core x).lk.tstat ≠ 0b11#2 ∧ (s.core x).d1 ≠ 0 ∧ carState (s.core x).d1.toNat s ≠ 2) := by
    rintro ⟨-, h0, h2⟩
    exact hact.elim h0 h2
  rw [rettLib, if_neg hbound]
  exact heldSwitchTake_none ((congrArg Core.heldSwitch rettState_core).trans hheld)

theorem csw_unbound (h : boundToCore x c s = false) : csw x c s = takeTrap x 0x0E 0 0 (BitVec.ofNat 64 c) s := by
  simp only [csw, h, Bool.not_false, if_true]
  rfl

/-- The switch to an ACTIVE carrel of the core. -/
theorem csw_active (h : boundToCore x c s = true) (hact : carState c s = 2) : csw x c s =
    let u := lkReturn x (switchOut x (s.core x).lk.tpc (tsPMode (s.core x).lk.tstat) (commitTo x (s.core x).lk.tpc s))
    heldSwitchTake x (switchIn x c (u.setCore x { u.core x with shadow := none })) := by
  simp only [csw, h, hact, Bool.not_true, Bool.false_eq_true, ne_eq, not_true_eq_false, if_false]

end

/-- RETT by the mode of the core: a PRIVILEGE trap, the librarian's return or the supervisor's. -/
theorem rett_ready {c : Fin 16} {s t : State} (h : CoreReady c s t) : exec (.rett (.core c) 0 0 0 0) s =
    .next (if (t.core c.val).mode = 0b00#2 then takeTrap c.val 0x04 0 0 ((encR 0x38 0 0 0 8).setWidth 64) t
      else if isLib c.val t then rettLib c.val t else rettSup c.val t) := by
  simp only [exec, execRett, runSys]
  exact runInsn_ready h rfl rfl

/-- CSW is the librarian's alone. -/
theorem csw_ready {c : Fin 16} {ra : Reg} {s t : State} (h : CoreReady c s t) : exec (.csw (.core c) 0 ra 0 0) s =
    .next (if !isLib c.val t then takeTrap c.val 0x04 0 0 ((encR 0x38 0 ra 0 5).setWidth 64) t
      else csw c.val (wf (t.lreg c.val ra) 0 9) t) := by
  simp only [exec, execCsw, runSys]
  exact runInsn_ready h rfl rfl

/-! ### Instructions that cannot run (R94, R103, R144, R147) -/

/-- The command is ILLEGAL with the given 36 bits on a ready core. -/
def IllegalOnCore (f : Exu → Instr) (e : BitVec 36) : Prop :=
  ∀ c s t, CoreReady c s t → exec (f (.core c)) s = .next (takeTrap c.val 0x03 0 0 (e.setWidth 64) t)

/-- The command is badly encoded: ILLEGAL with the given 36 bits on a ready core, cause 2 on a ready cataloguer. -/
def BadlyEncoded (f : Exu → Instr) (e : BitVec 36) : Prop :=
  IllegalOnCore f e ∧ ∀ n s t, CuReady n s t → exec (f (.cu n)) s = .next (cuFault n.val 2 t)

theorem sysInsn_bad {rd ra rb : Reg} {hi : BitVec 8} {k : Nat} {bad : Bool} : (sysInsn rd ra rb hi k bad).bad = bad := rfl

section
variable {f : Exu → Instr} {e : BitVec 36} {i : Exu → Insn} {core : Exu → Nat → State → State} {cu : Exu → Nat → State → CuOut}
  (hx : ∀ x s, exec (f x) s = runInsn x (i x) (core x) (cu x) s)
include hx

theorem illegalOnCore_of_runInsn (hb : ∀ c, ((i (.core c)).bad || !(i (.core c)).onPair) = true)
    (he : ∀ c, (i (.core c)).enc = e) : IllegalOnCore f e := by
  intro c s t h
  rw [hx, runInsn_illegal h (hb c), he]

theorem badlyEncoded_of_runInsn (hb : ∀ x, (i x).bad = true) (he : ∀ x, (i x).enc = e) : BadlyEncoded f e := by
  refine ⟨illegalOnCore_of_runInsn hx (fun c => by rw [hb, Bool.true_or]) (fun c => he _), fun n s t h => ?_⟩
  rw [hx, runInsn_cuBad h (by rw [hb, Bool.true_or])]

end

section
variable {n : Fin 64} {s t : State} (h : CuReady n s t) (rd ra rb rc : Reg) (imm : BitVec 18) (code : BitVec 24) (d : BitVec 8)
include h

/-- The C-profile has no floating point (R144). -/
theorem floatRows_cuStop : ∀ i ∈ floatRows (.cu n) rd ra rb rc, exec i s = .next (cuFault n.val 2 t) := by
  simp only [floatRows, List.forall_mem_append, List.forall_mem_cons]
  refine ⟨⟨?_, ?_, ?_, ?_, ?_, ?_, ?_, ?_, ?_, List.forall_mem_nil _⟩,
    ?_, ?_, ?_, ?_, ?_, ?_, ?_, ?_, ?_, ?_, List.forall_mem_nil _⟩
  all_goals
    simp only [exec, execFadd, execFsub, execFmul, execFdiv, execFmin, execFmax, execFcmpeq, execFcmplt, execFcmple, execFsqrt,
      execFneg, execFabs, execFcvtdl, execFcvtdlu, execFcvtld, execFcvtlud, execFma, execFms, execFnma, fp1, fp2, fp3]
    exact runInsn_cuBad h rfl

/-- Nor has it memory, BRK or the SYS group. -/
theorem coreOnlyRows_cuStop : ∀ i ∈ coreOnlyRows (.cu n) rd ra rb imm code d, exec i s = .next (cuFault n.val 2 t) := by
  simp only [coreOnlyRows, List.forall_mem_append, List.forall_mem_cons]
  refine ⟨⟨?_, ?_, ?_, ?_, ?_, ?_, ?_, List.forall_mem_nil _⟩, ?_, ?_, ?_, ?_, ?_, ?_, ?_, List.forall_mem_nil _⟩
  all_goals
    simp only [exec, execLdw, execStw, execCasw, execBrk, execDrd, execDwr, execTlbFlush, execMbxPut, execMbxGet, execMbxRing,
      execCsw, execFence, execSync, execRett, runSys]
    exact runInsn_cuBad h (Bool.or_true _)

end

end Sys2Proof.Machine

namespace Sys2Proof.Proofs
open Sys2Proof Machine Claim

/-- Settles O22: each row writes its register and commits, and neither touches what the frame names. -/
theorem registerInstructionsFrame : Obligations.RegisterInstructionsFrame := by
  intro rd ra rb imm code amt c s t u h i hi hexec
  have hwrites : WritesReg c rd i := by
    simp only [List.mem_append] at hi
    rcases hi with (hi | hi) | hi
    · exact aluRows_writeReg _ _ _ _ i hi
    · exact immediateRows_writeReg _ _ _ _ _ _ i hi
    · exact provenanceRows_writeReg _ _ _ _ i hi
  obtain ⟨w, hw⟩ := hwrites s t h
  obtain ⟨l, hl⟩ := setLreg_core t c.val rd w
  rw [hexec] at hw
  cases hw
  have hfile : ∀ q, (goesOn c.val (t.setLreg c.val rd w)).lreg c.val q = (t.setLreg c.val rd w).lreg c.val q :=
    lreg_of_file (by rw [goesOn, commitTo_core_same])
  have hcore : (goesOn c.val (t.setLreg c.val rd w)).core c.val =
      { t.core c.val with pc := (t.core c.val).pc + 1, l := l } := by
    rw [goesOn, commitTo_core_same, hl]
  refine ⟨fun q hq => (hfile q).trans (lreg_setLreg_other t _ hq w), ?_, by rw [hcore], by rw [hcore], by rw [hcore],
    by rw [hcore], fun k hk => (commitTo_core_other _ _ _ hk).trans (setLreg_core_other t _ hk rd w),
    fun n => (commitTo_carrel_keeps _ _ _ n).1, fun n => (commitTo_carrel_keeps _ _ _ n).2,
    fun a ha => commitTo_reg_other _ _ _ ha, commitTo_mem .., commitTo_cat .., commitTo_pending ..⟩
  rintro rfl q
  exact (hfile q).trans (lreg_setLreg_zero t _ q w)

/-- Settles O16: FENCE and SYNC only commit, RETT and CSW by the mode of the core. -/
theorem fencesReturnsAndSwitches : Obligations.FencesReturnsAndSwitches := by
  intro ra c s t h k n
  have hlib : isLib c.val t = decide (k.mode = 0b11#2) := rfl
  have hrun : t.power.computeHeld = false := h.2.2.2
  refine ⟨?_, ?_, fun hm => ?_, fun hm => ⟨rettSup c.val t, ?_, ?_⟩, fun hm hheld hact => ⟨rettState c.val t, ?_, ?_⟩,
    fun hm => ?_, fun hm hb => ?_, fun hm hb hact => ?_⟩
  · rw [← finishNext_goesOn hrun]
    simp only [exec, execFence, runSys]
    exact runInsn_ready h rfl rfl
  · rw [← finishNext_goesOn hrun]
    simp only [exec, execSync, runSys]
    exact runInsn_ready h rfl rfl
  · exact (rett_ready h).trans (congrArg _ (if_pos hm))
  · rw [rett_ready h, if_neg (by rw [hm]; decide), hlib, hm]
    rfl
  · rw [rettSup_core, rettSup_tstat, rettSup_mem]
    exact ⟨rfl, rfl, tsTE_tsReturn _, rfl⟩
  · rw [rett_ready h, if_neg (by rw [hm]; decide), hlib, hm, ← rettLib_returns hheld hact]
    rfl
  · rw [rettState_core, rettState_mem]
    exact ⟨rfl, rfl, tsTE_tsReturn _, rfl⟩
  · have hnot : isLib c.val t = false := decide_eq_false hm
    rw [csw_ready h, hnot]
    rfl
  · rw [csw_ready h, hlib, hm, ← csw_unbound hb]
    rfl
  · rw [csw_ready h, hlib, hm]
    exact congrArg _ (csw_active hb hact)

/-- Settles O18: each row is one instruction with the row's 36 bits, whose reason to be ILLEGAL is one of the facts named first;
the cataloguer's stops follow the order of R227. -/
theorem badEncodingsAndProfilesStop : Obligations.BadEncodingsAndProfilesStop := by
  refine ⟨fun rd ra rb hi amt pos wm fn imm code d (hhi : hi ≠ 0#10) (hrb : rb ≠ 0#6) hpos (hfn : fn ≠ 0#12) himm
      (hd : d ≠ 0#8) => ⟨?_, ?_⟩,
    fun n s t rd ra rb rc imm code d => ⟨fun h i hi => ?_, fun h hrd => ?_, fun hlive hlimit => ?_⟩⟩
  · have hfield : fieldBad pos wm = true := decide_eq_true hpos
    have hoctIndex : octBad 0#6 9#12 = true := by decide
    have hoctReg : octBad rb 8#12 = true := by simp [octBad, hrb]
    have hoctHigh : octBad rb 32#12 = true := by simp [octBad]
    have hpseti : imm.toNat / 256 ≠ 0 := by omega
    have hmask : maskBad imm = true := decide_eq_true (by omega)
    change ∀ p ∈ (_ : List ((Exu → Instr) × BitVec 36)), BadlyEncoded p.1 p.2
    simp only [List.forall_mem_cons]
    refine ⟨?_, ?_, ?_, ?_, ?_, ?_, ?_, ?_, ?_, ?_, ?_, ?_, ?_, ?_, ?_, ?_, ?_, ?_, ?_, ?_, List.forall_mem_nil _⟩
    all_goals
      apply badlyEncoded_of_runInsn
      · intro x s
        simp only [exec, execShli, execShri, execSari, execRoti, execXbf, execXbfs, execIbf, execXoct, execIoct, execPget,
          execPseti, execPtst, execPchk, aluShiftImm, runPure]
        rfl
      · intro x
        simp [hhi, hrb, hfield, hoctIndex, hoctReg, hoctHigh, hpseti, hmask]
      · intro x
        rfl
  · change ∀ p ∈ (_ : List ((Exu → Instr) × BitVec 36)), IllegalOnCore p.1 p.2
    simp only [List.forall_mem_cons]
    refine ⟨?_, ?_, ?_, ?_, ?_, ?_, ?_, ?_, ?_, ?_, ?_, ?_, ?_, ?_, ?_, ?_, ?_, ?_, ?_, ?_, ?_, ?_, List.forall_mem_nil _⟩
    all_goals
      apply illegalOnCore_of_runInsn
      · intro x s
        simp only [exec, execFsqrt, execFneg, execFabs, execFcvtdl, execFcvtdlu, execFcvtld, execFcvtlud, execCasw, execEmit,
          execWaite, execBrk, execDrd, execDwr, execMbxPut, execMbxGet, execMbxRing, execCsw, execFence, execSync, execRett,
          fp1, runSys]
        rfl
      · intro x
        simp [sysInsn_bad, hrb, hfn, hd]
      · intro x
        rfl
  · rcases List.mem_append.mp hi with hi | hi
    · exact floatRows_cuStop h _ _ _ _ i hi
    · exact coreOnlyRows_cuStop h _ _ _ _ _ _ i hi
  · refine ⟨?_, ?_, ?_, ?_⟩
    all_goals
      simp only [exec, execAdd, execAddi, execLi, execCatr, aluMerge, aluImm, runPure]
      exact runInsn_cuHigh h rfl rfl (by simp [Insn.high, hrd])
  · refine ⟨?_, ?_, ?_⟩
    all_goals
      simp only [exec, execAdd, execEmit, execLi, aluMerge, runPure]
      exact runInsn_cuLimit hlive rfl hlimit

end Sys2Proof.Proofs
end

section
namespace Sys2Proof.Machine
open Sys2Proof Claim

/-! ### The forms of the integer instructions (R149 to R152) -/

theorem flag_decide (p : Prop) [Decidable p] : flag (decide p) = if p then 1 else 0 := by
  simp only [flag, decide_eq_true_eq]

theorem flag_slt (a b : Value) : flag (a.slt b) = if a.toInt < b.toInt then 1 else 0 := flag_decide _
theorem flag_sle (a b : Value) : flag (a.sle b) = if a.toInt ≤ b.toInt then 1 else 0 := flag_decide _
theorem flag_ult (a b : Value) : flag (a.ult b) = if a.toNat < b.toNat then 1 else 0 := flag_decide _
theorem flag_ule (a b : Value) : flag (a.ule b) = if a.toNat ≤ b.toNat then 1 else 0 := flag_decide _

theorem flag_ne (a b : Value) : flag (decide (a ≠ b)) = if a = b then 0 else 1 := by
  rw [flag_decide, ite_not]

/-- The low bits of the product of two numbers are the product of the values (R150). -/
theorem ofNat_mul_toNat (a b : Value) : BitVec.ofNat 64 (a.toNat * b.toNat) = a * b := by
  rw [BitVec.ofNat_mul, BitVec.ofNat_toNat, BitVec.ofNat_toNat, BitVec.setWidth_eq, BitVec.setWidth_eq]

/-- A sign-extended immediate keeps its number (R151). -/
theorem toInt_sx (imm : BitVec 18) : (sx imm).toInt = imm.toInt := BitVec.toInt_signExtend_of_le (by decide)

section
variable {i : Exu → Instr} {rd ra rb : Reg} {fn : BitVec 12} {g : (Reg → Word) → Word}

theorem computes_aluMerge {f : Value → Value → Value} (hx : ∀ x s, exec (i x) s = aluMerge x fn rd ra rb f s)
    (hg : ∀ r, g r = merged (f (wv (r ra)) (wv (r rb))) (r ra) (r rb)) : Computes i [rd, ra, rb] rd g := by
  obtain rfl : g = _ := funext hg
  exact computes_of_runPure hx (fun _ => rfl) (fun _ => rfl) (fun _ => rfl) (fun _ => rfl)

theorem computes_aluShift {f : Value → Nat → Value} (hx : ∀ x s, exec (i x) s = aluShift x fn rd ra rb f s)
    (hg : ∀ r, g r = keeping (f (wv (r ra)) ((wv (r rb)).toNat % 64)) (r ra)) : Computes i [rd, ra, rb] rd g := by
  obtain rfl : g = _ := funext hg
  exact computes_of_runPure hx (fun _ => rfl) (fun _ => rfl) (fun _ => rfl) (fun _ => rfl)

/-- A product has no case of its own that raises VAL. -/
theorem computes_mul {v : Value → Value → Value} (hx : ∀ x s, exec (i x) s = mulDiv x fn rd ra rb (fun a b => (v a b, false)) s)
    (hg : ∀ r, g r = merged (v (wv (r ra)) (wv (r rb))) (r ra) (r rb)) : Computes i [rd, ra, rb] rd g := by
  obtain rfl : g = _ := funext hg
  exact computes_of_runPure hx (fun _ => rfl) (fun _ => rfl) (fun _ => rfl) (fun _ => rfl)

/-- A quotient or remainder is `q`, and by zero `z` with VAL raised (R150). -/
theorem computes_div {z q : Value → Value → Value}
    (hx : ∀ x s, exec (i x) s = mulDiv x fn rd ra rb (fun a b => if b = 0 then (z a b, true) else (q a b, false)) s)
    (hg : ∀ r, g r = if wv (r rb) = 0 then mkw (z (wv (r ra)) (wv (r rb))) (pRaise (pMerge (wp (r ra)) (wp (r rb))))
      else merged (q (wv (r ra)) (wv (r rb))) (r ra) (r rb)) : Computes i [rd, ra, rb] rd g := by
  have hval : g = fun r =>
      let y := if wv (r rb) = 0 then (z (wv (r ra)) (wv (r rb)), true) else (q (wv (r ra)) (wv (r rb)), false)
      let w := merged y.1 (r ra) (r rb)
      if y.2 then mkw (wv w) (pRaise (wp w)) else w := by
    funext r
    rw [hg]
    by_cases hzero : wv (r rb) = 0
    · simp only [hzero, if_true, merged, wv_mkw, wp_mkw]
    · simp only [hzero, if_false, Bool.false_eq_true]
  rw [hval]
  exact computes_of_runPure hx (fun _ => rfl) (fun _ => rfl) (fun _ => rfl) (fun _ => rfl)

theorem computes_aluImm {op : Nat} {imm : BitVec 18} {f : Value → Value} (hx : ∀ x s, exec (i x) s = aluImm x op rd ra imm f s)
    (hg : ∀ r, g r = keeping (f (wv (r ra))) (r ra)) : Computes i [rd, ra] rd g := by
  obtain rfl : g = _ := funext hg
  exact computes_of_runPure hx (fun _ => rfl) (fun _ => rfl) (fun _ => rfl) (fun _ => rfl)

theorem computes_aluShiftImm {kind : BitVec 2} {amt : BitVec 6} {f : Value → Nat → Value}
    (hx : ∀ x s, exec (i x) s = aluShiftImm x kind rd ra 0 amt f s)
    (hg : ∀ r, g r = keeping (f (wv (r ra)) amt.toNat) (r ra)) : Computes i [rd, ra] rd g := by
  obtain rfl : g = _ := funext hg
  exact computes_of_runPure hx (fun _ => rfl) (fun _ => rfl) (fun _ => rfl) (fun _ => rfl)

end

end Sys2Proof.Machine

namespace Sys2Proof.Proofs
open Sys2Proof Machine Claim

/-- Settles O5: each instruction by its form; a comparison is one of the operands' numbers. -/
theorem aluAndMulDivGroupsCompute : Obligations.AluAndMulDivGroupsCompute := by
  refine ⟨fun rd ra rb => ⟨?add, ?sub, ?and, ?or, ?xor, ?andn, ?shl, ?shr, ?sar, ?rot, ?min, ?max, ?minu, ?maxu, ?cmpeq, ?cmpne,
    ?cmplt, ?cmpltu, ?cmple, ?cmpleu⟩, fun rd ra rb => ⟨?mul, ?mulh, ?mulhu, ?div, ?divu, ?rem, ?remu⟩⟩
  case add | sub | and | or | xor | andn => exact computes_aluMerge (fun _ _ => by rw [exec]; rfl) (fun _ => by rfl)
  case shl | shr | sar | rot => exact computes_aluShift (fun _ _ => by rw [exec]; rfl) (fun _ => by rfl)
  case min | max => exact computes_aluMerge (fun _ _ => by rw [exec]; rfl) (fun _ => by simp only [BitVec.slt_iff_toInt_lt])
  case minu | maxu => exact computes_aluMerge (fun _ _ => by rw [exec]; rfl) (fun _ => by simp only [BitVec.ult_iff_toNat_lt])
  case cmpeq => exact computes_aluMerge (fun _ _ => by rw [exec]; rfl) (fun _ => by rw [flag_decide])
  case cmpne => exact computes_aluMerge (fun _ _ => by rw [exec]; rfl) (fun _ => by rw [flag_ne])
  case cmplt => exact computes_aluMerge (fun _ _ => by rw [exec]; rfl) (fun _ => by rw [flag_slt])
  case cmpltu => exact computes_aluMerge (fun _ _ => by rw [exec]; rfl) (fun _ => by rw [flag_ult])
  case cmple => exact computes_aluMerge (fun _ _ => by rw [exec]; rfl) (fun _ => by rw [flag_sle])
  case cmpleu => exact computes_aluMerge (fun _ _ => by rw [exec]; rfl) (fun _ => by rw [flag_ule])
  case mul => exact computes_mul (fun _ _ => by rw [exec]; rfl) (fun _ => by rw [ofNat_mul_toNat])
  case mulh | mulhu => exact computes_mul (fun _ _ => by rw [exec]; rfl) (fun _ => by rfl)
  case div | rem => exact computes_div (fun _ _ => by rw [exec]; rfl) (fun _ => by rfl)
  case divu => exact computes_div (fun _ _ => by rw [exec]; rfl) (fun _ => by rw [← BitVec.udiv_def])
  case remu => exact computes_div (fun _ _ => by rw [exec]; rfl) (fun _ => by rw [← BitVec.umod_def])

/-- Settles O6: each form keeps its operand's provenance; a sign-extended immediate keeps its number. -/
theorem immediateFormsCompute : Obligations.ImmediateFormsCompute := by
  refine ⟨fun rd ra imm => ⟨?addi, ?andi, ?ori, ?xori, ?cmpeqi, ?cmplti⟩, fun rd ra amt => ⟨?shli, ?shri, ?sari, ?roti⟩,
    fun rd imm => ⟨?li, ?lsh⟩⟩
  case addi | andi | ori | xori => exact computes_aluImm (fun _ _ => by rw [exec]; rfl) (fun _ => by rfl)
  case cmpeqi =>
    exact computes_aluImm (fun _ _ => by rw [exec]; rfl) (fun _ => by simp only [flag_decide, ← toInt_sx, BitVec.toInt_inj])
  case cmplti => exact computes_aluImm (fun _ _ => by rw [exec]; rfl) (fun _ => by rw [flag_slt, toInt_sx])
  case shli | shri | sari | roti => exact computes_aluShiftImm (fun _ _ => by rw [exec]; rfl) (fun _ => by rfl)
  case li | lsh =>
    exact computes_of_runPure (fun _ _ => by rw [exec]; rfl) (fun _ => rfl) (fun _ => rfl) (fun _ => rfl) (fun _ => rfl)

end Sys2Proof.Proofs
end

section
namespace Sys2Proof.Machine
open Sys2Proof Claim

/-! ### One instruction on a ready cataloguer -/

theorem Insn.high_eq_false {i : Insn} (h : ∀ r ∈ i.regs, r.toNat < 32) : i.high = false := by
  simpa [Insn.high] using h

theorem runInsn_cuReady {i : Insn} {core : Nat → State → State} {cu : Nat → State → CuOut} {n : Fin 64} {s t : State}
    (h : CuReady n s t) (hb : i.bad = false) (hc : i.onCu = true) (hr : ∀ r ∈ i.regs, r.toNat < 32) :
    runInsn (.cu n) i core cu s = .next (cuFinish n.val (t.cu n.val).count (cu n.val t) t) :=
  congrArg Host.Outcome.next (onCu_ready h hb hc (Insn.high_eq_false hr))

/-- The next instruction in sequence of a ready cataloguer lies in its program memory. -/
theorem cuFinish_nextInSequence {n : Fin 64} {s t u : State} (h : CuReady n s t) (hc : (u.cu n.val).count = (t.cu n.val).count) :
    cuFinish n.val (t.cu n.val).count (.next ((t.cu n.val).pc + 1) u) t = cuGoes n.val ((t.cu n.val).pc + 1) u := by
  have hpc := cuReady_pc h
  exact cuFinish_next (by omega) (by omega) hc

/-! ### Bit fields, octets and provenance (R153 to R156) -/

/-- An instruction whose encoding depends on its operands computes its register where they make it well encoded (R94). -/
theorem computes_of_wellEncoded {i : Exu → Instr} {I : Insn} {fields : List Reg} {rd : Reg} {f g : (Reg → Word) → Word}
    (hx : ∀ x s, exec (i x) s = runPure x I rd f s) (hI : I.onPair = true ∧ I.onCu = true ∧ I.regs = fields)
    (hb : I.bad = false) (hg : ∀ r, g r = f r) : Computes i fields rd g := by
  obtain rfl : g = f := funext hg
  obtain ⟨hp, hc, hr⟩ := hI
  exact computes_of_runPure hx (fun _ => hb) (fun _ => hp) (fun _ => hc) (fun _ => hr)

theorem fieldBad_eq_false {pos wm : BitVec 6} (h : pos.toNat + (wm.toNat + 1) ≤ 64) : fieldBad pos wm = false :=
  decide_eq_false (Nat.not_lt.mpr h)

section
variable {k : BitVec 4} (hk : k.toNat ≤ 8)
include hk

theorem octBad_immediate : octBad 0 (k.setWidth 12) = false := by
  revert k; decide

theorem octIndex_immediate (b : Word) : octIndex (k.setWidth 12) b = k.toNat := by
  have hfields : (k.setWidth 12).getLsbD 4 = false ∧ (k.setWidth 12).toNat % 16 = k.toNat := by revert k; decide
  simp only [octIndex, hfields, Bool.false_eq_true, if_false]

end

theorem octBad_register (rb : Reg) : octBad rb 16 = false := by decide +revert

theorem octIndex_register (b : Word) : octIndex 16 b = (wv b).toNat := rfl

theorem octetImm_eq_false (p : BitVec 8) : decide ((p.setWidth 18).toNat / 256 ≠ 0) = false := by
  simp only [BitVec.toNat_setWidth, decide_eq_false_iff_not, ne_eq, Decidable.not_not]
  omega

theorem setWidth_octetImm (p : BitVec 8) : (p.setWidth 18).setWidth 8 = p := by
  rw [BitVec.setWidth_setWidth_of_le _ (by decide), BitVec.setWidth_eq]

theorem maskBad_eq_false (m : BitVec 10) : maskBad (m.setWidth 18) = false := by
  simp only [maskBad, BitVec.toNat_setWidth, decide_eq_false_iff_not, ne_eq, Decidable.not_not]
  omega

/-- PCHK with rd L0 is well encoded. -/
theorem pchkBad_eq_false (m : BitVec 10) : (maskBad (m.setWidth 18) || decide ((0 : Reg) ≠ 0)) = false := by
  rw [maskBad_eq_false]
  rfl

section
variable {ra : Reg} (m : BitVec 10) {s t : State}

theorem pchk_core {c : Fin 16} (h : CoreReady c s t) : exec (.pchk (.core c) 0 ra (m.setWidth 18)) s =
    .next (if pMeets (wp (t.lreg c.val ra)) (m.setWidth 18) then goesOn c.val t
      else takeTrap c.val 0x09 0 0 (BitVec.ofNat 64 ((wp (t.lreg c.val ra)).toNat + 256 * ra.toNat)) t) := by
  rw [exec, execPchk, runInsn_ready h (pchkBad_eq_false m) rfl, finishNext_goesOn h.2.2.2, Nat.mul_comm 256]

theorem pchk_cu {n : Fin 64} (h : CuReady n s t) (hra : ra.toNat < 32) : exec (.pchk (.cu n) 0 ra (m.setWidth 18)) s =
    .next (if pMeets (wp (cuReg n.val ra t)) (m.setWidth 18) then cuGoes n.val ((t.cu n.val).pc + 1) t
      else cuFault n.val 3 t) := by
  rw [exec, execPchk, runInsn_cuReady h (pchkBad_eq_false m) rfl (by simpa using hra)]
  split
  · rw [cuFinish_nextInSequence h rfl]
  · rfl

end

end Sys2Proof.Machine

namespace Sys2Proof.Proofs
open Sys2Proof Machine Claim

/-- Settles O7: each instruction is well encoded under its hypothesis; an immediate octet index is the one encoded. -/
theorem fieldsOctetsProvenanceCompute : Obligations.FieldsOctetsProvenanceCompute := by
  refine ⟨fun rd ra pos wm hpos => ⟨?xbf, ?xbfs, ?ibf⟩, fun rd ra k hk => ⟨?xoct, ?ioct⟩,
    fun rd ra rb => ⟨?xoctReg, ?ioctReg, ?pget, ?pset, ?pmrg⟩, fun rd ra p => ?pseti, fun rd ra m => ?ptst,
    fun ra m c s t h => ?pchkCore, fun ra m n s t h hra => ?pchkCu⟩
  case xbf | xbfs | ibf =>
    refine computes_of_wellEncoded (fun _ _ => by rw [exec]; rfl) (by exact ⟨rfl, rfl, rfl⟩) ?_ (fun _ => by rfl)
    rw [fieldBad_eq_false hpos]
    rfl
  case xoct =>
    refine computes_of_wellEncoded (fun _ _ => by rw [exec]; rfl) (by exact ⟨rfl, rfl, rfl⟩) (octBad_immediate hk) fun r => ?_
    simp only [octIndex_immediate hk, hk, if_true]
    rfl
  case ioct =>
    refine computes_of_wellEncoded (fun _ _ => by rw [exec]; rfl) (by exact ⟨rfl, rfl, rfl⟩) (octBad_immediate hk) fun r => ?_
    simp only [octIndex_immediate hk, hk, if_true]
  case xoctReg | ioctReg =>
    exact computes_of_wellEncoded (fun _ _ => by rw [exec]; rfl) (by exact ⟨rfl, rfl, rfl⟩) (octBad_register rb) fun _ => by rfl
  case pget | pset | pmrg =>
    exact computes_of_wellEncoded (fun _ _ => by rw [exec]; rfl) (by exact ⟨rfl, rfl, rfl⟩) (by rfl) fun _ => by rfl
  case pseti =>
    exact computes_of_wellEncoded (fun _ _ => by rw [exec]; rfl) (by exact ⟨rfl, rfl, rfl⟩) (octetImm_eq_false p)
      fun _ => by rw [setWidth_octetImm]
  case ptst =>
    exact computes_of_wellEncoded (fun _ _ => by rw [exec]; rfl) (by exact ⟨rfl, rfl, rfl⟩) (maskBad_eq_false m) fun _ => by rfl
  case pchkCore => exact pchk_core m h
  case pchkCu => exact pchk_cu m h hra

end Sys2Proof.Proofs
end

section
namespace Sys2Proof.Machine
open Sys2Proof Claim

/-- The compute die of a ready core runs after the fetch. -/
theorem coreReady_runs {c : Fin 16} {s t : State} (h : CoreReady c s t) : t.power.computeHeld = false := h.2.2.2

/-! ### The forms of the floating-point instructions (R157 to R160) -/

@[simp] theorem setDesk_power (c : Nat) (d : Desk) (s : State) : (setDesk c d s).power = s.power := rfl

/-- On a running die the result is written, its flags join DK_FCSR, and the instruction commits. -/
theorem fpOn_floats {c : Nat} {rd : Reg} {srcs : List Reg} {f : Rm → BitVec 64 × FFlags} {t : State}
    (h : t.power.computeHeld = false) : fpOn c rd (mergedProv (srcs.map (t.lreg c))) f t = floats c rd srcs f t := by
  simp only [fpOn, corePut]
  rw [finishNext_goesOn (by simpa using h), goesOn, setLreg_pc]
  rfl

section
variable {i : Exu → Instr} {rd ra rb rc : Reg} {fn : BitVec 12} {v : BitVec 6} {g : Nat → State → State}

theorem runsOnCore_fp1 {f : Rm → BitVec 64 → BitVec 64 × FFlags} (hx : ∀ x s, exec (i x) s = fp1 x fn rd ra 0 f s)
    (hg : ∀ c t, g c t = floats c rd [ra] (fun rm => f rm (wv (t.lreg c ra))) t) : RunsOnCore i g :=
  runsOnCore_of_runInsn hx (fun _ => rfl) (fun _ => rfl) fun _ _ _ h =>
    (fpOn_floats (srcs := [ra]) (coreReady_runs h)).trans (hg _ _).symm

theorem runsOnCore_fp2 {f : Rm → BitVec 64 → BitVec 64 → BitVec 64 × FFlags}
    (hx : ∀ x s, exec (i x) s = fp2 x fn rd ra rb f s)
    (hg : ∀ c t, g c t = floats c rd [ra, rb] (fun rm => f rm (wv (t.lreg c ra)) (wv (t.lreg c rb))) t) : RunsOnCore i g :=
  runsOnCore_of_runInsn hx (fun _ => rfl) (fun _ => rfl) fun _ _ _ h =>
    (fpOn_floats (srcs := [ra, rb]) (coreReady_runs h)).trans (hg _ _).symm

theorem runsOnCore_fp3 {f : Rm → Fp → Fp → Fp → BitVec 64 × FFlags} (hx : ∀ x s, exec (i x) s = fp3 x v rd ra rb rc f s)
    (hg : ∀ c t, g c t = floats c rd [ra, rb, rc] (fun rm => f rm (fval c ra t) (fval c rb t) (fval c rc t)) t) :
    RunsOnCore i g :=
  runsOnCore_of_runInsn hx (fun _ => rfl) (fun _ => rfl) fun _ _ _ h =>
    (fpOn_floats (srcs := [ra, rb, rc]) (coreReady_runs h)).trans (hg _ _).symm

end

end Sys2Proof.Machine

namespace Sys2Proof.Proofs
open Sys2Proof Machine Claim

/-- Settles O8: each instruction by its number of operands. -/
theorem floatingPointComputes : Obligations.FloatingPointComputes := by
  refine ⟨fun rd ra rb => ⟨?add, ?sub, ?mul, ?div, ?min, ?max, ?cmpeq, ?cmplt, ?cmple⟩,
    fun rd ra => ⟨?sqrt, ?neg, ?abs, ?ofSigned, ?ofUnsigned, ?toSigned, ?toUnsigned⟩, fun rd ra rb rc => ⟨?fma, ?fms, ?fnma⟩⟩
  case add | sub | mul | div | min | max | cmpeq | cmplt | cmple =>
    exact runsOnCore_fp2 (fun _ _ => by rw [exec]; rfl) (fun _ _ => by rfl)
  case sqrt | neg | abs | ofSigned | ofUnsigned | toSigned | toUnsigned =>
    exact runsOnCore_fp1 (fun _ _ => by rw [exec]; rfl) (fun _ _ => by rfl)
  case fma | fms | fnma => exact runsOnCore_fp3 (fun _ _ => by rw [exec]; rfl) (fun _ _ => by rfl)

end Sys2Proof.Proofs
end

section
namespace Sys2Proof.Machine
open Sys2Proof Claim

/-! ### Conditions and targets of branches and calls (R98, R99, R166, R167) -/

theorem not_slt_iff (a b : Value) : (!a.slt b) = true ↔ b.toInt ≤ a.toInt := by
  rw [Bool.not_eq_true', Bool.eq_false_iff, ne_eq, BitVec.slt_iff_toInt_lt, Int.not_lt]

theorem not_ult_iff (a b : Value) : (!a.ult b) = true ↔ b.toNat ≤ a.toNat := by
  rw [Bool.not_eq_true', Bool.eq_false_iff, ne_eq, BitVec.ult_iff_toNat_lt, Nat.not_lt]

/-- A displacement added to a program counter wraps at 49 bits (R98). -/
theorem ofInt_pc_add {n : Nat} (pc : BitVec 49) (d : BitVec n) : BitVec.ofInt 49 (pc.toNat + d.toInt) = pc + d.signExtend 49 := by
  rw [BitVec.ofInt_add, BitVec.ofInt_natCast, BitVec.ofNat_toNat, BitVec.setWidth_eq]
  rfl

theorem ofInt_pc_succ (pc : BitVec 49) : BitVec.ofInt 49 (pc.toNat + 1) = pc + 1 := by
  rw [BitVec.ofInt_add, BitVec.ofInt_natCast, BitVec.ofNat_toNat, BitVec.setWidth_eq]
  rfl

/-- The target of CALLR is the low bits of a plus its offset. -/
theorem ofInt_target (a : Value) (off : BitVec 18) :
    BitVec.ofInt 49 ((a.toNat + off.toInt) % 2 ^ 49) = a.setWidth 49 + off.signExtend 49 := by
  have hmod : BitVec.ofInt 49 (((a.toNat : Int) + off.toInt) % 2 ^ 49) = BitVec.ofInt 49 (a.toNat + off.toInt) := by
    apply BitVec.eq_of_toInt_eq
    rw [BitVec.toInt_ofInt, BitVec.toInt_ofInt]
    exact Int.emod_bmod ..
  rw [hmod, BitVec.ofInt_add, BitVec.ofInt_natCast, BitVec.ofNat_toNat]
  rfl

theorem linkWord_core (pc : BitVec 49) : linkWord pc.toNat = mkw ((pc + 1).setWidth 64) 0xC0 := by
  have hval : BitVec.ofNat 64 ((pc.toNat + 1) % 2 ^ 49) = (pc + 1).setWidth 64 := by
    apply BitVec.eq_of_toNat_eq
    simp
  rw [linkWord, hval]
  rfl

theorem linkWord_cu {pc : Nat} (h : pc < 8191) : linkWord pc = mkw (BitVec.ofNat 64 (pc + 1)) 0xC0 := by
  rw [linkWord, Nat.mod_eq_of_lt (by omega)]
  rfl

/-! ### Jumps of a ready core -/

section
variable {c : Fin 16} {s t : State} {i : Insn} {f : (Reg → Word) → Int → Option Int} {npc : Int}

theorem finishAt_runs {k : Nat} {pc : BitVec 49} {t : State} (h : t.power.computeHeld = false) : finishAt k pc t = commitTo k pc t := by
  simp only [finishAt, h, Bool.false_eq_true, if_false]

theorem runJump_core (h : CoreReady c s t) (hb : i.bad = false) (hp : i.onPair = true)
    (hf : f (fun r => t.lreg c.val r) (t.core c.val).pc.toNat = some npc) :
    runJump (.core c) i none f s = .next (commitTo c.val (BitVec.ofInt 49 npc) t) := by
  rw [runJump, runInsn_ready h hb hp]
  simp only [hf, finishAt_runs (coreReady_runs h)]

theorem runJump_coreLinked {rd : Reg} (h : CoreReady c s t) (hb : i.bad = false) (hp : i.onPair = true)
    (hf : f (fun r => t.lreg c.val r) (t.core c.val).pc.toNat = some npc) :
    runJump (.core c) i (some rd) f s = .next (commitTo c.val (BitVec.ofInt 49 npc)
      (t.setLreg c.val rd (mkw (((t.core c.val).pc + 1).setWidth 64) 0xC0))) := by
  rw [runJump, runInsn_ready h hb hp]
  simp only [hf, linkWord_core]
  exact congrArg _ (finishAt_runs (by simpa using coreReady_runs h))

theorem runJump_coreIllegal {rd : Option Reg} (h : CoreReady c s t) (hb : i.bad = false) (hp : i.onPair = true)
    (hf : f (fun r => t.lreg c.val r) (t.core c.val).pc.toNat = none) :
    runJump (.core c) i rd f s = .next (takeTrap c.val 0x03 0 0 (i.enc.setWidth 64) t) := by
  rw [runJump, runInsn_ready h hb hp]
  simp only [hf, illegal]

theorem branch_core {fn : Nat} {ra rb : Reg} {disp : BitVec 12} {cond : Value → Value → Bool} {taken : Prop} [Decidable taken]
    (h : CoreReady c s t) (hc : cond (wv (t.lreg c.val ra)) (wv (t.lreg c.val rb)) = true ↔ taken) :
    branch (.core c) fn ra rb disp cond s =
      .next (commitTo c.val ((t.core c.val).pc + if taken then disp.signExtend 49 else 1) t) := by
  rw [branch, runJump_core h rfl rfl rfl]
  simp only [hc]
  split
  · rw [ofInt_pc_add]
  · rw [ofInt_pc_succ]

end

/-! ### Jumps of a ready cataloguer (R99, R227) -/

/-- Cataloguer n goes on in `u` where the program counter lies in the program memory; else the program stops with cause 8. -/
def cuJumps (n : Nat) (npc : Int) (u t : State) : State :=
  if 0 ≤ npc ∧ npc ≤ 8191 then cuGoes n npc.toNat u else cuFault n 8 t

section
variable {n : Fin 64} {s t u : State} {i : Insn} {f : (Reg → Word) → Int → Option Int} {npc : Int}

theorem cuFinish_jump (hc : (u.cu n.val).count = (t.cu n.val).count) :
    cuFinish n.val (t.cu n.val).count (.next npc u) t = cuJumps n.val npc u t := by
  by_cases hin : 0 ≤ npc ∧ npc ≤ 8191
  · rw [cuJumps, if_pos hin, cuFinish_next hin.1 hin.2 hc]
  · rw [cuJumps, if_neg hin, cuFinish_out (by omega)]

section
variable (h : CuReady n s t) (hb : i.bad = false) (hc : i.onCu = true) (hr : ∀ r ∈ i.regs, r.toNat < 32)
include h hb hc hr

theorem runJump_cu (hf : f (fun r => cuReg n.val r t) (t.cu n.val).pc = some npc) :
    runJump (.cu n) i none f s = .next (cuJumps n.val npc t t) := by
  rw [runJump, runInsn_cuReady h hb hc hr]
  simp only [hf, cuFinish_jump rfl]

theorem runJump_cuLinked {rd : Reg} (hrd : rd.toNat < 32) (hf : f (fun r => cuReg n.val r t) (t.cu n.val).pc = some npc) :
    runJump (.cu n) i (some rd) f s = .next (cuJumps n.val npc
      (t.setCu n.val ((t.cu n.val).put rd.toNat (mkw (BitVec.ofNat 64 ((t.cu n.val).pc + 1)) 0xC0))) t) := by
  have hlow : ¬ (32 ≤ rd.toNat ∧ 0 ≤ npc ∧ npc ≤ 8191) := by omega
  rw [runJump, runInsn_cuReady h hb hc hr]
  simp only [hf, hlow, if_false, linkWord_cu (cuReady_pc h)]
  rw [cuFinish_jump]
  rw [cu_setCu_same]
  unfold Cu.put
  split <;> rfl

theorem runJump_cuIllegal {rd : Option Reg} (hf : f (fun r => cuReg n.val r t) (t.cu n.val).pc = none) :
    runJump (.cu n) i rd f s = .next (cuFault n.val 2 t) := by
  rw [runJump, runInsn_cuReady h hb hc hr]
  simp only [hf, cuFinish]

end

theorem branch_cu {fn : Nat} {ra rb : Reg} {disp : BitVec 12} {cond : Value → Value → Bool} {taken : Prop} [Decidable taken]
    (h : CuReady n s t) (hra : ra.toNat < 32) (hrb : rb.toNat < 32)
    (hc : cond (wv (cuReg n.val ra t)) (wv (cuReg n.val rb t)) = true ↔ taken) :
    branch (.cu n) fn ra rb disp cond s =
      .next (cuJumps n.val ((t.cu n.val).pc + if taken then disp.toInt else 1) t t) := by
  rw [branch, runJump_cu h rfl rfl (by simpa using ⟨hra, hrb⟩) rfl]
  simp only [hc]
  split <;> rfl

end

end Sys2Proof.Machine

namespace Sys2Proof.Proofs
open Sys2Proof Machine Claim

/-- Settles O9: a branch by its condition, a call by its target, on each executor. -/
theorem branchesAndCallsJump : Obligations.BranchesAndCallsJump := by
  refine ⟨fun ra rb disp c s t h => ⟨?beq, ?bne, ?blt, ?bge, ?bltu, ?bgeu⟩,
    fun rd ra imm off c s t h => ⟨?call, fun ha => ?callr, fun ha => ?callrIllegal⟩,
    fun ra rb disp n s t h hra hrb => ⟨?cuBeq, ?cuBne, ?cuBlt, ?cuBge, ?cuBltu, ?cuBgeu⟩,
    fun rd ra imm off n s t h hrd hra => ⟨?cuCall, ?cuCallr⟩⟩
  case beq | bne => rw [exec]; exact branch_core h decide_eq_true_iff
  case blt => rw [exec]; exact branch_core h BitVec.slt_iff_toInt_lt
  case bge => rw [exec]; exact branch_core h (not_slt_iff _ _)
  case bltu => rw [exec]; exact branch_core h BitVec.ult_iff_toNat_lt
  case bgeu => rw [exec]; exact branch_core h (not_ult_iff _ _)
  case call => rw [exec, execCall, runJump_coreLinked h rfl rfl rfl, ofInt_pc_add]
  case callr => rw [exec, execCallr, runJump_coreLinked h rfl rfl (if_neg (Nat.not_le.mpr ha)), ofInt_target]
  case callrIllegal => rw [exec, execCallr, runJump_coreIllegal h rfl rfl (if_pos ha)]
  case cuBeq | cuBne => rw [exec]; exact branch_cu h hra hrb decide_eq_true_iff
  case cuBlt => rw [exec]; exact branch_cu h hra hrb BitVec.slt_iff_toInt_lt
  case cuBge => rw [exec]; exact branch_cu h hra hrb (not_slt_iff _ _)
  case cuBltu => rw [exec]; exact branch_cu h hra hrb BitVec.ult_iff_toNat_lt
  case cuBgeu => rw [exec]; exact branch_cu h hra hrb (not_ult_iff _ _)
  case cuCall => rw [exec, execCall]; exact runJump_cuLinked h rfl rfl (List.forall_mem_nil _) hrd rfl
  case cuCallr =>
    have hreg : ∀ r ∈ [ra], r.toNat < 32 := by simpa using hra
    by_cases ha : 2 ^ 49 ≤ (wv (cuReg n.val ra t)).toNat
    · rw [exec, execCallr, runJump_cuIllegal h rfl rfl hreg (if_pos ha), if_pos ha]
    · rw [exec, execCallr, runJump_cuLinked h rfl rfl hreg hrd (if_neg ha), if_neg ha]
      rfl

end Sys2Proof.Proofs
end

section
namespace Sys2Proof.Machine
open Sys2Proof Claim

/-! ### The word and the output list of an EMIT (R165, R224, R225) -/

/-- A run that depends on no open context hands on its word clamped to CEIL, with PROV clear. -/
theorem emitWord_firm {n : Nat} {a : Word} {s : State} (h : (s.cu n).mask = 0) : emitWord n a s =
    mkw (wv a) (pSetProv false (pClamp (BitVec.ofNat 2 (s.get (R.CATG_CUn_CTL n) F.CATG_CUn_CTL_CEIL)) (wp a))) := by
  simp only [emitWord, wClamp, wv_mkw, wp_mkw, h, ne_eq, not_true_eq_false, decide_false]

section
variable {n imm : Nat} {a m : Word} {t u : State}

theorem emitDo_noList (h : 255 < imm) : emitDo n imm a t = .fault 4 := by
  simp only [emitDo, h, if_true]

section
variable (himm : imm ≤ 255) (hread : engRead (slipA (0x8000 + 256 * n + imm)) t = (m, u))
include himm hread

theorem emitDo_notMapped (hm : m.getLsbD 20 = false) : emitDo n imm a t = .fault 4 := by
  simp only [emitDo, Nat.not_lt.mpr himm, if_false, hread, hm, Bool.not_false, if_true]

/-- The word goes to the list that the map gives. -/
theorem emitDo_walks (hm : m.getLsbD 20 = true) (hfailed : (t.cu n).failed = false)
    (hmask : (t.cu n).mask = 0) : emitDo n imm a t =
      .next ((t.cu n).pc + 1) (runWalks walkFuel { u with cat := { u.cat with walks := u.cat.walks ++
        [{ shelf := 0x8000 + 256 * n + imm, map := true, ptr := wf m 0 20, word := emitWord n a u, mode := 1
           stamp := t.now }] } }) := by
  simp only [emitDo, Nat.not_lt.mpr himm, if_false, hread, hm, Bool.not_true, Bool.false_eq_true, hfailed, hmask, if_true]

end

end

theorem emit_ready {n : Fin 64} {ra : Reg} {imm : BitVec 18} {s t : State} (h : CuReady n s t) (hra : ra.toNat < 32) :
    exec (.emit (.cu n) 0 ra imm) s =
      .next (cuFinish n.val (t.cu n.val).count (emitDo n.val imm.toNat (cuReg n.val ra t) t) t) := by
  rw [exec, execEmit, runInsn_cuReady h rfl rfl (by simpa using hra)]

end Sys2Proof.Machine

namespace Sys2Proof.Proofs
open Sys2Proof Machine Claim

/-- Settles O13: the three ways an EMIT ends, each by what the map gives. -/
theorem emitWalksItsOutputList : Obligations.EmitWalksItsOutputList := by
  intro ra imm n s t u m h hra
  refine ⟨fun himm => ?noList, fun himm hread hm => ?notMapped, fun himm hread hm hcu hfailed hmask => ?walks⟩
  case noList => rw [emit_ready h hra, emitDo_noList himm, cuFinish]
  case notMapped => rw [emit_ready h hra, emitDo_notMapped himm hread hm, cuFinish]
  case walks =>
    have hpc := cuReady_pc h
    rw [emit_ready h hra, emitDo_walks himm hread hm hfailed hmask, emitWord_firm (hcu ▸ hmask), cuFinish,
      if_neg (by omega)]
    rfl

end Sys2Proof.Proofs
end

section
namespace Sys2Proof.Machine
open Sys2Proof Claim

/-! ### A word of memory read after a write -/

@[simp] theorem rdMem_wrMem_same (s : State) (a : Nat) (w : Word) : (s.wrMem a w).rdMem a = w := spGet_spPut_same ..

theorem rdMem_wrMem_other (s : State) {a b : Nat} (w : Word) (h : b ≠ a) : (s.wrMem a w).rdMem b = s.rdMem b :=
  spGet_spPut_other _ _ _ h

@[simp] theorem set_rdMem (s : State) (a : Nat) (f : Fld) (v k : Nat) : (s.set a f v).rdMem k = s.rdMem k := rfl

/-! ### The lending desks (R505, R506) -/

theorem deskWord_slot_ne {c j k : Nat} {inbound : Bool} (h : j ≠ k) : deskWord c inbound j ≠ deskWord c inbound k := by
  unfold deskWord
  omega

/-- The two directions of a desk have eight words each. -/
theorem deskWord_side_ne {c j k : Nat} {inbound : Bool} (hj : j < 8) (hk : k < 8) :
    deskWord c (!inbound) j ≠ deskWord c inbound k := by
  unfold deskWord
  cases inbound <;> simp <;> omega

/-- What a PUT that is not refused leaves. -/
def deskAfterPut (c : Nat) (lib : Bool) (k : Nat) (w : Word) (s : State) : State :=
  (s.wrMem (deskWord c lib k) w).set (R.CARREL_Cc_DESK c) (deskDirty lib) (s.get (R.CARREL_Cc_DESK c) (deskDirty lib) ||| 2 ^ k)

section
variable {c k j : Nat} {lib : Bool} {w : Word} {s t : State}

theorem deskPut_full (h : deskFull c lib s = true) : deskPut c lib k w s = none := by
  simp only [deskPut, h, Bool.or_true, if_true]

theorem deskPut_free (hr : deskRefuses c s = false) (hf : deskFull c lib s = false) :
    deskPut c lib k w s = some (deskAfterPut c lib k w s) := by
  simp only [deskPut, hr, hf, Bool.or_self, Bool.false_eq_true, if_false, deskAfterPut]

/-- A PUT changes no register of the carrel's state, so the desk goes on answering. -/
theorem deskRefuses_deskAfterPut : deskRefuses c (deskAfterPut c lib k w s) = deskRefuses c s := by
  have hreg : R.CARREL_Cc_STAT c ≠ R.CARREL_Cc_DESK c := by unfold R.CARREL_Cc_STAT R.CARREL_Cc_DESK; omega
  have hstat : (deskAfterPut c lib k w s).get (R.CARREL_Cc_STAT c) F.CARREL_Cc_STAT_STATE =
      s.get (R.CARREL_Cc_STAT c) F.CARREL_Cc_STAT_STATE := get_set_other hreg
  simp only [deskRefuses, carrelResetting, hstat]
  rfl

theorem deskGet_answers (h : deskRefuses c s = false) : deskGet c lib k s = some (s.rdMem (deskWord c (!lib) k)) := by
  simp only [deskGet, h, Bool.false_eq_true, if_false]

theorem deskAfterPut_rdMem_same : (deskAfterPut c lib k w s).rdMem (deskWord c lib k) = w := by
  rw [deskAfterPut, set_rdMem, rdMem_wrMem_same]

theorem deskAfterPut_rdMem_other {a : Nat} (h : a ≠ deskWord c lib k) : (deskAfterPut c lib k w s).rdMem a = s.rdMem a := by
  rw [deskAfterPut, set_rdMem, rdMem_wrMem_other _ _ h]

theorem deskDirty_fits : (deskDirty lib).fits = true := by cases lib <;> rfl
theorem deskDirty_width : (deskDirty lib).width = 8 := by cases lib <;> rfl

/-- The slot that a PUT fills is DIRTY. -/
theorem deskAfterPut_dirty (hk : k < 8) :
    ((deskAfterPut c lib k w s).reg (R.CARREL_Cc_DESK c)).getLsbD ((deskDirty lib).lo + k) = true := by
  rw [deskAfterPut, State.set, reg_setReg_same, getLsbD_fput deskDirty_fits,
    if_pos (Fld.has_add (by rw [deskDirty_width]; exact hk)), Nat.add_sub_cancel_left, Nat.testBit_or, Nat.testBit_two_pow_self,
    Bool.or_true]

end

/-! ### The message-desk instructions on a ready core (R168, R169) -/

/-- The carrel whose desk a core's MBX reaches: the one that b names for the librarian, else the core's own (R169). -/
def mbxCarrel (c : Nat) (b : Word) (t : State) : Nat := if isLib c t then wf b 9 9 else (t.core c).d1.toNat

/-- How an MBX of core c ends: with the state that the desk's answer gives, or with the trap of a desk that refuses. -/
def mbxEnds (c : Nat) (b : Word) (answer : Option State) (t : State) : State := answer.elim (mbxError c b t) (finishNext c)

section
variable {c : Nat} {b : Word} {answer : Option State} {t u : State}

theorem mbxEnds_answered (h : answer = some u) (hrun : u.power.computeHeld = false) : mbxEnds c b answer t = goesOn c u := by
  rw [mbxEnds, h, Option.elim_some, finishNext_goesOn hrun]

theorem mbxEnds_refused (h : answer = none) : mbxEnds c b answer t = takeTrap c 0x0E 0 0 (wv b) t := by
  rw [mbxEnds, h]
  rfl

end

section
variable {c : Fin 16} {rd ra rb : Reg} {s t : State} (h : CoreReady c s t)
include h

theorem mbxPut_ready (hm : (t.core c.val).mode ≠ 0b00#2) : exec (.mbxPut (.core c) 0 ra rb 0) s =
    .next (mbxEnds c.val (t.lreg c.val rb) (deskPut (mbxCarrel c.val (t.lreg c.val rb) t) (isLib c.val t)
      (wf (t.lreg c.val rb) 0 3) (wClamp (coreCeil c.val t) (t.lreg c.val ra)) t) t) := by
  rw [exec, execMbxPut, runSys, runInsn_ready h rfl rfl]
  simp only [hm, if_false, mbxSelect, mbxCarrel, mbxEnds]
  split <;> simp only [*, Option.elim_some, Option.elim_none]

theorem mbxGet_ready (hm : (t.core c.val).mode ≠ 0b00#2) : exec (.mbxGet (.core c) rd 0 rb 0) s =
    .next (mbxEnds c.val (t.lreg c.val rb) ((deskGet (mbxCarrel c.val (t.lreg c.val rb) t) (isLib c.val t)
      (wf (t.lreg c.val rb) 0 3) t).map (t.setLreg c.val rd)) t) := by
  rw [exec, execMbxGet, runSys, runInsn_ready h rfl rfl]
  simp only [hm, if_false, mbxSelect, mbxCarrel, mbxEnds]
  split <;> simp only [*, Option.map_some, Option.map_none, Option.elim_some, Option.elim_none]

theorem mbxRing_ready (hm : (t.core c.val).mode ≠ 0b00#2) : exec (.mbxRing (.core c) 0 0 rb 0) s =
    .next (mbxEnds c.val (t.lreg c.val rb) (deskRing (mbxCarrel c.val (t.lreg c.val rb) t) (isLib c.val t) t) t) := by
  rw [exec, execMbxRing, runSys, runInsn_ready h rfl rfl]
  simp only [hm, if_false, mbxSelect, mbxCarrel, mbxEnds]
  split <;> simp only [*, Option.elim_some, Option.elim_none]

section
variable (hm : (t.core c.val).mode = 0b00#2)
include hm

theorem mbxPut_user : exec (.mbxPut (.core c) 0 ra rb 0) s =
    .next (takeTrap c.val 0x04 0 0 ((encR 0x38 0 ra rb 2).setWidth 64) t) := by
  rw [exec, execMbxPut, runSys, runInsn_ready h rfl rfl]
  exact congrArg _ (if_pos hm)

theorem mbxGet_user : exec (.mbxGet (.core c) rd 0 rb 0) s =
    .next (takeTrap c.val 0x04 0 0 ((encR 0x38 rd 0 rb 3).setWidth 64) t) := by
  rw [exec, execMbxGet, runSys, runInsn_ready h rfl rfl]
  exact congrArg _ (if_pos hm)

theorem mbxRing_user : exec (.mbxRing (.core c) 0 0 rb 0) s =
    .next (takeTrap c.val 0x04 0 0 ((encR 0x38 0 0 rb 4).setWidth 64) t) := by
  rw [exec, execMbxRing, runSys, runInsn_ready h rfl rfl]
  exact congrArg _ (if_pos hm)

end

end

end Sys2Proof.Machine

namespace Sys2Proof.Proofs
open Sys2Proof Machine Claim

/-- Settles O15: each instruction by the mode and by what the desk answers; the words of a desk are apart, so a PUT leaves the
others alone. -/
theorem messageDeskCarriesWords : Obligations.MessageDeskCarriesWords := by
  refine ⟨fun rd ra rb c s t h => ⟨fun huser => ?_, fun huser => ?_⟩, fun n lib k w s hr => ⟨fun hf => ?_, deskPut_full⟩⟩
  · have hmode : (t.core c.val).mode ≠ 0b00#2 := of_decide_eq_false huser
    have hput := mbxPut_ready (ra := ra) (rb := rb) h hmode
    have hget := mbxGet_ready (rd := rd) (rb := rb) h hmode
    have hring := mbxRing_ready (rb := rb) h hmode
    exact ⟨fun u hu hrun => hput.trans (congrArg _ (mbxEnds_answered hu hrun)),
      fun hn => hput.trans (congrArg _ (mbxEnds_refused hn)),
      fun w hw => hget.trans (congrArg _ (mbxEnds_answered (congrArg _ hw) (by simpa using coreReady_runs h))),
      fun hn => hget.trans (congrArg _ (mbxEnds_refused (congrArg _ hn))),
      fun u hu hrun => hring.trans (congrArg _ (mbxEnds_answered hu hrun)),
      fun hn => hring.trans (congrArg _ (mbxEnds_refused hn))⟩
  · have hmode : (t.core c.val).mode = 0b00#2 := of_decide_eq_true huser
    exact ⟨mbxPut_user h hmode, mbxGet_user h hmode, mbxRing_user h hmode⟩
  · refine ⟨deskAfterPut n.toNat lib k.val w s, deskPut_free hr hf, ?_, fun j hj => ?_, fun j => ?_, deskAfterPut_dirty k.isLt⟩
    all_goals rw [deskGet_answers (deskRefuses_deskAfterPut.trans hr)]
    · rw [Bool.not_not, deskAfterPut_rdMem_same]
    · rw [Bool.not_not, deskAfterPut_rdMem_other (deskWord_slot_ne (Fin.val_ne_of_ne hj)), deskGet_answers hr, Bool.not_not]
    · rw [deskAfterPut_rdMem_other (deskWord_side_ne j.isLt k.isLt), deskGet_answers hr]

end Sys2Proof.Proofs
end

section
namespace Sys2Proof.Machine
open Sys2Proof

/-! ### A frame meets the closed ports of the switch core (R26, R258) -/

/-- A closed switch core takes no frame, whatever its port's own tile does. -/
theorem exec_frameClassification_closed {s : State} (h : tileClosed .switchCore s = true) (p : Fin 24) (src : FrameIn) :
    exec (.frameClassification p src) s = .next s := by
  simp only [exec, execFrameClassification, h, if_true]

/-- Forwarding is on and port 0 is UP in its open tile t1s; the switch core's ports are closed, as a late cell closes them
(`fabricFault`). -/
def closedSwitchState : State :=
  closeTile .switchCore ((State.reset.set R.CIRC_CTL F.CIRC_CTL_EN 1).set (R.ETH_Pp_STAT 0) F.ETH_Pp_STAT_STATE 0)

theorem closedSwitch_closed : tileClosed .switchCore closedSwitchState = true := by decide +kernel

theorem closedSwitch_rxAble : rxAble 0 closedSwitchState = true := by decide +kernel

theorem closedSwitch_forwards : closedSwitchState.bit R.CIRC_CTL F.CIRC_CTL_EN = true := by decide +kernel

theorem closedSwitch_receives_none : (closedSwitchState.port 0).rx = none := by decide +kernel

theorem closedSwitch_maxFrame : 68 ≤ closedSwitchState.get (R.ETH_Pp_CTL 0) F.ETH_Pp_CTL_MAX_FRAME := by decide +kernel

theorem closedSwitch_copies : closedSwitchState.sw.copies = [] := by decide +kernel

/-- The first 60 octets of a frame, all zero. -/
def zeroFrame : Octets := List.replicate 60 0

theorem zeroFrame_notLocal : (classify 0 zeroFrame closedSwitchState).local_ = false := by decide +kernel

end Sys2Proof.Machine

namespace Sys2Proof.Proofs
open Sys2Proof Machine Claim

/-- Refutes O44: the clause of arriving octets asks that the port's own tile is open (`rxAble`), not that the switch core is.
With the core's ports closed (R26) and port 0 UP in its open tile, 60 octets leave the state as it was, so no frame is being
received at the port. -/
theorem not_framesCrossTheSwitchInCells : ¬ Obligations.FramesCrossTheSwitchInCells := by
  rintro ⟨harrive, -⟩
  have hcopies : ∀ c ∈ closedSwitchState.sw.copies, c.inp = (0 : Fin 12).val → c.closed = true := by
    simp [closedSwitch_copies]
  obtain ⟨t, hnext, hreceives, -⟩ := harrive 0 zeroFrame none closedSwitchState closedSwitch_rxAble closedSwitch_forwards
    closedSwitch_receives_none (by decide) closedSwitch_maxFrame hcopies zeroFrame_notLocal
  rw [exec_frameClassification_closed closedSwitch_closed] at hnext
  cases hnext
  exact absurd (closedSwitch_receives_none.symm.trans hreceives) nofun

end Sys2Proof.Proofs
end

section
namespace Sys2Proof.Machine
open Sys2Proof

/-! ### A failed context withdraws a copy whose record lies outside the table of R275 -/

/-- Context p is open and one copy that has not started names copy record r, over the given registers. -/
def strayWithdrawalState (p r : Nat) (regs : List (Nat × BitVec 64)) : State :=
  { State.reset with
    regs := regs
    cat := { rx := [(p, { open_ := true })] }
    sw := { copies := [{ num := 0, frame := 0, inp := 0, out := 0, tc := 0, data := [], len := 0, closed := true, cells := [],
                         rec_ := some r }] } }

/-- What an error leaves that CAN controller n finds as a receiver: LEC, its count and REC, and then its context fails (R314,
R315). -/
def canReceiverError (n kind : Nat) (strong : Bool) (s : State) : State :=
  let u := s.set (R.CANn_ERR n) F.CANn_ERR_LEC kind
  ctxFail n .none (canErrSet n (u.get (R.CANn_ERR n) F.CANn_ERR_TEC)
    (u.get (R.CANn_ERR n) F.CANn_ERR_REC + (if strong then 8 else 1)) (canCount n 2 u))

theorem exec_canErrorDetected_receiver {n : Fin 16} {kind : BitVec 3} {strong : Bool} {s : State} (hlive : canLive n.val s = true)
    (h0 : kind ≠ 0) (h7 : kind ≠ 7) :
    exec (.canErrorDetected n kind false strong) s = .next (canReceiverError n.val kind.toNat strong s) := by
  simp only [exec, execCanErrorDetected, canReceiverError, hlive, h0, h7, Bool.not_true, Bool.false_and, Bool.false_eq_true,
    if_false]

/-- Controller 0 is on with TEC = 1. Record 0x17002, beyond the 256 of R275, has its mask in the word of `R.CANn_ERR 0`, so
that TEC's low bit is the bit of context 0. -/
def strayCanState : State :=
  strayWithdrawalState 0 0x17002 [(R.CANn_CTL 0, fput 0 F.CANn_CTL_EN 1), (R.CANn_ERR 0, fput 0 F.CANn_ERR_TEC 1)]

theorem strayCan_live : canLive 0 strayCanState = true := by decide +kernel

/-- Withdrawing the copy frees its record, and with the record's mask REC is cleared. -/
theorem strayCan_clears_rec : (canReceiverError 0 1 false strayCanState).get (R.CANn_ERR 0) F.CANn_ERR_REC = 0 := by
  decide +kernel

/-- What an error leaves in a response of identifier i that LIN controller m receives: LEC, its count and its notice, and then
its context fails (R325). -/
def linReceiverError (m i err : Nat) (s : State) : State :=
  ctxFail (16 + m) .none (linError m i err false (s.setLin m { s.lin m with hdr := none, lastAct := s.now }))

theorem exec_linResponseEnd_receiver {m : Fin 8} {err : BitVec 3} {i : Nat} {data : Octets} {s : State}
    (hhdr : (s.lin m.val).hdr = some i) (herr : err ≠ 0) (hdir : frDir m.val i 1 s = false) (hevt : (s.lin m.val).evt = false) :
    exec (.linResponseEnd m err data) s = .next (linReceiverError m.val i err.toNat s) := by
  simp only [exec, execLinResponseEnd, linReceiverError, hhdr, herr, hdir, hevt, ne_eq, not_false_eq_true, Bool.false_eq_true,
    false_and, if_true, if_false]

/-- Controller 0 awaits the response to header 0 in entry 4 of its schedule. Record 0x1F001, beyond the 256 of R275, has its
mask in the word of `R.LINm_SCHED 0`, so that CUR's bit 2 is the bit of context 16, and its count in that of `R.LINm_STAT 0`. -/
def strayLinState : State :=
  (strayWithdrawalState 16 0x1F001 [(R.LINm_SCHED 0, fput 0 F.LINm_SCHED_CUR 4)]).setLin 0 { hdr := some 0 }

/-- Withdrawing the copy counts its record down, and with it LEC. -/
theorem strayLin_clears_lec : (linReceiverError 0 0 1 strayLinState).get (R.LINm_STAT 0) F.LINm_STAT_LEC = 0 := by
  decide +kernel

end Sys2Proof.Machine

namespace Sys2Proof.Proofs
open Sys2Proof Machine Claim

/-- Refutes O46: the clause of a receiver's error speaks of every state, also of one whose switch holds a copy that names a
copy record beyond the 256 of R275; the controller's context fails, the copy is withdrawn, and freeing its record clears the
controller's ERR, so that REC reads 0 after the error. The state is canonical, but not one the commands lead to: they take
records below 256 (`freeRecord`). -/
theorem not_canControllersFollowTheBus : ¬ Obligations.CanControllersFollowTheBus := by
  rintro ⟨-, -, -, -, hreceiver, -⟩
  obtain ⟨t, hnext, hrec, -⟩ := hreceiver 0 1 false strayCanState strayCan_live (by decide) (by decide) (by decide +kernel)
  rw [exec_canErrorDetected_receiver strayCan_live (by decide) (by decide)] at hnext
  obtain rfl := Host.Outcome.next.inj hnext
  exact absurd (strayCan_clears_rec.symm.trans hrec) (by decide +kernel)

/-- Refutes O47: the clause of a response in error speaks of every state, also of one whose switch holds a copy that names a
copy record beyond the 256 of R275; the controller's context fails, the copy is withdrawn, and counting its record down takes
the error from LEC. The state is canonical, but not one the commands lead to: they take records below 256 (`freeRecord`). -/
theorem not_linControllersFollowTheSchedule : ¬ Obligations.LinControllersFollowTheSchedule := by
  rintro ⟨-, -, -, -, -, herror, -⟩
  have hhdr : (strayLinState.lin (0 : Fin 8).val).hdr = some (0 : Fin 64).val := by decide +kernel
  have hdir : frDir (0 : Fin 8).val (0 : Fin 64).val 1 strayLinState = false := by decide +kernel
  obtain ⟨t, hnext, -, -, hlec, -⟩ := herror 0 0 1 [] strayLinState hhdr (by decide) hdir
  rw [exec_linResponseEnd_receiver hhdr (by decide) hdir (by decide +kernel)] at hnext
  obtain rfl := Host.Outcome.next.inj hnext
  exact absurd (strayLin_clears_lec.symm.trans hlec) (by decide)

end Sys2Proof.Proofs
end

section
namespace Sys2Proof.Machine
open Sys2Proof

/-! ### A wing falls asleep while a copy's record lies outside the table of R275 -/

/-- The wing falls asleep: source 0x1FF is raised, and each segment leaves the medium (R339, R347). -/
def wingAsleep (w : Nat) (s : State) : State :=
  let e : Event := { stamp := (s.reg (R.NM_WINGw_LOCKUP w)).toNat, src := 0x1FF, payload := immw (BitVec.ofNat 64 w) }
  let u := setWingState w 4 (notifyAll e (ownDest (R.NM_WINGw_OWN w) s) s)
  (wingSegs w u).foldl (fun t g => segSleep g t) u

/-- Wing 0, which no wing precedes, once its lock-up instant and the hold of R66 have passed (R347). -/
theorem exec_lockupInstant_first {s : State} (hstate : wingState 0 s = 3)
    (htwin : (s.reg (R.NM_WINGw_WMASK 0)).getLsbD 61 = false) (hdue : (s.reg (R.NM_WINGw_LOCKUP 0)).toNat + 64 ≤ s.now) :
    exec (.lockupInstant 0) s = .next (wingAsleep 0 s) := by
  have hpast : ¬ s.now < (s.reg (R.NM_WINGw_LOCKUP 0)).toNat + 64 := by omega
  simp only [exec, execLockupInstant, Fin.val_zero, hstate, htwin, hpast, List.range_zero, List.any_nil, Bool.false_eq_true,
    ne_eq, not_true_eq_false, false_or, if_false]
  rfl

/-- Wing 0 is in LOCKUP, its instant past; its one segment is port 0, UP, with GRACE = 0 and a queued copy. Record 0x27102,
beyond the 256 of R275, has its count in the word of `R.NM_WINGw_STAT 0`. -/
def strayLockupState : State :=
  { State.reset with
    time := { gtc := 64 }
    regs := [(R.ETH_Pp_STAT 0, fput 0 F.ETH_Pp_STAT_STATE 0), (R.NM_SEGs_CFG 24, fput 0 F.NM_SEGs_CFG_MEMBER 1),
      (R.NM_WINGw_STAT 0, fput 0 F.NM_WINGw_STAT_STATE 3)]
    sw := { copies := [{ num := 0, frame := 0, inp := 0, out := 0, tc := 0, data := [], len := 0, closed := true, cells := [],
                         rec_ := some 0x27102, queued := true }] } }

theorem strayLockup_lockup : wingState 0 strayLockupState = 3 := by decide +kernel

theorem strayLockup_due :
    (strayLockupState.reg (R.NM_WINGw_LOCKUP 0)).toNat + 64 ≤ strayLockupState.now := by decide +kernel

theorem strayLockup_noTwinWake : (strayLockupState.reg (R.NM_WINGw_WMASK 0)).getLsbD 61 = false := by decide +kernel

/-- The port goes down, the discarded copy counts its record down, and with it STATE goes from 4 to 3. -/
theorem strayLockup_stays : wingState 0 (wingAsleep 0 strayLockupState) = 3 := by decide +kernel

end Sys2Proof.Machine

namespace Sys2Proof.Proofs
open Sys2Proof Machine Claim

/-- Refutes O48: the clause of the lock-up instant speaks of every state, also of one whose switch holds a copy that names a
copy record beyond the 256 of R275; the wing's port goes down with GRACE = 0, the copy is discarded, and counting its record
down rewrites the wing's STAT, so that STATE shows LOCKUP and not ASLEEP. The state is canonical, but not one the commands lead
to: they take records below 256 (`freeRecord`). -/
theorem not_wingsCloseSleepAndWake : ¬ Obligations.WingsCloseSleepAndWake := by
  rintro ⟨-, -, -, -, -, -, hinstant, -⟩
  have hdue : (strayLockupState.reg (R.NM_WINGw_LOCKUP (0 : Fin 16).val)).toNat +
      (if (strayLockupState.reg (R.NM_WINGw_WMASK (0 : Fin 16).val)).getLsbD 61 then
        1000 * strayLockupState.get R.TIME_ORDER_CTL F.TIME_ORDER_CTL_TWIN_HOLD else 64) ≤ strayLockupState.now := by
    rw [Fin.val_zero, strayLockup_noTwinWake]
    exact strayLockup_due
  obtain ⟨t, hnext, hasleep, -⟩ := hinstant 0 strayLockupState strayLockup_lockup hdue fun x hx => absurd hx (Fin.not_lt_zero x)
  rw [exec_lockupInstant_first strayLockup_lockup strayLockup_noTwinWake strayLockup_due] at hnext
  obtain rfl := Host.Outcome.next.inj hnext
  exact absurd (strayLockup_stays.symm.trans hasleep) (by decide)

end Sys2Proof.Proofs
end

section
namespace Sys2Proof.Machine
open Sys2Proof

/-! ### What a power-die event leaves of the wings and of the registers (R349, R350, R591) -/

section
variable (s : State)

theorem commitTo_wings (c : Nat) (npc : BitVec 49) : (commitTo c npc s).wings = s.wings := by
  simp only [commitTo]
  split <;> rfl

theorem waiteReturn_wings (c : Nat) : (waiteReturn c s).wings = s.wings := by
  unfold waiteReturn
  split
  · rfl
  · split
    · next hpop =>
      simp only [popNotice] at hpop
      split at hpop
      · cases hpop
      · cases hpop
        exact commitTo_wings ..
    · rfl

theorem dozeWake_wings (c src : Nat) : (dozeWake c src s).wings = s.wings := by
  simp only [dozeWake]
  split <;> rfl

theorem deliver_wings (c : Nat) (e : Event) (late : Bool) : (deliver c e late s).wings = s.wings := by
  have hlate : (if late then s.addSat R.TIME_LATE_CNT F.TIME_LATE_CNT_COUNT 1 else s).wings = s.wings := by split <;> rfl
  simp only [deliver]
  split
  · exact hlate
  · split
    · exact hlate
    · exact (waiteReturn_wings ..).trans ((dozeWake_wings ..).trans hlate)

theorem notify_wings (e : Event) (c : Nat) : (notify e c s).wings = s.wings := by
  simp only [notify, lateWork]
  split
  · split <;> rfl
  · split
    · exact deliver_wings ..
    · rfl

end

/-- The registers that a power-die event may change: those of its notices, and the counts of events that found no room. -/
def powerReg (a : Nat) : Bool := noticeReg a || decide (a = R.ARCH_LOSS) || decide (a = R.LOAD_STAT)

theorem powerReg_eq_false {a : Nat} (harch : 0xF0020002 < a) (hload : a ≠ 0xF00E0001) (hhi : a < 0xF00F0000) : powerReg a = false := by
  simp only [powerReg, noticeReg, Bool.or_eq_false_iff, decide_eq_false_iff_not]
  unfold R.SYS_PWR_STAT R.TIME_LATE_CNT R.ARCH_LOSS R.LOAD_STAT
  omega

/-- What a power-die event leaves as it was: the wings, and the registers of the other blocks. -/
structure PowerFrame (s t : State) : Prop where
  wings : t.wings = s.wings
  reg : ∀ a, powerReg a = false → t.reg a = s.reg a

namespace PowerFrame

theorem refl (s : State) : PowerFrame s s := ⟨rfl, fun _ _ => rfl⟩

section
variable {s t u : State}

theorem trans (h : PowerFrame s t) (k : PowerFrame t u) : PowerFrame s u :=
  ⟨k.wings.trans h.wings, fun a ha => (k.reg a ha).trans (h.reg a ha)⟩

theorem of_regs (hw : t.wings = s.wings) (hr : t.regs = s.regs) : PowerFrame s t := ⟨hw, fun a _ => by rw [State.reg, hr, State.reg]⟩

theorem ite {p : Prop} [Decidable p] (h : PowerFrame s t) (k : PowerFrame s u) : PowerFrame s (if p then t else u) := by
  split <;> assumption

theorem addSat {a : Nat} (ha : powerReg a = true) (f : Fld) (n : Nat) : PowerFrame s (s.addSat a f n) :=
  ⟨rfl, fun _ hb => reg_set_other fun heq => by simp [heq, ha] at hb⟩

end

end PowerFrame

section
variable (s : State)

theorem notify_powerFrame (e : Event) (c : Nat) : PowerFrame s (notify e c s) where
  wings := notify_wings s e c
  reg a ha := (notify_noticeFrame s e c).reg a (by simp_all [powerReg])

theorem notifyAll_powerFrame (e : Event) (cs : List Nat) : PowerFrame s (notifyAll e cs s) := by
  have hfold (l : List Nat) (t : State) : PowerFrame t (l.foldl (fun t c => notify e c t) t) := by
    induction l generalizing t with
    | nil => exact .refl t
    | cons c l ih => exact (notify_powerFrame t e c).trans (ih _)
  exact hfold _ s

theorem archive_powerFrame (e : Event) (cls : Nat) (detail : BitVec 64) : PowerFrame s (archive e cls detail s) := by
  have hloss : PowerFrame s (s.addSat R.ARCH_LOSS F.ARCH_LOSS_DROPPED 1) := .addSat (by decide) _ _
  have hlost : PowerFrame s { s.addSat R.ARCH_LOSS F.ARCH_LOSS_DROPPED 1 with arch := { s.arch with gap := true, armed := false } } :=
    ⟨hloss.wings, hloss.reg⟩
  unfold archive
  exact .ite (.refl s) (.ite (.ite (hlost.trans (notify_powerFrame ..)) hlost) (.of_regs rfl rfl))

theorem powerRaise_powerFrame (src : Nat) (pay : BitVec 64) : PowerFrame s (powerRaise src pay s) := by
  unfold powerRaise powerDeliver
  exact .ite (.ite (.of_regs rfl rfl) (.addSat (by decide) _ _))
    (.ite (.refl s) ((archive_powerFrame ..).trans (notifyAll_powerFrame ..)))

end

/-! ### A wake event becomes a request of its wings (R349, R350) -/

theorem insEvent_perm (e : Event) (l : List Event) : (insEvent e l).Perm (e :: l) := by
  induction l with
  | nil => rfl
  | cons x l ih =>
    rw [insEvent]
    split
    · exact (ih.cons x).trans (.swap e x l)
    · rfl

/-- Does the event count for wing w, and is the wing enabled? -/
def wakesWing (e : Event) (w : Nat) (s : State) : Bool := s.bit (R.NM_WINGw_CFG w) F.NM_WINGw_CFG_EN && wakeCounts w e.src s

/-- The event becomes a request of wing w where it counts for it. -/
def queueWing (e : Event) (s : State) (w : Nat) : State :=
  if wakesWing e w s then s.setWing w { s.wing w with wakes := insEvent e (s.wing w).wakes } else s

theorem queueWake_eq (e : Event) (s : State) : queueWake e s = (List.range 16).foldl (queueWing e) s := rfl

section
variable {e : Event} {s : State} {w : Nat}

theorem queueWing_reg (a : Nat) : (queueWing e s w).reg a = s.reg a := by
  unfold queueWing
  split <;> rfl

theorem queueWings_reg (l : List Nat) (a : Nat) : (l.foldl (queueWing e) s).reg a = s.reg a := by
  induction l generalizing s with
  | nil => rfl
  | cons k l ih => exact ih.trans (queueWing_reg a)

theorem queueWake_reg (a : Nat) : (queueWake e s).reg a = s.reg a := queueWings_reg _ a

theorem wakesWing_congr {t : State} (h : ∀ a, t.reg a = s.reg a) : wakesWing e w t = wakesWing e w s := by
  rw [wakesWing, wakesWing, wakeCounts, wakeCounts, bit_of_reg (h _), h]

theorem queueWing_wing_other {k : Nat} (h : w ≠ k) : (queueWing e s k).wing w = s.wing w := by
  unfold queueWing
  split
  · exact wing_setWing_other s _ h
  · rfl

theorem queueWings_wing_other {l : List Nat} (h : w ∉ l) : (l.foldl (queueWing e) s).wing w = s.wing w := by
  induction l generalizing s with
  | nil => rfl
  | cons k l ih =>
    simp only [List.mem_cons, not_or] at h
    obtain ⟨hk, hl⟩ := h
    exact (ih hl).trans (queueWing_wing_other hk)

theorem queueWings_wing {l : List Nat} (hl : l.Nodup) (hw : w ∈ l) (hwakes : wakesWing e w s = true) :
    (l.foldl (queueWing e) s).wing w = { s.wing w with wakes := insEvent e (s.wing w).wakes } := by
  induction l generalizing s with
  | nil => cases hw
  | cons k l ih =>
    obtain ⟨hk, hnodup⟩ := List.nodup_cons.mp hl
    rw [List.foldl_cons]
    rcases List.mem_cons.mp hw with rfl | hmem
    · rw [queueWings_wing_other hk, queueWing, if_pos hwakes, wing_setWing_same]
    · have hne : w ≠ k := fun heq => hk (heq ▸ hmem)
      rw [ih hnodup hmem ((wakesWing_congr queueWing_reg).trans hwakes), queueWing_wing_other hne]

/-- A wing that the event counts for has it among its requests. -/
theorem queueWake_wakes (hw : w < 16) (hwakes : wakesWing e w s = true) :
    ((queueWake e s).wing w).wakes = insEvent e (s.wing w).wakes := by
  rw [queueWake_eq, queueWings_wing List.nodup_range (List.mem_range.mpr hw) hwakes]

end

/-! ### Where a wake source's event goes (R350, R591) -/

section
variable {src : Nat} {pay : BitVec 64} {s : State}

/-- In PARK, or on the way to it, the first source that ends PARK is noted (R591). -/
def parkWoken (src : Nat) (s : State) : State :=
  if endsPark src s && s.power.parkWake.isNone then { s with power := { s.power with parkWake := some src } } else s

theorem parkWoken_keeps (src : Nat) (s : State) : (parkWoken src s).power.wakes = s.power.wakes ∧
    (parkWoken src s).power.aonAt = s.power.aonAt ∧ (parkWoken src s).regs = s.regs := by
  unfold parkWoken
  split <;> exact ⟨rfl, rfl, rfl⟩

theorem wakeSource_parking (hpark : parking s = true) : wakeSource src pay s =
    if (parkWoken src s).power.wakes.length < 16 then
      { parkWoken src s with power := { (parkWoken src s).power with
        wakes := (parkWoken src s).power.wakes ++ [{ stamp := s.pnow, src := src, payload := immw pay }] } }
    else (parkWoken src s).addSat R.SYS_PWR_STAT F.SYS_PWR_STAT_WAKE_LOST 1 := by
  simp only [wakeSource, hpark, if_true, parkWoken]

/-- There the tile keeps up to 16 events with their stamps. -/
theorem wakeSource_kept (hpark : parking s = true) (hroom : s.power.wakes.length < 16) :
    (wakeSource src pay s).power.wakes = s.power.wakes ++ [{ stamp := s.pnow, src := src, payload := immw pay }] ∧
      (wakeSource src pay s).power.aonAt = s.power.aonAt ∧ (wakeSource src pay s).regs = s.regs := by
  obtain ⟨hwakes, haon, hregs⟩ := parkWoken_keeps src s
  rw [wakeSource_parking hpark, hwakes, if_pos hroom]
  exact ⟨rfl, haon, hregs⟩

theorem wakeSource_full (hpark : parking s = true) (hfull : 16 ≤ s.power.wakes.length) :
    wakeSource src pay s = (parkWoken src s).addSat R.SYS_PWR_STAT F.SYS_PWR_STAT_WAKE_LOST 1 := by
  obtain ⟨hwakes, -, -⟩ := parkWoken_keeps src s
  rw [wakeSource_parking hpark, hwakes, if_neg (by omega)]

/-- Beyond them an event is counted as lost. -/
theorem wakeSource_lost (hpark : parking s = true) (hfull : 16 ≤ s.power.wakes.length) :
    (wakeSource src pay s).power.wakes = s.power.wakes ∧
      (wakeSource src pay s).get R.SYS_PWR_STAT F.SYS_PWR_STAT_WAKE_LOST =
        min (s.get R.SYS_PWR_STAT F.SYS_PWR_STAT_WAKE_LOST + 1) F.SYS_PWR_STAT_WAKE_LOST.top := by
  obtain ⟨hwakes, -, hregs⟩ := parkWoken_keeps src s
  have hcount : (parkWoken src s).get R.SYS_PWR_STAT F.SYS_PWR_STAT_WAKE_LOST = s.get R.SYS_PWR_STAT F.SYS_PWR_STAT_WAKE_LOST :=
    get_of_reg (by rw [State.reg, hregs, State.reg])
  rw [wakeSource_full hpark hfull]
  refine ⟨hwakes, ?_⟩
  rw [State.addSat, get_set_same (by decide), hcount]
  exact Nat.mod_eq_of_lt (Nat.lt_of_le_of_lt (Nat.min_le_right ..) (by decide))

/-- Elsewhere it is an event of the power die and a request of its wings. -/
theorem wakeSource_raised (hpark : parking s = false) (hoff : s.power.pstate ≠ .off) :
    wakeSource src pay s = queueWake { stamp := s.pnow, src := src, payload := immw pay } (powerRaise src pay s) := by
  simp only [wakeSource, hpark, hoff, decide_false, Bool.false_eq_true, if_false]

theorem wakeSource_off (hpark : parking s = false) (hoff : s.power.pstate = .off) : wakeSource src pay s = s := by
  simp only [wakeSource, hpark, hoff, decide_true, Bool.false_eq_true, if_false, if_true]

/-- A wake source changes the registers of a power-die event alone. -/
theorem wakeSource_reg {a : Nat} (h : powerReg a = false) : (wakeSource src pay s).reg a = s.reg a := by
  by_cases hpark : parking s = true
  · by_cases hroom : s.power.wakes.length < 16
    · rw [State.reg, (wakeSource_kept hpark hroom).2.2, State.reg]
    · rw [wakeSource_full hpark (by omega), State.addSat, reg_set_other (by rintro rfl; exact absurd h (by decide)), State.reg,
        (parkWoken_keeps src s).2.2, State.reg]
  · rw [Bool.not_eq_true] at hpark
    by_cases hoff : s.power.pstate = .off
    · rw [wakeSource_off hpark hoff]
    · rw [wakeSource_raised hpark hoff, queueWake_reg, (powerRaise_powerFrame ..).reg a h]

/-- An enabled wing whose mask has the source gets the request, with the power die's stamp. -/
theorem wakeSource_request {w : Nat} (hpark : parking s = false) (hoff : s.power.pstate ≠ .off) (hw : w < 16)
    (hen : s.bit (R.NM_WINGw_CFG w) F.NM_WINGw_CFG_EN = true) (hcounts : wakeCounts w src s = true) :
    ((wakeSource src pay s).wing w).wakes = insEvent { stamp := s.pnow, src := src, payload := immw pay } (s.wing w).wakes := by
  have hraise := powerRaise_powerFrame s src pay
  have hcfg := hraise.reg (R.NM_WINGw_CFG w) (powerReg_eq_false (by unfold R.NM_WINGw_CFG; omega)
    (by unfold R.NM_WINGw_CFG; omega) (by unfold R.NM_WINGw_CFG; omega))
  have hmask := hraise.reg (R.NM_WINGw_WMASK w) (powerReg_eq_false (by unfold R.NM_WINGw_WMASK; omega)
    (by unfold R.NM_WINGw_WMASK; omega) (by unfold R.NM_WINGw_WMASK; omega))
  rw [wakeSource_raised hpark hoff, queueWake_wakes hw, State.wing, (powerRaise_powerFrame ..).wings, State.wing]
  simp only [wakeCounts] at hcounts
  simp only [wakesWing, wakeCounts, bit_of_reg hcfg, hen, hmask, hcounts, Bool.and_self]

end

/-! ### The wake sources as commands (R350 to R352, R608) -/

/-- A free value has been drawn (assumption 2). -/
def freeDrawn (s : State) : State := { s with fresh := s.fresh + 1 }

/-- A source without a payload of its own carries a free value. -/
theorem wakeFree_eq (src : Nat) (s : State) : wakeFree src s = wakeSource src (Config.freeValue 64 s.fresh) (freeDrawn s) := rfl

section
variable {src : Nat} {s : State}

theorem wakeFree_kept (hpark : parking s = true) (hroom : s.power.wakes.length < 16) :
    ∃ e : Event, (wakeFree src s).power.wakes = s.power.wakes ++ [e] ∧ e.src = src ∧ e.stamp = s.pnow :=
  ⟨_, (wakeSource_kept (s := freeDrawn s) hpark hroom).1, rfl, rfl⟩

theorem wakeFree_aonAt (hpark : parking s = true) (hroom : s.power.wakes.length < 16) :
    (wakeFree src s).power.aonAt = s.power.aonAt := (wakeSource_kept (s := freeDrawn s) hpark hroom).2.1

theorem wakeFree_lost (hpark : parking s = true) (hfull : 16 ≤ s.power.wakes.length) :
    (wakeFree src s).power.wakes = s.power.wakes ∧ (wakeFree src s).get R.SYS_PWR_STAT F.SYS_PWR_STAT_WAKE_LOST =
      min (s.get R.SYS_PWR_STAT F.SYS_PWR_STAT_WAKE_LOST + 1) F.SYS_PWR_STAT_WAKE_LOST.top :=
  wakeSource_lost (s := freeDrawn s) hpark hfull

theorem wakeFree_reg {a : Nat} (h : powerReg a = false) : (wakeFree src s).reg a = s.reg a := wakeSource_reg h

end

theorem powerReg_hvin {i : Nat} (h : i < 16) : powerReg (R.LOAD_HVINi i) = false := by
  unfold R.LOAD_HVINi
  exact powerReg_eq_false (by omega) (by omega) (by omega)

theorem powerReg_swStat {n : Nat} (h : n < 16) : powerReg (R.NM_SWn_STAT n) = false := by
  unfold R.NM_SWn_STAT
  exact powerReg_eq_false (by omega) (by omega) (by omega)

section
variable {s : State} {rising : Bool} {lvl : BitVec 12}

theorem exec_wakePinEdge_wake {k : Fin 8} (hheld : s.power.powerHeld = false) :
    exec (.wakePinEdge ⟨k.val, by omega⟩ rising lvl) s = .next (wakeFree (0x100 + k.val) s) := by
  simp only [exec, execWakePinEdge, hheld, k.isLt, Bool.false_eq_true, if_false, if_true]

/-- Does an edge at HVINi wake: its level noted, is WAKE_EN set and the edge one that WAKE_EDGE names (R399)? -/
def hvinWakes (i : Nat) (rising : Bool) (s : State) : Bool :=
  let ed := s.get (R.LOAD_HVINi i) F.LOAD_HVINi_WAKE_EDGE
  s.bit (R.LOAD_HVINi i) F.LOAD_HVINi_WAKE_EN && (decide (ed = 2) || (decide (ed = 0) && rising) || (decide (ed = 1) && !rising))

theorem exec_wakePinEdge_hvin {i : Fin 16} (hheld : s.power.powerHeld = false) :
    exec (.wakePinEdge ⟨8 + i.val, by omega⟩ rising lvl) s = .next (if hvinWakes i.val rising s then
      wakeFree (0x12C + i.val) (s.set (R.LOAD_HVINi i.val) F.LOAD_HVINi_LEVEL lvl.toNat)
      else s.set (R.LOAD_HVINi i.val) F.LOAD_HVINi_LEVEL lvl.toNat) := by
  have hge : ¬ 8 + i.val < 8 := by omega
  simp only [exec, execWakePinEdge, hheld, hge, Nat.add_sub_cancel_left, Bool.false_eq_true, if_false]
  rfl

/-- The edge that WAKE_EDGE names wakes. -/
theorem hvinWakes_of_edge {i : Nat} (hen : s.bit (R.LOAD_HVINi i) F.LOAD_HVINi_WAKE_EN = true)
    (hedge : s.get (R.LOAD_HVINi i) F.LOAD_HVINi_WAKE_EDGE = if rising then 0 else 1) : hvinWakes i rising s = true := by
  cases rising <;> simp [hvinWakes, hen, hedge]

end

/-- A wake-up frame at the decoder of CANn takes 1 from FDC, is marked and is counted (R351, R352). -/
def swMatched (n : Nat) (s : State) : State :=
  let st := R.NM_SWn_STAT n
  ((s.set st F.NM_SWn_STAT_FDC (s.get st F.NM_SWn_STAT_FDC - 1)).flag st F.NM_SWn_STAT_MATCH).addSat st F.NM_SWn_STAT_MATCHES 1

/-- A run of undecodable frames clears FDC and is marked (R352). -/
def swFailed (n : Nat) (s : State) : State :=
  (s.set (R.NM_SWn_STAT n) F.NM_SWn_STAT_FDC 0).flag (R.NM_SWn_STAT n) F.NM_SWn_STAT_ERR_WAKE

section
variable {n : Nat} {s : State}

theorem fdc_lt : s.get (R.NM_SWn_STAT n) F.NM_SWn_STAT_FDC < 64 := BitVec.isLt _

theorem swMatched_match : (swMatched n s).bit (R.NM_SWn_STAT n) F.NM_SWn_STAT_MATCH = true :=
  (bit_of_get (get_set_apart (by decide) (by decide))).trans (bit_flag_same (by decide) rfl)

theorem swMatched_fdc : (swMatched n s).get (R.NM_SWn_STAT n) F.NM_SWn_STAT_FDC = s.get (R.NM_SWn_STAT n) F.NM_SWn_STAT_FDC - 1 := by
  have hlt := fdc_lt (n := n) (s := s)
  rw [swMatched, State.addSat, get_set_apart (by decide) (by decide), get_flag_apart (by decide) (by decide),
    get_set_same (by decide)]
  exact Nat.mod_eq_of_lt (show _ < 64 by omega)

theorem swFailed_fdc : (swFailed n s).get (R.NM_SWn_STAT n) F.NM_SWn_STAT_FDC = 0 := by
  rw [swFailed, get_flag_apart (by decide) (by decide), get_set_same (by decide)]
  rfl

theorem swFailed_errWake : (swFailed n s).bit (R.NM_SWn_STAT n) F.NM_SWn_STAT_ERR_WAKE = true := bit_flag_same (by decide) rfl

end

section
variable {n : Fin 16} {s : State} (hruns : swRuns n.val s = true)
include hruns

theorem exec_selectiveWakeMatch_wakes {id : BitVec 29} {ide : Bool} {dlc : BitVec 4} {data : BitVec 64}
    (hid : (BitVec.ofNat 29 (s.get (R.NM_SWn_ID n.val) F.NM_SWn_ID_ID) ^^^ id) &&&
      BitVec.ofNat 29 (s.get (R.NM_SWn_ID n.val) F.NM_SWn_ID_MASK) = 0#29)
    (hide : s.bit (R.NM_SWn_CFG n.val) F.NM_SWn_CFG_IDE = ide) (hdlc : dlc.toNat = s.get (R.NM_SWn_CFG n.val) F.NM_SWn_CFG_DLC)
    (hdata : s.bit (R.NM_SWn_CFG n.val) F.NM_SWn_CFG_DATA_EN = false ∨ dlc = 0 ∨ data &&& s.reg (R.NM_SWn_DATA n.val) ≠ 0#64) :
    exec (.selectiveWakeMatch n id ide false dlc data) s =
      .next (wakeSource (0x108 + n.val) (BitVec.ofNat 64 (id.toNat * 2)) (swMatched n.val s)) := by
  have hdOk : (!s.bit (R.NM_SWn_CFG n.val) F.NM_SWn_CFG_DATA_EN || decide (dlc = 0) ||
      decide (data &&& s.reg (R.NM_SWn_DATA n.val) ≠ 0#64)) = true := by
    simpa only [Bool.or_eq_true, Bool.not_eq_true', decide_eq_true_eq, or_assoc] using hdata
  simp only [exec, execSelectiveWakeMatch, hruns, hid, hide, hdlc, hdOk, beq_self_eq_true, decide_true, Bool.not_true, Bool.not_false,
    Bool.and_self, Bool.false_eq_true, if_true, if_false, swMatched]

theorem exec_swDecodeError_counts (hfew : s.get (R.NM_SWn_STAT n.val) F.NM_SWn_STAT_FDC < 31) :
    exec (.swDecodeError n) s = .next (s.addWrap (R.NM_SWn_STAT n.val) F.NM_SWn_STAT_FDC 1) := by
  simp only [exec, execSwDecodeError, hruns, hfew, Bool.not_true, Bool.false_eq_true, if_true, if_false]

theorem exec_swDecodeError_wakes (hrun : 31 ≤ s.get (R.NM_SWn_STAT n.val) F.NM_SWn_STAT_FDC) :
    exec (.swDecodeError n) s = .next (wakeSource (0x108 + n.val)
      (BitVec.ofNat 64 (1 + (Config.freeValue 29 s.fresh).toNat * 2)) (swFailed n.val (freeDrawn s))) := by
  have hfew : ¬ s.get (R.NM_SWn_STAT n.val) F.NM_SWn_STAT_FDC < 31 := by omega
  simp only [exec, execSwDecodeError, hruns, hfew, Bool.not_true, Bool.false_eq_true, if_false, State.drawFree, freeDrawn, swFailed]

end

theorem exec_linWakePulse_parking {m : Fin 8} {s : State} (hpark : parking s = true) :
    exec (.linWakePulse m) s = .next (wakeFree (0x118 + m.val) s) := by
  simp only [exec, execLinWakePulse, hpark, Bool.true_or, if_true]

/-- The always-on timer has run out (R608). -/
def aonElapsed (s : State) : State := { s with power := { s.power with aonAt := none } }.setReg R.SYS_AON_TIMER 0#64

theorem exec_aonTimerExpiry_due {s : State} {x : Nat} (hat : s.power.aonAt = some x) (hdue : x ≤ s.el) :
    exec .aonTimerExpiry s = .next (wakeFree 0x13C (aonElapsed s)) := by
  simp only [exec, execAonTimerExpiry, hat, hdue, if_true, aonElapsed]

end Sys2Proof.Machine

namespace Sys2Proof.Proofs
open Sys2Proof Machine Claim

/-- The first clause of O49: an edge at WAKEk is a request of each enabled wing whose mask has it. -/
theorem wakePinEdge_requests {k : Fin 8} {rising : Bool} {lvl : BitVec 12} {w : Fin 16} {s : State}
    (hheld : s.power.powerHeld = false) (hpark : parking s = false) (hoff : s.power.pstate ≠ .off)
    (hen : s.bit (R.NM_WINGw_CFG w.val) F.NM_WINGw_CFG_EN = true) (hmask : (s.reg (R.NM_WINGw_WMASK w.val)).getLsbD k.val = true) :
    ∃ t, exec (.wakePinEdge ⟨k.val, by omega⟩ rising lvl) s = .next t ∧
      (t.wing w.val).wakes.length = (s.wing w.val).wakes.length + 1 ∧
      (t.wing w.val).wakes.any (fun e => decide (e.src = 0x100 + k.val) && decide (e.stamp = s.pnow)) = true := by
  have hlo : 0x100 ≤ 0x100 + k.val := by omega
  have hhi : 0x100 + k.val ≤ 0x13D := by omega
  have hcounts : wakeCounts w.val (0x100 + k.val) s = true := by
    simp only [wakeCounts, hlo, hhi, Nat.add_sub_cancel_left, hmask, decide_true, Bool.and_self, Bool.or_true]
  have hwakes := wakeSource_request (s := freeDrawn s) (pay := Config.freeValue 64 s.fresh)
    hpark hoff w.isLt hen hcounts
  refine ⟨_, exec_wakePinEdge_wake hheld, ?_, ?_⟩
  · rw [wakeFree_eq, hwakes, (insEvent_perm ..).length_eq]
    rfl
  · rw [wakeFree_eq, hwakes, List.any_eq_true]
    exact ⟨_, (insEvent_perm ..).mem_iff.mpr (List.mem_cons_self ..),
      Bool.and_eq_true_iff.mpr ⟨decide_eq_true rfl, decide_eq_true rfl⟩⟩

/-- Settles O49: in PARK or on the way to it each source keeps or loses its event (`wakeSource_kept`, `wakeSource_lost`), else it
is a request of its wings (`wakeSource_request`); the decoder's and the pin's own registers are not among those that it changes
(`wakeSource_reg`). -/
theorem wakeSourcesReachTheirWings : Obligations.WakeSourcesReachTheirWings := by
  refine ⟨fun k rising lvl w s hheld hpark hoff hen hmask => wakePinEdge_requests hheld hpark hoff hen hmask,
    fun i rising lvl s hheld => ?_, fun n id ide dlc data s hruns hpark hroom hid hide hdlc hdata => ?_, fun n s hruns => ?_,
    fun m s hpark hroom => ?_, fun m s hpark hawake => ?_, fun s x hat hdue hpark hroom => ?_, fun s hpark hfull m => ?_⟩
  · have hreg := powerReg_hvin i.isLt
    have hlevel : (s.set (R.LOAD_HVINi i.val) F.LOAD_HVINi_LEVEL lvl.toNat).get (R.LOAD_HVINi i.val) F.LOAD_HVINi_LEVEL = lvl.toNat := by
      rw [get_set_same (by decide)]
      exact Nat.mod_eq_of_lt lvl.isLt
    refine ⟨_, exec_wakePinEdge_hvin hheld, ?_, fun hpark hroom hen hedge => ?_⟩
    · split
      · exact (get_of_reg (wakeFree_reg hreg)).trans hlevel
      · exact hlevel
    · rw [if_pos (hvinWakes_of_edge hen hedge)]
      exact wakeFree_kept (s := s.set (R.LOAD_HVINi i.val) F.LOAD_HVINi_LEVEL lvl.toNat) hpark hroom
  · obtain ⟨hkept, -, -⟩ := wakeSource_kept (src := 0x108 + n.val) (pay := BitVec.ofNat 64 (id.toNat * 2))
      (s := swMatched n.val s) hpark hroom
    have hstat := powerReg_swStat n.isLt
    exact ⟨_, exec_selectiveWakeMatch_wakes hruns hid hide hdlc hdata, (bit_of_reg (wakeSource_reg hstat)).trans swMatched_match,
      (get_of_reg (wakeSource_reg hstat)).trans swMatched_fdc, hkept⟩
  · by_cases hfew : s.get (R.NM_SWn_STAT n.val) F.NM_SWn_STAT_FDC < 31
    · refine ⟨_, exec_swDecodeError_counts hruns hfew, fun _ => ⟨?_, rfl⟩, fun hrun => absurd hrun (by omega)⟩
      rw [State.addWrap, get_set_same (by decide)]
      exact Nat.mod_eq_of_lt (show _ < 64 by omega)
    · have hstat := powerReg_swStat n.isLt
      refine ⟨_, exec_swDecodeError_wakes hruns (by omega), fun h => absurd h hfew, fun _ =>
        ⟨(get_of_reg (wakeSource_reg hstat)).trans swFailed_fdc, (bit_of_reg (wakeSource_reg hstat)).trans swFailed_errWake,
          fun hpark hroom => ⟨_, (wakeSource_kept (s := swFailed n.val (freeDrawn s)) hpark hroom).1, rfl, ?_⟩⟩⟩
      rw [Laws.wv_immw]
      simp [BitVec.getLsbD_ofNat]
  · exact ⟨_, exec_linWakePulse_parking hpark, wakeFree_kept hpark hroom⟩
  · simp only [exec, execLinWakePulse, hpark, hawake, Bool.or_self, Bool.false_eq_true, if_false]
  · exact ⟨_, exec_aonTimerExpiry_due hat hdue, (wakeFree_reg (by decide)).trans (reg_setReg_same ..),
      wakeFree_aonAt (s := aonElapsed s) hpark hroom, wakeFree_kept (s := aonElapsed s) hpark hroom⟩
  · exact ⟨_, exec_linWakePulse_parking hpark, wakeFree_lost hpark hfull⟩

end Sys2Proof.Proofs
end

section
namespace Sys2Proof.Machine
open Sys2Proof Claim

/-! ### What reporting a fault and stopping carrels leave as they were (R44, R64 to R68, R416, R510) -/

/-- The registers that the report of a fault and the stop of a carrel may change: the wake source of DOZE, the count of late
releases, the archive's losses, the SEEN bits, the commit index of each pair and STAT of each carrel. -/
def stopReg (a : Nat) : Bool :=
  decide (a = R.SYS_PWR_STAT) || decide (a = R.TIME_LATE_CNT) || decide (a = R.ARCH_LOSS) || decide (a = R.SYS_FAULT_STAT) ||
    (decide (R.EXEC_Pp_COMMITS 0 ≤ a) && decide (a % 32 = 4)) || (decide (R.CARREL_Cc_STAT 0 ≤ a) && decide (a % 32 = 2))

/-- The words of the EXEC and CARREL blocks other than the commit indices and STAT of the carrels. -/
theorem stopReg_eq_false {a : Nat} (h : 0xF00F0000 ≤ a ∧ a % 32 ≠ 4 ∧ (a < 0xF0104000 ∨ a % 32 ≠ 2)) : stopReg a = false := by
  simp only [stopReg, Bool.or_eq_false_iff, Bool.and_eq_false_iff, decide_eq_false_iff_not]
  unfold R.SYS_PWR_STAT R.TIME_LATE_CNT R.ARCH_LOSS R.SYS_FAULT_STAT R.EXEC_Pp_COMMITS R.CARREL_Cc_STAT
  omega

theorem stopReg_commits (p : Nat) : stopReg (R.EXEC_Pp_COMMITS p) = true := by
  have hmod : R.EXEC_Pp_COMMITS p % 32 = 4 := by unfold R.EXEC_Pp_COMMITS; omega
  have hlow : R.EXEC_Pp_COMMITS 0 ≤ R.EXEC_Pp_COMMITS p := by unfold R.EXEC_Pp_COMMITS; omega
  simp [stopReg, hmod, hlow]

theorem stopReg_carrelStat (c : Nat) : stopReg (R.CARREL_Cc_STAT c) = true := by
  have hmod : R.CARREL_Cc_STAT c % 32 = 2 := by unfold R.CARREL_Cc_STAT; omega
  have hlow : R.CARREL_Cc_STAT 0 ≤ R.CARREL_Cc_STAT c := by unfold R.CARREL_Cc_STAT; omega
  simp [stopReg, hmod, hlow]

theorem stopReg_reserve : stopReg R.EXEC_RESERVE = false := by decide

theorem stopReg_inj : stopReg R.EXEC_INJ = false := by decide

theorem stopReg_pairStat (p : Nat) : stopReg (R.EXEC_Pp_STAT p) = false :=
  stopReg_eq_false (by unfold R.EXEC_Pp_STAT; omega)

theorem stopReg_pairFault (p : Fin 8) : stopReg (R.EXEC_Pp_FAULT p) = false :=
  stopReg_eq_false (by unfold R.EXEC_Pp_FAULT; omega)

theorem stopReg_digest (p : Nat) : stopReg (R.EXEC_Pp_DIGEST p) = false :=
  stopReg_eq_false (by unfold R.EXEC_Pp_DIGEST; omega)

theorem stopReg_digcnt (p : Nat) : stopReg (R.EXEC_Pp_DIGCNT p) = false :=
  stopReg_eq_false (by unfold R.EXEC_Pp_DIGCNT; omega)

theorem stopReg_carrelCfg (c : Nat) : stopReg (R.CARREL_Cc_CFG c) = false :=
  stopReg_eq_false (by unfold R.CARREL_Cc_CFG; omega)

theorem carrelStat_ne {c k : Nat} (h : c ≠ k) : R.CARREL_Cc_STAT c ≠ R.CARREL_Cc_STAT k := by
  unfold R.CARREL_Cc_STAT
  omega

/-- What reporting faults and stopping the carrels `cs` leave as they were: the clocks, a hand-over in progress, the closed
ports, the digests under way, the registers of the other blocks, and STATE and FRESH of every other carrel. -/
structure StopFrame (cs : List Nat) (s t : State) : Prop where
  time : t.time = s.time
  handover : t.handover = s.handover
  closed : t.closed = s.closed
  digLead : ∀ p, (t.pair p).digLead = (s.pair p).digLead
  reg : ∀ a, stopReg a = false → t.reg a = s.reg a
  state : ∀ c, c ∉ cs → carState c t = carState c s
  isFresh : ∀ c, c ∉ cs → t.bit (R.CARREL_Cc_STAT c) F.CARREL_Cc_STAT_FRESH = s.bit (R.CARREL_Cc_STAT c) F.CARREL_Cc_STAT_FRESH

namespace StopFrame
variable {cs : List Nat}

/-- A change of neither registers, pairs, clocks, hand-over nor ports. -/
theorem of_regs {s t : State} (htime : t.time = s.time) (hhandover : t.handover = s.handover) (hclosed : t.closed = s.closed)
    (hpairs : t.pairs = s.pairs) (hregs : t.regs = s.regs) : StopFrame cs s t := by
  have hreg (a : Nat) : t.reg a = s.reg a := by rw [State.reg, hregs, State.reg]
  exact ⟨htime, hhandover, hclosed, fun p => by rw [State.pair, hpairs, State.pair], fun a _ => hreg a,
    fun _ _ => get_of_reg (hreg _), fun _ _ => bit_of_reg (hreg _)⟩

theorem refl (s : State) : StopFrame cs s s := of_regs rfl rfl rfl rfl rfl

theorem trans {s t u : State} (h : StopFrame cs s t) (k : StopFrame cs t u) : StopFrame cs s u where
  time := k.time.trans h.time
  handover := k.handover.trans h.handover
  closed := k.closed.trans h.closed
  digLead p := (k.digLead p).trans (h.digLead p)
  reg a ha := (k.reg a ha).trans (h.reg a ha)
  state c hc := (k.state c hc).trans (h.state c hc)
  isFresh c hc := (k.isFresh c hc).trans (h.isFresh c hc)

section
variable {s t u : State} (h : StopFrame cs s t)
include h

theorem setCore (c : Nat) (x : Core) : StopFrame cs s (t.setCore c x) := h.trans (.of_regs rfl rfl rfl rfl rfl)

theorem setCarrel (c : Nat) (x : CarrelSt) : StopFrame cs s (t.setCarrel c x) := h.trans (.of_regs rfl rfl rfl rfl rfl)

theorem setPair {p : Nat} {x : PairSt} (hx : x.digLead = (t.pair p).digLead) : StopFrame cs s (t.setPair p x) where
  time := h.time
  handover := h.handover
  closed := h.closed
  digLead q := by
    refine Eq.trans ?_ (h.digLead q)
    rw [pair_setPair]
    split
    · next heq => rw [hx, heq]
    · rfl
  reg := h.reg
  state := h.state
  isFresh := h.isFresh

/-- A register of the frame other than STAT of a carrel. -/
theorem setReg {a : Nat} (ha : stopReg a = true) (hstat : a < R.CARREL_Cc_STAT 0) (v : BitVec 64) :
    StopFrame cs s (t.setReg a v) where
  time := h.time
  handover := h.handover
  closed := h.closed
  digLead := h.digLead
  reg b hb := (reg_setReg_other t v (by rintro rfl; simp [ha] at hb)).trans (h.reg b hb)
  state c hc := (get_setReg_other t v _ (by unfold R.CARREL_Cc_STAT at *; omega)).trans (h.state c hc)
  isFresh c hc := (bit_of_reg (reg_setReg_other t v (by unfold R.CARREL_Cc_STAT at *; omega))).trans (h.isFresh c hc)

/-- A field of STAT, of a carrel that is stopped or beside STATE and FRESH. -/
theorem setStat {k : Nat} {f : Fld} (hf : k ∈ cs ∨
      f.fits = true ∧ f.apart F.CARREL_Cc_STAT_STATE = true ∧ f.apart F.CARREL_Cc_STAT_FRESH = true) (n : Nat) :
    StopFrame cs s (t.set (R.CARREL_Cc_STAT k) f n) := by
  have hget {g : Fld} (c : Nat) (hc : c ∉ cs) (hg : k ∈ cs ∨ f.fits = true ∧ f.apart g = true) :
      (t.set (R.CARREL_Cc_STAT k) f n).get (R.CARREL_Cc_STAT c) g = t.get (R.CARREL_Cc_STAT c) g := by
    by_cases heq : c = k
    · subst heq
      obtain ⟨hfits, hapart⟩ := hg.resolve_left hc
      exact get_set_apart hfits hapart
    · exact get_set_other (carrelStat_ne heq)
  exact {
    time := h.time
    handover := h.handover
    closed := h.closed
    digLead := h.digLead
    reg := fun b hb => (reg_set_other (by rintro rfl; simp [stopReg_carrelStat] at hb)).trans (h.reg b hb)
    state := fun c hc => (hget c hc (hf.imp_right fun ⟨hfits, hstate, _⟩ => ⟨hfits, hstate⟩)).trans (h.state c hc)
    isFresh := fun c hc =>
      (bit_of_get (hget c hc (hf.imp_right fun ⟨hfits, _, hfresh⟩ => ⟨hfits, hfresh⟩))).trans (h.isFresh c hc) }

theorem ite {p : Prop} [Decidable p] (k : StopFrame cs s u) : StopFrame cs s (if p then t else u) := by
  split <;> assumption

theorem foldl {α : Type} {f : State → α → State} {l : List α} (hf : ∀ v, ∀ x ∈ l, StopFrame cs v (f v x)) :
    StopFrame cs s (l.foldl f t) := by
  induction l generalizing t with
  | nil => exact h
  | cons x l ih => exact ih (h.trans (hf t x List.mem_cons_self)) fun v y hy => hf v y (List.mem_cons_of_mem x hy)

end

end StopFrame

section
variable {cs : List Nat} (s : State)

theorem commitTo_stopFrame (c : Nat) (npc : BitVec 49) (hc : c < 16) : StopFrame cs s (commitTo c npc s) := by
  have hdone : StopFrame cs s _ :=
    ((StopFrame.refl s).setCore c { s.core c with pc := npc }).setCarrel (s.core c).d1.toNat (countedCarrel c s)
  have hcount := hdone.setReg (stopReg_commits (c / 2)) (by unfold R.EXEC_Pp_COMMITS R.CARREL_Cc_STAT; omega)
  unfold commitTo
  exact .setPair (.ite (hcount _) hdone) rfl

theorem popNotice_stopFrame {c : Nat} {s t : State} {h p : Word} (hpop : popNotice c s = some (h, p, t)) : StopFrame cs s t := by
  simp only [popNotice] at hpop
  split at hpop
  · cases hpop
  · cases hpop
    exact .setCarrel (.refl s) ..

theorem waiteWrite_stopFrame (c : Nat) (rd : BitVec 6) (h p : Word) (hc : c < 16) : StopFrame cs s (waiteWrite c rd h p s) := by
  unfold waiteWrite agreeNote
  exact .setPair (.trans (.setCore (.refl s) ..) (commitTo_stopFrame _ c _ hc)) rfl

theorem waiteReturn_stopFrame (c : Nat) : StopFrame cs s (waiteReturn c s) := by
  unfold waiteReturn
  split
  · exact .refl s
  · next k hk =>
    have hcore := List.mem_range.mp (List.mem_of_find?_eq_some hk)
    split
    · next hpop => exact (popNotice_stopFrame hpop).trans (waiteWrite_stopFrame _ k _ _ _ hcore)
    · exact .refl s

theorem dozeWake_stopFrame (c src : Nat) : StopFrame cs s (dozeWake c src s) := by
  have hwake : StopFrame cs s ((s.set R.SYS_PWR_STAT F.SYS_PWR_STAT_WAKE_SRC src).setBit R.SYS_PWR_STAT F.SYS_PWR_STAT_WAKE_PARK false) :=
    ((StopFrame.refl s).setReg (by decide) (by decide) _).setReg (by decide) (by decide) _
  simp only [dozeWake]
  split
  · exact hwake.trans (.of_regs rfl rfl rfl rfl rfl)
  · exact .refl s

theorem deliver_stopFrame (c : Nat) (e : Event) (late : Bool) : StopFrame cs s (deliver c e late s) := by
  have hlate : StopFrame cs s (if late then s.addSat R.TIME_LATE_CNT F.TIME_LATE_CNT_COUNT 1 else s) :=
    .ite ((StopFrame.refl s).setReg (by decide) (by decide) _) (.refl s)
  unfold deliver
  exact .ite (hlate.setCarrel ..) (.ite (hlate.setCarrel ..)
    (.trans (hlate.setCarrel ..) (.trans (dozeWake_stopFrame ..) (waiteReturn_stopFrame ..))))

theorem lateWork_stopFrame (c : Nat) : StopFrame cs s (lateWork c s) := by
  unfold lateWork
  exact .ite (.setStat (.refl s) (.inr ⟨by decide, by decide, by decide⟩) _) (.refl s)

theorem notify_stopFrame (e : Event) (c : Nat) : StopFrame cs s (notify e c s) := by
  unfold notify
  exact .ite (lateWork_stopFrame ..) (.ite (deliver_stopFrame ..) (.setCarrel (.refl s) ..))

theorem notifyAll_stopFrame (e : Event) (dest : List Nat) : StopFrame cs s (notifyAll e dest s) := by
  unfold notifyAll
  exact .foldl (.refl s) fun t c _ => notify_stopFrame t e c

theorem raiseTo_stopFrame (src : Nat) (payload : Word) (dest : List Nat) : StopFrame cs s (raiseTo src payload dest s) := by
  unfold raiseTo
  exact .ite (.refl s) (notifyAll_stopFrame ..)

theorem archive_stopFrame (e : Event) (cls : Nat) (detail : BitVec 64) : StopFrame cs s (archive e cls detail s) := by
  have hloss : StopFrame cs s (s.addSat R.ARCH_LOSS F.ARCH_LOSS_DROPPED 1) := .setReg (.refl s) (by decide) (by decide) _
  have hlost : StopFrame cs s { s.addSat R.ARCH_LOSS F.ARCH_LOSS_DROPPED 1 with arch := { s.arch with gap := true, armed := false } } :=
    hloss.trans (.of_regs rfl rfl rfl rfl rfl)
  unfold archive
  exact .ite (.refl s) (.ite (.ite (hlost.trans (notify_stopFrame ..)) hlost) (.of_regs rfl rfl rfl rfl rfl))

theorem seen_stopFrame (cls : Nat) : StopFrame cs s (seen cls s) := by
  have hflag (f : Fld) : StopFrame cs s (s.flag R.SYS_FAULT_STAT f) :=
    (StopFrame.setReg (.refl s) (by decide) (by decide) _).trans (.of_regs rfl rfl rfl rfl rfl)
  unfold seen
  split
  · exact hflag _
  · exact hflag _
  · exact hflag _
  · exact .refl s

theorem relayTwin_stopFrame (k src : Nat) (payload : BitVec 64) : StopFrame cs s (relayTwin k src payload s) := by
  unfold relayTwin
  split
  · exact .of_regs rfl rfl rfl rfl rfl
  · exact .refl s

theorem fault_stopFrame (cls src : Nat) (payload detail : BitVec 64) (also : List Nat) :
    StopFrame cs s (fault cls src payload detail also s) := by
  have harchived (e : Event) : StopFrame cs s (archive e cls detail (seen cls s)) := (seen_stopFrame s cls).trans (archive_stopFrame ..)
  unfold fault faultAt
  extract_lets e s1
  split
  · refine (harchived e).trans (.trans ?_ (relayTwin_stopFrame ..))
    exact .of_regs rfl rfl rfl rfl rfl
  · exact (harchived e).trans (notifyAll_stopFrame ..)

theorem dropContexts_stopFrame (p : Nat) : StopFrame cs s (dropContexts p s) := by
  unfold dropContexts
  exact .foldl (.refl s) fun t _ _ => .setCore (.ite (.setStat (.refl t) (.inr ⟨by decide, by decide, by decide⟩) _) (.refl t)) ..

end

/-! ### The stop of a carrel (R416, R493) -/

section
variable {c : Nat} {s : State}

/-- The status of a carrel that has lost its context: STOPPED, without a context of its own. -/
def carrelStopped (c : Nat) (s : State) : Prop :=
  carState c s = 1 ∧ s.bit (R.CARREL_Cc_STAT c) F.CARREL_Cc_STAT_FRESH = false

theorem carrelStopped_of_frame {cs : List Nat} {t : State} (h : StopFrame cs s t) (hc : c ∉ cs) (hs : carrelStopped c s) :
    carrelStopped c t := ⟨(h.state c hc).trans hs.1, (h.isFresh c hc).trans hs.2⟩

theorem stopCarrel_stopFrame {cs : List Nat} (hc : c ∈ cs) : StopFrame cs s (stopCarrel c s) := by
  have hstat : StopFrame cs s _ := ((((StopFrame.refl s).setStat
    (f := F.CARREL_Cc_STAT_STATE) (.inl hc) 1).setStat (f := F.CARREL_Cc_STAT_FRESH) (.inl hc) 0).setStat
    (f := F.CARREL_Cc_STAT_WHY) (.inl hc) 2).setStat (f := F.CARREL_Cc_STAT_IN) (.inl hc) 0
  unfold stopCarrel setCarState raiseLib
  exact .ite (.refl s) (hstat.trans (raiseTo_stopFrame ..))

/-- A carrel that is not active stays as it is. -/
theorem stopCarrel_idle (h : carState c s ≠ 2) : stopCarrel c s = s := by rw [stopCarrel, if_pos (.inr h)]

theorem stopCarrel_stops (h0 : c ≠ 0) (h : carState c s = 2) : carrelStopped c (stopCarrel c s) := by
  have hactive : ¬ (c = 0 ∨ carState c s ≠ 2) := by simp [h0, h]
  rw [stopCarrel, if_neg hactive]
  refine carrelStopped_of_frame (cs := []) (raiseTo_stopFrame ..) List.not_mem_nil ⟨?_, ?_⟩
  · rw [carState, get_set_apart (by decide) (by decide), get_set_apart (by decide) (by decide),
      get_set_apart (by decide) (by decide), setCarState, get_set_same (by decide)]
    rfl
  · rw [bit_of_get (get_set_apart (by decide) (by decide)), bit_of_get (get_set_apart (by decide) (by decide))]
    exact bit_set_zero (by decide)

/-- A fold reaches what its step with `c` establishes from a precondition that the other steps keep. -/
theorem foldl_reaches {α β : Type} {f : α → β → α} {Q P : α → Prop} {c : β} (hQ : ∀ t k, k ≠ c → Q t → Q (f t k))
    (hset : ∀ t, Q t → P (f t c)) (hP : ∀ t k, P t → P (f t k)) {l : List β} (hc : c ∈ l) {s : α} (hs : Q s) :
    P (l.foldl f s) := by
  induction l generalizing s with
  | nil => cases hc
  | cons k l ih =>
    by_cases heq : k = c
    · subst heq
      exact List.foldlRecOn l f (hset s hs) fun t ht x _ => hP t x ht
    · exact ih ((List.mem_cons.mp hc).resolve_left (Ne.symm heq)) (hQ s k heq hs)

/-- The active carrels of the list stop. -/
theorem stopCarrels_stops {l : List Nat} (hc : c ∈ l) (h0 : c ≠ 0) (h : carState c s = 2) :
    carrelStopped c (l.foldl (fun t k => stopCarrel k t) s) := by
  refine foldl_reaches (f := fun t k => stopCarrel k t) (Q := fun t => carState c t = 2) (fun t k hk ht => ?_)
    (fun t ht => stopCarrel_stops h0 ht) (fun t k ht => ?_) hc h
  · exact ((stopCarrel_stopFrame (List.mem_singleton_self k)).state c (by simpa using Ne.symm hk)).trans ht
  · by_cases hk : k = c
    · rwa [hk, stopCarrel_idle (by rw [ht.1]; decide)]
    · exact carrelStopped_of_frame (stopCarrel_stopFrame (List.mem_singleton_self k)) (by simpa using Ne.symm hk) ht

end

/-! ### The stop of a pair (R415 to R418) -/

section
variable {p : Fin 8} {kind comp ledger slice : Nat} {s : State}

/-- EXEC_Pp_FAULT as the stop of a pair records it. -/
def faultWord (p kind comp ledger slice : Nat) (s : State) : BitVec 64 :=
  fput (fput (fput (fput (fput 0#64 F.EXEC_Pp_FAULT_KIND kind) F.EXEC_Pp_FAULT_COMP comp) F.EXEC_Pp_FAULT_LEDGER ledger)
    F.EXEC_Pp_FAULT_SLICE slice) F.EXEC_Pp_FAULT_COMMIT (s.reg (R.EXEC_Pp_COMMITS p)).toNat

/-- EXEC_Pp_FPC as the stop of a pair records it. -/
def faultPc (p : Nat) (s : State) : BitVec 64 :=
  fput (fput 0#64 F.EXEC_Pp_FPC_PC (s.core (2 * p)).pc.toNat) F.EXEC_Pp_FPC_CARREL (s.core (2 * p)).d1.toNat

/-- The pair STOPPED, its fault recorded and its ports closed (R416), its contexts and carrels still as they were. -/
def pairHalted (p kind comp ledger slice : Nat) (s : State) : State :=
  closeTile (.pair ⟨p % 8, Nat.mod_lt _ (by decide)⟩)
    (((setPairState p 4 s).setReg (R.EXEC_Pp_FAULT p) (faultWord p kind comp ledger slice s)).setReg (R.EXEC_Pp_FPC p) (faultPc p s))

theorem pairStop_eq (p : Nat) : pairStop p kind comp ledger slice s =
    if reserveReady p s then
      { dropContexts p (pairHalted p kind comp ledger slice s) with handover := some { pair := p, at_ := s.now } }
    else (pairCarrels p s).foldl (fun t c => stopCarrel c t) (dropContexts p (pairHalted p kind comp ledger slice s)) := rfl

theorem closeTile_regs (t : Tile) (s : State) : (closeTile t s).regs = s.regs := by
  unfold closeTile
  split <;> rfl

theorem closeTile_pairs (t : Tile) (s : State) : (closeTile t s).pairs = s.pairs := by
  unfold closeTile
  split <;> rfl

theorem tileClosed_closeTile (t : Tile) (s : State) : tileClosed t (closeTile t s) = true := by
  unfold closeTile tileClosed
  split
  · assumption
  · simp

theorem pairHalted_reg (a : Nat) : (pairHalted p kind comp ledger slice s).reg a =
    (((setPairState p 4 s).setReg (R.EXEC_Pp_FAULT p) (faultWord p kind comp ledger slice s)).setReg
      (R.EXEC_Pp_FPC p) (faultPc p s)).reg a := by
  rw [pairHalted, State.reg, closeTile_regs, State.reg]

theorem pairHalted_reg_other {a : Nat} (hstat : a ≠ R.EXEC_Pp_STAT p) (hfault : a ≠ R.EXEC_Pp_FAULT p) (hpc : a ≠ R.EXEC_Pp_FPC p) :
    (pairHalted p kind comp ledger slice s).reg a = s.reg a := by
  rw [pairHalted_reg, reg_setReg_other _ _ hpc, reg_setReg_other _ _ hfault, setPairState, reg_set_other hstat]

theorem pairHalted_state : pairState p (pairHalted p kind comp ledger slice s) = 4 := by
  rw [pairState, get_of_reg (pairHalted_reg _), get_setReg_other _ _ _ (by unfold R.EXEC_Pp_STAT R.EXEC_Pp_FPC; omega),
    get_setReg_other _ _ _ (by unfold R.EXEC_Pp_STAT R.EXEC_Pp_FAULT; omega), setPairState, get_set_same (by decide)]
  rfl

theorem pairHalted_fault :
    (pairHalted p kind comp ledger slice s).reg (R.EXEC_Pp_FAULT p) = faultWord p kind comp ledger slice s := by
  rw [pairHalted_reg, reg_setReg_other _ _ (by unfold R.EXEC_Pp_FAULT R.EXEC_Pp_FPC; omega), reg_setReg_same]

theorem pairHalted_closed : tileClosed (.pair p) (pairHalted p kind comp ledger slice s) = true := by
  have hp : (⟨p.val % 8, Nat.mod_lt _ (by decide)⟩ : Fin 8) = p := Fin.ext (Nat.mod_eq_of_lt p.isLt)
  rw [pairHalted, hp]
  exact tileClosed_closeTile ..

theorem pairHalted_carState (c : Nat) : carState c (pairHalted p kind comp ledger slice s) = carState c s := by
  have hp := p.isLt
  exact get_of_reg (pairHalted_reg_other (by unfold R.CARREL_Cc_STAT R.EXEC_Pp_STAT; omega)
    (by unfold R.CARREL_Cc_STAT R.EXEC_Pp_FAULT; omega) (by unfold R.CARREL_Cc_STAT R.EXEC_Pp_FPC; omega))

/-- After the halt a stop still changes the hand-over, the carrels and the registers of the frame, and nothing else of the pair. -/
theorem pairStop_keeps : (pairStop p kind comp ledger slice s).closed = (pairHalted p kind comp ledger slice s).closed ∧
    (∀ q, ((pairStop p kind comp ledger slice s).pair q).digLead = (s.pair q).digLead) ∧
    ∀ a, stopReg a = false → (pairStop p kind comp ledger slice s).reg a = (pairHalted p kind comp ledger slice s).reg a := by
  have hpair (q : Nat) : (pairHalted p kind comp ledger slice s).pair q = s.pair q := by
    rw [pairHalted, State.pair, closeTile_pairs]
    rfl
  have hdrop : StopFrame (pairCarrels p s) (pairHalted p kind comp ledger slice s)
      (dropContexts p (pairHalted p kind comp ledger slice s)) := dropContexts_stopFrame ..
  rw [pairStop_eq]
  generalize dropContexts p (pairHalted p kind comp ledger slice s) = v at hdrop ⊢
  split
  · exact ⟨hdrop.closed, fun q => (hdrop.digLead q).trans (congrArg _ (hpair q)), hdrop.reg⟩
  · have hstop := hdrop.trans (.foldl (.refl _) fun t c hc => stopCarrel_stopFrame (s := t) hc)
    exact ⟨hstop.closed, fun q => (hstop.digLead q).trans (congrArg _ (hpair q)), hstop.reg⟩

theorem pairStop_fault : (pairStop p kind comp ledger slice s).reg (R.EXEC_Pp_FAULT p) = faultWord p kind comp ledger slice s :=
  (pairStop_keeps.2.2 _ (stopReg_pairFault p)).trans pairHalted_fault

/-- The reaction of R416 as a whole. -/
theorem pairStop_stops (hkind : kind < 8) (hcomp : comp < 4) :
    PairStopped p kind comp s (pairStop p kind comp ledger slice s) := by
  obtain ⟨hclosed, -, hreg⟩ := pairStop_keeps (p := p) (kind := kind) (comp := comp) (ledger := ledger) (slice := slice) (s := s)
  have hfault {f : Fld} :
      (pairStop p kind comp ledger slice s).get (R.EXEC_Pp_FAULT p) f = fget (faultWord p kind comp ledger slice s) f := by
    rw [State.get, pairStop_fault]
  refine ⟨(get_of_reg (hreg _ (stopReg_pairStat p))).trans pairHalted_state, ?_, ?_, ?_, fun hready => ?_,
    fun hready c hc h0 hactive => ?_⟩
  · rw [hfault, faultWord, fget_fput_apart (by decide) (by decide), fget_fput_apart (by decide) (by decide),
      fget_fput_apart (by decide) (by decide), fget_fput_apart (by decide) (by decide), fget_fput_same (by decide)]
    exact Nat.mod_eq_of_lt hkind
  · rw [hfault, faultWord, fget_fput_apart (by decide) (by decide), fget_fput_apart (by decide) (by decide),
      fget_fput_apart (by decide) (by decide), fget_fput_same (by decide)]
    exact Nat.mod_eq_of_lt hcomp
  · rw [tileClosed, hclosed]
    exact pairHalted_closed
  · rw [pairStop_eq, if_pos hready]
    exact ⟨_, rfl, rfl, rfl⟩
  · rw [pairStop_eq, if_neg (by simp [hready])]
    refine stopCarrels_stops hc h0 ?_
    rw [(dropContexts_stopFrame (cs := []) _ p.val).state c List.not_mem_nil, pairHalted_carState, hactive]

theorem pairStop_ledger (h : ledger < 64) :
    (pairStop p kind comp ledger slice s).get (R.EXEC_Pp_FAULT p) F.EXEC_Pp_FAULT_LEDGER = ledger := by
  rw [State.get, pairStop_fault, faultWord, fget_fput_apart (by decide) (by decide), fget_fput_apart (by decide) (by decide),
    fget_fput_same (by decide)]
  exact Nat.mod_eq_of_lt h

theorem pairStop_slice (h : slice < 32) :
    (pairStop p kind comp ledger slice s).get (R.EXEC_Pp_FAULT p) F.EXEC_Pp_FAULT_SLICE = slice := by
  rw [State.get, pairStop_fault, faultWord, fget_fput_apart (by decide) (by decide), fget_fput_same (by decide)]
  exact Nat.mod_eq_of_lt h

end

/-! ### A fault of a running lockstepped pair (R415 to R418) -/

section
variable {p : Fin 8} {k comp ledger slice : Nat} {s : State}

/-- A fail-silent fault reported (R415): its SEEN bit, its archive entry, its notices and its relay to the twin. -/
def pairReported (p k comp : Nat) (s : State) : State :=
  let src := 0x40 + 4 * p + k
  let pay := BitVec.ofNat 64 ((s.reg (R.EXEC_Pp_COMMITS p)).toNat % 2 ^ 48 + comp * 2 ^ 48)
  relayTwin 0 src pay (fault (pairClass p 2 s) src pay 0 (pairCarrels p s) s)

theorem pairReported_stopFrame {cs : List Nat} (p : Nat) : StopFrame cs s (pairReported p k comp s) :=
  (fault_stopFrame ..).trans (relayTwin_stopFrame ..)

theorem pairFault_running (hrun : pairState p s = 2) (hsplit : pairSplit p s = false) :
    pairFault p k comp ledger slice s = pairStop p (k + 1) comp ledger slice (pairReported p k comp s) := by
  simp only [pairFault, hrun, hsplit, pairReported]
  rfl

/-- The bindings, the reserve pair and the states of the carrels decide what a stop leaves. -/
theorem pairStopped_of_same {kind : Nat} {u t : State} (hnow : u.now = s.now) (hready : reserveReady p u = reserveReady p s)
    (hbound : pairCarrels p u = pairCarrels p s) (hstate : ∀ c, carState c u = carState c s) (h : PairStopped p kind comp u t) :
    PairStopped p kind comp s t := by
  simpa only [PairStopped, hnow, hready, hbound, hstate] using h

theorem reserveReady_of_same {u : State} (p : Nat) (hreserve : u.reg R.EXEC_RESERVE = s.reg R.EXEC_RESERVE)
    (hpair : u.reg (R.EXEC_Pp_STAT p) = s.reg (R.EXEC_Pp_STAT p)) (hhandover : u.handover = s.handover) :
    reserveReady p u = reserveReady p s := by
  simp only [reserveReady, pairSplit, bit_of_reg hreserve, get_of_reg hreserve, bit_of_reg hpair, hhandover]

theorem pairCarrels_of_same {u : State} (p : Nat) (h : ∀ c, u.reg (R.CARREL_Cc_CFG c) = s.reg (R.CARREL_Cc_CFG c)) :
    pairCarrels p u = pairCarrels p s := by
  simp only [pairCarrels, boundTo, bit_of_reg (h _), get_of_reg (h _)]

/-- A fault of R415 stops a running lockstepped pair. -/
theorem pairFault_stops (hrun : pairState p s = 2) (hsplit : pairSplit p s = false) (hk : k < 7) (hcomp : comp < 4) :
    PairStopped p (k + 1) comp s (pairFault p k comp ledger slice s) := by
  have h : StopFrame [] s (pairReported p k comp s) := pairReported_stopFrame p.val
  rw [pairFault_running hrun hsplit]
  exact pairStopped_of_same (congrArg (fun x : Time => x.gtc.toNat) h.time)
    (reserveReady_of_same p (h.reg _ stopReg_reserve) (h.reg _ (stopReg_pairStat p)) h.handover)
    (pairCarrels_of_same p fun c => h.reg _ (stopReg_carrelCfg c)) (fun c => h.state c List.not_mem_nil)
    (pairStop_stops (by omega) hcomp)

theorem pairFault_ledger (hrun : pairState p s = 2) (hsplit : pairSplit p s = false) (h : ledger < 64) :
    (pairFault p k comp ledger slice s).get (R.EXEC_Pp_FAULT p) F.EXEC_Pp_FAULT_LEDGER = ledger := by
  rw [pairFault_running hrun hsplit, pairStop_ledger h]

theorem pairFault_slice (hrun : pairState p s = 2) (hsplit : pairSplit p s = false) (h : slice < 32) :
    (pairFault p k comp ledger slice s).get (R.EXEC_Pp_FAULT p) F.EXEC_Pp_FAULT_SLICE = slice := by
  rw [pairFault_running hrun hsplit, pairStop_slice h]

/-- It leaves the digests and their counts alone. -/
theorem pairFault_digests (hrun : pairState p s = 2) (hsplit : pairSplit p s = false) :
    (pairFault p k comp ledger slice s).reg (R.EXEC_Pp_DIGEST p) = s.reg (R.EXEC_Pp_DIGEST p) ∧
      (pairFault p k comp ledger slice s).reg (R.EXEC_Pp_DIGCNT p) = s.reg (R.EXEC_Pp_DIGCNT p) ∧
      ((pairFault p k comp ledger slice s).pair p).digLead = (s.pair p).digLead := by
  have hreported : StopFrame [] s (pairReported p k comp s) := pairReported_stopFrame p.val
  obtain ⟨-, hlead, hreg⟩ := pairStop_keeps (p := p) (kind := k + 1) (comp := comp) (ledger := ledger) (slice := slice)
    (s := pairReported p k comp s)
  rw [pairFault_running hrun hsplit]
  refine ⟨?_, ?_, (hlead p).trans (hreported.digLead p)⟩
  · rw [hreg _ (stopReg_digest p), pairHalted_reg_other (by unfold R.EXEC_Pp_DIGEST R.EXEC_Pp_STAT; omega)
      (by unfold R.EXEC_Pp_DIGEST R.EXEC_Pp_FAULT; omega) (by unfold R.EXEC_Pp_DIGEST R.EXEC_Pp_FPC; omega),
      hreported.reg _ (stopReg_digest p)]
  · rw [hreg _ (stopReg_digcnt p), pairHalted_reg_other (by unfold R.EXEC_Pp_DIGCNT R.EXEC_Pp_STAT; omega)
      (by unfold R.EXEC_Pp_DIGCNT R.EXEC_Pp_FAULT; omega) (by unfold R.EXEC_Pp_DIGCNT R.EXEC_Pp_FPC; omega),
      hreported.reg _ (stopReg_digcnt p)]

end

/-! ### The digests of a pair (R412) -/

section
variable {p : Fin 8} {s : State}

/-- The leading copy's digest taken (R412). -/
def digestTaken (p : Nat) (s : State) : State :=
  agreeNote (2 * p) 3 (s.setPair p { s.pair p with digLead := some (digestOf p s) })

theorem exec_digestRequest_due (hnow : s.now % 1000000 < 2) (hrun : pairState p s = 2) (hsplit : pairSplit p s = false) :
    exec (.digestRequest p) s = .next (digestTaken p s) := by
  simp only [exec, execDigestRequest, hnow, hrun, hsplit, and_self, if_true, digestTaken]

theorem digestTaken_digLead (p : Nat) : ((digestTaken p s).pair p).digLead = some (digestOf p s) := by
  have hpair : 2 * p / 2 = p := by omega
  simp only [digestTaken, agreeNote, hpair, pair_setPair_same]

/-- Two digests compared (R412): DIGEST shows the leading copy's, DIGCNT counts. -/
def digestCompared (p : Nat) (d : BitVec 64) (s : State) : State :=
  ((s.setPair p { s.pair p with digLead := none }).setReg (R.EXEC_Pp_DIGEST p) d).addSat (R.EXEC_Pp_DIGCNT p) F.EXEC_Pp_DIGCNT_COUNT 1

theorem exec_digestCompare_taken {chk d : BitVec 64} (h : (s.pair p).digLead = some d) : exec (.digestCompare p chk) s =
    .next (if chk = d then digestCompared p d s else pairFault p 2 3 0 0 (digestCompared p d s)) := by
  simp only [exec, execDigestCompare, h]
  rfl

variable {d : BitVec 64}

theorem digestCompared_reg_other {a : Nat} (hdigest : a ≠ R.EXEC_Pp_DIGEST p) (hcount : a ≠ R.EXEC_Pp_DIGCNT p) :
    (digestCompared p d s).reg a = s.reg a :=
  (reg_set_other hcount).trans (reg_setReg_other _ d hdigest)

theorem digestCompared_digest : (digestCompared p d s).reg (R.EXEC_Pp_DIGEST p) = d :=
  (reg_set_other (by unfold R.EXEC_Pp_DIGEST R.EXEC_Pp_DIGCNT; omega)).trans (reg_setReg_same _ _ _)

theorem digestCompared_digLead : ((digestCompared p d s).pair p).digLead = none :=
  congrArg PairSt.digLead (pair_setPair_same s p.val _)

theorem fget_whole (v : BitVec 64) : fget v ⟨0, 64⟩ = v.toNat := by simp [fget]

theorem fput_whole (v : BitVec 64) (n : Nat) : fput v ⟨0, 64⟩ n = BitVec.ofNat 64 n := by
  apply BitVec.eq_of_toNat_eq
  rw [← fget_whole, fget_fput_same (by decide), BitVec.toNat_ofNat]

/-- A 64-bit counter that counts up and stops at its maximum. -/
theorem addSat_whole (a : Nat) : (s.addSat a ⟨0, 64⟩ 1).reg a = counted (s.reg a) := by
  have hlt := (s.reg a).isLt
  rw [State.addSat, State.set, reg_setReg_same, fput_whole, State.get, fget_whole, counted]
  split
  · next h => rw [h]; decide
  · next h =>
    have hne : (s.reg a).toNat ≠ 2 ^ 64 - 1 := fun heq => h (BitVec.eq_of_toNat_eq (by simp [heq]))
    have hmin : min ((s.reg a).toNat + 1) (Fld.top ⟨0, 64⟩) = (s.reg a).toNat + 1 := Nat.min_eq_left (by simp only [Fld.top]; omega)
    rw [hmin]
    apply BitVec.eq_of_toNat_eq
    simp [BitVec.toNat_add]

theorem digestCompared_count : (digestCompared p d s).reg (R.EXEC_Pp_DIGCNT p) = counted (s.reg (R.EXEC_Pp_DIGCNT p)) := by
  refine (addSat_whole _).trans (congrArg counted (reg_setReg_other _ _ ?_))
  unfold R.EXEC_Pp_DIGEST R.EXEC_Pp_DIGCNT
  omega

end
end Sys2Proof.Machine
end

section
namespace Sys2Proof.Machine
open Sys2Proof Claim

theorem get_set_same_of_lt {s : State} {a n : Nat} {f : Fld} (h : f.fits = true) (hn : n < 2 ^ f.width) :
    (s.set a f n).get a f = n := (get_set_same h).trans (Nat.mod_eq_of_lt hn)

/-! ### The reserve pair takes over (R426) -/

section
variable {s : State} {h : Handover}

/-- One carrel of the failed pair at the hand-over: stopped where it is excluded, else bound to the reserve pair. -/
def handCarrel (r : Nat) (s t : State) (c : Nat) : State :=
  if noResume c s then stopCarrel c t else t.set (R.CARREL_Cc_CFG c) F.CARREL_Cc_CFG_PAIR r

/-- The hand-over recorded: the reserve pair is used and runs the timetable of the pair it replaces. -/
def reserveUsed (r p : Nat) (t : State) : State :=
  ((t.set R.EXEC_RESERVE F.EXEC_RESERVE_USED 1).set R.EXEC_RESERVE F.EXEC_RESERVE_REPLACED p).set (R.CARREL_Pp_TTk_STAT p 0)
    F.CARREL_Pp_TTk_STAT_RUNNER r

/-- The reserve pair after the last step of the hand-over. -/
def reserveRuns (r p : Nat) (t : State) : State :=
  { ((setPairState r 2 (reserveUsed r p t)).set (R.EXEC_Pp_STAT r) F.EXEC_Pp_STAT_RELEASED 1).setCore (2 * r) {} with handover := none }

theorem handOver_eq (p : Nat) (s : State) : handOver p s = reserveRuns (s.get R.EXEC_RESERVE F.EXEC_RESERVE_PAIR) p
    ((pairCarrels p s).foldl (handCarrel (s.get R.EXEC_RESERVE F.EXEC_RESERVE_PAIR) s) s) := rfl

/-- After 20 µs no open transaction holds the hand-over back. -/
theorem exec_reserveHandover_due (hdue : s.handover = some h) (hlate : h.at_ + 20000 ≤ s.now) :
    exec .reserveHandover s = .next (handOver h.pair s) := by
  have hnow : ¬ s.now < h.at_ + 20000 := by omega
  simp only [exec, execReserveHandover, hdue, hnow, decide_false, Bool.and_false, Bool.false_eq_true, if_false]

theorem reserve_lt : s.get R.EXEC_RESERVE F.EXEC_RESERVE_PAIR < 8 := BitVec.isLt _

variable {r p : Nat} {t : State}

theorem reserveRuns_regs : (reserveRuns r p t).regs =
    ((setPairState r 2 (reserveUsed r p t)).set (R.EXEC_Pp_STAT r) F.EXEC_Pp_STAT_RELEASED 1).regs := rfl

theorem reserveRuns_reg (a : Nat) : (reserveRuns r p t).reg a =
    ((setPairState r 2 (reserveUsed r p t)).set (R.EXEC_Pp_STAT r) F.EXEC_Pp_STAT_RELEASED 1).reg a := by
  rw [State.reg, reserveRuns_regs, State.reg]

theorem reserveRuns_reg_other {a : Nat} (h : a ≠ R.EXEC_Pp_STAT r) : (reserveRuns r p t).reg a = (reserveUsed r p t).reg a := by
  rw [reserveRuns_reg, reg_set_other h, setPairState, reg_set_other h]

theorem reserveRuns_state : pairState r (reserveRuns r p t) = 2 := by
  rw [pairState, get_of_reg (reserveRuns_reg _), get_set_apart (by decide) (by decide), setPairState,
    get_set_same_of_lt (by decide) (by decide)]

theorem reserveRuns_used (hp : p < 8) (hr : r < 8) : (reserveRuns r p t).bit R.EXEC_RESERVE F.EXEC_RESERVE_USED = true := by
  refine bit_of_get_one ?_
  rw [get_of_reg (reserveRuns_reg_other (by unfold R.EXEC_RESERVE R.EXEC_Pp_STAT; omega)), reserveUsed,
    get_set_other (by unfold R.EXEC_RESERVE R.CARREL_Pp_TTk_STAT; omega), get_set_apart (by decide) (by decide),
    get_set_same_of_lt (by decide) (by decide)]

theorem reserveRuns_replaced (hp : p < 8) (hr : r < 8) :
    (reserveRuns r p t).get R.EXEC_RESERVE F.EXEC_RESERVE_REPLACED = p % 8 := by
  rw [get_of_reg (reserveRuns_reg_other (by unfold R.EXEC_RESERVE R.EXEC_Pp_STAT; omega)), reserveUsed,
    get_set_other (by unfold R.EXEC_RESERVE R.CARREL_Pp_TTk_STAT; omega), get_set_same (by decide)]
  rfl

theorem reserveRuns_carrelCfg (c : Nat) : (reserveRuns r p t).reg (R.CARREL_Cc_CFG c) = t.reg (R.CARREL_Cc_CFG c) := by
  have hreserve : R.CARREL_Cc_CFG c ≠ R.EXEC_RESERVE := by unfold R.CARREL_Cc_CFG R.EXEC_RESERVE; omega
  rw [reserveRuns_reg_other (by unfold R.CARREL_Cc_CFG R.EXEC_Pp_STAT; omega), reserveUsed,
    reg_set_other (by unfold R.CARREL_Cc_CFG R.CARREL_Pp_TTk_STAT; omega), reg_set_other hreserve, reg_set_other hreserve]

/-- Every carrel of the failed pair that is not excluded is bound to the reserve pair. -/
theorem handCarrels_bound {l : List Nat} {c : Nat} (hr : r < 8) (hc : c ∈ l) (hresumes : noResume c s = false) :
    (l.foldl (handCarrel r s) t).get (R.CARREL_Cc_CFG c) F.CARREL_Cc_CFG_PAIR = r := by
  have hbinds (t : State) : (handCarrel r s t c).get (R.CARREL_Cc_CFG c) F.CARREL_Cc_CFG_PAIR = r := by
    rw [handCarrel, hresumes, if_neg Bool.false_ne_true, get_set_same_of_lt (by decide) hr]
  refine foldl_reaches (Q := fun _ => True) (P := fun t => t.get (R.CARREL_Cc_CFG c) F.CARREL_Cc_CFG_PAIR = r)
    (fun _ _ _ _ => trivial) (fun t _ => hbinds t) (fun t k ht => ?_) hc trivial
  by_cases hk : c = k
  · exact hk ▸ hbinds t
  · unfold handCarrel
    split
    · exact (get_of_reg ((stopCarrel_stopFrame (List.mem_singleton_self k)).reg _ (stopReg_carrelCfg c))).trans ht
    · exact (get_set_other (by unfold R.CARREL_Cc_CFG; omega)).trans ht

end

/-! ### The injection test (R419, R420) -/

section
variable {p : Fin 8} {s : State}

theorem testBit_lor_self {n b : Nat} (h : n < b) (x : Nat) : (Nat.lor x (2 ^ n) % 2 ^ b).testBit n = true := by
  simp [Nat.testBit_mod_two_pow, h]

theorem testBit_sub_self {n x : Nat} (h : x.testBit n = true) : (x - 2 ^ n).testBit n = false := by
  have hpos := Nat.two_pow_pos n
  have hdiv : (x - 2 ^ n) / 2 ^ n = x / 2 ^ n - 1 := by simpa using Nat.sub_mul_div x (2 ^ n) 1
  simp only [Nat.testBit_eq_decide_div_mod_eq, decide_eq_true_eq, decide_eq_false_iff_not, hdiv] at h ⊢
  omega

/-- A number without its bit n. -/
theorem testBit_cleared {n b : Nat} (x : Nat) : ((if x.testBit n then x - 2 ^ n else x) % 2 ^ b).testBit n = false := by
  rw [Nat.testBit_mod_two_pow, Bool.and_eq_false_iff]
  right
  split
  · exact testBit_sub_self ‹_›
  · exact Bool.eq_false_iff.mpr ‹_›

theorem injMark_passed (p : Fin 8) : ((injMark p true s).get R.EXEC_INJ F.EXEC_INJ_PASSED).testBit p = true ∧
    ((injMark p true s).get R.EXEC_INJ F.EXEC_INJ_FAILED).testBit p = false := by
  simp only [injMark, if_true]
  rw [get_set_apart (by decide) (by decide), get_set_same (by decide), get_set_same (by decide)]
  exact ⟨testBit_lor_self p.isLt _, testBit_cleared _⟩

theorem injMark_failed (p : Fin 8) : ((injMark p false s).get R.EXEC_INJ F.EXEC_INJ_FAILED).testBit p = true ∧
    ((injMark p false s).get R.EXEC_INJ F.EXEC_INJ_PASSED).testBit p = false := by
  simp only [injMark, Bool.false_eq_true, if_false]
  rw [get_set_apart (by decide) (by decide), get_set_same (by decide), get_set_same (by decide)]
  exact ⟨testBit_lor_self p.isLt _, testBit_cleared _⟩

theorem inj_ne_pairStat (p : Nat) : R.EXEC_INJ ≠ R.EXEC_Pp_STAT p := by
  unfold R.EXEC_INJ R.EXEC_Pp_STAT
  omega

theorem pairStart_regs (p : Nat) :
    (pairStart p s).regs = ((setPairState p 2 s).set (R.EXEC_Pp_STAT p) F.EXEC_Pp_STAT_RELEASED 1).regs := rfl

theorem pairStart_reg (p a : Nat) :
    (pairStart p s).reg a = ((setPairState p 2 s).set (R.EXEC_Pp_STAT p) F.EXEC_Pp_STAT_RELEASED 1).reg a := by
  rw [State.reg, pairStart_regs, State.reg]

theorem pairStart_inj (p : Nat) : (pairStart p s).reg R.EXEC_INJ = s.reg R.EXEC_INJ := by
  rw [pairStart_reg, reg_set_other (inj_ne_pairStat p), setPairState, reg_set_other (inj_ne_pairStat p)]

theorem pairStart_state (p : Nat) : pairState p (pairStart p s) = 2 := by
  rw [pairState, get_of_reg (pairStart_reg p _), get_set_apart (by decide) (by decide), setPairState,
    get_set_same_of_lt (by decide) (by decide)]

theorem pairStart_released (p : Nat) : (pairStart p s).bit (R.EXEC_Pp_STAT p) F.EXEC_Pp_STAT_RELEASED = true :=
  bit_of_get_one ((get_of_reg (pairStart_reg p _)).trans (get_set_same_of_lt (by decide) (by decide)))

theorem injFail_eq (p : Nat) : injFail p s =
    archive { stamp := s.now, src := 0x41 + 4 * p, payload := immw (Config.freeValue 64 s.fresh) } 2 0
      (setPairState p 6 (injMark p false (freeDrawn s))) := rfl

theorem injFail_stopFrame (p : Nat) : StopFrame [] (setPairState p 6 (injMark p false (freeDrawn s))) (injFail p s) := by
  rw [injFail_eq]
  exact archive_stopFrame ..

theorem injFail_state (p : Nat) : pairState p (injFail p s) = 6 :=
  (get_of_reg ((injFail_stopFrame p).reg _ (stopReg_pairStat p))).trans (get_set_same_of_lt (by decide) (by decide))

theorem injFail_inj (p : Nat) : (injFail p s).reg R.EXEC_INJ = (injMark p false (freeDrawn s)).reg R.EXEC_INJ :=
  ((injFail_stopFrame p).reg _ stopReg_inj).trans (reg_set_other (inj_ne_pairStat p))

theorem exec_injectionTestDone_startUp (hboot : s.power.boot = .imageReady) (hheld : s.power.computeHeld = false) :
    exec (.injectionTestDone p true) s = .next (injMark p true s) := by
  simp only [exec, execInjectionTestDone, hboot, hheld, and_self, if_true]

theorem exec_injectionTestDone_released {pass : Bool} (htested : pairState p s = 1) (hboot : s.power.boot = .running) :
    exec (.injectionTestDone p pass) s =
      .next (if pass then pairStart p (injMark p true s) else injFail p s) := by
  simp [exec, execInjectionTestDone, htested, hboot]

end

/-! ### Entry into debug (R431) -/

section
variable {p : Fin 8} {s : State}

/-- The pair marked in DEBUG and BROKEN, and the break recorded. -/
def debugMarked (p : Nat) (s : State) : State :=
  ((setPairState p 5 (freeDrawn s)).set (R.EXEC_Pp_STAT p) F.EXEC_Pp_STAT_BROKEN 1).set R.SYS_FAULT_STAT
    F.SYS_FAULT_STAT_LOCKSTEP_BROKEN 1

/-- The event of the entry, with a free payload (assumption 2). -/
def debugEvent (p : Nat) (s : State) : Event :=
  { stamp := s.now, src := 0x43 + 4 * p, payload := immw (Config.freeValue 64 s.fresh) }

theorem debugEnter_eq (p : Nat) : debugEnter p s = relayTwin 2 (0x43 + 4 * p) (Config.freeValue 64 s.fresh)
    (notify (debugEvent p s) 0 (archive (debugEvent p s) 4 0 (debugMarked p s))) := rfl

theorem debugEnter_stopFrame (p : Nat) : StopFrame [] (debugMarked p s) (debugEnter p s) := by
  rw [debugEnter_eq]
  exact (archive_stopFrame ..).trans ((notify_stopFrame ..).trans (relayTwin_stopFrame ..))

theorem relayTwin_regs (k src : Nat) (payload : BitVec 64) (s : State) : (relayTwin k src payload s).regs = s.regs := by
  unfold relayTwin
  split <;> rfl

theorem debugEnter_faultStat (p : Nat) : (debugEnter p s).reg R.SYS_FAULT_STAT = (debugMarked p s).reg R.SYS_FAULT_STAT := by
  rw [debugEnter_eq, State.reg, relayTwin_regs]
  exact ((archive_powerFrame ..).trans (notify_powerFrame ..)).reg _ (by decide)

theorem faultStat_ne_pairStat (p : Nat) : R.EXEC_Pp_STAT p ≠ R.SYS_FAULT_STAT := by
  unfold R.EXEC_Pp_STAT R.SYS_FAULT_STAT
  omega

theorem debugEnter_state (p : Nat) : pairState p (debugEnter p s) = 5 :=
  (get_of_reg ((debugEnter_stopFrame p).reg _ (stopReg_pairStat p))).trans ((get_set_other (faultStat_ne_pairStat p)).trans
    ((get_set_apart (by decide) (by decide)).trans (get_set_same_of_lt (by decide) (by decide))))

theorem debugEnter_broken (p : Nat) : (debugEnter p s).bit (R.EXEC_Pp_STAT p) F.EXEC_Pp_STAT_BROKEN = true :=
  bit_of_get_one ((get_of_reg ((debugEnter_stopFrame p).reg _ (stopReg_pairStat p))).trans
    ((get_set_other (faultStat_ne_pairStat p)).trans (get_set_same_of_lt (by decide) (by decide))))

/-- The broken lockstep asserts FAULT_N (R46). -/
theorem debugEnter_faultOut (p : Nat) : faultOut (debugEnter p s) = true := by
  have hbroken : (debugEnter p s).bit R.SYS_FAULT_STAT F.SYS_FAULT_STAT_LOCKSTEP_BROKEN = true :=
    bit_of_get_one ((get_of_reg (debugEnter_faultStat p)).trans (get_set_same_of_lt (by decide) (by decide)))
  simp [faultOut, hbroken]

theorem exec_debugEntry_halt (hrun : pairState p s = 2) (hsplit : pairSplit p s = false) :
    exec (.debugEntry p none) s = .next (debugEnter p s) := by
  simp only [exec, execDebugEntry, hrun, hsplit, and_self, if_true]

end
end Sys2Proof.Machine

namespace Sys2Proof.Proofs
open Sys2Proof Machine Claim

theorem mismatch_stops {p : Fin 8} {s : State} {comp : Fin 3} {ledger : BitVec 6} {slice : BitVec 5} (hrun : pairState p s = 2)
    (hsplit : pairSplit p s = false) : ∃ t, exec (.coreMismatch p comp ledger slice) s = .next t ∧ PairStopped p 1 comp s t ∧
      t.get (R.EXEC_Pp_FAULT p) F.EXEC_Pp_FAULT_LEDGER = ledger.toNat ∧ t.get (R.EXEC_Pp_FAULT p) F.EXEC_Pp_FAULT_SLICE = slice.toNat :=
  ⟨_, rfl, pairFault_stops hrun hsplit (by decide) (by omega), pairFault_ledger hrun hsplit ledger.isLt,
    pairFault_slice hrun hsplit slice.isLt⟩

theorem checkerFault_stops {p : Fin 8} {s : State} {comp : Fin 4} {slice : BitVec 5} (hrun : pairState p s = 2)
    (hsplit : pairSplit p s = false) : ∃ t, exec (.checkerFault p comp slice) s = .next t ∧ PairStopped p 2 comp s t ∧
      t.get (R.EXEC_Pp_FAULT p) F.EXEC_Pp_FAULT_SLICE = slice.toNat :=
  ⟨_, rfl, pairFault_stops hrun hsplit (by decide) comp.isLt, pairFault_slice hrun hsplit slice.isLt⟩

/-- Two digests compared: equal ones are shown and counted, different ones also stop the pair (R412, R415). -/
theorem digests_compared {p : Fin 8} {chk d : BitVec 64} {s : State} (htaken : (s.pair p).digLead = some d)
    (hrun : pairState p s = 2) (hsplit : pairSplit p s = false) :
    ∃ t, exec (.digestCompare p chk) s = .next t ∧ t.reg (R.EXEC_Pp_DIGEST p) = d ∧ (t.pair p).digLead = none ∧
      t.reg (R.EXEC_Pp_DIGCNT p) = counted (s.reg (R.EXEC_Pp_DIGCNT p)) ∧ (chk = d → pairState p t = 2) ∧
      (chk ≠ d → PairStopped p 3 3 s t) := by
  have hother {a : Nat} (ha : a % 32 < 5 ∨ a < R.EXEC_Pp_DIGEST 0) : (digestCompared p d s).reg a = s.reg a :=
    digestCompared_reg_other (by unfold R.EXEC_Pp_DIGEST at *; omega) (by unfold R.EXEC_Pp_DIGEST R.EXEC_Pp_DIGCNT at *; omega)
  have hstat := hother (a := R.EXEC_Pp_STAT p) (.inl (by unfold R.EXEC_Pp_STAT; omega))
  have hrun' : pairState p (digestCompared p d s) = 2 := (get_of_reg hstat).trans hrun
  have hsplit' : pairSplit p (digestCompared p d s) = false := (bit_of_reg hstat).trans hsplit
  refine ⟨_, exec_digestCompare_taken htaken, ?_⟩
  by_cases heq : chk = d
  · rw [if_pos heq]
    exact ⟨digestCompared_digest, digestCompared_digLead, digestCompared_count, fun _ => hrun', fun hne => absurd heq hne⟩
  · rw [if_neg heq]
    obtain ⟨hdigest, hcount, hlead⟩ := pairFault_digests (k := 2) (comp := 3) (ledger := 0) (slice := 0) hrun' hsplit'
    refine ⟨hdigest.trans digestCompared_digest, hlead.trans digestCompared_digLead, hcount.trans digestCompared_count,
      fun h => absurd h heq, fun _ => ?_⟩
    exact pairStopped_of_same (u := digestCompared p d s) rfl (reserveReady_of_same p (hother (.inr (by decide))) hstat rfl)
      (pairCarrels_of_same p fun c => hother (.inl (by unfold R.CARREL_Cc_CFG; omega)))
      (fun c => get_of_reg (hother (.inl (by unfold R.CARREL_Cc_STAT; omega))))
      (pairFault_stops hrun' hsplit' (by decide) (by decide))

/-- The reserve pair 20 µs after the fault (R426). -/
theorem reserve_takesOver {h : Handover} {s : State} (hdue : s.handover = some h) (hp : h.pair < 8) (hlate : h.at_ + 20000 ≤ s.now) :
    ∃ t, exec .reserveHandover s = .next t ∧ t.handover = none ∧
      t.bit R.EXEC_RESERVE F.EXEC_RESERVE_USED = true ∧ t.get R.EXEC_RESERVE F.EXEC_RESERVE_REPLACED = h.pair % 8 ∧
      pairState (s.get R.EXEC_RESERVE F.EXEC_RESERVE_PAIR) t = 2 ∧
      (∀ c ∈ pairCarrels h.pair s, noResume c s = false →
        t.get (R.CARREL_Cc_CFG c) F.CARREL_Cc_CFG_PAIR = s.get R.EXEC_RESERVE F.EXEC_RESERVE_PAIR) := by
  refine ⟨_, exec_reserveHandover_due hdue hlate, ?_⟩
  rw [handOver_eq]
  exact ⟨rfl, reserveRuns_used hp reserve_lt, reserveRuns_replaced hp reserve_lt, reserveRuns_state, fun c hc hresumes =>
    (get_of_reg (reserveRuns_carrelCfg c)).trans (handCarrels_bound reserve_lt hc hresumes)⟩

/-- Settles O54: the stop of a pair is `pairFault_stops`, for each of the three faults; the digests, the hand-over, the
injection test and the entry into debug have their own lemmas. -/
theorem pairFaultsStopThePair : Obligations.PairFaultsStopThePair := by
  refine ⟨fun p comp ledger slice s hrun hsplit => mismatch_stops hrun hsplit,
    fun p comp slice s hrun hsplit => checkerFault_stops hrun hsplit,
    fun p s hnow hrun hsplit => ⟨_, exec_digestRequest_due hnow hrun hsplit, digestTaken_digLead p.val, rfl⟩,
    fun p chk s d htaken hrun hsplit => digests_compared htaken hrun hsplit,
    fun h s hdue hp hlate => reserve_takesOver hdue hp hlate,
    fun p s hboot hheld => ⟨_, exec_injectionTestDone_startUp hboot hheld, injMark_passed p⟩,
    fun p s htested hboot => ⟨_, exec_injectionTestDone_released htested hboot, ?_⟩,
    fun p s htested hboot => ⟨_, exec_injectionTestDone_released htested hboot, ?_⟩,
    fun p b s => ⟨_, rfl, congrArg PairSt.bpArmed (pair_setPair_same s p.val _), rfl⟩,
    fun p s hrun hsplit => ⟨_, exec_debugEntry_halt hrun hsplit, debugEnter_state p.val, debugEnter_broken p.val,
      debugEnter_faultOut p.val⟩⟩
  · rw [if_pos rfl, get_of_reg (pairStart_inj p.val)]
    exact ⟨pairStart_state p.val, pairStart_released p.val, (injMark_passed p).1⟩
  · rw [if_neg Bool.false_ne_true, get_of_reg (injFail_inj p.val), get_of_reg (injFail_inj p.val)]
    exact ⟨injFail_state p.val, injMark_failed p⟩

end Sys2Proof.Proofs
end
